-- ==== Sys2Proof/Word.lean ====
section
/-!
DEFINITION. The word types: every register is 16 bits wide (R6), a byte is 8 bits, the fabric has 64 lines (R21).
-/

namespace Sys2Proof

abbrev Word := BitVec 16
abbrev Byte := BitVec 8

end Sys2Proof
end

