-- ==== Sys2Proof/Config.lean ====
section
/-!
DEFINITION. What one sentinel fixes and what the spec leaves open: opaque constants without a body, so that no proof can
rest on a value the spec does not give (log entries 3 to 9).
-/

namespace Sys2Proof.Machine

/-- A coefficient and its temperature terms of first and second order (R224, R225), of the offset and of the sensitivity, in
units of 2^-32 and of 1/128 °C. -/
structure TrimPoly where
  o0 : Int
  o1 : Int
  o2 : Int
  s0 : Int
  s1 : Int
  s2 : Int
  deriving DecidableEq, Repr, Inhabited

/-- The factory trim record (R224). -/
structure FactoryTrim where
  /-- Accelerometer: fine X to Z, coarse X to Z. -/
  acc : Vector TrimPoly 6
  /-- Gyroscope: for each axis, the five ranges. -/
  gyr : Vector (Vector TrimPoly 5) 3
  /-- The off-diagonal terms xy, xz, yx, yz, zx, zy of the fine path, the coarse path and the gyroscope, in units of
  2^-32. -/
  cross : Vector (Vector Int 6) 3
  tempOfs : Int
  tempGain : Int
  /-- The nominal responses of the nine paths at both levels, in STRES units. -/
  nominal : Vector (Vector Int 2) 9
  deriving DecidableEq, Repr, Inhabited

end Sys2Proof.Machine

namespace Sys2Proof.Config

open Sys2Proof.Machine

/-- A value the spec leaves open, for purpose `tag` at the `k`-th use (log entry 3). -/
opaque freeNat (tag k : Nat) : Nat

/-- The 64-bit serial number fixed at manufacture (R116, SERIAL0 to SERIAL3). -/
opaque serial : BitVec 64

/-- The firmware version in the ROM header (R117): major in bits 15:8. -/
opaque fwver : Word

/-- VCO periods that elapse in the `k`-th V-cycle while TIME runs, before the limits of R77 (V and the VCO are not
synchronous; log entry 5). -/
opaque vcoPeriods (k : Nat) : Nat

/-- The factory trim record of this sentinel (R224), whose values the spec does not give. -/
opaque factory : FactoryTrim

/-- The free coefficients of the response ROM (R234): coefficient `i` of a response, in units of 2^-23. -/
opaque firCoef (resp i : Nat) : Int

/-- The free coefficients of the half-band stages (R230 stage 3): coefficient `i` of stage `j`, in units of 2^-23. -/
opaque halfCoef (j i : Nat) : Int

/-- The free coefficients of the received-mode resampler (R244) for an instant `mu` T-cycles after the last CIC value. -/
opaque resampleCoef (mu i : Nat) : Int

/-- The gains of the grid discipliner for a bandwidth code (R250), proportional and integral, in units of 2^-16. -/
opaque gridKp (bw : Nat) : Int
opaque gridKi (bw : Nat) : Int

/-- The ICV of a secured PTP message under a key (R407): HMAC-SHA-256 over the bytes of an IEEE 1588 message, whose layout the
spec does not give. -/
opaque mac (key : List Word) (msg : List Word) : List Word

end Sys2Proof.Config
end

