-- ==== Sys2Proof/Machine/RegMap.lean ====
section
/-!
DEFINITION. The register map: the page directory of R93, the common page layout of R95 and, page by page, the
registers of the page tables with their access codes (R6) and reset values (R102).
-/

namespace Sys2Proof.Machine

/-- The five power domains (R41). -/
inductive Dom
  | vigil | time | sense | net | core
  deriving DecidableEq, Repr

/-- The block type behind a page (R93); ALMn, TMn, MACn and PORTx share a kind. -/
inductive Kind
  | ident | pwr | clk | host | irq | diary | mbx | proof | keys | nvs | afe | dec | buf | strm | recog | reflex | etch | eprog | alm | cal | tsu | tm | mac | switch | tsi | ipsvc | twi0 | twi1 | gang | port | pmux | pint
  deriving DecidableEq, Repr

/-- The page directory (R93); a page number not listed is unassigned (R94). -/
def kindOf : Nat → Option Kind
  | 0 => some .ident
  | 0x1 => some .pwr
  | 0x2 => some .clk
  | 0x3 => some .host
  | 0x4 => some .irq
  | 0x5 => some .diary
  | 0x6 => some .mbx
  | 0x7 => some .proof
  | 0x8 => some .keys
  | 0x9 => some .nvs
  | 0x10 => some .afe
  | 0x11 => some .dec
  | 0x12 => some .buf
  | 0x13 => some .strm
  | 0x14 => some .recog
  | 0x15 => some .reflex
  | 0x16 => some .etch
  | 0x17 => some .eprog
  | 0x20 => some .alm
  | 0x21 => some .alm
  | 0x22 => some .alm
  | 0x23 => some .alm
  | 0x24 => some .cal
  | 0x25 => some .tsu
  | 0x28 => some .tm
  | 0x29 => some .tm
  | 0x2A => some .tm
  | 0x2B => some .tm
  | 0x2C => some .tm
  | 0x2D => some .tm
  | 0x30 => some .mac
  | 0x31 => some .mac
  | 0x32 => some .switch
  | 0x33 => some .tsi
  | 0x34 => some .ipsvc
  | 0x38 => some .twi0
  | 0x39 => some .twi1
  | 0x3A => some .gang
  | 0x40 => some .port
  | 0x41 => some .port
  | 0x42 => some .port
  | 0x43 => some .pmux
  | 0x44 => some .pint
  | _ => none

/-- The domain that holds a page (R93). -/
def Kind.dom : Kind → Dom
  | .ident => .vigil
  | .pwr => .vigil
  | .clk => .vigil
  | .host => .vigil
  | .irq => .vigil
  | .diary => .vigil
  | .mbx => .vigil
  | .proof => .vigil
  | .keys => .vigil
  | .nvs => .vigil
  | .afe => .sense
  | .dec => .sense
  | .buf => .sense
  | .strm => .sense
  | .recog => .sense
  | .reflex => .sense
  | .etch => .sense
  | .eprog => .sense
  | .alm => .time
  | .cal => .time
  | .tsu => .time
  | .tm => .time
  | .mac => .net
  | .switch => .net
  | .tsi => .net
  | .ipsvc => .net
  | .twi0 => .vigil
  | .twi1 => .vigil
  | .gang => .vigil
  | .port => .vigil
  | .pmux => .vigil
  | .pint => .vigil

/-- The block type in PID bits 7:0 (R93). -/
def Kind.blockType : Kind → Nat
  | .ident => 0x1
  | .pwr => 0x2
  | .clk => 0x3
  | .host => 0x4
  | .irq => 0x5
  | .diary => 0x6
  | .mbx => 0x7
  | .proof => 0x8
  | .keys => 0x9
  | .nvs => 0xA
  | .afe => 0x10
  | .dec => 0x11
  | .buf => 0x12
  | .strm => 0x13
  | .recog => 0x14
  | .reflex => 0x15
  | .etch => 0x16
  | .eprog => 0x17
  | .alm => 0x20
  | .cal => 0x24
  | .tsu => 0x25
  | .tm => 0x28
  | .mac => 0x30
  | .switch => 0x32
  | .tsi => 0x33
  | .ipsvc => 0x34
  | .twi0 => 0x38
  | .twi1 => 0x39
  | .gang => 0x3A
  | .port => 0x40
  | .pmux => 0x43
  | .pint => 0x44

/-- The IFLAG bits a page has (R95 and the page tables); 0 where the page raises no interrupt. -/
def Kind.ifMask : Kind → Nat
  | .ident => 0x3
  | .pwr => 0xFFF
  | .clk => 0x1FE
  | .host => 0x1FF
  | .irq => 0x1
  | .diary => 0xF
  | .mbx => 0xFFFF
  | .proof => 0x1F
  | .keys => 0x7
  | .nvs => 0xF
  | .afe => 0x3FFF
  | .dec => 0x7F
  | .buf => 0xFF
  | .strm => 0x3
  | .recog => 0xFFFF
  | .reflex => 0x3F
  | .etch => 0xFFFF
  | .eprog => 0x1
  | .alm => 0x3FF
  | .cal => 0x7
  | .tsu => 0xFFFF
  | .tm => 0x7F
  | .mac => 0x3F
  | .switch => 0xF
  | .tsi => 0xF
  | .ipsvc => 0xF
  | .twi0 => 0x7
  | .twi1 => 0x3F
  | .gang => 0xFFFF
  | .port => 0
  | .pmux => 0x3
  | .pint => 0x1FF

/-- The EVSEL bits a page has; each resets to 1 (R20). -/
def Kind.evMask : Kind → Nat
  | .dec => 0x1
  | .buf => 0x3
  | .recog => 0x1FFF
  | .reflex => 0x1
  | .etch => 0xFF
  | .alm => 0x3
  | .tsu => 0x1
  | .tm => 0x7
  | .switch => 0x1
  | .gang => 0x3
  | .pint => 0xFF
  | _ => 0

/-- One register: its offset, its reset value, and the masks of its RW, RWL, W1C, NV and WOO bits. The bits outside
the masks are RO, reserved, or acted on by a write effect of the block (WO, SC and W1S bits). -/
structure RegDesc where
  off : Nat
  rst : Nat
  rw : Nat
  rwl : Nat
  w1c : Nat
  nv : Nat
  woo : Nat
  deriving DecidableEq, Repr

/-- A row of a page table. -/
def rd (off rst rw rwl w1c nv woo : Nat) : RegDesc := ⟨off, rst, rw, rwl, w1c, nv, woo⟩

/-- Registers of the IDENT page (R116), CTRL, STAT and the block registers. -/
def rowsIdent : List RegDesc :=
    [ rd 0x02 0x1 0 0 0 0 0  -- CTRL
    , rd 0x03 0 0 0 0x2800 0 0  -- STAT
    , rd 0x10 0x4870 0 0 0 0 0  -- DEVID
    , rd 0x11 0xC2 0 0 0 0 0  -- STEP
    , rd 0x12 0 0 0 0 0 0  -- FWVER
    , rd 0x14 0 0 0 0 0 0  -- SERIAL0
    , rd 0x15 0 0 0 0 0 0  -- SERIAL1
    , rd 0x16 0 0 0 0 0 0  -- SERIAL2
    , rd 0x17 0 0 0 0 0 0  -- SERIAL3
    , rd 0x18 0 0 0 0 0 0  -- RESET
    , rd 0x19 0 0 0 0 0 0  -- LKVADDR
    , rd 0x1A 0 0 0 0 0 0  -- COLLADDR
    , rd 0x1B 0 0 0 0 0 0  -- COLLWHO
    , rd 0x1C 0 0xFFFF 0 0 0 0  -- SCRATCH
    ]

/-- Registers of the PWR page (R67), CTRL, STAT and the block registers. -/
def rowsPwr : List RegDesc :=
    [ rd 0x02 0x1 0 0 0 0 0  -- CTRL
    , rd 0x03 0 0 0 0x2000 0 0  -- STAT
    , rd 0x10 0xF 0xF 0 0 0xF 0  -- REQ
    , rd 0x11 0 0 0 0 0 0  -- DSTAT
    , rd 0x12 0 0 0x3 0 0x3 0  -- CFG
    , rd 0x13 0x200 0 0x5FF 0 0x5FF 0  -- WAKEEN
    , rd 0x14 0xF 0 0xF 0 0xF 0  -- WAKEPROF
    , rd 0x15 0x1E 0 0xFF 0 0xFF 0  -- VINWARN
    , rd 0x16 0 0 0 0 0 0  -- VINMON
    , rd 0x17 0x1 0 0 0 0 0  -- LASTRST
    , rd 0x18 0 0 0 0 0 0  -- PSTATE
    ]

/-- Registers of the CLK page (R92), CTRL, STAT and the block registers. -/
def rowsClk : List RegDesc :=
    [ rd 0x02 0x1 0 0 0 0 0  -- CTRL
    , rd 0x03 0 0 0 0x2000 0 0  -- STAT
    , rd 0x10 0 0 0x13 0 0x13 0  -- CFG
    , rd 0x11 0x8000 0x8003 0 0 0x8003 0  -- VSRC
    , rd 0x12 0xFA00 0 0 0 0 0  -- VCAL
    , rd 0x14 0 0x3FF 0 0 0 0  -- VTIME_MS
    , rd 0x15 0 0xFFFF 0 0 0 0  -- VTIME_SL
    , rd 0x16 0 0xFFFF 0 0 0 0  -- VTIME_SH
    , rd 0x18 0 0 0 0 0 0  -- SOFFS_L
    , rd 0x19 0 0 0 0 0 0  -- SOFFS_H
    ]

/-- Registers of the HOST page (R152), CTRL, STAT and the block registers. -/
def rowsHost : List RegDesc :=
    [ rd 0x02 0x1 0 0 0 0 0  -- CTRL
    , rd 0x03 0 0 0 0x2000 0 0  -- STAT
    , rd 0x10 0 0x1 0x2 0 0x2 0  -- CFG
    , rd 0x11 0 0 0 0 0 0  -- QLVL
    , rd 0x12 0 0 0 0 0 0  -- SEQ
    , rd 0x13 0 0 0 0 0 0  -- CRCCNT
    , rd 0x14 0 0 0 0 0 0  -- BECNT
    , rd 0x15 0 0 0 0 0 0  -- FRMCNT
    , rd 0x16 0 0 0 0 0 0  -- TWIPTR
    , rd 0x17 0 0 0 0 0 0  -- ERRADDR
    , rd 0x18 0 0 0 0 0 0  -- SUM
    ]

/-- Registers of the IRQ page (R518), CTRL, STAT and the block registers. -/
def rowsIrq : List RegDesc :=
    [ rd 0x02 0x1 0 0 0 0 0  -- CTRL
    , rd 0x03 0 0 0 0x2000 0 0  -- STAT
    , rd 0x10 0x8181 0 0xFFFF 0 0xFFFF 0  -- CFG
    , rd 0x11 0 0 0 0 0 0  -- SUM0
    , rd 0x12 0 0 0 0 0 0  -- SUM1
    , rd 0x13 0xFFFF 0 0 0 0 0  -- FIRST
    , rd 0x18 0 0xFFFF 0 0 0xFFFF 0  -- EVEN0
    , rd 0x19 0 0xFFFF 0 0 0xFFFF 0  -- EVEN1
    , rd 0x1A 0 0xFFFF 0 0 0xFFFF 0  -- EVEN2
    , rd 0x1B 0 0x7FFF 0 0 0x7FFF 0  -- EVEN3
    , rd 0x1C 0 0 0 0xFFFF 0 0  -- EVF0
    , rd 0x1D 0 0 0 0xFFFF 0 0  -- EVF1
    , rd 0x1E 0 0 0 0xFFFF 0 0  -- EVF2
    , rd 0x1F 0 0 0 0xFFFF 0 0  -- EVF3
    ]

/-- Registers of the DIARY page (R519), CTRL, STAT and the block registers. -/
def rowsDiary : List RegDesc :=
    [ rd 0x02 0x1 0 0 0 0 0  -- CTRL
    , rd 0x03 0 0 0 0x2000 0 0  -- STAT
    , rd 0x10 0 0x3 0 0 0x3 0  -- CFG
    , rd 0x11 0 0 0xF 0 0xF 0  -- SRCEN
    , rd 0x12 0 0 0 0 0 0  -- COUNT
    , rd 0x13 0 0 0 0 0 0  -- LOST
    , rd 0x14 0 0x1FF 0 0 0x1FF 0  -- WM
    , rd 0x15 0 0 0 0 0 0  -- POP
    , rd 0x16 0 0 0 0 0 0  -- NOTE
    , rd 0x18 0 0xFFFF 0 0 0xFFFF 0  -- EVMASK0
    , rd 0x19 0 0xFFFF 0 0 0xFFFF 0  -- EVMASK1
    , rd 0x1A 0 0xFFFF 0 0 0xFFFF 0  -- EVMASK2
    , rd 0x1B 0 0x7FFF 0 0 0x7FFF 0  -- EVMASK3
    , rd 0x20 0 0 0 0 0 0  -- ENT0
    , rd 0x21 0 0 0 0 0 0  -- ENT1
    , rd 0x22 0 0 0 0 0 0  -- ENT2
    , rd 0x23 0 0 0 0 0 0  -- ENT3
    , rd 0x24 0 0 0 0 0 0  -- ENT4
    , rd 0x25 0 0 0 0 0 0  -- ENT5
    , rd 0x26 0 0 0 0 0 0  -- ENT6
    , rd 0x27 0 0 0 0 0 0  -- ENT7
    ]

/-- Registers of the MBX page (R500), CTRL, STAT and the block registers. -/
def rowsMbx : List RegDesc :=
    [ rd 0x02 0x1 0 0 0 0 0  -- CTRL
    , rd 0x03 0 0 0 0x2E00 0 0  -- STAT
    , rd 0x10 0x5 0 0xFFFF 0 0xFFFF 0  -- RCV
    , rd 0x11 0 0 0 0 0 0  -- REL
    , rd 0x12 0 0 0 0 0 0  -- CLOSED
    , rd 0x13 0 0 0 0 0 0  -- RPLOST
    ]
    ++ ((List.range 8).flatMap fun n =>
      (List.range 9).map (fun j => rd (0x20 + 16 * n + j) 0 0xFFFF 0 0 0 0)  -- MSGn, Dn_0 to Dn_7
        ++ [rd (0x29 + 16 * n) 0 0 0 0 0 0]  -- INFOn
    )

/-- Registers of the PROOF page (R564), CTRL, STAT and the block registers. -/
def rowsProof : List RegDesc :=
    [ rd 0x02 0x1 0 0 0 0 0  -- CTRL
    , rd 0x03 0 0 0 0x2000 0 0  -- STAT
    , rd 0x10 0 0x1FE 0 0 0 0  -- RUN
    , rd 0x11 0xFE 0 0xFE 0 0xFE 0  -- QUICK
    , rd 0x12 0 0 0 0 0 0  -- RESA
    , rd 0x13 0 0 0 0 0 0  -- RESB
    , rd 0x14 0 0 0 0 0 0  -- DETAIL
    , rd 0x15 0 0 0 0 0 0  -- VDDC
    , rd 0x16 0 0 0 0 0 0  -- TPPM
    , rd 0x18 0x14 0 0xFFFF 0 0xFFFF 0  -- BUD1
    , rd 0x19 0x28 0 0xFFFF 0 0xFFFF 0  -- BUD2
    , rd 0x1A 0x1E 0 0xFFFF 0 0xFFFF 0  -- BUD3
    , rd 0x1B 0xA 0 0xFFFF 0 0xFFFF 0  -- BUD4
    , rd 0x1C 0x5 0 0xFFFF 0 0xFFFF 0  -- BUD5
    , rd 0x1D 0x50 0 0xFFFF 0 0xFFFF 0  -- BUD6
    , rd 0x1E 0x3C 0 0xFFFF 0 0xFFFF 0  -- BUD7
    , rd 0x1F 0x9C4 0 0xFFFF 0 0xFFFF 0  -- BUD8
    ]

/-- Registers of the KEYS page (R565), CTRL, STAT and the block registers. -/
def rowsKeys : List RegDesc :=
    [ rd 0x02 0x1 0 0 0 0 0  -- CTRL
    , rd 0x03 0 0 0 0x2000 0 0  -- STAT
    , rd 0x10 0 0x7 0 0 0 0  -- KSEL
    , rd 0x11 0 0xFF 0 0 0 0  -- KID
    , rd 0x12 0 0 0 0 0 0  -- KCMD
    , rd 0x13 0 0 0 0 0 0  -- KVALID
    , rd 0x14 0 0 0 0 0 0xFF  -- KLOCK
    , rd 0x15 0 0 0 0 0 0x1  -- SCANLOCK
    ]
    ++ ((List.range 8).map fun n => rd (0x18 + n) 0 0 0 0 0 0  -- KIDk
    )
    ++ ((List.range 16).map fun n => rd (0x20 + n) 0 0 0 0 0 0  -- KDATAk
    )

/-- Registers of the NVS page (R566), CTRL, STAT and the block registers. -/
def rowsNvs : List RegDesc :=
    [ rd 0x02 0x1 0 0 0 0 0  -- CTRL
    , rd 0x03 0 0 0 0x2000 0 0  -- STAT
    , rd 0x10 0 0 0 0 0 0  -- SEQ_L
    , rd 0x11 0 0 0 0 0 0  -- SEQ_H
    , rd 0x12 0 0 0 0 0 0  -- SRC
    , rd 0x13 0 0 0 0 0 0  -- CRCFAIL
    ]

/-- Registers of the AFE page (R228), CTRL, STAT and the block registers. -/
def rowsAfe : List RegDesc :=
    [ rd 0x02 0x1 0x1 0 0 0 0  -- CTRL
    , rd 0x03 0 0 0 0x2000 0 0  -- STAT
    , rd 0x10 0 0 0xF 0 0xF 0  -- ARANGE
    , rd 0x11 0x2010 0 0xFF7F 0 0xFF7F 0  -- BLEND
    , rd 0x12 0x2 0 0x7 0 0x7 0  -- GRANGE
    , rd 0x13 0x3 0 0xF 0 0xF 0  -- CHEN
    , rd 0x14 0x210 0 0x777 0 0x777 0  -- ORIENT
    , rd 0x15 0 0 0 0 0 0  -- RSTAT
    , rd 0x18 0x40 0x30FF 0 0 0 0  -- STCTL
    , rd 0x19 0 0 0 0 0 0  -- STSTAT
    , rd 0x1A 0 0 0 0 0 0  -- STRES_FX
    , rd 0x1B 0 0 0 0 0 0  -- STRES_FY
    , rd 0x1C 0 0 0 0 0 0  -- STRES_FZ
    , rd 0x1D 0 0 0 0 0 0  -- STRES_CX
    , rd 0x1E 0 0 0 0 0 0  -- STRES_CY
    , rd 0x1F 0 0 0 0 0 0  -- STRES_CZ
    , rd 0x20 0 0 0 0 0 0  -- STRES_GX
    , rd 0x21 0 0 0 0 0 0  -- STRES_GY
    , rd 0x22 0 0 0 0 0 0  -- STRES_GZ
    , rd 0x28 0 0 0x8713 0 0x8713 0  -- XBCFG
    , rd 0x29 0x1800 0 0 0 0 0  -- XBFREQ
    , rd 0x2C 0 0 0 0 0 0  -- TEMP
    , rd 0x30 0 0 0xFFFF 0 0xFFFF 0  -- UOFS_AX
    , rd 0x31 0 0 0xFFFF 0 0xFFFF 0  -- UOFS_AY
    , rd 0x32 0 0 0xFFFF 0 0xFFFF 0  -- UOFS_AZ
    , rd 0x33 0 0 0xFFFF 0 0xFFFF 0  -- UOFS_GX
    , rd 0x34 0 0 0xFFFF 0 0xFFFF 0  -- UOFS_GY
    , rd 0x35 0 0 0xFFFF 0 0xFFFF 0  -- UOFS_GZ
    , rd 0x38 0 0 0xFFFF 0 0xFFFF 0  -- USENS_AX
    , rd 0x39 0 0 0xFFFF 0 0xFFFF 0  -- USENS_AY
    , rd 0x3A 0 0 0xFFFF 0 0xFFFF 0  -- USENS_AZ
    , rd 0x3B 0 0 0xFFFF 0 0xFFFF 0  -- USENS_GX
    , rd 0x3C 0 0 0xFFFF 0 0xFFFF 0  -- USENS_GY
    , rd 0x3D 0 0 0xFFFF 0 0xFFFF 0  -- USENS_GZ
    ]

/-- Registers of the DEC page (R260), CTRL, STAT and the block registers. -/
def rowsDec : List RegDesc :=
    [ rd 0x02 0x1 0 0 0 0 0  -- CTRL
    , rd 0x03 0 0 0 0x2000 0 0  -- STAT
    , rd 0x10 0x3333 0 0xFFFF 0 0xFFFF 0  -- ODR
    , rd 0x11 0x2222 0 0xFFFF 0 0xFFFF 0  -- RESP
    , rd 0x12 0x201 0 0xC303 0 0xC303 0  -- GRIDCFG
    , rd 0x14 0 0 0xFFFF 0 0xFFFF 0  -- GRIDOFS_L
    , rd 0x15 0 0 0x7F 0 0x7F 0  -- GRIDOFS_H
    , rd 0x16 0 0 0 0 0 0  -- GERR
    , rd 0x18 0 0 0 0 0 0  -- GRIDPH_L
    , rd 0x19 0 0 0 0 0 0  -- GRIDPH_H
    ]

/-- Registers of the BUF page (R361), CTRL, STAT and the block registers. -/
def rowsBuf : List RegDesc :=
    [ rd 0x02 0x1 0x1 0 0 0x1 0  -- CTRL
    , rd 0x03 0 0 0 0x2000 0 0  -- STAT
    , rd 0x10 0x1 0 0x33 0 0x33 0  -- CFG
    , rd 0x11 0x7 0 0x7 0 0x7 0  -- SEL
    , rd 0x12 0x100 0 0x1FFF 0 0x1FFF 0  -- PRE
    , rd 0x13 0x40 0 0x1FFF 0 0x1FFF 0  -- POST
    , rd 0x14 0x3D 0 0x803F 0 0x803F 0  -- TRIG
    , rd 0x18 0 0 0xFFFF 0 0xFFFF 0  -- MARK0
    , rd 0x19 0 0 0xFFFF 0 0xFFFF 0  -- MARK1
    , rd 0x1A 0 0 0xFFFF 0 0xFFFF 0  -- MARK2
    , rd 0x1B 0 0 0x7FFF 0 0x7FFF 0  -- MARK3
    , rd 0x1C 0 0 0 0 0 0  -- MKLOST
    , rd 0x1D 0 0 0 0 0 0  -- DROPCNT
    , rd 0x20 0xF000 0 0 0 0 0  -- ADATA
    , rd 0x21 0 0x3 0 0 0x3 0  -- ACFG
    , rd 0x22 0 0 0 0 0 0  -- ALVL_L
    , rd 0x23 0 0 0 0 0 0  -- ALVL_H
    , rd 0x24 0x10 0x3FFF 0 0 0x3FFF 0  -- AWM
    , rd 0x25 0 0 0 0 0 0  -- AOVR
    , rd 0x28 0 0x3 0 0 0x3 0  -- BCFG
    , rd 0x2A 0 0 0 0 0 0  -- BLVL_L
    , rd 0x2B 0 0 0 0 0 0  -- BLVL_H
    , rd 0x2C 0 0x3FFF 0 0 0x3FFF 0  -- BWM
    , rd 0x2D 0 0 0 0 0 0  -- BOVR
    ]

/-- Registers of the STRM page (R363), CTRL, STAT and the block registers. -/
def rowsStrm : List RegDesc :=
    [ rd 0x02 0 0x1 0 0 0x1 0  -- CTRL
    , rd 0x03 0 0 0 0x2000 0 0  -- STAT
    , rd 0x10 0x2 0 0x17 0 0x17 0  -- CFG
    , rd 0x11 0 0 0 0 0 0  -- FCNT
    , rd 0x14 0x168 0x3FF 0 0 0x3FF 0  -- DGWORDS
    , rd 0x15 0xA 0xFF 0 0 0xFF 0  -- DGTMO
    , rd 0x16 0 0 0 0 0 0  -- DGSEQ
    ]

/-- Registers of the REC page (R290), CTRL, STAT and the block registers. -/
def rowsRec : List RegDesc :=
    [ rd 0x02 0x1 0x1 0 0 0 0  -- CTRL
    , rd 0x03 0 0 0 0x2000 0 0  -- STAT
    , rd 0x10 0 0 0x7 0 0x7 0  -- RCFG
    , rd 0x11 0xC608 0 0xEFFF 0 0xEFFF 0  -- TAPCFG
    , rd 0x12 0x2000 0 0xFFFF 0 0xFFFF 0  -- TAPTHR
    , rd 0x13 0x1040 0 0xFFFF 0 0xFFFF 0  -- TAPQD
    , rd 0x14 0x8 0 0x800F 0 0x800F 0  -- MSCFG
    , rd 0x15 0x34 0 0xFFFF 0 0xFFFF 0  -- SETTLETHR
    , rd 0x16 0x200 0 0xFFFF 0 0xFFFF 0  -- MOVETHR
    , rd 0x17 0x54 0 0xFFFF 0 0xFFFF 0  -- GSETTLETHR
    , rd 0x18 0x54 0 0xFFFF 0 0xFFFF 0  -- GMOVETHR
    , rd 0x19 0x2666 0 0xFFFF 0 0xFFFF 0  -- FALLTHR
    , rd 0x1A 0x8008 0 0xFFFF 0 0xFFFF 0  -- FALLCFG
    , rd 0x1B 0x280 0 0xFFFF 0 0xFFFF 0  -- GSTILL
    , rd 0x20 0 0 0 0 0 0  -- GEST_XL
    , rd 0x21 0 0 0 0 0 0  -- GEST_XH
    , rd 0x22 0 0 0 0 0 0  -- GEST_YL
    , rd 0x23 0 0 0 0 0 0  -- GEST_YH
    , rd 0x24 0 0 0 0 0 0  -- GEST_ZL
    , rd 0x25 0 0 0 0 0 0  -- GEST_ZH
    , rd 0x26 0 0 0 0 0 0  -- WSTAT
    ]
    ++ ((List.range 8).flatMap fun n =>
      [ rd (0x40 + 8 * n) 0x1 0 0xFFFF 0 0xFFFF 0  -- WnCFG
      , rd (0x41 + 8 * n) 0 0 0xFFFF 0 0xFFFF 0  -- WnHYST
      , rd (0x42 + 8 * n) 0xFFFF 0 0xFFFF 0 0xFFFF 0  -- WnHI_L
      , rd (0x43 + 8 * n) 0x7F 0 0xFF 0 0xFF 0  -- WnHI_H
      , rd (0x44 + 8 * n) 0 0 0xFFFF 0 0xFFFF 0  -- WnLO_L
      , rd (0x45 + 8 * n) 0x80 0 0xFF 0 0xFF 0  -- WnLO_H
      ]
    )

/-- Registers of the REFLEX page (R292), CTRL, STAT and the block registers. -/
def rowsReflex : List RegDesc :=
    [ rd 0x02 0x1 0 0x1 0 0x1 0  -- CTRL
    , rd 0x03 0 0 0 0x2000 0 0  -- STAT
    , rd 0x10 0xA7 0 0x8FFF 0 0x8FFF 0  -- CFG
    , rd 0x11 0 0 0 0 0 0  -- RELEASE
    , rd 0x12 0x8000 0 0 0 0 0  -- LSTAT
    , rd 0x13 0x4000 0 0 0 0 0  -- CAUSE
    , rd 0x14 0 0 0 0 0 0  -- HITCNT
    , rd 0x15 0 0 0 0 0 0  -- ALMLOST
    , rd 0x18 0 0 0xFFFF 0 0xFFFF 0  -- MASK0
    , rd 0x19 0 0 0xFFFF 0 0xFFFF 0  -- MASK1
    , rd 0x1A 0 0 0xFFFF 0 0xFFFF 0  -- MASK2
    , rd 0x1B 0 0 0x7FFF 0 0x7FFF 0  -- MASK3
    , rd 0x1C 0x30A 0 0x83FF 0 0x83FF 0  -- DRAFTCFG
    , rd 0x1D 0xE026 0 0xFFFF 0 0xFFFF 0  -- DRAFTTHR
    ]

/-- Registers of the ETCH page (R324), CTRL, STAT and the block registers. -/
def rowsEtch : List RegDesc :=
    [ rd 0x02 0x1 0 0x1 0 0x1 0  -- CTRL
    , rd 0x03 0 0 0 0x2800 0 0  -- STAT
    , rd 0x10 0 0 0 0 0 0  -- GO
    , rd 0x11 0 0 0 0xFF 0 0  -- KDROP
    ]
    ++ ((List.range 8).flatMap fun n =>
      [ rd (0x20 + 16 * n) (128 * n) 0 0xC3FF 0 0xC3FF 0  -- CFGn
      , rd (0x21 + 16 * n) (128 * n) 0 0x3FF 0 0x3FF 0  -- LOn
      , rd (0x22 + 16 * n) (128 * n + 127) 0 0x3FF 0 0x3FF 0  -- HIn
      , rd (0x23 + 16 * n) 0 0 0 0 0 0  -- CMDn
      , rd (0x24 + 16 * n) (128 * n) 0 0 0 0 0  -- STATEn
      , rd (0x25 + 16 * n) 0 0 0 0 0 0  -- ERRn
      , rd (0x26 + 16 * n) 0 0xFFFF 0 0 0 0  -- CTRn_0
      , rd (0x27 + 16 * n) 0 0xFFFF 0 0 0 0  -- CTRn_1
      , rd (0x28 + 16 * n) 0 0xFFFF 0 0 0 0  -- CTRn_2
      , rd (0x29 + 16 * n) 0 0xFFFF 0 0 0 0  -- CTRn_3
      , rd (0x2A + 16 * n) 0 0 0 0 0 0  -- TMRn_0L
      , rd (0x2B + 16 * n) 0x8000 0 0 0 0 0  -- TMRn_0H
      , rd (0x2C + 16 * n) 0 0 0 0 0 0  -- TMRn_1L
      , rd (0x2D + 16 * n) 0x8000 0 0 0 0 0  -- TMRn_1H
      ]
    )

/-- Registers of the EPROG page (R326), CTRL, STAT and the block registers. -/
def rowsEprog : List RegDesc :=
    [ rd 0x02 0x1 0 0 0 0 0  -- CTRL
    , rd 0x03 0 0 0 0x2000 0 0  -- STAT
    , rd 0x10 0 0x3FF 0 0 0 0  -- ADDR
    , rd 0x11 0 0xFFFF 0 0 0 0  -- STREAM
    , rd 0x12 0 0 0 0 0 0  -- HALF
    , rd 0x13 0 0 0 0 0 0  -- WREJADDR
    ]

/-- Registers of the ALM page (R188), CTRL, STAT and the block registers. -/
def rowsAlm : List RegDesc :=
    [ rd 0x02 0x1 0 0 0 0 0  -- CTRL
    , rd 0x03 0 0 0 0x2000 0 0  -- STAT
    , rd 0x10 0 0xFFFF 0 0 0 0  -- TIME_FRAC
    , rd 0x11 0 0xFFFF 0 0 0 0  -- TIME_NS_L
    , rd 0x12 0 0x3FFF 0 0 0 0  -- TIME_NS_H
    , rd 0x13 0 0xFFFF 0 0 0 0  -- TIME_SEC_L
    , rd 0x14 0 0xFFFF 0 0 0 0  -- TIME_SEC_M
    , rd 0x15 0 0xFFFF 0 0 0 0  -- TIME_SEC_H
    , rd 0x18 0 0xFFFF 0 0 0xFFFF 0  -- ADD_L
    , rd 0x19 0 0xFFFF 0 0 0xFFFF 0  -- ADD_M
    , rd 0x1A 0x8 0xF 0 0 0xF 0  -- ADD_H
    , rd 0x1C 0 0xFFFF 0 0 0 0  -- STEP_NL
    , rd 0x1D 0 0x3FFF 0 0 0 0  -- STEP_NH
    , rd 0x1E 0 0xFFFF 0 0 0 0  -- STEP_SL
    , rd 0x1F 0 0xFFFF 0 0 0 0  -- STEP_SM
    , rd 0x20 0 0xFFFF 0 0 0 0  -- STEP_SH
    , rd 0x22 0 0xFFFF 0 0 0 0  -- SLEW_L
    , rd 0x23 0 0xFFFF 0 0 0 0  -- SLEW_H
    , rd 0x24 0x34 0xFF 0 0 0xFF 0  -- SLEWRATE
    , rd 0x26 0 0x80FF 0 0 0x80FF 0  -- BIND
    , rd 0x27 0 0x3 0 0 0x3 0  -- LADDER
    , rd 0x28 0x8 0xFF 0 0 0xFF 0  -- QUAL
    , rd 0x29 0xE10 0xFFFF 0 0 0xFFFF 0  -- HOLDMAX
    , rd 0x2A 0xF 0 0 0 0 0  -- LSTAT
    , rd 0x2B 0x30 0xF1 0 0 0 0  -- SERVO
    , rd 0x30 0 0xFFFF 0 0 0 0  -- TGT_NL
    , rd 0x31 0 0x3FFF 0 0 0 0  -- TGT_NH
    , rd 0x32 0 0xFFFF 0 0 0 0  -- TGT_SL
    , rd 0x33 0 0xFFFF 0 0 0 0  -- TGT_SM
    , rd 0x34 0 0xFFFF 0 0 0 0  -- TGT_SH
    , rd 0x35 0 0xFFFF 0 0 0 0  -- TGT_PL
    , rd 0x36 0 0xFFFF 0 0 0 0  -- TGT_PH
    , rd 0x37 0 0 0 0 0 0  -- TGTCTL
    ]

/-- Registers of the CAL page (R190), CTRL, STAT and the block registers. -/
def rowsCal : List RegDesc :=
    [ rd 0x02 0x1 0x1 0 0 0 0  -- CTRL
    , rd 0x03 0 0 0 0x2002 0 0  -- STAT
    , rd 0x10 0 0xFFFF 0 0 0 0  -- CYEAR
    , rd 0x11 0 0xF1F 0 0 0 0  -- CMD
    , rd 0x12 0 0x1F3F 0 0 0 0  -- CHM
    , rd 0x13 0 0x3F 0 0 0 0  -- CSEC
    , rd 0x14 0 0xFFFF 0 0 0 0  -- CNS_L
    , rd 0x15 0 0x3FFF 0 0 0 0  -- CNS_H
    , rd 0x16 0 0 0 0 0 0  -- CDOW
    , rd 0x18 0x25 0xFFFF 0 0 0xFFFF 0  -- UTCOFS
    , rd 0x19 0 0x3 0 0 0 0  -- LEAP
    , rd 0x1A 0 0xFF 0 0 0xFF 0  -- ROLES
    ]

/-- Registers of the TSU page (R191), CTRL, STAT and the block registers. -/
def rowsTsu : List RegDesc :=
    [ rd 0x02 0x1 0x1 0 0 0 0  -- CTRL
    , rd 0x03 0 0 0 0x2000 0 0  -- STAT
    , rd 0x10 0 0x331 0 0 0x331 0  -- PPSCFG
    , rd 0x11 0x64 0x3FF 0 0 0x3FF 0  -- PPSW
    ]
    ++ ((List.range 8).map fun n => rd (0x14 + n) 0x203F 0xF8FF 0 0 0 0  -- CCFGn
    )
    ++ ((List.range 8).flatMap fun n =>
      [ rd (0x20 + 8 * n) 0 0 0 0 0 0  -- CAPn_FRAC
      , rd (0x21 + 8 * n) 0 0 0 0 0 0  -- CAPn_NS_L
      , rd (0x22 + 8 * n) 0 0 0 0 0 0  -- CAPn_NS_H
      , rd (0x23 + 8 * n) 0 0 0 0 0 0  -- CAPn_SEC_L
      , rd (0x24 + 8 * n) 0 0 0 0 0 0  -- CAPn_SEC_M
      , rd (0x25 + 8 * n) 0 0 0 0 0 0  -- CAPn_SEC_H
      , rd (0x26 + 8 * n) 0 0 0 0x4000 0 0  -- CSTATn
      ]
    )

/-- Registers of the TM page (R387), CTRL, STAT and the block registers. -/
def rowsTm : List RegDesc :=
    [ rd 0x02 0 0x1 0 0 0 0  -- CTRL
    , rd 0x03 0 0 0 0x2000 0 0  -- STAT
    , rd 0x10 0 0xFFFF 0 0 0 0  -- CNT_L
    , rd 0x11 0 0xFFFF 0 0 0 0  -- CNT_H
    , rd 0x12 0xFFFF 0xFFFF 0 0 0 0  -- TOP_L
    , rd 0x13 0xFFFF 0xFFFF 0 0 0 0  -- TOP_H
    , rd 0x14 0 0xFFFF 0 0 0 0  -- CH0_L
    , rd 0x15 0 0xFFFF 0 0 0 0  -- CH0_H
    , rd 0x16 0 0xFFFF 0 0 0 0  -- CH1_L
    , rd 0x17 0 0xFFFF 0 0 0 0  -- CH1_H
    , rd 0x18 0 0 0xFFFF 0 0xFFFF 0  -- PSC
    , rd 0x19 0 0 0x133 0 0x133 0  -- MODE
    , rd 0x1A 0x3F 0 0xE03F 0 0xE03F 0  -- SLAVE
    , rd 0x1B 0x7F 0 0xF7FF 0 0xF7FF 0  -- CH0CFG
    , rd 0x1C 0x7F 0 0xF7FF 0 0xF7FF 0  -- CH1CFG
    ]

/-- Registers of the MAC page (R418), CTRL, STAT and the block registers. -/
def rowsMac : List RegDesc :=
    [ rd 0x02 0x1 0x1 0 0 0x1 0  -- CTRL
    , rd 0x03 0 0x10 0 0x2000 0 0  -- STAT
    , rd 0x10 0x111 0 0x1F11 0 0x1F11 0  -- CFG
    , rd 0x11 0 0 0xFFFF 0 0xFFFF 0  -- TXLAT
    , rd 0x12 0 0 0xFFFF 0 0xFFFF 0  -- RXLAT
    , rd 0x13 0 0 0xFFFF 0 0xFFFF 0  -- ASYM
    , rd 0x14 0 0xFFFF 0 0 0 0  -- LINKDLY_L
    , rd 0x15 0 0xFFFF 0 0 0 0  -- LINKDLY_H
    , rd 0x18 0 0 0 0 0 0  -- RXOK
    , rd 0x19 0 0 0 0 0 0  -- RXERR
    , rd 0x1A 0 0 0 0 0 0  -- RXDROP
    , rd 0x1B 0 0 0 0 0 0  -- TXOK
    , rd 0x1C 0 0 0 0 0 0  -- TXERR
    , rd 0x1D 0 0 0 0 0 0  -- TXDROP
    , rd 0x1E 0 0 0 0 0 0  -- PTPLIM
    , rd 0x1F 0 0 0 0 0 0  -- ALMOVR
    ]

/-- Registers of the SWITCH page (R419), CTRL, STAT and the block registers. -/
def rowsSwitch : List RegDesc :=
    [ rd 0x02 0x1 0 0 0 0 0  -- CTRL
    , rd 0x03 0 0 0 0x2000 0 0  -- STAT
    , rd 0x10 0x3 0 0x3 0 0x3 0  -- FWD
    , rd 0x11 0x12C 0 0xFFFF 0 0xFFFF 0  -- AGE
    , rd 0x14 0 0x43FF 0 0 0 0  -- MDIOCMD
    , rd 0x15 0 0xFFFF 0 0 0 0  -- MDIODATA
    ]

/-- Registers of the TSI page (R420), CTRL, STAT and the block registers. -/
def rowsTsi : List RegDesc :=
    [ rd 0x02 0x1 0 0 0 0 0  -- CTRL
    , rd 0x03 0 0 0 0x2000 0 0  -- STAT
    , rd 0x10 0x1 0 0x3 0 0x3 0  -- TCCFG
    , rd 0x11 0 0xF 0 0 0 0  -- SRVRUN
    , rd 0x18 0x300 0 0xFBFF 0 0xFBFF 0  -- PTPCFG0
    , rd 0x19 0x300 0 0xFBFF 0 0xFBFF 0  -- PTPCFG1
    , rd 0x1A 0x300 0 0xFBFF 0 0xFBFF 0  -- PTPCFG2
    , rd 0x1B 0x300 0 0xFBFF 0 0xFBFF 0  -- PTPCFG3
    , rd 0x20 0 0 0 0 0 0  -- HOLDDROP
    , rd 0x21 0 0 0 0 0 0  -- HOLDUNK
    , rd 0x22 0 0 0 0 0 0  -- TCSAT
    , rd 0x23 0 0 0 0 0 0  -- SECFAIL
    , rd 0x24 0 0 0 0 0 0  -- UNSUP
    ]

/-- Registers of the IPSVC page (R421), CTRL, STAT and the block registers. -/
def rowsIpsvc : List RegDesc :=
    [ rd 0x02 0x1 0 0 0 0 0  -- CTRL
    , rd 0x03 0 0 0 0x2000 0 0  -- STAT
    , rd 0x10 0 0 0xFFFF 0 0xFFFF 0  -- MAC_L
    , rd 0x11 0 0 0xFFFF 0 0xFFFF 0  -- MAC_M
    , rd 0x12 0x200 0 0xFFFF 0 0xFFFF 0  -- MAC_H
    , rd 0x14 0 0 0xFFFF 0 0xFFFF 0  -- IP_L
    , rd 0x15 0 0 0xFFFF 0 0xFFFF 0  -- IP_H
    , rd 0x16 0xFF00 0 0xFFFF 0 0xFFFF 0  -- MASK_L
    , rd 0x17 0xFFFF 0 0xFFFF 0 0xFFFF 0  -- MASK_H
    , rd 0x18 0 0 0xFFFF 0 0xFFFF 0  -- GW_L
    , rd 0x19 0 0 0xFFFF 0 0xFFFF 0  -- GW_H
    , rd 0x1C 0x300 0 0x8300 0 0x8300 0  -- ALCFG
    , rd 0x1D 0 0 0xFFFF 0 0xFFFF 0  -- ALDST_L
    , rd 0x1E 0 0 0xFFFF 0 0xFFFF 0  -- ALDST_H
    , rd 0x1F 0xBAC3 0 0xFFFF 0 0xFFFF 0  -- ALPORT
    , rd 0x20 0 0 0xFFFF 0 0xFFFF 0  -- ALDMAC_L
    , rd 0x21 0 0 0xFFFF 0 0xFFFF 0  -- ALDMAC_M
    , rd 0x22 0 0 0xFFFF 0 0xFFFF 0  -- ALDMAC_H
    , rd 0x24 0 0xFFFF 0 0 0xFFFF 0  -- STDST_L
    , rd 0x25 0 0xFFFF 0 0 0xFFFF 0  -- STDST_H
    , rd 0x26 0xBAC2 0xFFFF 0 0 0xFFFF 0  -- STPORT
    , rd 0x27 0x300 0x8300 0 0 0x8300 0  -- STCFG
    , rd 0x28 0 0 0x80FF 0 0x80FF 0  -- RACFG
    , rd 0x29 0xBAC4 0 0xFFFF 0 0xFFFF 0  -- RAPORT
    , rd 0x30 0 0 0 0 0 0  -- RADROP
    , rd 0x31 0 0 0 0 0 0  -- RAAUTH
    , rd 0x32 0 0 0 0 0 0  -- RAREPLAY
    , rd 0x33 0 0 0 0 0 0  -- IPDROP
    , rd 0x34 0 0 0 0 0 0  -- ALSEQ
    ]

/-- Registers of the TWI0 page (R443), CTRL, STAT and the block registers. -/
def rowsTwi0 : List RegDesc :=
    [ rd 0x02 0x1 0 0 0 0 0  -- CTRL
    , rd 0x03 0 0 0 0x2000 0 0  -- STAT
    , rd 0x10 0x101 0 0x1F03 0 0x1F03 0  -- CFG
    , rd 0x11 0xFAFA 0 0xFFFF 0 0xFFFF 0  -- TOUT
    , rd 0x12 0 0 0 0 0 0  -- TOCNT
    ]

/-- Registers of the TWI1 page (R444), CTRL, STAT and the block registers. -/
def rowsTwi1 : List RegDesc :=
    [ rd 0x02 0x1 0 0 0 0 0  -- CTRL
    , rd 0x03 0 0 0 0x2000 0 0  -- STAT
    , rd 0x10 0x111 0 0x1F13 0 0x1F13 0  -- CFG
    , rd 0x11 0xFAFA 0 0xFFFF 0 0xFFFF 0  -- TOUT
    , rd 0x12 0 0 0 0 0 0  -- TADDR
    , rd 0x13 0 0 0 0 0 0  -- TOCNT
    , rd 0x14 0 0x7F 0 0 0 0  -- XADDR
    , rd 0x15 0 0x7F3F 0 0 0 0  -- XCMD
    , rd 0x16 0x3 0xF 0 0 0xF 0  -- XCFG
    , rd 0x17 0 0 0 0 0 0  -- XSTAT
    , rd 0x18 0 0 0 0 0 0  -- ARBCNT
    ]
    ++ ((List.range 16).map fun n => rd (0x20 + n) 0 0xFFFF 0 0 0 0  -- XBUFn
    )

/-- Registers of the GANG page (R474), CTRL, STAT and the block registers. -/
def rowsGang : List RegDesc :=
    [ rd 0x02 0x1 0 0x1 0 0x1 0  -- CTRL
    , rd 0x03 0 0 0 0x2000 0 0  -- STAT
    , rd 0x10 0x1 0 0xFF01 0 0xFF01 0  -- CFG
    , rd 0x11 0 0 0xFFFF 0 0xFFFF 0  -- EPOFS_L
    , rd 0x12 0 0 0x3FFF 0 0x3FFF 0  -- EPOFS_H
    , rd 0x13 0x3E8 0 0xFFFF 0 0xFFFF 0  -- TTOL
    , rd 0x14 0 0 0xFFFF 0 0xFFFF 0  -- CEPOCH
    , rd 0x15 0x80C8 0x83FF 0 0 0x83FF 0  -- SOLCFG
    , rd 0x16 0 0 0 0 0 0  -- LGID
    , rd 0x17 0 0 0 0 0 0  -- ROSTER
    , rd 0x18 0 0 0 0 0 0  -- PEERDIS
    , rd 0x19 0 0 0 0 0 0  -- CWORD_L
    , rd 0x1A 0 0 0 0 0 0  -- CWORD_H
    , rd 0x1B 0 0 0 0 0 0  -- LCWORD_L
    , rd 0x1C 0 0 0 0 0 0  -- LCWORD_H
    , rd 0x1D 0 0 0 0 0 0  -- TCDIFF_L
    , rd 0x1E 0 0 0 0 0 0  -- TCDIFF_H
    , rd 0x1F 0 0 0 0 0 0  -- SOLID
    , rd 0x20 0 0xF07 0 0 0 0  -- RLYDST
    , rd 0x21 0x1 0xF 0 0 0 0  -- RLYCTL
    , rd 0x22 0 0 0 0 0 0  -- RLYSTAT
    , rd 0x23 0 0 0 0 0 0  -- WSTAT
    , rd 0x28 0 0xFFFF 0 0 0 0  -- RLYD0
    , rd 0x29 0 0xFFFF 0 0 0 0  -- RLYD1
    , rd 0x2A 0 0xFFFF 0 0 0 0  -- RLYD2
    , rd 0x2B 0 0xFFFF 0 0 0 0  -- RLYD3
    , rd 0x2C 0 0xFFFF 0 0 0 0  -- RLYD4
    , rd 0x2D 0 0xFFFF 0 0 0 0  -- RLYD5
    , rd 0x2E 0 0xFFFF 0 0 0 0  -- RLYD6
    , rd 0x2F 0 0xFFFF 0 0 0 0  -- RLYD7
    , rd 0x30 0 0 0 0 0 0  -- LOSTCNT
    , rd 0x31 0 0 0 0 0 0  -- NACKCNT
    , rd 0x32 0 0 0 0 0 0  -- RXERRCNT
    ]

/-- Registers of the PORT page (R537), CTRL, STAT and the block registers. -/
def rowsPort : List RegDesc :=
    [ rd 0x02 0x1 0 0 0 0 0  -- CTRL
    , rd 0x03 0 0 0 0x2000 0 0  -- STAT
    , rd 0x10 0 0xFFFF 0 0 0xFFFF 0  -- OUT
    , rd 0x11 0 0 0 0 0 0  -- OUTSET
    , rd 0x12 0 0 0 0 0 0  -- OUTCLR
    , rd 0x13 0 0 0 0 0 0  -- OUTTGL
    , rd 0x14 0 0xFFFF 0 0 0xFFFF 0  -- DIR
    , rd 0x15 0 0 0 0 0 0  -- IN
    , rd 0x16 0 0 0xFFFF 0 0xFFFF 0  -- INV
    , rd 0x17 0 0 0xFFFF 0 0xFFFF 0  -- PULL
    , rd 0x18 0 0 0xFF 0 0xFF 0  -- DRV
    , rd 0x19 0 0 0xFF 0 0xFF 0  -- OFFHOLD
    , rd 0x1A 0 0 0 0 0 0  -- OWN_L
    , rd 0x1B 0 0 0 0 0 0  -- OWN_H
    ]

/-- Registers of the PMUX page (R539), CTRL, STAT and the block registers. -/
def rowsPmux : List RegDesc :=
    [ rd 0x02 0x1 0 0 0 0 0  -- CTRL
    , rd 0x03 0 0 0 0x2000 0 0  -- STAT
    ]
    ++ ((List.range 8).map fun n => rd (0x10 + n) 0 0 0x8037 0 0x8037 0  -- ESMAPn
    )
    ++ [ rd 0x18 0 0 0 0 0 0  -- CONFA
    , rd 0x19 0 0 0 0 0 0  -- CONFB
    , rd 0x1A 0 0 0 0 0 0  -- CONFC
    , rd 0x1C 0 0 0 0 0 0  -- STRAP
    ]

/-- Registers of the PINT page (R540), CTRL, STAT and the block registers. -/
def rowsPint : List RegDesc :=
    [ rd 0x02 0x1 0 0 0 0 0  -- CTRL
    , rd 0x03 0 0 0 0x2000 0 0  -- STAT
    ]
    ++ ((List.range 8).map fun n => rd (0x10 + n) 0x1801 0 0xFEFF 0 0xFEFF 0  -- LCFGn
    )
    ++ [ rd 0x18 0 0 0 0 0 0  -- LEVEL
    ]

/-- The block rows of a kind of page. -/
def Kind.rows : Kind → List RegDesc
  | .ident => rowsIdent
  | .pwr => rowsPwr
  | .clk => rowsClk
  | .host => rowsHost
  | .irq => rowsIrq
  | .diary => rowsDiary
  | .mbx => rowsMbx
  | .proof => rowsProof
  | .keys => rowsKeys
  | .nvs => rowsNvs
  | .afe => rowsAfe
  | .dec => rowsDec
  | .buf => rowsBuf
  | .strm => rowsStrm
  | .recog => rowsRec
  | .reflex => rowsReflex
  | .etch => rowsEtch
  | .eprog => rowsEprog
  | .alm => rowsAlm
  | .cal => rowsCal
  | .tsu => rowsTsu
  | .tm => rowsTm
  | .mac => rowsMac
  | .switch => rowsSwitch
  | .tsi => rowsTsi
  | .ipsvc => rowsIpsvc
  | .twi0 => rowsTwi0
  | .twi1 => rowsTwi1
  | .gang => rowsGang
  | .port => rowsPort
  | .pmux => rowsPmux
  | .pint => rowsPint

/-- The rows every page has beside its own: PVER, IFLAG, IEN0, IEN1 and EVSEL (R95, R20). -/
def Kind.commonRows (k : Kind) : List RegDesc :=
  [ rd 0x00 0 0 0 0 0 0, rd 0x01 1 0 0 0 0 0, rd 0x04 0 0 0 k.ifMask 0 0, rd 0x05 0 k.ifMask 0 0 0 0
  , rd 0x06 0 k.ifMask 0 0 0 0, rd 0x07 0 0 0 0 0 0, rd 0x08 0 0 0 0 0 0
  , rd 0x09 k.evMask k.evMask 0 0 0 0, rd 0x0F 0 0 0 0 0 0 ]

/-- The row of an offset, if the page has a register there (R101 otherwise). -/
def Kind.desc (k : Kind) (off : Nat) : Option RegDesc :=
  (k.commonRows.find? (·.off == off)) <|> (k.rows.find? (·.off == off))

/-- The row of an address; none on an unassigned page or a reserved offset. -/
def descOf (a : Nat) : Option RegDesc :=
  match kindOf (a / 256) with
  | none => none
  | some k => k.desc (a % 256)

/-- The value that a full reset gives the register at an address (R102); MAC2's PHYADDR differs from MAC1's (R418). -/
def resetOf (a : Nat) : Word :=
  match descOf a with
  | none => 0
  | some d => BitVec.ofNat 16 (if a == 0x3110 then d.rst + 0x0100 else d.rst)

end Sys2Proof.Machine
end

