-- ==== Sys2Proof/Machine/BlocksA.lean ====
section
/-!
DEFINITION. Hidden state, first part: power, clocks, interrupts, diary, pins, the STOP_N latch and the recognizers. What
a register holds and nothing else is kept in the register cells of `Hw`, not here.
-/

namespace Sys2Proof.Machine

/-- The parties at the register arbiter (R103, R112). Authenticated remote access goes through the core and ranks as the
core; it is kept apart so that its own rules can be stated. -/
inductive Party
  | spi | twi0 | core | remote | etch (n : Fin 8)
  deriving DecidableEq, Repr

/-- The sender ID of a party (R112, COLLWHO); remote access counts as the core. -/
def Party.code : Party → Nat
  | .spi => 1
  | .twi0 => 2
  | .core => 3
  | .remote => 3
  | .etch n => 8 + n.val

/-- The state of a switched domain, coded as in `PWR.DSTAT`. -/
inductive DomState
  | off | rising | on | falling
  deriving DecidableEq, Repr

/-- The VIO band (R39): outside both bands, the 1.8 V band, the 3.3 V band. -/
inductive VioBand
  | out | v18 | v33
  deriving DecidableEq, Repr

/-- Power control (R30 to R66). PENDING_ON and PENDING_OFF (R53, R54) follow from the states and the requests. -/
structure Pwr where
  /-- VIN has risen through 34.0 V and not since fallen through 31.5 V (R30). -/
  running : Bool
  /-- The last VIN level a command told, in mV (R32). -/
  vin : Nat
  /-- The VIN warning comparator (R32). -/
  vinWarn : Bool
  /-- The buck was stopped by a VAUX fault (R35) and waits 10 ms. -/
  buckFault : Bool
  /-- The buck was stopped by overvoltage on VIN (R576). -/
  buckOv : Bool
  /-- The buck is in grid mode (R36, R37). -/
  buckGrid : Bool
  vio : VioBand
  /-- The band detected at VIGIL up (R39). -/
  vio33 : Bool
  /-- VIGIL is up (R41, R56). -/
  vigilUp : Bool
  /-- VIGIL is held in reset by RST_N, a command reset or an instruction of the manufacturer (R60, R592, R563). -/
  held : Bool
  time : DomState
  sense : DomState
  net : DomState
  core : DomState
  /-- The domain whose sequence has just completed with an opposite one recorded (R44 rule 1, R53). -/
  opposite : Option Dom
  /-- The boot record has loaded since VIGIL up (R56). -/
  bootLoaded : Bool
  bootDef : Bool
  draft : Bool
  /-- The value `PWR.PSTATE` keeps while a sequence runs (R48). -/
  pstate : BitVec 3
  /-- The running CORE off-sequence was forced (R52). -/
  forced : Bool
  deriving DecidableEq, Repr

/-- The synthesizer states of R71, coded as `CLK.STAT.SYNST`. -/
inductive Synst
  | off | cal | acq | locked | hold | free
  deriving DecidableEq, Repr

/-- Clock control (R68 to R91). -/
structure Clk where
  synst : Synst
  /-- The reference in use (R69). -/
  refact : Nat
  /-- The reference is qualified (R593, R91). -/
  refOk : Bool
  /-- No calibration has completed since VIGIL up or since RECAL (R71). -/
  needCal : Bool
  /-- The last calibration ended in FREE (R73). -/
  calFree : Bool
  /-- The synthesizer has locked since the last calibration (R73). -/
  lockedOnce : Bool
  settled : Bool
  /-- The V monitor sees crystal edges (R70). -/
  xok : Bool
  nbackup : Bool
  /-- REFCLKOUT in force since the last NET on-sequence (R82). -/
  refclkOut : Bool
  slock : Bool
  /-- S-loop offset in units of 2^-32 (R79). -/
  soffs : Int
  /-- The S-loop offset that the discipliner asks for (R79, R250), which `soffs` approaches. -/
  soffsTo : Int
  /-- VCO periods passed, modulo 6,000, the least multiple of 48 and 125 (R77). -/
  vco : Nat
  /-- The coarse second counter (R84): seconds, milliseconds and eighths of V-cycles into the millisecond. -/
  vsec : BitVec 32
  vms : Nat
  vcyc : Nat
  deriving DecidableEq, Repr

/-- One interrupt pin (R507, R508): its aggregate at the last command, and whether a pulse runs. -/
structure IntPin where
  agg : Bool
  pulse : Bool
  /-- The V-cycle in which the pulse ends (R508). -/
  stop : Nat
  deriving DecidableEq, Repr

/-- One diary entry (R511). -/
structure Entry where
  src : Nat
  coarse : Bool
  qual : Nat
  num : Word
  arg : Word
  arg2 : Word
  t0 : Word
  t1 : Word
  t2 : Word
  t3 : Word
  deriving DecidableEq, Repr

/-- The diary (R510 to R517), oldest entry first. -/
structure Diary where
  entries : List Entry
  num : Word
  deriving DecidableEq, Repr

/-- A pin interrupt line (R534, R535). -/
structure PinLine where
  level : Bool
  lockout : Bool
  deriving DecidableEq, Repr

/-- Pins: the straps as sampled, the held pins and their levels, the pins in conflict, the lines (R520 to R536). -/
structure Pins where
  straps : BitVec 4
  held : BitVec 24
  heldLevel : BitVec 24
  heldDom : Vector Dom 24
  conf : BitVec 24
  lines : Vector PinLine 8
  deriving DecidableEq, Repr

/-- The STOP_N latch of R283: the bit, the cause record, the RELWHY code, and the V-cycle on which it was set. -/
structure Latch where
  set : Bool
  typ : Nat
  ev : Nat
  why : Nat
  setAt : Nat
  deriving DecidableEq, Repr

/-- A window comparator (R266, R267). -/
structure Win where
  inCond : Bool
  count : Nat
  deriving DecidableEq, Repr

/-- The tap recognizer's states (R270). -/
inductive TapSt
  | armed | inTap | quiet | dblWait | blocked
  deriving DecidableEq, Repr

/-- The tap recognizer (R269 to R271). -/
structure TapRec where
  st : TapSt
  base : Vector Int 3
  baseValid : Bool
  cnt : Nat
  second : Bool
  deriving DecidableEq, Repr

/-- The states of MOVE/SETTLE (R272), coded as MSSTATE. -/
inductive MsSt
  | unknown | settled | moving
  deriving DecidableEq, Repr

/-- What a run has seen of one channel: values, extremes, sum. -/
structure RunCh where
  n : Nat
  lo : Int
  hi : Int
  sum : Int
  deriving DecidableEq, Repr

/-- A quiet run or still run (R273, R276): accelerometer samples and the channels, X to Z of the accelerometer, then X to Z
of the gyroscope. -/
structure Run where
  len : Nat
  chs : Vector RunCh 6
  deriving DecidableEq, Repr

/-- MOVE/SETTLE (R272 to R275): the quiet run and the reference r of the channels that have one. -/
structure MoveSettle where
  st : MsSt
  run : Run
  ref : Vector (Option Int) 6
  deriving DecidableEq, Repr

/-- FALL (R276 to R279): the gravity estimate, the still run and the counts. -/
structure Fall where
  g : Vector Int 3
  gvalid : Bool
  run : Run
  count : Nat
  leave : Nat
  active : Bool
  deriving DecidableEq, Repr

/-- The recognizers of the REC page and the draft fall count (R280). -/
structure Recog where
  wins : Vector Win 8
  tap : TapRec
  ms : MoveSettle
  fall : Fall
  draftFall : Nat
  deriving DecidableEq, Repr

end Sys2Proof.Machine
end

