-- ==== Sys2Proof/Machine/BlocksB.lean ====
section
/-!
DEFINITION. Hidden state, second part: the Etchers and their program memory, the sample buffer, the stream port.
-/

namespace Sys2Proof.Machine

/-- The execution states of R294, coded as in `ETCH.STATEn`. -/
inductive EtchSt
  | idle | run | wait | stall
  deriving DecidableEq, Repr

/-- An interval timer (R294, R313): value, unit, expired bit, whether it counts, and cycles into the present unit. -/
structure IntTimer where
  val : Nat
  unit : Nat
  expired : Bool
  counting : Bool
  presc : Nat
  deriving DecidableEq, Repr

/-- The access a stalled Etcher waits for (R315, R316). -/
inductive Access
  | write (addr : Nat) (val : Word)
  | read (addr : Nat) (cn : Fin 4)
  | post (mb : Nat) (hdr : Word) (data : List Word)
  deriving DecidableEq, Repr

/-- One Etcher (R294). `seen` and `seenSample` hold the pulses and samples of the present cycles that its last executed
instruction has already had (R296); `owed` marks the bound counters with a pulse in the present cycle, which is added after
the instruction that executes in it (R310). -/
structure Etcher where
  pc : BitVec 10
  c : Vector Word 4
  it : Vector IntTimer 2
  bind : Vector (Option Nat) 4
  level : Bool
  st : EtchSt
  pend : Option (BitVec 10)
  stopping : Bool
  access : Option Access
  seen : BitVec 64
  seenSample : BitVec 10
  owed : BitVec 4
  deriving DecidableEq, Repr

/-- The half states of the EPROG window (R319). -/
inductive Half
  | empty | highWritten | highRead
  deriving DecidableEq, Repr

/-- One party's EPROG window (R319): address, half state, the held high half, the latched word. -/
structure EprogWin where
  addr : BitVec 10
  half : Half
  hold : Word
  latched : BitVec 32
  deriving DecidableEq, Repr

/-- A record in the buffer (R328): the absolute position of its tag and its words. -/
structure Rcd where
  pos : Nat
  words : List Word
  deriving DecidableEq, Repr

/-- A read port (R344, R349, R351): the absolute position of the next word, the words of its record that are still to be read
once its first one is, and the words made by the port itself. -/
structure RdPort where
  ptr : Nat
  left : Nat
  inject : List Word
  deriving DecidableEq, Repr

/-- The snapshot states of R345, coded as SNAPST. -/
inductive Snap
  | none | arming | armed | triggered | complete
  deriving DecidableEq, Repr

/-- A marker that waits in the queue (R335, R336): TRIG, EV, the INDEX of its reference sample, and DELTA. -/
structure Mark where
  trig : Bool
  ev : Nat
  index : Nat
  delta : Nat
  deriving DecidableEq, Repr

/-- The sample buffer (R327 to R352). -/
structure Buf where
  /-- Whole records held, oldest first. -/
  recs : List Rcd
  /-- Words written since the last enable or arm: the absolute position of the next record. -/
  wp : Nat
  portA : RdPort
  portB : RdPort
  seq : Nat
  /-- Gap records that are due, with CAUSE and LOST (R65, R337). -/
  gaps : List (Nat × Nat)
  anchorDue : Bool
  /-- Records dropped since the last record written in FIFO mode (R343); 0 while the writer does not drop. -/
  dropped : Nat
  /-- INDEX of the latest valid sample; none while no sample was written since the last gap or enable (R335). -/
  ref : Option Nat
  /-- The grid instant of the latest valid sample, and the E edges counted since it became valid in E (R335). -/
  lastT : Option Nat
  since : Nat
  /-- The marker queue, oldest first (R336). -/
  marks : List Mark
  snap : Snap
  /-- The PRE count completed in the present E-cycle (R346). -/
  fresh : Bool
  short : Bool
  retained : Bool
  /-- Retention holds the contents while SENSE is off (R65). -/
  holding : Bool
  /-- Words written since the trigger marker, and the position of that marker, none before it is placed (R347). -/
  post : Nat
  trigPos : Option Nat
  deriving DecidableEq, Repr

/-- The stream port and the stream datagrams (R353 to R360). -/
structure Strm where
  active : Bool
  /-- FCNT of the next frame, the words of the last frame sent, and its STRM_CK periods: bit 0 is the level of STRM_D0, bit 1
  that of STRM_D1 (R354). -/
  fcnt : Nat
  frame : List Word
  lanes : List (BitVec 2)
  /-- Record words the core holds for the next datagram, the position of the first tag among them, and the DSEQ of the next
  datagram. -/
  dg : List Word
  dgFirst : Option Nat
  dseq : Word
  deriving DecidableEq, Repr

end Sys2Proof.Machine
end

