-- ==== Sys2Proof/Machine/BlocksC.lean ====
section
/-!
DEFINITION. Hidden state, third part: the host port, the almanacs, the calendar, the capture unit.
-/

namespace Sys2Proof.Machine

/-- The host port (R119 to R152). The counters and flags are registers. -/
structure HostPort where
  /-- Mode 3 in the last counted frame (R119). -/
  mode3 : Bool
  addr0 : Bool
  /-- The write queue, first word in front (R131). -/
  queue : List (Nat × Word)
  /-- Flags of the previous counted frame, shown in STATUS (R123). -/
  prevBus : Bool
  prevCrc : Bool
  prevFull : Bool
  prevLate : Bool
  /-- The page TWI0 selects and its pointer (R145). -/
  twiPage : BitVec 8
  twiPtr : BitVec 8
  /-- The words MISO carried in the last frame, and the bytes TWI0 sent or acknowledged in the last transfer. -/
  miso : List Word
  twiOut : List Byte
  twiAck : List Bool
  deriving DecidableEq, Repr

/-- The rungs of R168, coded as RUNG. -/
inductive Rung
  | ptp | pps | holdover | freeRun
  deriving DecidableEq, Repr

/-- One almanac (R153 to R183). `sub` is the time within the second in units of 2^-32 ns: its bits 47:16 are the
nanoseconds and the 16-bit fraction, its low 16 bits the accumulator of R156. Slews and offsets are in units of
2^-16 ns. -/
structure Alm where
  sec : BitVec 48
  sub : Nat
  /-- The amount still to go (R159); 0 when no slew runs. -/
  slew : Int
  /-- The quality is unknown since the last restart (R155). -/
  unknown : Bool
  rung : Rung
  target : Rung
  switching : Bool
  committed : Bool
  revert : Bool
  ptpQual : Bool
  ppsGood : Bool
  ppsQual : Bool
  /-- The rung that a running switch leaves was qualified when it was lost (R173). -/
  leftQual : Bool
  /-- Consecutive good edges, consecutive outliers, and the last edge's offset in units of 2^-16 ns with whether there was
  one (R172). `ppsGood` says that the last edge that was no outlier came 1 s ± 100 µs after the one before it (R168). -/
  ppsEdges : Nat
  ppsOut : Nat
  ppsLast : Option Int
  /-- Addends of the last qualified seconds, newest first, at most 16 (R171), and how many seconds were qualified. -/
  means : List Nat
  qualSec : Nat
  /-- Seconds spent in holdover (R168). -/
  holdSec : Nat
  /-- PTP (bit 0) or PPS_IN (bit 1) was left by a committed switch down and not regained (R173). -/
  left : BitVec 2
  /-- The host wrote `ALMn.SERVO` last (R168). -/
  hostServo : Bool
  /-- The armed target: nanoseconds since the epoch (R182). -/
  tgt : Option Nat
  deriving DecidableEq, Repr

/-- The calendar's leap state (R186): the bits as sampled at the start of 23:59:59, and the inserted second running. `ticks`
counts the microseconds that the tick almanac has entered and whose 1 MHz tick has not reached the timers (R165). -/
structure Cal where
  sampled61 : Bool
  sampled59 : Bool
  inserted : Bool
  ticks : Nat
  deriving DecidableEq, Repr

/-- PPS_OUT (R177): a running pulse and its width in ms. -/
structure PpsOut where
  active : Bool
  width : Nat
  deriving DecidableEq, Repr

end Sys2Proof.Machine
end

