-- ==== Sys2Proof/Machine/BlocksD.lean ====
section
/-!
DEFINITION. Hidden state, fourth part: the front end and the decimation chain.
-/

namespace Sys2Proof.Machine

/-- Three values of the axes X, Y, Z. -/
structure V3 where
  x : Int
  y : Int
  z : Int
  deriving DecidableEq, Repr

/-- One blend-stage input of an accelerometer axis (R239, R240): trimmed fine and coarse value, and whether the fine value is
tainted. -/
structure AxisIn where
  fine : Int
  coarse : Int
  taint : Bool
  deriving DecidableEq, Repr

/-- The blend of one axis (R201 to R205, R239, R241), as in the sketch of R239: weight `w` of `win`, direction, the end the
blend started from, the count of instants below 1.5 g, and the fine-overload state. -/
structure Axis where
  w : Nat
  win : Nat
  hold : Nat
  dir : Int
  frm : Nat
  low : Nat
  fovl : Bool
  deriving DecidableEq, Repr

/-- What an output instant brings (R230 stage 1): the grid instant in ns on the sample almanac, the die temperature, and the
modulator bits taken since the instant before, oldest first. -/
structure InstantIn where
  t : Nat
  temp : Word
  /-- The bits of the inertial paths: fine X to Z, coarse X to Z, gyroscope X to Z. -/
  bits : Vector (List Bool) 9
  /-- Whether the history of the blend-stage sample between two instants, and of that on the instant, holds a bit of the axis
  taken during overload (R240). -/
  taint : Vector (Bool × Bool) 3
  /-- XB0 and XB1: for each 128 kHz interval, the levels of the data line at the rising and at the falling edge of each XBCLK
  period (R218), and the T-cycles from the last CIC value to the end of the interval (R244). -/
  xb : Vector (List (List (Bool × Bool) × Nat)) 2
  deriving DecidableEq, Repr

/-- A fifth-order CIC (R230 stage 2): its running sums and what its combs hold, modulo 2^64. -/
structure Cic where
  sums : Vector (BitVec 64) 5
  combs : Vector (BitVec 64) 5
  deriving DecidableEq, Repr

/-- The filters of one modulator path in stages 2 and 3 (R230, R243, R244). -/
structure Path where
  cic : Cic
  /-- The decimator phase counters (R255): bits since the CIC's last value, and CIC values modulo one 125 Hz period. -/
  n : Nat
  m : Nat
  /-- Received mode: the CIC values that the resampler interpolates, newest first (R244). -/
  res : List Int
  /-- The last inputs of each half-band stage, newest first. -/
  half : List (List Int)
  /-- Values of stage 3 that the next stages have not taken, oldest first. -/
  out : List Int
  deriving DecidableEq, Repr

/-- A self-test run (R212 to R216): phase 0 for none, 4 while the start waits for the first boundary, the samples so far
in the phase, the choices of the start, an abort that waits for the next output instant, whether the release phase follows
an abort, and the sums of phases 1 and 2 for the nine paths (fine X to Z, coarse X to Z, gyroscope X to Z). -/
structure SelfTest where
  phase : Nat
  k : Nat
  n : Nat
  level : Nat
  gyr : Bool
  abortDue : Bool
  aborted : Bool
  sum1 : List Int
  sum2 : List Int
  deriving DecidableEq, Repr

/-- The analog front end (R192 to R229): the settings in force since the last output-sample boundary, the blends, the
gyroscope drive, the self-test, the XB inputs. -/
structure Afe where
  mode : Nat
  grange : Nat
  chen : BitVec 4
  orient : Word
  xbcfg : Word
  on : Bool
  ax : Vector Axis 3
  gdrv : Bool
  /-- The drive loop has locked since it started (R209). -/
  gdrvOnce : Bool
  st : SelfTest
  xbLost : Bool
  stuck : BitVec 2
  notrim : Bool
  deriving DecidableEq, Repr

/-- The value of one output instant with its flags (R233, R242): grid time in ns, the groups present (bit 0 ACC to bit 3
XB1), the eight channel values, the values windows see (R215), the groups that carry WARM, the marks, and the time
quality (R253). -/
structure Sample where
  t : Nat
  groups : BitVec 4
  vals : Vector Int 8
  seen : Vector Int 8
  warm : BitVec 4
  blend : Bool
  range : Bool
  draft : Bool
  gap : Option (Nat × Nat)
  qual : Nat
  deriving DecidableEq, Repr

/-- The value of a grid instant on its way through the FIR (R230 stage 6, R242): the marks that belong to the instant, and the
FIR values of the groups that are done. -/
structure Flight where
  t : Nat
  groups : BitVec 4
  done : BitVec 4
  /-- The response codes in force at the instant (R237), and how many FIR inputs of each group came after the instant's. -/
  resp : Word
  since : Vector Nat 4
  fir : Vector Int 8
  /-- Whether the FIR history of each package axis held a substituted sample (R240), and the coarse values of the instant. -/
  tainted : Vector Bool 3
  coarse : V3
  /-- The nominal self-test actuation through the same FIR, accelerometer and gyroscope (R215). -/
  nominal : Vector Int 2
  warm : BitVec 4
  blend : Bool
  range : Bool
  draft : Bool
  gap : Option (Nat × Nat)
  qual : Nat
  deriving DecidableEq, Repr

/-- The decimation chain and the grid discipliner (R230 to R261). -/
structure Dec where
  /-- Rate and response codes in force, a nibble a group as in `DEC.ODR`. -/
  odr : Word
  resp : Word
  /-- Samples of each group that still carry WARM (R236). -/
  warm : Vector Nat 4
  /-- Stages 2 and 3 of the paths fine X to Z, coarse X to Z, gyroscope X to Z, XB0, XB1. -/
  path : Vector Path 11
  /-- The last 129 FIR inputs of each channel, newest first (R237), which of an accelerometer axis were tainted (R240), and
  the nominal actuation of the accelerometer and the gyroscope (R215). -/
  hist : Vector (List Int) 8
  tainted : Vector (List Bool) 3
  act : Vector (List Int) 2
  /-- The instants that have entered the FIR and have not been loaded, oldest first, and how many were discarded since the
  last gap mark (R337). -/
  flight : List Flight
  lost : Nat
  /-- The last grid instant that entered the chain, and the one that is next where the order is fixed (R238, R255, R256). -/
  lastT : Option Nat
  nextT : Option Nat
  /-- EPOCH has reset the decimators since SENSE up (R256). -/
  epoch : Bool
  gridph : Nat
  /-- A re-anchor waits for the next 125 Hz instant (R255). -/
  reanchor : Bool
  /-- The cause of the gap mark the next sample carries (R242, R337). -/
  gap : Option Nat
  glock : Bool
  /-- The last four values of e, newest first, and the runs of R251. -/
  es : List Int
  inRun : Nat
  outRun : Nat
  esum : Int
  /-- The S output register (R235). -/
  sout : Option Sample
  /-- The values of the channels in E (R303), the WARM marks of each group's latest sample, and the BLEND mark of the
  latest accelerometer sample (R304). -/
  vals : Vector Int 8
  warmE : BitVec 4
  accBlend : Bool
  /-- The groups that carried WARM after the last command (R246). -/
  warmWas : BitVec 4
  deriving DecidableEq, Repr

end Sys2Proof.Machine
end

