-- ==== Sys2Proof/Machine/Cells.lean ====
section
/-!
DEFINITION. Sparse storage: a list of (address, value) pairs in one canonical form, addresses strictly rising and no entry
equal to what an unlisted address reads as. The registers, the shadows, the staging copies and the program memory are
held so.
-/

namespace Sys2Proof.Machine

/-- Address and value pairs. -/
abbrev Cells (α : Type) := List (Nat × α)

/-- The value at address `a`; an unlisted address reads as `d a`. -/
def Cells.get {α : Type} (d : Nat → α) : Cells α → Nat → α
  | [], a => d a
  | (k, v) :: t, a => if a = k then v else Cells.get d t a

/-- An entry at its place in the rising order. -/
def Cells.insert {α : Type} : Cells α → Nat → α → Cells α
  | [], a, v => [(a, v)]
  | (k, w) :: t, a, v =>
    if a < k then (a, v) :: (k, w) :: t
    else if a = k then (a, v) :: t
    else (k, w) :: Cells.insert t a v

/-- `v` at address `a`, in canonical form: writing what an unlisted address reads as removes the entry. -/
def Cells.put {α : Type} [DecidableEq α] (d : Nat → α) (l : Cells α) (a : Nat) (v : α) : Cells α :=
  if v = d a then l.filter fun c => c.1 != a else l.insert a v

/-- Every address that satisfies `p` goes back to its default. -/
def Cells.clear {α : Type} (p : Nat → Bool) (l : Cells α) : Cells α := l.filter fun c => !p c.1

/-- The canonical form holds: addresses strictly rise and no entry equals its default. -/
def Cells.wf {α : Type} [DecidableEq α] (d : Nat → α) (l : Cells α) : Bool :=
  decide ((l.map Prod.fst).Pairwise (· < ·)) && l.all fun c => decide (c.2 ≠ d c.1)

end Sys2Proof.Machine
end

