-- ==== Sys2Proof/Machine/BlocksE.lean ====
section
/-!
DEFINITION. Hidden state, fifth part: timers, network, two-wire blocks, gang, mailboxes and firmware, store, keys, proof
controller, test port.
-/

namespace Sys2Proof.Machine

/-- A timer channel (R376 to R384): active compare value or capture, committed preload, UPDPx, LWx, FULLx, output level. -/
structure TimCh where
  act : Nat
  pre : Nat
  updp : Bool
  lw : Bool
  full : Bool
  out : Bool
  deriving DecidableEq, Repr

/-- A timer (R364 to R386). -/
structure Timer where
  cnt : Nat
  top : Nat
  topHeld : Option Nat
  psc : Nat
  down : Bool
  running : Bool
  wtrig : Bool
  gateOff : Bool
  ch : Vector TimCh 2
  deriving DecidableEq, Repr

/-- The insertion operations of R397. -/
inductive InsOp
  | none | origin | turnaround | residence | datagram
  deriving DecidableEq, Repr

/-- What a frame carries for the insertion unit and the transmit queues: a stream or an alarm datagram, or neither. -/
inductive Carry
  | plain | stream | alarm
  deriving DecidableEq, Repr

/-- The fields of a PTP message that the sentinel reads or writes (R397 to R407). `tlv` says that it carries an unsupported
TLV; `sec` holds the pointer, the key ID and the ICV of an AUTHENTICATION TLV. -/
structure Ptp where
  msg : Nat
  domain : Nat
  sdo : Nat
  corr : Int
  originSec : Nat
  originNs : Nat
  tlv : Bool
  sec : Option (Nat × Nat × List Word)
  /-- With the message the servo has a measured offset of the almanac from its master, in ns (R163). -/
  offset : Option Int
  /-- An Announce's leap flags, LEAP61 in bit 0 and LEAP59 in bit 1, and UTC offset (R186). -/
  leap : Option (BitVec 2 × Int)
  deriving DecidableEq, Repr

/-- An Ethernet frame as the switch, the engine and the insertion unit see it (R389 to R411). -/
structure Frame where
  dst : BitVec 48
  src : BitVec 48
  etype : Word
  tagged : Bool
  srcIp : BitVec 32
  dstIp : BitVec 32
  /-- IPv4 options or a fragment. -/
  opts : Bool
  /-- IPv4 protocol (for ARP its operation), UDP destination and source port, UDP checksum, ICMP type and TTL; 0 when there is
  none. -/
  proto : Nat
  udp : Nat
  udpSrc : Word
  udpSum : Word
  icmp : Nat
  ttl : Nat
  /-- Bytes with the FCS, and whether FCS, alignment and RXER are clean. -/
  len : Nat
  good : Bool
  ptp : Option Ptp
  carry : Carry
  body : List Word
  op : InsOp
  /-- The almanac whose time is written. -/
  alm : Nat
  echo : Bool
  /-- Receive port (0: the endpoint) and ingress times in units of 2^-16 ns: the TC rate almanac, then the four. -/
  rxPort : Nat
  rxTc : Int
  rxAlm : List Int
  /-- Written by the hold rule and at departure: held 2 ms, late, egress seconds and nanoseconds, quality. -/
  held : Bool
  late : Bool
  egressSec : Nat
  egressNs : Nat
  qual : Nat
  deriving DecidableEq, Repr

/-- One MAC port: link, the three transmit queues of R394, oldest first, the PTP count of the 1 s window (R408), the last
frame sent and the last echo returned to the firmware (R399). -/
structure Port where
  link : Bool
  qAlarm : List Frame
  qEvent : List Frame
  qNormal : List Frame
  ptpCount : Nat
  sent : Option Frame
  echo : Option Frame
  deriving DecidableEq, Repr

/-- A learned address (R393) and its port, 1 or 2. -/
structure Learned where
  mac : BitVec 48
  port : Nat
  deriving DecidableEq, Repr

/-- An alarm request in the pending store of VIGIL (R415). -/
structure AlarmReq where
  aseq : Word
  cause : Word
  t : Nat
  deriving DecidableEq, Repr

/-- The network blocks (R389 to R421). -/
structure Net where
  port : Vector Port 2
  learned : List Learned
  /-- The frame the last reception delivered to the endpoint, with its ingress times (R396). -/
  delivered : Option Frame
  /-- The pending store, oldest first, and requests it discarded since NET was last up, a port each (R415). -/
  stored : Vector (List AlarmReq) 2
  storeLost : Vector Nat 2
  mdioBusy : Bool
  /-- Address resolution of the alarm and of the stream destination (R412): the found MAC, and a request outstanding (bit 0
  alarm, bit 1 stream). -/
  arpAlarm : Option (BitVec 48)
  arpStream : Option (BitVec 48)
  arpWait : BitVec 2
  /-- The last RSEQ accepted for each key slot since CORE came up (R417). -/
  rseq : Vector Nat 8
  /-- The last reply the remote-access service sent (R417). -/
  raReply : List Word
  deriving DecidableEq, Repr

/-- A two-wire bus seen by its block (R425 to R433): busy, the recognized levels, CFG in force. -/
structure TwiBus where
  busy : Bool
  scl : Bool
  sda : Bool
  cfg : Word
  deriving DecidableEq, Repr

/-- Who holds the TWI1 controller (R434), coded as CTLR. -/
inductive Ctlr
  | idle | gang | engine
  deriving DecidableEq, Repr

/-- The TWI1 controller and its transfer engine (R434 to R442): the byte counts of the accepted GO, and lost arbitrations of
the transfer. -/
structure Xfer where
  ctlr : Ctlr
  busy : Bool
  nw : Nat
  nr : Nat
  tries : Nat
  deriving DecidableEq, Repr

/-- How a transfer of the engine ends on the bus (R440): every byte done with the bytes read, the address not acknowledged
(`second`: the one before the read bytes), or a written byte not acknowledged after `k` good ones. -/
inductive XEnd
  | done (data : List Byte)
  | addrNack (second : Bool)
  | byteNack (k : Nat)
  deriving DecidableEq, Repr

/-- How a gang message leaves the bus (R449): every byte acknowledged, the address not, or byte `k` of the message not. -/
inductive GangEnd
  | delivered
  | addrNack
  | byteNack (k : Nat)
  deriving DecidableEq, Repr

/-- How a received message fares before its contents count (R448): whole, too short, too long, or with a wrong CRC. -/
inductive RxMsg
  | whole | short | long | badCrc
  deriving DecidableEq, Repr

/-- The payload of a received HELLO (R450). -/
structure Hello where
  snd : Fin 16
  st : Nat
  leader : Bool
  dup : Bool
  tdiss : Bool
  cdiss : Bool
  sleep : Bool
  frozen : Bool
  lgid : Fin 16
  lvalid : Bool
  cword : BitVec 32
  serial : BitVec 64
  dser : BitVec 32
  roster : BitVec 16
  deriving DecidableEq, Repr

/-- Gang states, coded as `GANG.STAT.STATE` (R457). -/
inductive GangSt
  | alone | joining | concord | dissent
  deriving DecidableEq, Repr

/-- A Coxaith message that waits for the bus (R447): its TYPE, destination GID, the bytes after the address, and lost
arbitrations. -/
structure GangMsg where
  typ : Nat
  dst : Nat
  bytes : List Byte
  tries : Nat
  deriving DecidableEq, Repr

/-- What a member knows of one GID (R453, R454, R458): the low half of the serial it recorded, HELLO periods since its last
HELLO (none heard, or removed after 3), periods of exclusion left, and its last HELLO's state DISSENT. -/
structure Peer where
  serial : BitVec 32
  heard : Option Nat
  excl : Nat
  dissent : Bool
  deriving DecidableEq, Repr

/-- The gang engine (R445 to R473). -/
structure Gang where
  st : GangSt
  gid : BitVec 4
  backoff : Bool
  leader : Option Nat
  peers : Vector Peer 16
  /-- The leader's roster as last received (R453), and whether a leader HELLO came since the leader last changed. -/
  heardRoster : BitVec 16
  leaderHello : Bool
  /-- HELLO periods since the leader's last HELLO (R453). -/
  leaderMiss : Nat
  leaderFrozen : Bool
  lcword : BitVec 32
  cword : BitVec 32
  dup : Bool
  tdiss : Bool
  cdiss : Bool
  /-- SOLST; the commit instant in ns of the sample almanac; the V-cycle of the commit (R464 to R469). -/
  solst : Nat
  solC : Nat
  solAt : Nat
  /-- Messages that wait, first out in front; the one on the bus (R449). -/
  outbox : List GangMsg
  cur : Option GangMsg
  /-- The latest EPOCH capture in ns and its V-cycle (R462, R463). -/
  capture : Option (Nat × Nat)
  /-- An EPGO waits (R461): the V-cycle of its write. -/
  epgo : Option Nat
  epLow : Bool
  rlyBusy : Bool
  deriving DecidableEq, Repr

/-- A mailbox (R476): the message held, header and data words; the last sender; accepted messages modulo 16. -/
structure Box where
  msg : Option (Word × List Word)
  lastSnd : Nat
  count : BitVec 4
  deriving DecidableEq, Repr

/-- A command the firmware has taken (R490): its sender ID and words. -/
structure FwCmd where
  sender : Nat
  words : List Word
  deriving DecidableEq, Repr

/-- The firmware (R490 to R499): the command in progress, handed to the store or not; a reply that waits, with its mailbox;
CORE_SLEEP owes its stop; the V-cycle of the last CORE on-sequence; the six setting words of each ordinary clock. -/
structure Firmware where
  cmd : Option FwCmd
  handed : Bool
  reply : Option (Nat × List Word)
  sleep : Bool
  upAt : Nat
  clocks : Vector (Vector Word 6) 4
  deriving DecidableEq, Repr

/-- How a copy of a store region stands (R543): erased, passing, valid header but wrong CRC, or any other damage. -/
inductive CopySt
  | erased | good | badCrc | broken
  deriving DecidableEq, Repr

/-- One copy of a region: its state, SEQ and contents. -/
structure Copy (α : Type) where
  st : CopySt
  seq : Nat
  data : α
  deriving DecidableEq, Repr

/-- The body of an image (R542): the sections present. -/
structure Body where
  fields : Option (List (Nat × Word))
  prog : Option (List (Nat × BitVec 32))
  clocks : Option (List Word)
  deriving DecidableEq, Repr

/-- The contents of the key region: for each slot the key ID and the 16 key words. -/
abbrev KeySlots := List (Option (Nat × List Word))

/-- A write the store controller carries out (R546). -/
inductive StoreJob
  | save (seq : Nat) (boot : List Word) (body : Body)
  | confirm
  | erase
  | key (slots : KeySlots)
  deriving DecidableEq, Repr

/-- The configuration store (R541 to R546): copies A and B of each region, the image in force, the running write. -/
structure Nvs where
  boot : Vector (Copy (List Word)) 2
  body : Vector (Copy Body) 2
  factory : Vector (Copy FactoryTrim) 2
  keys : Vector (Copy KeySlots) 2
  /-- The boot record and the body that the controller holds in VIGIL, and the SEQ of the boot record in force. -/
  bootIn : Option (List Word)
  bootSeq : Nat
  image : Option Body
  /-- The load has completed (R545), and the factory trim record that it put in force (R225, R227). -/
  loaded : Bool
  trims : Option FactoryTrim
  job : Option StoreJob
  deriving DecidableEq, Repr

/-- The key store (R547 to R552): the volatile copies, the KDATA staging of host SPI, host TWI0 and the core, a zeroize in
progress, and whether the WOO fields KLOCK and SCANLOCK have been written (R110). -/
structure KeyStore where
  slots : KeySlots
  kdata : Vector (Cells Word) 3
  zeroizing : Bool
  klockDone : Bool
  scanDone : Bool
  deriving DecidableEq, Repr

/-- The proof controller (R553 to R557): the slices of the run and those still to run by bit, the one in progress, a failure
recorded in this run, and the measured conditions. -/
structure ProofRun where
  mask : Nat
  todo : Nat
  cur : Nat
  active : Bool
  quick : Bool
  failed : Bool
  vddcOk : Bool
  tOk : Bool
  deriving DecidableEq, Repr

/-- How a proof slice ends by itself (R555): it passes, or fails with a DETAIL code. -/
inductive SliceResult
  | pass
  | fail (code : BitVec 12)
  deriving DecidableEq, Repr

/-- The instructions of the test port (R559). -/
inductive TapIr
  | bypass | idcode | sample | extest | priv
  deriving DecidableEq, Repr

/-- The test port (R559 to R563): the current instruction, the boundary update register, and whether the pads follow it. -/
structure Tap where
  ir : TapIr
  boundary : BitVec 174
  pads : Bool
  deriving DecidableEq, Repr

/-- A remote-access datagram addressed to the sentinel's own IPv4 address at port `IPSVC.RAPORT` (R416): where it comes
from, the payload words before the ICV, and the ICV. -/
structure RaRequest where
  srcMac : BitVec 48
  srcIp : BitVec 32
  srcPort : Word
  body : List Word
  icv : List Word
  deriving DecidableEq, Repr

/-- What a block does to a register in the cycle of its island in which a party writes it (R114): the W1C flags it sets, the
W1S bits it clears, and the value it gives the RW and RWL fields. -/
structure Tie where
  sets : Word
  clears : Word
  value : Option Word
  deriving DecidableEq, Repr

/-- The block does nothing in that cycle. -/
def Tie.none : Tie := { sets := 0, clears := 0, value := Option.none }

/-- The messages an ordinary clock sends when an interval runs out (R405, R497). -/
inductive PtpTimer
  | announce | sync | delayReq
  deriving DecidableEq, Repr

end Sys2Proof.Machine
end

