-- ==== Sys2Proof/Syntax.lean ====
section
/-!
DEFINITION. The commands of the sentinel: one constructor for each row of spec/opcode_table.json, with its operands. A
write row names the party that writes and, where the rule leaves it open, the word; a row for an outside event carries
what the outside brings. An operand with a default says what else happens in the same moment (R114, R165, R256, R301, R370)
or which edge it is (R176); without it nothing else happens.
-/

namespace Sys2Proof

open Sys2Proof.Machine

/-- The commands. -/
inductive Instr
  /-- POWER_ON_RESET (R30) -/
  | powerOnReset
  /-- UVLO_STOP (R31) -/
  | uvloStop
  /-- VIN_LOW (R32) -/
  | vinLow (mv : Nat)
  /-- VIN_WARNING_RELEASE (R32) -/
  | vinWarningRelease (mv : Nat)
  /-- VINMON_UPDATE (R33) -/
  | vinmonUpdate (v : Word)
  /-- BROWN_OUT (R35) -/
  | brownOut (vaux : Bool)
  /-- BUCK_RESTART (R35) -/
  | buckRestart
  /-- BUCK_GRID_ENTRY (R37) -/
  | buckGridEntry
  /-- VIO_OUT_OF_BAND (R39) -/
  | vioOutOfBand
  /-- VIO_IN_BAND (R39) -/
  | vioInBand (v33 : Bool)
  /-- VIGIL_UP (R56) -/
  | vigilUp (straps : BitVec 4) (addr0 : Bool)
  /-- BOOT_RECORD_LOADED (R56) -/
  | bootRecordLoaded
  /-- STORE_LOAD_COMPLETE (R545) -/
  | storeLoadComplete
  /-- PWR_REQ_WRITE (R45) -/
  | pwrReqWrite (p : Party) (v : Word)
  /-- POWER_SEQUENCE_START (R44) -/
  | powerSequenceStart
  /-- ON_SEQUENCE_COMPLETE (R49) -/
  | onSequenceComplete
  /-- OFF_SEQUENCE_COMPLETE (R52) -/
  | offSequenceComplete
  /-- CORE_FORCED_STOP (R50) -/
  | coreForcedStop
  /-- WAKE_N (R46) -/
  | wakeN
  /-- PIN_RESET (R60) -/
  | pinReset
  /-- COMMAND_RESET (R61) -/
  | commandReset (p : Party)
  /-- VIN_OVERVOLTAGE_STOP (R576) -/
  | vinOvervoltageStop
  /-- VIN_OVERVOLTAGE_RESTART (R576) -/
  | vinOvervoltageRestart
  /-- BLOCK_RESET (R100) -/
  | blockReset (p : Party) (pg : BitVec 8)
  /-- BLOCK_ENABLE_WRITE (R99) -/
  | blockEnableWrite (p : Party) (pg : BitVec 8) (on : Bool)
  /-- BLOCK_STOP_COMPLETE (R99) -/
  | blockStopComplete (pg : BitVec 8)
  /-- REGISTER_WRITE (R6) -/
  | registerWrite (a : Word) (ws : List (Party × Word)) (t : Tie := Tie.none)
  /-- PAGE_LOCK (R108) -/
  | pageLock (p : Party) (pg : BitVec 8)
  /-- IFORCE_WRITE (R96) -/
  | iforceWrite (p : Party) (pg : BitVec 8) (v : Word)
  /-- KEY_READ (R104) -/
  | keyRead (p : Party) (a : Word)
  /-- STAGING_WRITE (R105) -/
  | stagingWrite (p : Party) (a : Word) (v : Word)
  /-- WIDE_GROUP_COMMIT (R105) -/
  | wideGroupCommit (a : Word) (ws : List (Party × Word))
  /-- SYNTH_CAL_COMPLETE (R76) -/
  | synthCalComplete
  /-- SYNTH_LOCK (R72) -/
  | synthLock
  /-- SETTLED_RISE (R72) -/
  | settledRise
  /-- REFERENCE_LOST (R91) -/
  | referenceLost
  /-- REFERENCE_BACK (R91) -/
  | referenceBack
  /-- CRYSTAL_LOST (R91) -/
  | crystalLost
  /-- NCLK_LOST (R91) -/
  | nclkLost
  /-- NCLK_BACK (R91) -/
  | nclkBack
  /-- S_LOOP_UNLOCK (R91) -/
  | sLoopUnlock
  /-- S_LOOP_LOCK (R80) -/
  | sLoopLock
  /-- TDEAD (R91) -/
  | tdead
  /-- VCAL_UPDATE (R84) -/
  | vcalUpdate (v : Word)
  /-- VTIME_COMMIT (R86) -/
  | vtimeCommit (p : Party) (v : Word)
  /-- XOK (R70) -/
  | xok
  /-- SPI_WRITE_FRAME (R131) -/
  | spiWriteFrame (mode3 : Bool) (ws : List Word) (drains : List Nat) (extra : Bool)
  /-- SPI_READ_FRAME (R126) -/
  | spiReadFrame (mode3 : Bool) (ws : List Word) (late : Option Nat) (extra : Bool)
  /-- WRITE_QUEUE_APPLY (R132) -/
  | writeQueueApply
  /-- TWI0_WRITE_TRANSFER (R146) -/
  | twi0WriteTransfer (addr : BitVec 7) (bytes : List Byte)
  /-- TWI0_READ_TRANSFER (R147) -/
  | twi0ReadTransfer (addr : BitVec 7) (n : Nat) (half : Bool)
  /-- TWI_BUS_FREE (R427) -/
  | twiBusFree (k : Fin 2) (e : GangEnd)
  /-- TWI_SCL_TIMEOUT (R432) -/
  | twiSclTimeout (k : Fin 2) (bytes : Nat)
  /-- TWI_SDA_TIMEOUT (R432) -/
  | twiSdaTimeout (k : Fin 2) (bytes : Nat) (high : Bool)
  /-- TWI1_XFER_GO (R437) -/
  | twi1XferGo (p : Party) (v : Word)
  /-- TWI1_CONTROLLER_START (R434) -/
  | twi1ControllerStart
  /-- ARBLOST (R436) -/
  | arblost (bytes : Nat)
  /-- XDONE (R440) -/
  | xdone (e : XEnd)
  /-- ALM_TIME_COMMIT (R158) -/
  | almTimeCommit (p : Party) (n : Fin 4) (v : Word)
  /-- ALM_STEP_COMMIT (R158) -/
  | almStepCommit (p : Party) (n : Fin 4) (v : Word)
  /-- ALM_SLEW_COMMIT (R159) -/
  | almSlewCommit (p : Party) (n : Fin 4) (v : Word)
  /-- ALM_SLEW_END (R159) -/
  | almSlewEnd (n : Fin 4)
  /-- ALM_ADD_COMMIT (R157) -/
  | almAddCommit (p : Party) (n : Fin 4) (v : Word)
  /-- SECOND_TICK (R166) -/
  | secondTick (n : Fin 4)
  /-- MICROSECOND_TICK (R165) -/
  | microsecondTick (slaves : BitVec 6 := 0)
  /-- ALM_BIND_WRITE (R167) -/
  | almBindWrite (p : Party) (n : Fin 4) (v : Word)
  /-- ALM_TARGET_COMMIT (R182) -/
  | almTargetCommit (p : Party) (n : Fin 4) (v : Word)
  /-- ALM_TARGET_MATCH (R182) -/
  | almTargetMatch (n : Fin 4)
  /-- DISARM (R183) -/
  | disarm (p : Party) (n : Fin 4)
  /-- SERVO_GOOD_WRITE (R168) -/
  | servoGoodWrite (p : Party) (n : Fin 4) (v : Word)
  /-- SERVOTO (R168) -/
  | servoto (n : Fin 4)
  /-- RUNG_QUALIFIED (R169) -/
  | rungQualified (n : Fin 4) (pps : Bool)
  /-- SWITCH_COMMIT_POINT (R170) -/
  | switchCommitPoint (n : Fin 4)
  /-- HOLDOVER_EXPIRED (R168) -/
  | holdoverExpired (n : Fin 4)
  /-- PPS_IN_EDGE (R172) -/
  | ppsInEdge (periods : Vector Nat 4) (rising : Bool := true)
  /-- PPS_RUNG_LOST (R168) -/
  | ppsRungLost (n : Fin 4)
  /-- PPS_OUT_END (R177) -/
  | ppsOutEnd
  /-- PPSCFG_WRITE (R177) -/
  | ppscfgWrite (p : Party) (v : Word)
  /-- ROLES_WRITE (R164) -/
  | rolesWrite (p : Party) (v : Word)
  /-- CIVIL_COMMIT (R187) -/
  | civilCommit (p : Party) (v : Word)
  /-- LEAP_WRITE (R186) -/
  | leapWrite (p : Party) (v : Word)
  /-- LEAPDONE (R186) -/
  | leapdone
  /-- TSU_CAPTURE (R179) -/
  | tsuCapture (n : Fin 8) (rising : Bool)
  /-- TSU_CAP_KEY_READ (R180) -/
  | tsuCapKeyRead (p : Party) (n : Fin 8)
  /-- ORIENT_COMMIT (R194) -/
  | orientCommit (p : Party) (v : Word)
  /-- ARANGE_WRITE (R200) -/
  | arangeWrite (p : Party) (v : Word)
  /-- GRANGE_WRITE (R208) -/
  | grangeWrite (p : Party) (v : Word)
  /-- CHEN_WRITE (R210) -/
  | chenWrite (p : Party) (v : Word)
  /-- XBCFG_WRITE (R223) -/
  | xbcfgWrite (p : Party) (v : Word)
  /-- SELF_TEST_START (R212) -/
  | selfTestStart (p : Party) (v : Word)
  /-- STDONE (R214) -/
  | stdone
  /-- GDRV (R209) -/
  | gdrv
  /-- GYRO_DRIVE_UNLOCK (R209) -/
  | gyroDriveUnlock
  /-- XBLOST (R221) -/
  | xblost
  /-- XBBACK (R221) -/
  | xbback
  /-- XBSTUCK (R222) -/
  | xbstuck (k : Fin 2) (held : Bool)
  /-- XB_FREQ_MEASURE (R219) -/
  | xbFreqMeasure (khz : Word)
  /-- OUTPUT_INSTANT (R235) -/
  | outputInstant (x : InstantIn)
  /-- SAMPLE_VALID_IN_E (R262) -/
  | sampleValidInE
  /-- ODR_WRITE (R232) -/
  | odrWrite (p : Party) (v : Word)
  /-- RESP_WRITE (R237) -/
  | respWrite (p : Party) (v : Word)
  /-- GRIDOFS_COMMIT (R249) -/
  | gridofsCommit (p : Party) (v : Word)
  /-- RESYNC (R254) -/
  | resync (p : Party) (v : Word)
  /-- GRID_MEASUREMENT (R250) -/
  | gridMeasurement (k : Nat)
  /-- EPOCH (R256) -/
  | epoch (since : Nat := 4)
  /-- THRESHOLD_COMMIT (R268) -/
  | thresholdCommit (p : Party) (n : Fin 8) (v : Word)
  /-- FORCE (R284) -/
  | force (p : Party) (v : Word)
  /-- RELEASE (R285) -/
  | release (p : Party)
  /-- AUTOREL (R287) -/
  | autorel
  /-- HALT (R312) -/
  | halt (n : Fin 8)
  /-- WAIT_EV (R305) -/
  | waitEv (n : Fin 8)
  /-- WAIT_STATE (R305) -/
  | waitState (n : Fin 8)
  /-- WAIT_TIMER (R305) -/
  | waitTimer (n : Fin 8)
  /-- WAIT_SAMPLE (R305) -/
  | waitSample (n : Fin 8)
  /-- WAIT_COUNT (R305) -/
  | waitCount (n : Fin 8)
  /-- WAIT_COMPLETE (R305) -/
  | waitComplete (n : Fin 8)
  /-- WAIT_TIMEOUT (R306) -/
  | waitTimeout (n : Fin 8)
  /-- NOP (R307) -/
  | nop (n : Fin 8)
  /-- PULSE (R307) -/
  | pulse (n : Fin 8)
  /-- SET (R307) -/
  | set (n : Fin 8)
  /-- CLR (R307) -/
  | clr (n : Fin 8)
  /-- TGL (R307) -/
  | tgl (n : Fin 8)
  /-- ACT_REG (R315) -/
  | actReg (n : Fin 8)
  /-- ACT_MBX (R316) -/
  | actMbx (n : Fin 8)
  /-- KICK_START (R307) -/
  | kickStart (n : Fin 8) (page : Bool) (kicks : BitVec 8 := 0)
  /-- KICK_STOP (R307) -/
  | kickStop (n : Fin 8) (page : Bool) (kicks : BitVec 8 := 0)
  /-- JMP (R308) -/
  | jmp (n : Fin 8)
  /-- BRANCH_EV (R308) -/
  | branchEv (n : Fin 8)
  /-- BRANCH_STATE (R308) -/
  | branchState (n : Fin 8)
  /-- BRANCH_CNT (R308) -/
  | branchCnt (n : Fin 8)
  /-- BRANCH_TIMER (R308) -/
  | branchTimer (n : Fin 8)
  /-- BRANCH_SAMPLE (R308) -/
  | branchSample (n : Fin 8)
  /-- INC (R309) -/
  | inc (n : Fin 8)
  /-- DEC (R309) -/
  | dec (n : Fin 8)
  /-- ADD (R309) -/
  | add (n : Fin 8)
  /-- BIND (R310) -/
  | bind (n : Fin 8)
  /-- LDI (R311) -/
  | ldi (n : Fin 8)
  /-- LDT0 (R313) -/
  | ldt0 (n : Fin 8)
  /-- LDT1 (R313) -/
  | ldt1 (n : Fin 8)
  /-- LDR (R315) -/
  | ldr (n : Fin 8)
  /-- LDS (R311) -/
  | lds (n : Fin 8)
  /-- ILLEGAL_INSTRUCTION (R323) -/
  | illegalInstruction (n : Fin 8)
  /-- ACCESS_COMPLETE (R315) -/
  | accessComplete (n : Fin 8) (rival : Option Party)
  /-- INTERVAL_TIMER_EXPIRE (R313) -/
  | intervalTimerExpire (n : Fin 8) (sel : Bool)
  /-- ETCH_CMD_START (R297) -/
  | etchCmdStart (p : Party) (n : Fin 8)
  /-- ETCH_CMD_STOP (R299) -/
  | etchCmdStop (p : Party) (n : Fin 8)
  /-- ETCH_GO_START (R297) -/
  | etchGoStart (p : Party) (m : BitVec 8)
  /-- ETCH_GO_STOP (R299) -/
  | etchGoStop (p : Party) (m : BitVec 8)
  /-- AUTORUN (R300) -/
  | autorun
  /-- EPROG_ADDR_WRITE (R319) -/
  | eprogAddrWrite (p : Party) (v : Word)
  /-- EPROG_STREAM_WRITE (R320) -/
  | eprogStreamWrite (p : Party) (v : Word)
  /-- EPROG_STREAM_READ (R319) -/
  | eprogStreamRead (p : Party)
  /-- BUF_ENABLE (R341) -/
  | bufEnable (p : Party) (v : Word)
  /-- BUF_ARM (R345) -/
  | bufArm (p : Party) (v : Word)
  /-- BUF_TRIG (R346) -/
  | bufTrig (p : Party) (v : Word)
  /-- ADATA_READ (R349) -/
  | adataRead (p : Party)
  /-- ACFG_FLUSH (R349) -/
  | acfgFlush (p : Party) (v : Word)
  /-- BCFG_FLUSH (R351) -/
  | bcfgFlush (p : Party) (v : Word)
  /-- SINK_WRITE (R351) -/
  | sinkWrite (p : Party) (v : Word)
  /-- STRM_ENABLE (R357) -/
  | strmEnable (p : Party) (v : Word)
  /-- STRM_FRAME (R355) -/
  | strmFrame
  /-- STREAM_DATAGRAM (R359) -/
  | streamDatagram
  /-- DGTMO (R359) -/
  | dgtmo
  /-- TIMER_COUNT (R370) -/
  | timerCount (n : Fin 6)
  /-- TIMER_SLAVE_RESET (R374) -/
  | timerSlaveReset (n : Fin 6)
  /-- TIMER_SLAVE_GATE (R374) -/
  | timerSlaveGate (n : Fin 6)
  /-- TIMER_SLAVE_TRIGGER (R374) -/
  | timerSlaveTrigger (n : Fin 6)
  /-- TIMER_SLAVE_CLOCK (R374) -/
  | timerSlaveClock (n : Fin 6)
  /-- TIMER_CAPTURE (R382) -/
  | timerCapture (n : Fin 6) (x : Fin 2) (rising : Bool)
  /-- TIMER_CAP_KEY_READ (R383) -/
  | timerCapKeyRead (p : Party) (n : Fin 6) (x : Fin 2)
  /-- TIMER_ENABLE (R371) -/
  | timerEnable (p : Party) (n : Fin 6)
  /-- TIMER_STOP (R372) -/
  | timerStop (p : Party) (n : Fin 6)
  /-- CNT_COMMIT (R386) -/
  | cntCommit (p : Party) (n : Fin 6) (v : Word) (slaves : BitVec 6 := 0) (tick : Bool := false)
  /-- CH_COMMIT (R379) -/
  | chCommit (p : Party) (n : Fin 6) (x : Fin 2) (v : Word)
  /-- TOP_COMMIT (R381) -/
  | topCommit (p : Party) (n : Fin 6) (v : Word)
  /-- FRAME_RECEIVE (R392) -/
  | frameReceive (n : Fin 2) (f : Frame)
  /-- FRAME_DEPART (R398) -/
  | frameDepart (n : Fin 2)
  /-- LINK_POLL (R390) -/
  | linkPoll (n : Fin 2) (up : Bool)
  /-- MDIO_COMMAND (R390) -/
  | mdioCommand (p : Party) (v : Word)
  /-- MDIODONE (R390) -/
  | mdiodone (data : Word)
  /-- LEARN_AGE_OUT (R393) -/
  | learnAgeOut (mac : BitVec 48)
  /-- HOLD_TIMEOUT (R410) -/
  | holdTimeout (n : Fin 2) (alarmQ : Bool)
  /-- PTP_LIMIT_WINDOW (R408) -/
  | ptpLimitWindow
  /-- ARP_REFRESH (R412) -/
  | arpRefresh
  /-- ARPFAIL (R412) -/
  | arpfail
  /-- ALARM_CONFIG_COMMIT (R421) -/
  | alarmConfigCommit (p : Party) (a : Word) (v : Word)
  /-- REMOTE_ACCESS_REQUEST (R416) -/
  | remoteAccessRequest (q : RaRequest)
  /-- PDELAY_EXCHANGE (R404) -/
  | pdelayExchange (n : Fin 2) (dly : BitVec 32)
  /-- PTP_MESSAGE_INTERVAL (R406) -/
  | ptpMessageInterval (m : Fin 4) (k : PtpTimer)
  /-- GANG_BACKOFF_END (R451) -/
  | gangBackoffEnd (acks : BitVec 16)
  /-- HELLO_PERIOD (R452) -/
  | helloPeriod (acks : BitVec 16)
  /-- HELLO (R453) -/
  | hello (rx : RxMsg) (m : Hello)
  /-- TCHK (R463) -/
  | tchk (rx : RxMsg) (sec : BitVec 48) (ns : BitVec 32)
  /-- PROPOSE (R465) -/
  | propose (rx : RxMsg) (snd : Fin 16) (id : Byte) (sec : BitVec 48) (ns : BitVec 32)
  /-- VETO (R467) -/
  | veto (rx : RxMsg) (id : Byte)
  /-- WAKE (R469) -/
  | wake (rx : RxMsg) (id : Byte)
  /-- RELAY (R472) -/
  | relay (rx : RxMsg) (snd : Fin 16) (mb : Fin 8) (data : List Word)
  /-- MSGLOST (R449) -/
  | msglost
  /-- CWORD_RECOMPUTE (R456) -/
  | cwordRecompute
  /-- EPGO (R461) -/
  | epgo (p : Party) (v : Word)
  /-- EPDRV (R461) -/
  | epdrv
  /-- EPOCH_RELEASE (R461) -/
  | epochRelease
  /-- SOLREQ (R464) -/
  | solreq (p : Party) (v : Word)
  /-- SOLCOMMIT (R468) -/
  | solcommit
  /-- GANG_WAKE (R466) -/
  | gangWake (p : Party) (v : Word)
  /-- RLYCTL_GO (R471) -/
  | rlyctlGo (p : Party) (v : Word)
  /-- RLYDONE (R473) -/
  | rlydone (e : GangEnd)
  /-- MBX_COMMIT (R479) -/
  | mbxCommit (n : Fin 8) (ws : List (Party × Word))
  /-- MBX_RELEASE (R484) -/
  | mbxRelease (ws : List (Party × Word))
  /-- RCV_WRITE (R477) -/
  | rcvWrite (p : Party) (v : Word)
  /-- COMMAND_TAKE (R490) -/
  | commandTake
  /-- PING (R494) -/
  | ping
  /-- NVS_SAVE (R495) -/
  | nvsSave
  /-- NVS_CONFIRM (R494) -/
  | nvsConfirm
  /-- NVS_ERASE (R495) -/
  | nvsErase
  /-- CORE_SLEEP (R496) -/
  | coreSleep
  /-- PTP_SET_CLOCK (R497) -/
  | ptpSetClock
  /-- PTP_SET_INTERVALS (R497) -/
  | ptpSetIntervals
  /-- PTP_STATUS (R494) -/
  | ptpStatus
  /-- PTP_PARENT (R494) -/
  | ptpParent
  /-- REPLY_POST (R492) -/
  | replyPost
  /-- RPLOST (R492) -/
  | rplost
  /-- NVS_WRITE_DONE (R546) -/
  | nvsWriteDone (fail : Option Nat)
  /-- EOI (R508) -/
  | eoi (p : Party) (k : Fin 2)
  /-- IRQ_PULSE_END (R508) -/
  | irqPulseEnd (k : Fin 2)
  /-- IRQ_CFG_WRITE (R508) -/
  | irqCfgWrite (p : Party) (v : Word)
  /-- POP (R514) -/
  | pop (p : Party) (v : Word)
  /-- NOTE (R510) -/
  | note (p : Party) (v : Word)
  /-- PORT_MASKED_WRITE (R530) -/
  | portMaskedWrite (port : Fin 3) (which : Fin 3) (ws : List (Party × Word))
  /-- OUTSET (R531) -/
  | outset (port : Fin 3) (ws : List (Party × Word))
  /-- OUTCLR (R531) -/
  | outclr (port : Fin 3) (ws : List (Party × Word))
  /-- OUTTGL (R531) -/
  | outtgl (port : Fin 3) (ws : List (Party × Word))
  /-- PIN_LINE_EDGE (R536) -/
  | pinLineEdge (n : Fin 8) (lvl : Bool) (vpath : Bool)
  /-- DEBOUNCE_END (R535) -/
  | debounceEnd (n : Fin 8) (lvl : Bool)
  /-- LCFG_WRITE (R534) -/
  | lcfgWrite (p : Party) (n : Fin 8) (v : Word)
  /-- KEY_WRITE (R548) -/
  | keyWrite (p : Party)
  /-- KEY_ERASE (R548) -/
  | keyErase (p : Party)
  /-- ZEROIZE (R551) -/
  | zeroize (p : Party)
  /-- KDONE (R548) -/
  | kdone (fail : Option Nat)
  /-- ZEROIZE_COMPLETE (R551) -/
  | zeroizeComplete
  /-- QUICK_RUN_END (R556) -/
  | quickRunEnd
  /-- PROOF_GO (R557) -/
  | proofGo (p : Party) (v : Word)
  /-- SLICE_END (R555) -/
  | sliceEnd (r : SliceResult)
  /-- OVERRUN (R554) -/
  | overrun
  /-- PROOF_CONDITION_MEASURE (R554) -/
  | proofConditionMeasure (mv : Word) (ppm : Int)
  /-- TAP_RESET (R559) -/
  | tapReset
  /-- EXTEST (R562) -/
  | extest
  /-- IDCODE (R560) -/
  | idcode
  /-- SAMPLE_PRELOAD (R559) -/
  | samplePreload (v : BitVec 174)
  /-- BYPASS (R559) -/
  | bypass
  /-- PRIVATE_INSTRUCTION (R563) -/
  | privateInstruction
  /-- BOUNDARY_UPDATE (R562) -/
  | boundaryUpdate (v : BitVec 174)
  deriving DecidableEq, Repr

end Sys2Proof
end

