-- ==== Sys2Proof/Decode.lean ====
section
/-!
DEFINITION. Commands from words. spec/opcode_table.json gives no row any bits: the sentinel takes its commands from its
ports, its pins and its own events, not from words of one encoding, so no word spells one. (The words of the Etchers'
programs are decoded in Machine/Operands.lean.)
-/

namespace Sys2Proof

/-- The command that a word of the table's encoding spells: none, because the table gives no row bits. -/
def decodeTableWord (_nbits _w : Nat) : Option Instr := none

end Sys2Proof
end

