-- ==== Sys2Proof/Machine/Crypto.lean ====
section
/-!
DEFINITION. HMAC-SHA-256 truncated to 128 bits, which authenticates remote access (R416, R417, R547). The spec names the
algorithm; its steps and constants are those of FIPS 180-4 and RFC 2104 (PRESUMED, log entry 8).
-/

namespace Sys2Proof.Machine

abbrev W32 := BitVec 32

/-- The round constants of SHA-256, in four pieces. -/
def shaK1 : List W32 :=
  [0x428A2F98, 0x71374491, 0xB5C0FBCF, 0xE9B5DBA5, 0x3956C25B, 0x59F111F1, 0x923F82A4, 0xAB1C5ED5,
   0xD807AA98, 0x12835B01, 0x243185BE, 0x550C7DC3, 0x72BE5D74, 0x80DEB1FE, 0x9BDC06A7, 0xC19BF174]
def shaK2 : List W32 :=
  [0xE49B69C1, 0xEFBE4786, 0x0FC19DC6, 0x240CA1CC, 0x2DE92C6F, 0x4A7484AA, 0x5CB0A9DC, 0x76F988DA,
   0x983E5152, 0xA831C66D, 0xB00327C8, 0xBF597FC7, 0xC6E00BF3, 0xD5A79147, 0x06CA6351, 0x14292967]
def shaK3 : List W32 :=
  [0x27B70A85, 0x2E1B2138, 0x4D2C6DFC, 0x53380D13, 0x650A7354, 0x766A0ABB, 0x81C2C92E, 0x92722C85,
   0xA2BFE8A1, 0xA81A664B, 0xC24B8B70, 0xC76C51A3, 0xD192E819, 0xD6990624, 0xF40E3585, 0x106AA070]
def shaK4 : List W32 :=
  [0x19A4C116, 0x1E376C08, 0x2748774C, 0x34B0BCB5, 0x391C0CB3, 0x4ED8AA4A, 0x5B9CCA4F, 0x682E6FF3,
   0x748F82EE, 0x78A5636F, 0x84C87814, 0x8CC70208, 0x90BEFFFA, 0xA4506CEB, 0xBEF9A3F7, 0xC67178F2]
def shaK : List W32 := shaK1 ++ shaK2 ++ shaK3 ++ shaK4

/-- The eight working variables. -/
structure Sha where
  a : W32
  b : W32
  c : W32
  d : W32
  e : W32
  f : W32
  g : W32
  h : W32
  deriving DecidableEq, Repr

/-- The initial hash value. -/
def Sha.init : Sha :=
  { a := 0x6A09E667, b := 0xBB67AE85, c := 0x3C6EF372, d := 0xA54FF53A
    e := 0x510E527F, f := 0x9B05688C, g := 0x1F83D9AB, h := 0x5BE0CD19 }

/-- One round with its constant and schedule word. -/
def Sha.round (s : Sha) (k w : W32) : Sha :=
  let s1 := s.e.rotateRight 6 ^^^ s.e.rotateRight 11 ^^^ s.e.rotateRight 25
  let ch := (s.e &&& s.f) ^^^ (~~~s.e &&& s.g)
  let t1 := s.h + s1 + ch + k + w
  let s0 := s.a.rotateRight 2 ^^^ s.a.rotateRight 13 ^^^ s.a.rotateRight 22
  let mj := (s.a &&& s.b) ^^^ (s.a &&& s.c) ^^^ (s.b &&& s.c)
  { a := t1 + (s0 + mj), b := s.a, c := s.b, d := s.c, e := s.d + t1, f := s.e, g := s.f, h := s.g }

/-- The next schedule word from the last sixteen. -/
def shaNext (w : List W32) : W32 :=
  let x := fun i => w.getD i 0
  let s0 := (x 1).rotateRight 7 ^^^ (x 1).rotateRight 18 ^^^ (x 1) >>> 3
  let s1 := (x 14).rotateRight 17 ^^^ (x 14).rotateRight 19 ^^^ (x 14) >>> 10
  s1 + x 9 + s0 + x 0

/-- The rounds of a block over the remaining constants; `w` holds the present schedule word and the fifteen after it. -/
def shaRounds : List W32 → List W32 → Sha → Sha
  | [], _, s => s
  | k :: ks, w, s => shaRounds ks (w.drop 1 ++ [shaNext w]) (s.round k (w.getD 0 0))

/-- Four bytes as a word, high byte first. -/
def wordOf4 (bs : List Byte) : W32 := bs.getD 0 0 ++ bs.getD 1 0 ++ bs.getD 2 0 ++ bs.getD 3 0

/-- One block of 64 bytes enters the hash. -/
def shaBlock (s : Sha) (bs : List Byte) : Sha :=
  let t := shaRounds shaK ((List.range 16).map fun i => wordOf4 (bs.drop (4 * i))) s
  { a := s.a + t.a, b := s.b + t.b, c := s.c + t.c, d := s.d + t.d
    e := s.e + t.e, f := s.f + t.f, g := s.g + t.g, h := s.h + t.h }

/-- The blocks of a padded message. -/
def shaBlocks : Nat → List Byte → Sha → Sha
  | 0, _, s => s
  | k + 1, bs, s => shaBlocks k (bs.drop 64) (shaBlock s (bs.take 64))

/-- The bytes of a 32-bit word, high byte first. -/
def bytesOf4 (w : W32) : List Byte := [(w >>> 24).setWidth 8, (w >>> 16).setWidth 8, (w >>> 8).setWidth 8, w.setWidth 8]

/-- SHA-256 of a list of bytes. -/
def sha256 (m : List Byte) : List Byte :=
  let len := BitVec.ofNat 64 (8 * m.length)
  let p : List Byte := m ++ (0x80 : Byte) :: List.replicate ((119 - m.length % 64) % 64) 0
    ++ bytesOf4 ((len >>> 32).setWidth 32) ++ bytesOf4 (len.setWidth 32)
  let s := shaBlocks (p.length / 64) p Sha.init
  [s.a, s.b, s.c, s.d, s.e, s.f, s.g, s.h].flatMap bytesOf4

/-- HMAC-SHA-256 under a key of at most 64 bytes. -/
def hmacSha256 (key m : List Byte) : List Byte :=
  let k := key ++ List.replicate (64 - key.length) 0
  sha256 (k.map (· ^^^ 0x5C) ++ sha256 (k.map (· ^^^ 0x36) ++ m))

/-- Words as bytes, high byte first (R134, R548). -/
def bytesOfWords (ws : List Word) : List Byte := ws.flatMap fun (w : Word) => [(w >>> 8).setWidth 8, w.setWidth 8]

/-- Bytes as words, high byte first. -/
def wordsOfBytes : List Byte → List Word
  | a :: b :: t => (a ++ b) :: wordsOfBytes t
  | _ => []

/-- The ICV (R416): the first 128 bits of HMAC-SHA-256 over every earlier byte, as eight words. -/
def icvOf (key msg : List Word) : List Word :=
  (wordsOfBytes (hmacSha256 (bytesOfWords key) (bytesOfWords msg))).take 8

end Sys2Proof.Machine
end

