-- ==== Sys2Proof/Machine/Addr.lean ====
section
/-!
DEFINITION. Names for the register addresses of the page tables (R67, R92, R116, R152 and the other page rules).
-/

namespace Sys2Proof.Machine.R

abbrev IDENT_CTRL : Nat := 0x0002
abbrev IDENT_STAT : Nat := 0x0003
abbrev IDENT_IFLAG : Nat := 0x0004
abbrev IDENT_IEN0 : Nat := 0x0005
abbrev IDENT_IEN1 : Nat := 0x0006
abbrev IDENT_IFORCE : Nat := 0x0007
abbrev IDENT_LOCK : Nat := 0x0008
abbrev IDENT_DEVID : Nat := 0x0010
abbrev IDENT_STEP : Nat := 0x0011
abbrev IDENT_FWVER : Nat := 0x0012
abbrev IDENT_SERIAL0 : Nat := 0x0014
abbrev IDENT_SERIAL1 : Nat := 0x0015
abbrev IDENT_SERIAL2 : Nat := 0x0016
abbrev IDENT_SERIAL3 : Nat := 0x0017
abbrev IDENT_RESET : Nat := 0x0018
abbrev IDENT_LKVADDR : Nat := 0x0019
abbrev IDENT_COLLADDR : Nat := 0x001A
abbrev IDENT_COLLWHO : Nat := 0x001B
abbrev IDENT_SCRATCH : Nat := 0x001C
abbrev PWR_CTRL : Nat := 0x0102
abbrev PWR_STAT : Nat := 0x0103
abbrev PWR_IFLAG : Nat := 0x0104
abbrev PWR_IEN0 : Nat := 0x0105
abbrev PWR_IEN1 : Nat := 0x0106
abbrev PWR_IFORCE : Nat := 0x0107
abbrev PWR_LOCK : Nat := 0x0108
abbrev PWR_REQ : Nat := 0x0110
abbrev PWR_DSTAT : Nat := 0x0111
abbrev PWR_CFG : Nat := 0x0112
abbrev PWR_WAKEEN : Nat := 0x0113
abbrev PWR_WAKEPROF : Nat := 0x0114
abbrev PWR_VINWARN : Nat := 0x0115
abbrev PWR_VINMON : Nat := 0x0116
abbrev PWR_LASTRST : Nat := 0x0117
abbrev PWR_PSTATE : Nat := 0x0118
abbrev CLK_CTRL : Nat := 0x0202
abbrev CLK_STAT : Nat := 0x0203
abbrev CLK_IFLAG : Nat := 0x0204
abbrev CLK_IEN0 : Nat := 0x0205
abbrev CLK_IEN1 : Nat := 0x0206
abbrev CLK_IFORCE : Nat := 0x0207
abbrev CLK_LOCK : Nat := 0x0208
abbrev CLK_CFG : Nat := 0x0210
abbrev CLK_VSRC : Nat := 0x0211
abbrev CLK_VCAL : Nat := 0x0212
abbrev CLK_VTIME_MS : Nat := 0x0214
abbrev CLK_VTIME_SL : Nat := 0x0215
abbrev CLK_VTIME_SH : Nat := 0x0216
abbrev CLK_SOFFS_L : Nat := 0x0218
abbrev CLK_SOFFS_H : Nat := 0x0219
abbrev HOST_CTRL : Nat := 0x0302
abbrev HOST_STAT : Nat := 0x0303
abbrev HOST_IFLAG : Nat := 0x0304
abbrev HOST_IEN0 : Nat := 0x0305
abbrev HOST_IEN1 : Nat := 0x0306
abbrev HOST_IFORCE : Nat := 0x0307
abbrev HOST_LOCK : Nat := 0x0308
abbrev HOST_CFG : Nat := 0x0310
abbrev HOST_QLVL : Nat := 0x0311
abbrev HOST_SEQ : Nat := 0x0312
abbrev HOST_CRCCNT : Nat := 0x0313
abbrev HOST_BECNT : Nat := 0x0314
abbrev HOST_FRMCNT : Nat := 0x0315
abbrev HOST_TWIPTR : Nat := 0x0316
abbrev HOST_ERRADDR : Nat := 0x0317
abbrev HOST_SUM : Nat := 0x0318
abbrev IRQ_CTRL : Nat := 0x0402
abbrev IRQ_STAT : Nat := 0x0403
abbrev IRQ_IFLAG : Nat := 0x0404
abbrev IRQ_IEN0 : Nat := 0x0405
abbrev IRQ_IEN1 : Nat := 0x0406
abbrev IRQ_IFORCE : Nat := 0x0407
abbrev IRQ_LOCK : Nat := 0x0408
abbrev IRQ_CFG : Nat := 0x0410
abbrev IRQ_SUM0 : Nat := 0x0411
abbrev IRQ_SUM1 : Nat := 0x0412
abbrev IRQ_FIRST : Nat := 0x0413
abbrev IRQ_EVEN0 : Nat := 0x0418
abbrev IRQ_EVEN1 : Nat := 0x0419
abbrev IRQ_EVEN2 : Nat := 0x041A
abbrev IRQ_EVEN3 : Nat := 0x041B
abbrev IRQ_EVF0 : Nat := 0x041C
abbrev IRQ_EVF1 : Nat := 0x041D
abbrev IRQ_EVF2 : Nat := 0x041E
abbrev IRQ_EVF3 : Nat := 0x041F
abbrev DIARY_CTRL : Nat := 0x0502
abbrev DIARY_STAT : Nat := 0x0503
abbrev DIARY_IFLAG : Nat := 0x0504
abbrev DIARY_IEN0 : Nat := 0x0505
abbrev DIARY_IEN1 : Nat := 0x0506
abbrev DIARY_IFORCE : Nat := 0x0507
abbrev DIARY_LOCK : Nat := 0x0508
abbrev DIARY_CFG : Nat := 0x0510
abbrev DIARY_SRCEN : Nat := 0x0511
abbrev DIARY_COUNT : Nat := 0x0512
abbrev DIARY_LOST : Nat := 0x0513
abbrev DIARY_WM : Nat := 0x0514
abbrev DIARY_POP : Nat := 0x0515
abbrev DIARY_NOTE : Nat := 0x0516
abbrev DIARY_EVMASK0 : Nat := 0x0518
abbrev DIARY_EVMASK1 : Nat := 0x0519
abbrev DIARY_EVMASK2 : Nat := 0x051A
abbrev DIARY_EVMASK3 : Nat := 0x051B
abbrev DIARY_ENT0 : Nat := 0x0520
abbrev DIARY_ENT1 : Nat := 0x0521
abbrev DIARY_ENT2 : Nat := 0x0522
abbrev DIARY_ENT3 : Nat := 0x0523
abbrev DIARY_ENT4 : Nat := 0x0524
abbrev DIARY_ENT5 : Nat := 0x0525
abbrev DIARY_ENT6 : Nat := 0x0526
abbrev DIARY_ENT7 : Nat := 0x0527
abbrev MBX_CTRL : Nat := 0x0602
abbrev MBX_STAT : Nat := 0x0603
abbrev MBX_IFLAG : Nat := 0x0604
abbrev MBX_IEN0 : Nat := 0x0605
abbrev MBX_IEN1 : Nat := 0x0606
abbrev MBX_IFORCE : Nat := 0x0607
abbrev MBX_LOCK : Nat := 0x0608
abbrev MBX_RCV : Nat := 0x0610
abbrev MBX_REL : Nat := 0x0611
abbrev MBX_CLOSED : Nat := 0x0612
abbrev MBX_RPLOST : Nat := 0x0613
abbrev PROOF_CTRL : Nat := 0x0702
abbrev PROOF_STAT : Nat := 0x0703
abbrev PROOF_IFLAG : Nat := 0x0704
abbrev PROOF_IEN0 : Nat := 0x0705
abbrev PROOF_IEN1 : Nat := 0x0706
abbrev PROOF_IFORCE : Nat := 0x0707
abbrev PROOF_LOCK : Nat := 0x0708
abbrev PROOF_RUN : Nat := 0x0710
abbrev PROOF_QUICK : Nat := 0x0711
abbrev PROOF_RESA : Nat := 0x0712
abbrev PROOF_RESB : Nat := 0x0713
abbrev PROOF_DETAIL : Nat := 0x0714
abbrev PROOF_VDDC : Nat := 0x0715
abbrev PROOF_TPPM : Nat := 0x0716
abbrev KEYS_CTRL : Nat := 0x0802
abbrev KEYS_STAT : Nat := 0x0803
abbrev KEYS_IFLAG : Nat := 0x0804
abbrev KEYS_IEN0 : Nat := 0x0805
abbrev KEYS_IEN1 : Nat := 0x0806
abbrev KEYS_IFORCE : Nat := 0x0807
abbrev KEYS_LOCK : Nat := 0x0808
abbrev KEYS_KSEL : Nat := 0x0810
abbrev KEYS_KID : Nat := 0x0811
abbrev KEYS_KCMD : Nat := 0x0812
abbrev KEYS_KVALID : Nat := 0x0813
abbrev KEYS_KLOCK : Nat := 0x0814
abbrev KEYS_SCANLOCK : Nat := 0x0815
abbrev NVS_CTRL : Nat := 0x0902
abbrev NVS_STAT : Nat := 0x0903
abbrev NVS_IFLAG : Nat := 0x0904
abbrev NVS_IEN0 : Nat := 0x0905
abbrev NVS_IEN1 : Nat := 0x0906
abbrev NVS_IFORCE : Nat := 0x0907
abbrev NVS_LOCK : Nat := 0x0908
abbrev NVS_SEQ_L : Nat := 0x0910
abbrev NVS_SEQ_H : Nat := 0x0911
abbrev NVS_SRC : Nat := 0x0912
abbrev NVS_CRCFAIL : Nat := 0x0913
abbrev AFE_CTRL : Nat := 0x1002
abbrev AFE_STAT : Nat := 0x1003
abbrev AFE_IFLAG : Nat := 0x1004
abbrev AFE_IEN0 : Nat := 0x1005
abbrev AFE_IEN1 : Nat := 0x1006
abbrev AFE_IFORCE : Nat := 0x1007
abbrev AFE_LOCK : Nat := 0x1008
abbrev AFE_ARANGE : Nat := 0x1010
abbrev AFE_BLEND : Nat := 0x1011
abbrev AFE_GRANGE : Nat := 0x1012
abbrev AFE_CHEN : Nat := 0x1013
abbrev AFE_ORIENT : Nat := 0x1014
abbrev AFE_RSTAT : Nat := 0x1015
abbrev AFE_STCTL : Nat := 0x1018
abbrev AFE_STSTAT : Nat := 0x1019
abbrev AFE_STRES_FX : Nat := 0x101A
abbrev AFE_STRES_FY : Nat := 0x101B
abbrev AFE_STRES_FZ : Nat := 0x101C
abbrev AFE_STRES_CX : Nat := 0x101D
abbrev AFE_STRES_CY : Nat := 0x101E
abbrev AFE_STRES_CZ : Nat := 0x101F
abbrev AFE_STRES_GX : Nat := 0x1020
abbrev AFE_STRES_GY : Nat := 0x1021
abbrev AFE_STRES_GZ : Nat := 0x1022
abbrev AFE_XBCFG : Nat := 0x1028
abbrev AFE_XBFREQ : Nat := 0x1029
abbrev AFE_TEMP : Nat := 0x102C
abbrev AFE_UOFS_AX : Nat := 0x1030
abbrev AFE_UOFS_AY : Nat := 0x1031
abbrev AFE_UOFS_AZ : Nat := 0x1032
abbrev AFE_UOFS_GX : Nat := 0x1033
abbrev AFE_UOFS_GY : Nat := 0x1034
abbrev AFE_UOFS_GZ : Nat := 0x1035
abbrev AFE_USENS_AX : Nat := 0x1038
abbrev AFE_USENS_AY : Nat := 0x1039
abbrev AFE_USENS_AZ : Nat := 0x103A
abbrev AFE_USENS_GX : Nat := 0x103B
abbrev AFE_USENS_GY : Nat := 0x103C
abbrev AFE_USENS_GZ : Nat := 0x103D
abbrev DEC_CTRL : Nat := 0x1102
abbrev DEC_STAT : Nat := 0x1103
abbrev DEC_IFLAG : Nat := 0x1104
abbrev DEC_IEN0 : Nat := 0x1105
abbrev DEC_IEN1 : Nat := 0x1106
abbrev DEC_IFORCE : Nat := 0x1107
abbrev DEC_LOCK : Nat := 0x1108
abbrev DEC_EVSEL : Nat := 0x1109
abbrev DEC_ODR : Nat := 0x1110
abbrev DEC_RESP : Nat := 0x1111
abbrev DEC_GRIDCFG : Nat := 0x1112
abbrev DEC_GRIDOFS_L : Nat := 0x1114
abbrev DEC_GRIDOFS_H : Nat := 0x1115
abbrev DEC_GERR : Nat := 0x1116
abbrev DEC_GRIDPH_L : Nat := 0x1118
abbrev DEC_GRIDPH_H : Nat := 0x1119
abbrev BUF_CTRL : Nat := 0x1202
abbrev BUF_STAT : Nat := 0x1203
abbrev BUF_IFLAG : Nat := 0x1204
abbrev BUF_IEN0 : Nat := 0x1205
abbrev BUF_IEN1 : Nat := 0x1206
abbrev BUF_IFORCE : Nat := 0x1207
abbrev BUF_LOCK : Nat := 0x1208
abbrev BUF_EVSEL : Nat := 0x1209
abbrev BUF_CFG : Nat := 0x1210
abbrev BUF_SEL : Nat := 0x1211
abbrev BUF_PRE : Nat := 0x1212
abbrev BUF_POST : Nat := 0x1213
abbrev BUF_TRIG : Nat := 0x1214
abbrev BUF_MARK0 : Nat := 0x1218
abbrev BUF_MARK1 : Nat := 0x1219
abbrev BUF_MARK2 : Nat := 0x121A
abbrev BUF_MARK3 : Nat := 0x121B
abbrev BUF_MKLOST : Nat := 0x121C
abbrev BUF_DROPCNT : Nat := 0x121D
abbrev BUF_ADATA : Nat := 0x1220
abbrev BUF_ACFG : Nat := 0x1221
abbrev BUF_ALVL_L : Nat := 0x1222
abbrev BUF_ALVL_H : Nat := 0x1223
abbrev BUF_AWM : Nat := 0x1224
abbrev BUF_AOVR : Nat := 0x1225
abbrev BUF_BCFG : Nat := 0x1228
abbrev BUF_BLVL_L : Nat := 0x122A
abbrev BUF_BLVL_H : Nat := 0x122B
abbrev BUF_BWM : Nat := 0x122C
abbrev BUF_BOVR : Nat := 0x122D
abbrev STRM_CTRL : Nat := 0x1302
abbrev STRM_STAT : Nat := 0x1303
abbrev STRM_IFLAG : Nat := 0x1304
abbrev STRM_IEN0 : Nat := 0x1305
abbrev STRM_IEN1 : Nat := 0x1306
abbrev STRM_IFORCE : Nat := 0x1307
abbrev STRM_LOCK : Nat := 0x1308
abbrev STRM_CFG : Nat := 0x1310
abbrev STRM_FCNT : Nat := 0x1311
abbrev STRM_DGWORDS : Nat := 0x1314
abbrev STRM_DGTMO : Nat := 0x1315
abbrev STRM_DGSEQ : Nat := 0x1316
abbrev REC_CTRL : Nat := 0x1402
abbrev REC_STAT : Nat := 0x1403
abbrev REC_IFLAG : Nat := 0x1404
abbrev REC_IEN0 : Nat := 0x1405
abbrev REC_IEN1 : Nat := 0x1406
abbrev REC_IFORCE : Nat := 0x1407
abbrev REC_LOCK : Nat := 0x1408
abbrev REC_EVSEL : Nat := 0x1409
abbrev REC_RCFG : Nat := 0x1410
abbrev REC_TAPCFG : Nat := 0x1411
abbrev REC_TAPTHR : Nat := 0x1412
abbrev REC_TAPQD : Nat := 0x1413
abbrev REC_MSCFG : Nat := 0x1414
abbrev REC_SETTLETHR : Nat := 0x1415
abbrev REC_MOVETHR : Nat := 0x1416
abbrev REC_GSETTLETHR : Nat := 0x1417
abbrev REC_GMOVETHR : Nat := 0x1418
abbrev REC_FALLTHR : Nat := 0x1419
abbrev REC_FALLCFG : Nat := 0x141A
abbrev REC_GSTILL : Nat := 0x141B
abbrev REC_GEST_XL : Nat := 0x1420
abbrev REC_GEST_XH : Nat := 0x1421
abbrev REC_GEST_YL : Nat := 0x1422
abbrev REC_GEST_YH : Nat := 0x1423
abbrev REC_GEST_ZL : Nat := 0x1424
abbrev REC_GEST_ZH : Nat := 0x1425
abbrev REC_WSTAT : Nat := 0x1426
abbrev REFLEX_CTRL : Nat := 0x1502
abbrev REFLEX_STAT : Nat := 0x1503
abbrev REFLEX_IFLAG : Nat := 0x1504
abbrev REFLEX_IEN0 : Nat := 0x1505
abbrev REFLEX_IEN1 : Nat := 0x1506
abbrev REFLEX_IFORCE : Nat := 0x1507
abbrev REFLEX_LOCK : Nat := 0x1508
abbrev REFLEX_EVSEL : Nat := 0x1509
abbrev REFLEX_CFG : Nat := 0x1510
abbrev REFLEX_RELEASE : Nat := 0x1511
abbrev REFLEX_LSTAT : Nat := 0x1512
abbrev REFLEX_CAUSE : Nat := 0x1513
abbrev REFLEX_HITCNT : Nat := 0x1514
abbrev REFLEX_ALMLOST : Nat := 0x1515
abbrev REFLEX_MASK0 : Nat := 0x1518
abbrev REFLEX_MASK1 : Nat := 0x1519
abbrev REFLEX_MASK2 : Nat := 0x151A
abbrev REFLEX_MASK3 : Nat := 0x151B
abbrev REFLEX_DRAFTCFG : Nat := 0x151C
abbrev REFLEX_DRAFTTHR : Nat := 0x151D
abbrev ETCH_CTRL : Nat := 0x1602
abbrev ETCH_STAT : Nat := 0x1603
abbrev ETCH_IFLAG : Nat := 0x1604
abbrev ETCH_IEN0 : Nat := 0x1605
abbrev ETCH_IEN1 : Nat := 0x1606
abbrev ETCH_IFORCE : Nat := 0x1607
abbrev ETCH_LOCK : Nat := 0x1608
abbrev ETCH_EVSEL : Nat := 0x1609
abbrev ETCH_GO : Nat := 0x1610
abbrev ETCH_KDROP : Nat := 0x1611
abbrev EPROG_CTRL : Nat := 0x1702
abbrev EPROG_STAT : Nat := 0x1703
abbrev EPROG_IFLAG : Nat := 0x1704
abbrev EPROG_IEN0 : Nat := 0x1705
abbrev EPROG_IEN1 : Nat := 0x1706
abbrev EPROG_IFORCE : Nat := 0x1707
abbrev EPROG_LOCK : Nat := 0x1708
abbrev EPROG_ADDR : Nat := 0x1710
abbrev EPROG_STREAM : Nat := 0x1711
abbrev EPROG_HALF : Nat := 0x1712
abbrev EPROG_WREJADDR : Nat := 0x1713
abbrev ALM_CTRL (n : Nat) : Nat := (0x20 + n) * 256 + 0x02
abbrev ALM_STAT (n : Nat) : Nat := (0x20 + n) * 256 + 0x03
abbrev ALM_IFLAG (n : Nat) : Nat := (0x20 + n) * 256 + 0x04
abbrev ALM_IEN0 (n : Nat) : Nat := (0x20 + n) * 256 + 0x05
abbrev ALM_IEN1 (n : Nat) : Nat := (0x20 + n) * 256 + 0x06
abbrev ALM_IFORCE (n : Nat) : Nat := (0x20 + n) * 256 + 0x07
abbrev ALM_LOCK (n : Nat) : Nat := (0x20 + n) * 256 + 0x08
abbrev ALM_EVSEL (n : Nat) : Nat := (0x20 + n) * 256 + 0x09
abbrev ALM_TIME_FRAC (n : Nat) : Nat := (0x20 + n) * 256 + 0x10
abbrev ALM_TIME_NS_L (n : Nat) : Nat := (0x20 + n) * 256 + 0x11
abbrev ALM_TIME_NS_H (n : Nat) : Nat := (0x20 + n) * 256 + 0x12
abbrev ALM_TIME_SEC_L (n : Nat) : Nat := (0x20 + n) * 256 + 0x13
abbrev ALM_TIME_SEC_M (n : Nat) : Nat := (0x20 + n) * 256 + 0x14
abbrev ALM_TIME_SEC_H (n : Nat) : Nat := (0x20 + n) * 256 + 0x15
abbrev ALM_ADD_L (n : Nat) : Nat := (0x20 + n) * 256 + 0x18
abbrev ALM_ADD_M (n : Nat) : Nat := (0x20 + n) * 256 + 0x19
abbrev ALM_ADD_H (n : Nat) : Nat := (0x20 + n) * 256 + 0x1A
abbrev ALM_STEP_NL (n : Nat) : Nat := (0x20 + n) * 256 + 0x1C
abbrev ALM_STEP_NH (n : Nat) : Nat := (0x20 + n) * 256 + 0x1D
abbrev ALM_STEP_SL (n : Nat) : Nat := (0x20 + n) * 256 + 0x1E
abbrev ALM_STEP_SM (n : Nat) : Nat := (0x20 + n) * 256 + 0x1F
abbrev ALM_STEP_SH (n : Nat) : Nat := (0x20 + n) * 256 + 0x20
abbrev ALM_SLEW_L (n : Nat) : Nat := (0x20 + n) * 256 + 0x22
abbrev ALM_SLEW_H (n : Nat) : Nat := (0x20 + n) * 256 + 0x23
abbrev ALM_SLEWRATE (n : Nat) : Nat := (0x20 + n) * 256 + 0x24
abbrev ALM_BIND (n : Nat) : Nat := (0x20 + n) * 256 + 0x26
abbrev ALM_LADDER (n : Nat) : Nat := (0x20 + n) * 256 + 0x27
abbrev ALM_QUAL (n : Nat) : Nat := (0x20 + n) * 256 + 0x28
abbrev ALM_HOLDMAX (n : Nat) : Nat := (0x20 + n) * 256 + 0x29
abbrev ALM_LSTAT (n : Nat) : Nat := (0x20 + n) * 256 + 0x2A
abbrev ALM_SERVO (n : Nat) : Nat := (0x20 + n) * 256 + 0x2B
abbrev ALM_TGT_NL (n : Nat) : Nat := (0x20 + n) * 256 + 0x30
abbrev ALM_TGT_NH (n : Nat) : Nat := (0x20 + n) * 256 + 0x31
abbrev ALM_TGT_SL (n : Nat) : Nat := (0x20 + n) * 256 + 0x32
abbrev ALM_TGT_SM (n : Nat) : Nat := (0x20 + n) * 256 + 0x33
abbrev ALM_TGT_SH (n : Nat) : Nat := (0x20 + n) * 256 + 0x34
abbrev ALM_TGT_PL (n : Nat) : Nat := (0x20 + n) * 256 + 0x35
abbrev ALM_TGT_PH (n : Nat) : Nat := (0x20 + n) * 256 + 0x36
abbrev ALM_TGTCTL (n : Nat) : Nat := (0x20 + n) * 256 + 0x37
abbrev CAL_CTRL : Nat := 0x2402
abbrev CAL_STAT : Nat := 0x2403
abbrev CAL_IFLAG : Nat := 0x2404
abbrev CAL_IEN0 : Nat := 0x2405
abbrev CAL_IEN1 : Nat := 0x2406
abbrev CAL_IFORCE : Nat := 0x2407
abbrev CAL_LOCK : Nat := 0x2408
abbrev CAL_CYEAR : Nat := 0x2410
abbrev CAL_CMD : Nat := 0x2411
abbrev CAL_CHM : Nat := 0x2412
abbrev CAL_CSEC : Nat := 0x2413
abbrev CAL_CNS_L : Nat := 0x2414
abbrev CAL_CNS_H : Nat := 0x2415
abbrev CAL_CDOW : Nat := 0x2416
abbrev CAL_UTCOFS : Nat := 0x2418
abbrev CAL_LEAP : Nat := 0x2419
abbrev CAL_ROLES : Nat := 0x241A
abbrev TSU_CTRL : Nat := 0x2502
abbrev TSU_STAT : Nat := 0x2503
abbrev TSU_IFLAG : Nat := 0x2504
abbrev TSU_IEN0 : Nat := 0x2505
abbrev TSU_IEN1 : Nat := 0x2506
abbrev TSU_IFORCE : Nat := 0x2507
abbrev TSU_LOCK : Nat := 0x2508
abbrev TSU_EVSEL : Nat := 0x2509
abbrev TSU_PPSCFG : Nat := 0x2510
abbrev TSU_PPSW : Nat := 0x2511
abbrev TM_CTRL (n : Nat) : Nat := (0x28 + n) * 256 + 0x02
abbrev TM_STAT (n : Nat) : Nat := (0x28 + n) * 256 + 0x03
abbrev TM_IFLAG (n : Nat) : Nat := (0x28 + n) * 256 + 0x04
abbrev TM_IEN0 (n : Nat) : Nat := (0x28 + n) * 256 + 0x05
abbrev TM_IEN1 (n : Nat) : Nat := (0x28 + n) * 256 + 0x06
abbrev TM_IFORCE (n : Nat) : Nat := (0x28 + n) * 256 + 0x07
abbrev TM_LOCK (n : Nat) : Nat := (0x28 + n) * 256 + 0x08
abbrev TM_EVSEL (n : Nat) : Nat := (0x28 + n) * 256 + 0x09
abbrev TM_CNT_L (n : Nat) : Nat := (0x28 + n) * 256 + 0x10
abbrev TM_CNT_H (n : Nat) : Nat := (0x28 + n) * 256 + 0x11
abbrev TM_TOP_L (n : Nat) : Nat := (0x28 + n) * 256 + 0x12
abbrev TM_TOP_H (n : Nat) : Nat := (0x28 + n) * 256 + 0x13
abbrev TM_CH0_L (n : Nat) : Nat := (0x28 + n) * 256 + 0x14
abbrev TM_CH0_H (n : Nat) : Nat := (0x28 + n) * 256 + 0x15
abbrev TM_CH1_L (n : Nat) : Nat := (0x28 + n) * 256 + 0x16
abbrev TM_CH1_H (n : Nat) : Nat := (0x28 + n) * 256 + 0x17
abbrev TM_PSC (n : Nat) : Nat := (0x28 + n) * 256 + 0x18
abbrev TM_MODE (n : Nat) : Nat := (0x28 + n) * 256 + 0x19
abbrev TM_SLAVE (n : Nat) : Nat := (0x28 + n) * 256 + 0x1A
abbrev TM_CH0CFG (n : Nat) : Nat := (0x28 + n) * 256 + 0x1B
abbrev TM_CH1CFG (n : Nat) : Nat := (0x28 + n) * 256 + 0x1C
abbrev MAC_CTRL (n : Nat) : Nat := (0x30 + n) * 256 + 0x02
abbrev MAC_STAT (n : Nat) : Nat := (0x30 + n) * 256 + 0x03
abbrev MAC_IFLAG (n : Nat) : Nat := (0x30 + n) * 256 + 0x04
abbrev MAC_IEN0 (n : Nat) : Nat := (0x30 + n) * 256 + 0x05
abbrev MAC_IEN1 (n : Nat) : Nat := (0x30 + n) * 256 + 0x06
abbrev MAC_IFORCE (n : Nat) : Nat := (0x30 + n) * 256 + 0x07
abbrev MAC_LOCK (n : Nat) : Nat := (0x30 + n) * 256 + 0x08
abbrev MAC_CFG (n : Nat) : Nat := (0x30 + n) * 256 + 0x10
abbrev MAC_TXLAT (n : Nat) : Nat := (0x30 + n) * 256 + 0x11
abbrev MAC_RXLAT (n : Nat) : Nat := (0x30 + n) * 256 + 0x12
abbrev MAC_ASYM (n : Nat) : Nat := (0x30 + n) * 256 + 0x13
abbrev MAC_LINKDLY_L (n : Nat) : Nat := (0x30 + n) * 256 + 0x14
abbrev MAC_LINKDLY_H (n : Nat) : Nat := (0x30 + n) * 256 + 0x15
abbrev MAC_RXOK (n : Nat) : Nat := (0x30 + n) * 256 + 0x18
abbrev MAC_RXERR (n : Nat) : Nat := (0x30 + n) * 256 + 0x19
abbrev MAC_RXDROP (n : Nat) : Nat := (0x30 + n) * 256 + 0x1A
abbrev MAC_TXOK (n : Nat) : Nat := (0x30 + n) * 256 + 0x1B
abbrev MAC_TXERR (n : Nat) : Nat := (0x30 + n) * 256 + 0x1C
abbrev MAC_TXDROP (n : Nat) : Nat := (0x30 + n) * 256 + 0x1D
abbrev MAC_PTPLIM (n : Nat) : Nat := (0x30 + n) * 256 + 0x1E
abbrev MAC_ALMOVR (n : Nat) : Nat := (0x30 + n) * 256 + 0x1F
abbrev SWITCH_CTRL : Nat := 0x3202
abbrev SWITCH_STAT : Nat := 0x3203
abbrev SWITCH_IFLAG : Nat := 0x3204
abbrev SWITCH_IEN0 : Nat := 0x3205
abbrev SWITCH_IEN1 : Nat := 0x3206
abbrev SWITCH_IFORCE : Nat := 0x3207
abbrev SWITCH_LOCK : Nat := 0x3208
abbrev SWITCH_EVSEL : Nat := 0x3209
abbrev SWITCH_FWD : Nat := 0x3210
abbrev SWITCH_AGE : Nat := 0x3211
abbrev SWITCH_MDIOCMD : Nat := 0x3214
abbrev SWITCH_MDIODATA : Nat := 0x3215
abbrev TSI_CTRL : Nat := 0x3302
abbrev TSI_STAT : Nat := 0x3303
abbrev TSI_IFLAG : Nat := 0x3304
abbrev TSI_IEN0 : Nat := 0x3305
abbrev TSI_IEN1 : Nat := 0x3306
abbrev TSI_IFORCE : Nat := 0x3307
abbrev TSI_LOCK : Nat := 0x3308
abbrev TSI_TCCFG : Nat := 0x3310
abbrev TSI_SRVRUN : Nat := 0x3311
abbrev TSI_PTPCFG0 : Nat := 0x3318
abbrev TSI_PTPCFG1 : Nat := 0x3319
abbrev TSI_PTPCFG2 : Nat := 0x331A
abbrev TSI_PTPCFG3 : Nat := 0x331B
abbrev TSI_HOLDDROP : Nat := 0x3320
abbrev TSI_HOLDUNK : Nat := 0x3321
abbrev TSI_TCSAT : Nat := 0x3322
abbrev TSI_SECFAIL : Nat := 0x3323
abbrev TSI_UNSUP : Nat := 0x3324
abbrev IPSVC_CTRL : Nat := 0x3402
abbrev IPSVC_STAT : Nat := 0x3403
abbrev IPSVC_IFLAG : Nat := 0x3404
abbrev IPSVC_IEN0 : Nat := 0x3405
abbrev IPSVC_IEN1 : Nat := 0x3406
abbrev IPSVC_IFORCE : Nat := 0x3407
abbrev IPSVC_LOCK : Nat := 0x3408
abbrev IPSVC_MAC_L : Nat := 0x3410
abbrev IPSVC_MAC_M : Nat := 0x3411
abbrev IPSVC_MAC_H : Nat := 0x3412
abbrev IPSVC_IP_L : Nat := 0x3414
abbrev IPSVC_IP_H : Nat := 0x3415
abbrev IPSVC_MASK_L : Nat := 0x3416
abbrev IPSVC_MASK_H : Nat := 0x3417
abbrev IPSVC_GW_L : Nat := 0x3418
abbrev IPSVC_GW_H : Nat := 0x3419
abbrev IPSVC_ALCFG : Nat := 0x341C
abbrev IPSVC_ALDST_L : Nat := 0x341D
abbrev IPSVC_ALDST_H : Nat := 0x341E
abbrev IPSVC_ALPORT : Nat := 0x341F
abbrev IPSVC_ALDMAC_L : Nat := 0x3420
abbrev IPSVC_ALDMAC_M : Nat := 0x3421
abbrev IPSVC_ALDMAC_H : Nat := 0x3422
abbrev IPSVC_STDST_L : Nat := 0x3424
abbrev IPSVC_STDST_H : Nat := 0x3425
abbrev IPSVC_STPORT : Nat := 0x3426
abbrev IPSVC_STCFG : Nat := 0x3427
abbrev IPSVC_RACFG : Nat := 0x3428
abbrev IPSVC_RAPORT : Nat := 0x3429
abbrev IPSVC_RADROP : Nat := 0x3430
abbrev IPSVC_RAAUTH : Nat := 0x3431
abbrev IPSVC_RAREPLAY : Nat := 0x3432
abbrev IPSVC_IPDROP : Nat := 0x3433
abbrev IPSVC_ALSEQ : Nat := 0x3434
abbrev TWI0_CTRL : Nat := 0x3802
abbrev TWI0_STAT : Nat := 0x3803
abbrev TWI0_IFLAG : Nat := 0x3804
abbrev TWI0_IEN0 : Nat := 0x3805
abbrev TWI0_IEN1 : Nat := 0x3806
abbrev TWI0_IFORCE : Nat := 0x3807
abbrev TWI0_LOCK : Nat := 0x3808
abbrev TWI0_CFG : Nat := 0x3810
abbrev TWI0_TOUT : Nat := 0x3811
abbrev TWI0_TOCNT : Nat := 0x3812
abbrev TWI1_CTRL : Nat := 0x3902
abbrev TWI1_STAT : Nat := 0x3903
abbrev TWI1_IFLAG : Nat := 0x3904
abbrev TWI1_IEN0 : Nat := 0x3905
abbrev TWI1_IEN1 : Nat := 0x3906
abbrev TWI1_IFORCE : Nat := 0x3907
abbrev TWI1_LOCK : Nat := 0x3908
abbrev TWI1_CFG : Nat := 0x3910
abbrev TWI1_TOUT : Nat := 0x3911
abbrev TWI1_TADDR : Nat := 0x3912
abbrev TWI1_TOCNT : Nat := 0x3913
abbrev TWI1_XADDR : Nat := 0x3914
abbrev TWI1_XCMD : Nat := 0x3915
abbrev TWI1_XCFG : Nat := 0x3916
abbrev TWI1_XSTAT : Nat := 0x3917
abbrev TWI1_ARBCNT : Nat := 0x3918
abbrev GANG_CTRL : Nat := 0x3A02
abbrev GANG_STAT : Nat := 0x3A03
abbrev GANG_IFLAG : Nat := 0x3A04
abbrev GANG_IEN0 : Nat := 0x3A05
abbrev GANG_IEN1 : Nat := 0x3A06
abbrev GANG_IFORCE : Nat := 0x3A07
abbrev GANG_LOCK : Nat := 0x3A08
abbrev GANG_EVSEL : Nat := 0x3A09
abbrev GANG_CFG : Nat := 0x3A10
abbrev GANG_EPOFS_L : Nat := 0x3A11
abbrev GANG_EPOFS_H : Nat := 0x3A12
abbrev GANG_TTOL : Nat := 0x3A13
abbrev GANG_CEPOCH : Nat := 0x3A14
abbrev GANG_SOLCFG : Nat := 0x3A15
abbrev GANG_LGID : Nat := 0x3A16
abbrev GANG_ROSTER : Nat := 0x3A17
abbrev GANG_PEERDIS : Nat := 0x3A18
abbrev GANG_CWORD_L : Nat := 0x3A19
abbrev GANG_CWORD_H : Nat := 0x3A1A
abbrev GANG_LCWORD_L : Nat := 0x3A1B
abbrev GANG_LCWORD_H : Nat := 0x3A1C
abbrev GANG_TCDIFF_L : Nat := 0x3A1D
abbrev GANG_TCDIFF_H : Nat := 0x3A1E
abbrev GANG_SOLID : Nat := 0x3A1F
abbrev GANG_RLYDST : Nat := 0x3A20
abbrev GANG_RLYCTL : Nat := 0x3A21
abbrev GANG_RLYSTAT : Nat := 0x3A22
abbrev GANG_WSTAT : Nat := 0x3A23
abbrev GANG_RLYD0 : Nat := 0x3A28
abbrev GANG_RLYD1 : Nat := 0x3A29
abbrev GANG_RLYD2 : Nat := 0x3A2A
abbrev GANG_RLYD3 : Nat := 0x3A2B
abbrev GANG_RLYD4 : Nat := 0x3A2C
abbrev GANG_RLYD5 : Nat := 0x3A2D
abbrev GANG_RLYD6 : Nat := 0x3A2E
abbrev GANG_RLYD7 : Nat := 0x3A2F
abbrev GANG_LOSTCNT : Nat := 0x3A30
abbrev GANG_NACKCNT : Nat := 0x3A31
abbrev GANG_RXERRCNT : Nat := 0x3A32
abbrev PORT_CTRL (n : Nat) : Nat := (0x40 + n) * 256 + 0x02
abbrev PORT_STAT (n : Nat) : Nat := (0x40 + n) * 256 + 0x03
abbrev PORT_LOCK (n : Nat) : Nat := (0x40 + n) * 256 + 0x08
abbrev PORT_OUT (n : Nat) : Nat := (0x40 + n) * 256 + 0x10
abbrev PORT_OUTSET (n : Nat) : Nat := (0x40 + n) * 256 + 0x11
abbrev PORT_OUTCLR (n : Nat) : Nat := (0x40 + n) * 256 + 0x12
abbrev PORT_OUTTGL (n : Nat) : Nat := (0x40 + n) * 256 + 0x13
abbrev PORT_DIR (n : Nat) : Nat := (0x40 + n) * 256 + 0x14
abbrev PORT_IN (n : Nat) : Nat := (0x40 + n) * 256 + 0x15
abbrev PORT_INV (n : Nat) : Nat := (0x40 + n) * 256 + 0x16
abbrev PORT_PULL (n : Nat) : Nat := (0x40 + n) * 256 + 0x17
abbrev PORT_DRV (n : Nat) : Nat := (0x40 + n) * 256 + 0x18
abbrev PORT_OFFHOLD (n : Nat) : Nat := (0x40 + n) * 256 + 0x19
abbrev PORT_OWN_L (n : Nat) : Nat := (0x40 + n) * 256 + 0x1A
abbrev PORT_OWN_H (n : Nat) : Nat := (0x40 + n) * 256 + 0x1B
abbrev PMUX_CTRL : Nat := 0x4302
abbrev PMUX_STAT : Nat := 0x4303
abbrev PMUX_IFLAG : Nat := 0x4304
abbrev PMUX_IEN0 : Nat := 0x4305
abbrev PMUX_IEN1 : Nat := 0x4306
abbrev PMUX_IFORCE : Nat := 0x4307
abbrev PMUX_LOCK : Nat := 0x4308
abbrev PMUX_CONFA : Nat := 0x4318
abbrev PMUX_CONFB : Nat := 0x4319
abbrev PMUX_CONFC : Nat := 0x431A
abbrev PMUX_STRAP : Nat := 0x431C
abbrev PINT_CTRL : Nat := 0x4402
abbrev PINT_STAT : Nat := 0x4403
abbrev PINT_IFLAG : Nat := 0x4404
abbrev PINT_IEN0 : Nat := 0x4405
abbrev PINT_IEN1 : Nat := 0x4406
abbrev PINT_IFORCE : Nat := 0x4407
abbrev PINT_LOCK : Nat := 0x4408
abbrev PINT_EVSEL : Nat := 0x4409
abbrev PINT_LEVEL : Nat := 0x4418
abbrev MBX_MSG (n : Nat) : Nat := 0x0620 + 16 * n
abbrev MBX_D (n j : Nat) : Nat := 0x0621 + 16 * n + j
abbrev MBX_INFO (n : Nat) : Nat := 0x0629 + 16 * n
abbrev ETCH_R (n j : Nat) : Nat := 0x1620 + 16 * n + j
abbrev TSU_CCFG (n : Nat) : Nat := 0x2514 + n
abbrev TSU_CAP (n : Nat) : Nat := 0x2520 + 8 * n
abbrev TSU_CSTAT (n : Nat) : Nat := 0x2526 + 8 * n
abbrev REC_WCFG (n : Nat) : Nat := 0x1440 + 8 * n
abbrev REC_WHYST (n : Nat) : Nat := 0x1441 + 8 * n
abbrev REC_WTHR (n : Nat) : Nat := 0x1442 + 8 * n
abbrev PMUX_ESMAP (n : Nat) : Nat := 0x4310 + n
abbrev PINT_LCFG (n : Nat) : Nat := 0x4410 + n
abbrev KEYS_KIDS (n : Nat) : Nat := 0x0818 + n
abbrev KEYS_KDATA (n : Nat) : Nat := 0x0820 + n
abbrev TWI1_XBUF (n : Nat) : Nat := 0x3920 + n
abbrev PROOF_BUD (n : Nat) : Nat := 0x0717 + n

end Sys2Proof.Machine.R
end

