-- ==== Sys2Proof/Machine/Hw.lean ====
section
/-!
DEFINITION. Everything the spec gives the sentinel, but for the queue of waiting commands: the registers in canonical
cells, the shadows and staging copies, the hidden state block by block, and the model's own counters.
-/

namespace Sys2Proof.Machine

/-- The sentinel. -/
structure Hw where
  /-- The registers of every page, by address (R93 to R102). -/
  regs : Cells Word
  /-- Shadows and staging copies of the wide groups (R103), by 65536 × party + address; none: not latched, not staged. -/
  shadows : Cells (Option Word)
  staging : Cells (Option Word)
  /-- V-cycles passed (the model's own: counted by a step on an empty queue). -/
  now : Nat
  /-- Commands taken (the model's own): the index of the free values a command uses. -/
  free : Nat
  /-- Fabric pulses of the present E-cycles, pulses raised by the running command, new samples (R19, R303). -/
  fabric : BitVec 64
  raised : BitVec 64
  newSample : BitVec 10
  /-- The V-cycle of the last event of each crossing source that formed its own pulse (R22). -/
  evAt : Vector (Option Nat) 64
  /-- The grid instant of the sample that the running command made valid in E (R289). -/
  sampleT : Option Nat
  /-- An alarm request waits to cross E→N (R289). -/
  alarmReq : Option Nat
  /-- Pages whose block is stopping and pages with a latched enable (R98, R99). -/
  stopping : List Nat
  pendEn : List Nat
  /-- A wake request of R466 reached the gang engine; the start of Etchers with AUTORUN is due (R300). -/
  wakeReq : Bool
  autoDue : Bool
  pwr : Pwr
  clk : Clk
  int0 : IntPin
  int1 : IntPin
  diary : Diary
  pins : Pins
  latch : Latch
  recog : Recog
  etch : Vector Etcher 8
  prog : Cells (BitVec 32)
  eprog : Vector EprogWin 3
  buf : Buf
  strm : Strm
  host : HostPort
  alm : Vector Alm 4
  cal : Cal
  pps : PpsOut
  afe : Afe
  dec : Dec
  tim : Vector Timer 6
  net : Net
  twi : Vector TwiBus 2
  xfer : Xfer
  gang : Gang
  mbx : Vector Box 8
  fw : Firmware
  nvs : Nvs
  keys : KeyStore
  proof : ProofRun
  tap : Tap
  deriving DecidableEq, Repr

end Sys2Proof.Machine
end

