-- ==== Sys2Proof/Machine/Ops.lean ====
section
/-!
DEFINITION. The named operations every meaning is written over: reading and writing a register, its fields and flags,
domain state, saturating counters, events onto the fabric, diary entries, the STOP_N latch, wakes.
-/

namespace Sys2Proof.Machine

/-! ### Words and fields -/

/-- Bits `hi:lo` of a word. -/
def fld (w : Word) (hi lo : Nat) : Nat := w.toNat / 2 ^ lo % 2 ^ (hi + 1 - lo)

/-- The word with bits `hi:lo` set to `v`. -/
def setFld (w : Word) (hi lo v : Nat) : Word :=
  BitVec.ofNat 16 (w.toNat - fld w hi lo * 2 ^ lo + v % 2 ^ (hi + 1 - lo) * 2 ^ lo)

/-- A word from a number, modulo 2^16. -/
def wd (n : Nat) : Word := BitVec.ofNat 16 n

/-- A word from an integer, two's complement modulo 2^16. -/
def wdI (i : Int) : Word := BitVec.ofInt 16 i

/-- A number of `bits` bits read as two's complement. -/
def signed (bits n : Nat) : Int := if n < 2 ^ (bits - 1) then n else (n : Int) - 2 ^ bits

/-- Round `a / b` to the nearest integer, ties away from zero (R226, R239, R274); `b` is positive. -/
def divRound (a b : Int) : Int := if 0 ≤ a then (2 * a + b) / (2 * b) else -((-2 * a + b) / (2 * b))

/-- An integer held within limits. -/
def clampI (lo hi v : Int) : Int := if v < lo then lo else if hi < v then hi else v

namespace Hw

/-! ### Registers -/

/-- The stored value of the register at an address. -/
def reg (h : Hw) (a : Nat) : Word := Cells.get resetOf h.regs a

/-- The register at an address set to a value. -/
def setReg (h : Hw) (a : Nat) (v : Word) : Hw := { h with regs := Cells.put resetOf h.regs a v }

/-- Bits `hi:lo` of a register. -/
def f (h : Hw) (a hi lo : Nat) : Nat := fld (h.reg a) hi lo

/-- Bit `i` of a register. -/
def b (h : Hw) (a i : Nat) : Bool := (h.reg a).getLsbD i

/-- Bits of a register set, by mask. -/
def setBits (h : Hw) (a m : Nat) : Hw := h.setReg a (h.reg a ||| wd m)

/-- Bits of a register cleared, by mask. -/
def clrBits (h : Hw) (a m : Nat) : Hw := h.setReg a (h.reg a &&& ~~~(wd m))

/-- Bits `hi:lo` of a register set to a value. -/
def setF (h : Hw) (a hi lo v : Nat) : Hw := h.setReg a (setFld (h.reg a) hi lo v)

/-- A counter register incremented by `n`; it saturates at 0xFFFF. -/
def countBy (h : Hw) (a n : Nat) : Hw := h.setReg a (wd (min 0xFFFF ((h.reg a).toNat + n)))

/-- A counter register incremented; it saturates at 0xFFFF. -/
def count (h : Hw) (a : Nat) : Hw := h.countBy a 1

/-- A two-word register, low word at `a`. -/
def reg32 (h : Hw) (a : Nat) : Nat := (h.reg a).toNat + 65536 * (h.reg (a + 1)).toNat

/-! ### Domains, blocks and flags -/

/-- VIGIL is up and not held in reset. -/
def vigil (h : Hw) : Bool := h.pwr.running && h.pwr.vigilUp && !h.pwr.held

/-- The state of a domain; VIGIL is on while it is up. -/
def domState (h : Hw) : Dom → DomState
  | .vigil => if h.vigil then .on else .off
  | .time => h.pwr.time
  | .sense => h.pwr.sense
  | .net => h.pwr.net
  | .core => h.pwr.core

/-- A domain is powered in the sense of R42. -/
def up (h : Hw) (d : Dom) : Bool := h.vigil && h.domState d == .on

/-- A domain's logic still runs: powered, or in its off-sequence before isolation (R51). -/
def live (h : Hw) (d : Dom) : Bool := h.vigil && (h.domState d == .on || h.domState d == .falling)

/-- The page's domain is powered; an unassigned page is never down (R94). -/
def pageUp (h : Hw) (pg : Nat) : Bool :=
  match kindOf pg with
  | none => true
  | some k => h.up k.dom

/-- The page's logic runs. -/
def pageLive (h : Hw) (pg : Nat) : Bool :=
  match kindOf pg with
  | none => false
  | some k => h.live k.dom

/-- `CTRL.EN` of a page. -/
def enabled (h : Hw) (pg : Nat) : Bool := h.b (pg * 256 + 2) 0

/-- The page's block is stopping (R98). -/
def isStopping (h : Hw) (pg : Nat) : Bool := h.stopping.contains pg

/-- An IFLAG bit of a page set by its block; a block whose domain is off sets nothing. -/
def raise (h : Hw) (pg bit : Nat) : Hw :=
  if h.pageLive pg then h.setBits (pg * 256 + 4) (2 ^ bit) else h

/-- `raise` under a condition. -/
def raiseIf (h : Hw) (c : Bool) (pg bit : Nat) : Hw := if c then h.raise pg bit else h

/-- The page is locked (R108). -/
def locked (h : Hw) (pg : Nat) : Bool := h.b (pg * 256 + 8) 0

/-! ### Free values (log entry 3) -/

/-- The free value of the running command for a purpose. -/
def open' (h : Hw) (tag : Nat) : Nat := Config.freeNat tag h.free

/-! ### Fabric events -/

/-- The page and EVSEL bit that gate a fabric event (R20, R21); EV63 has none. -/
def evGate (e : Nat) : Option (Nat × Nat) :=
  if e < 8 then some (0x44, e)
  else if e < 26 then some (0x28 + (e - 8) / 3, (e - 8) % 3)
  else if e < 30 then some (0x20 + (e - 26), 0)
  else if e < 34 then some (0x20 + (e - 30), 1)
  else if e = 34 then some (0x3A, 0)
  else if e = 35 then some (0x25, 0)
  else if e < 49 then some (0x14, e - 36)
  else if e = 49 then some (0x11, 0)
  else if e < 52 then some (0x12, e - 50)
  else if e < 60 then some (0x16, e - 52)
  else if e = 60 then some (0x3A, 1)
  else if e = 61 then some (0x15, 0)
  else if e = 62 then some (0x32, 0)
  else none

/-- An event reaches E through a crossing, so that R22 may merge it: T, N and V sources. The range change of S crosses with
its sample, and samples are never that close. -/
def evCrosses (e : Nat) : Bool := e < 34 || e == 60 || e == 62

/-- The event comes from V (R21): a pin line through its V path, or gang dissent. -/
def evFromV (e : Nat) : Bool := e < 8 || e == 60

/-- The event's EVSEL bit is set and its source page is powered (R19, R20). -/
def evEnabled (h : Hw) (e : Nat) : Bool :=
  match evGate e with
  | none => false
  | some (pg, i) => h.pageLive pg && h.b (pg * 256 + 9) i

/-- The V-cycle of the last event of a source that formed its own pulse. -/
def evLast (h : Hw) (e : Nat) : Option Nat := h.evAt[e % 64]'(Nat.mod_lt _ (by decide))

/-- The event comes within the spacing of R22 after the last event of its source that formed a pulse. For a V source 3
V-cycles and 3 E-cycles (3.5 V-cycles) pass with the fourth V edge. For a T or N source they last 86.5 or 122.5 ns, less
than a V-cycle: two V-cycles later they have passed, and before that the model leaves it free (log entry 12). -/
def evMerged (h : Hw) (e : Nat) : Bool :=
  (h.evLast e).any fun t =>
    if evFromV e then h.now < t + 4 else h.now ≤ t + 1 && h.open' (100 + e) % 2 == 0

/-- An event drives its fabric pulse (R19, R20). The fabric lies in SENSE. -/
def eventDirect (h : Hw) (e : Nat) : Hw :=
  if h.live .sense && h.evEnabled e then { h with raised := h.raised ||| (1#64 <<< e) } else h

/-- A fabric event occurs (R19 to R22): one that crosses into E may be merged into the pulse already formed. -/
def event (h : Hw) (e : Nat) : Hw :=
  if !evCrosses e then h.eventDirect e
  else if !(h.live .sense && h.evEnabled e) || h.evMerged e then h
  else { h.eventDirect e with evAt := h.evAt.set (e % 64) (some h.now) (Nat.mod_lt _ (by decide)) }

/-! ### Almanac time and the diary -/

/-- Units of 2^-32 ns in a second. -/
abbrev secUnits : Nat := 1000000000 * 4294967296

/-- The addend of an almanac in units of 2^-32 ns (R156). -/
def addend (h : Hw) (n : Nat) : Nat :=
  (h.reg (R.ALM_ADD_H n)).toNat % 16 * 4294967296 + (h.reg (R.ALM_ADD_M n)).toNat * 65536
    + (h.reg (R.ALM_ADD_L n)).toNat

/-- The almanac numbered `n` modulo 4. -/
def almOf (h : Hw) (n : Nat) : Alm := h.alm[n % 4]'(Nat.mod_lt _ (by decide))

/-- The almanac numbered `n` modulo 4 replaced. -/
def setAlm (h : Hw) (n : Nat) (a : Alm) : Hw := { h with alm := h.alm.set (n % 4) a (Nat.mod_lt _ (by decide)) }

/-- Time quality (R175). For a PPS_IN rung that is current and good but not qualified, which the rule does not name, the model
reads 2 (DESIGN CHOICE, log entry 95). -/
def almQuality (a : Alm) : Nat :=
  if a.unknown then 3 else
    match a.rung with
    | .ptp => 2
    | .pps => 2
    | .holdover => 1
    | .freeRun => 0

/-- A switch runs that has not passed its commit point (R170). -/
def almSwitching (a : Alm) : Bool := a.switching && !a.committed

/-- The almanac's time in units of 2^-32 ns since its epoch. -/
def almUnits (a : Alm) : Nat := a.sec.toNat * secUnits + a.sub

/-- Whole nanoseconds since the epoch. -/
def almNs (a : Alm) : Nat := almUnits a / 4294967296

/-- The time stamp of a diary entry (R512): seconds and nanoseconds of the almanac at one T edge at most 52 T edges
(416 ns) before the entry; which one is free (log entry 13). -/
def stampNs (h : Hw) (n : Nat) : Nat :=
  (almUnits (h.almOf n) - h.open' 1 % 53 * h.addend n) / 4294967296

/-- A diary entry is written (R510 to R516). -/
def diaryAdd (h : Hw) (src : Nat) (arg arg2 : Word) : Hw :=
  let e : Entry :=
    if h.up .time then
      let n := h.f R.DIARY_CFG 1 0
      let ns := h.stampNs n
      { src := src, coarse := false, qual := almQuality (h.almOf n), num := h.diary.num, arg := arg, arg2 := arg2
        t0 := wd (ns % 1000000000), t1 := wd (ns % 1000000000 / 65536)
        t2 := wd (ns / 1000000000), t3 := wd (ns / 1000000000 / 65536) }
    else
      { src := src, coarse := true, qual := 3, num := h.diary.num, arg := arg, arg2 := arg2
        t0 := wd h.clk.vms, t1 := 0, t2 := wd h.clk.vsec.toNat, t3 := wd (h.clk.vsec.toNat / 65536) }
  let full := 256 ≤ h.diary.entries.length
  let before := h.diary.entries.length
  let kept := if full then h.diary.entries.drop 1 else h.diary.entries
  let wm := h.f R.DIARY_WM 8 0
  let h1 := { h with diary := { entries := kept ++ [e], num := h.diary.num + 1 } }
  let h2 := if full then (h1.count R.DIARY_LOST).raise 5 2 else h1
  (h2.raise 5 0).raiseIf (wm != 0 && before < wm && wm ≤ before + 1 && !full) 5 1

/-! ### The STOP_N latch -/

/-- The cause record as `REFLEX.CAUSE` reads (R284). -/
def causeWord (l : Latch) : Word := wd (l.typ * 4096 + l.ev)

/-- The latch is set (R281, R284): from the released state the cause record is written, a STOP_SET entry follows, and
types 1 to 3 pulse EV61, set FIRED and send an alarm request with instant `t` (R289). -/
def setLatch (h : Hw) (typ ev t : Nat) : Hw :=
  if h.latch.set then h
  else
    let h1 := { h with latch := { h.latch with set := true, typ := typ, ev := ev, setAt := h.now } }
    let h2 := h1.diaryAdd 6 (causeWord h1.latch) 0
    if 1 ≤ typ && typ ≤ 3 then { (h2.raise 0x15 0).event 61 with alarmReq := some t } else h2

/-- The latch is released by the party coded `who` (R286); 0 for AUTOREL. -/
def clearLatch (h : Hw) (who : Nat) : Hw :=
  let h1 := { h with latch := { h.latch with set := false } }
  ((h1.setReg R.REFLEX_HITCNT 0).raise 0x15 2).diaryAdd 7 (wd who) 0

/-! ### Wakes -/

/-- A wake source acts (R46): `bits` are set in `PWR.REQ`, IFLAG.WAKE is set and a WAKE entry is written; it is a wake
request of R466. -/
def wake (h : Hw) (src line bits : Nat) : Hw :=
  { ((h.setBits R.PWR_REQ (bits % 16)).raise 1 10).diaryAdd 3 (wd src) (wd line) with wakeReq := true }

/-- The wake profile (R46). -/
def wakeProfile (h : Hw) : Nat := h.f R.PWR_WAKEPROF 3 0

/-! ### Parties -/

/-- The number under which a party's shadow and staging copies are kept (R103); remote access uses the core's. -/
def slot : Party → Nat
  | .spi => 0
  | .twi0 => 1
  | .core => 2
  | .remote => 2
  | .etch n => 3 + n.val

end Hw

end Sys2Proof.Machine
end

