-- ==== Sys2Proof/Machine/Chain.lean ====
section
/-!
DEFINITION. The filters of the decimation chain: the CIC and the half-band stages of a modulator path with their phase
counters, the received-mode resampler, and the responses of the ROM (R230 to R234, R243, R244).
-/

namespace Sys2Proof.Machine

/-! ### Weights

The spec gives the gain of the chain (R220), the lengths and delays of the responses (R234) and the means of AVG-4 and
AVG-16; the coefficients themselves are free (log entry 101). -/

/-- Weights whose last one makes the sum 2^23: a gain of exactly 1 at DC. -/
def unity (cs : List Int) : List Int := cs ++ [8388608 - cs.sum]

/-- Symmetric weights, of a linear phase, whose centre makes the sum 2^23. -/
def mirror (cs : List Int) : List Int := cs ++ (8388608 - 2 * cs.sum) :: cs.reverse

/-- A weighted mean of values, newest first; values that are not there count as 0. -/
def weigh (ws xs : List Int) : Int := divRound (List.zipWith (· * ·) ws xs).sum ws.sum

/-! ### Responses (R234) -/

/-- The settling length L of a response. -/
def respLen (r : Nat) : Nat :=
  [38, 30, 22, 26, 38, 70, 62, 30, 20, 32, 10, 14, 16, 10, 22, 6].getD (r % 16) 0

/-- The group delay D of a response in quarters of an output period. -/
def respDelay (r : Nat) : Nat :=
  [74, 58, 42, 50, 74, 138, 122, 25, 19, 34, 13, 16, 15, 17, 41, 10].getD (r % 16) 0

/-- FIR inputs a response spans: 8 and 32 for the means over 4 and 16 periods, 1 for BYPASS; for the others stages 2 and 3
settle in 6 output samples, the FIR in the rest (log entry 15). -/
def respTaps (r : Nat) : Nat :=
  if r % 16 = 13 then 8 else if r % 16 = 14 then 32 else if r % 16 = 15 then 1 else 2 * (respLen r - 6) + 1

/-- FIR inputs that come after the one of an instant before the value of the instant is complete: stages 2 and 3 take 2.5 of
the D output periods (R231), and the FIR, with two inputs a period, the rest (log entry 102). -/
def respLag (r : Nat) : Nat := (respDelay r - 10) / 2

/-- The weights of a response, for the newest input first. -/
def respWeights (r : Nat) : List Int :=
  let n := respTaps r
  if 13 ≤ r % 16 then List.replicate n 1
  else if r % 16 < 7 then mirror (List.ofFn fun (i : Fin ((n - 1) / 2)) => Config.firCoef (r % 16) i.val)
  else unity (List.ofFn fun (i : Fin (n - 1)) => Config.firCoef (r % 16) i.val)

/-- The response's output from inputs, newest first (R230 stage 6). -/
def firOf (r : Nat) (xs : List Int) : Int := weigh (respWeights r) xs

/-! ### The CIC (R230 stage 2) -/

/-- The modulator bit enters the five running sums: a 1 is positive full scale, a 0 negative (R218). -/
def Cic.push (c : Cic) (b : Bool) : Cic :=
  let s0 := c.sums[0] + (if b then 1 else -1)
  let s1 := c.sums[1] + s0
  let s2 := c.sums[2] + s1
  let s3 := c.sums[3] + s2
  { c with sums := #v[s0, s1, s2, s3, c.sums[4] + s3] }

/-- The five combs at a decimated instant, and the value with full scale 2^23 for a decimation by `r`. -/
def Cic.take (c : Cic) (r : Nat) : Cic × Int :=
  let d0 := c.sums[4]
  let d1 := d0 - c.combs[0]
  let d2 := d1 - c.combs[1]
  let d3 := d2 - c.combs[2]
  let d4 := d3 - c.combs[3]
  ({ c with combs := #v[d0, d1, d2, d3, d4] }, divRound ((d4 - c.combs[4]).toInt * 8388608) (r ^ 5 : Nat))

def Cic.init : Cic := { sums := Vector.replicate 5 0, combs := Vector.replicate 5 0 }

/-! ### The half-band cascade (R230 stage 3) -/

/-- The weights of half-band stage `j`: eleven, so that stages 2 and 3 settle within the six output samples of BYPASS
(R234; log entry 101). -/
def halfWeights (j : Nat) : List Int := mirror (List.ofFn fun (i : Fin 5) => Config.halfCoef j i.val)

/-- A value enters the first of `k` stages, `m` being its number: each stage passes every second value on. -/
def cascade : Nat → Nat → List (List Int) → Nat → Int → List (List Int) × Option Int
  | 0, _, hs, _, x => (hs, some x)
  | k + 1, j, hs, m, x =>
    let h1 := (x :: hs.headD []).take 11
    if m % 2 = 1 then
      let r := cascade k (j + 1) hs.tail (m / 2) (weigh (halfWeights j) h1)
      (h1 :: r.1, r.2)
    else (h1 :: hs.tail, none)

/-! ### A path -/

namespace Path

def init : Path := { cic := Cic.init, n := 0, m := 0, res := [], half := List.replicate 9 [], out := [] }

/-- The histories restart from zero (R245); the phase counters run on. -/
def empty (p : Path) : Path := { init with n := p.n, m := p.m }

/-- A 128 kHz value enters the cascade of `k` stages. -/
def feed (k : Nat) (p : Path) (x : Int) : Path :=
  let r := cascade k 0 p.half p.m x
  { p with half := r.1, out := p.out ++ r.2.toList, m := (p.m + 1) % 1024 }

/-- A modulator bit of a path whose CIC decimates by `r` onto 128 kHz. -/
def bit (r k : Nat) (p : Path) (b : Bool) : Path :=
  let c := p.cic.push b
  if p.n + 1 < r then { p with cic := c, n := p.n + 1 }
  else { p with cic := (c.take r).1, n := 0 }.feed k (c.take r).2

/-- A bit of a received stream, whose CIC decimates by 32 at XBCLK (R244). -/
def resBit (p : Path) (b : Bool) : Path :=
  let c := p.cic.push b
  if p.n + 1 < 32 then { p with cic := c, n := p.n + 1 }
  else { p with cic := (c.take 32).1, n := 0, res := ((c.take 32).2 :: p.res).take 6 }

/-- A 128 kHz interval of a received stream: its bits, then the resampler's value at the instant (R244). -/
def resample (k : Nat) (p : Path) (bits : List Bool) (mu : Nat) : Path :=
  let q := bits.foldl resBit p
  q.feed k (weigh (unity (List.ofFn fun (i : Fin 5) => Config.resampleCoef mu i.val)) q.res)

/-- The phase counters move by `d` bits of a path whose CIC decimates by `r` (R255). -/
def move (r : Nat) (p : Path) (d : Int) : Path :=
  let total := (((p.m * r + p.n : Nat) + d) % (1024 * r : Nat)).toNat
  { p with n := total % r, m := total / r }

/-- The phase counters restart (R256). -/
def restart (p : Path) : Path := { p with n := 0, m := 0 }

end Path

end Sys2Proof.Machine
end

