-- ==== Sys2Proof/Machine/Flags.lean ====
section
/-!
DEFINITION. The interrupt flags of the sentinel taken together: the aggregates of INT0 and INT1, the page groups of
R124, the first pending page (R502, R503), and the pins in level and pulse mode (R506 to R508).
-/

namespace Sys2Proof.Machine

/-- The assigned pages in ascending order (R93). -/
def allPages : List Nat :=
  [0x00, 0x01, 0x02, 0x03, 0x04, 0x05, 0x06, 0x07, 0x08, 0x09, 0x10, 0x11, 0x12, 0x13, 0x14, 0x15, 0x16, 0x17,
   0x20, 0x21, 0x22, 0x23, 0x24, 0x25, 0x28, 0x29, 0x2A, 0x2B, 0x2C, 0x2D, 0x30, 0x31, 0x32, 0x33, 0x34,
   0x38, 0x39, 0x3A, 0x40, 0x41, 0x42, 0x43, 0x44]

/-- The page group of a page (R124). -/
def groupOf (pg : Nat) : Nat :=
  if pg ≤ 4 then 0 else if pg = 5 then 1 else if pg = 6 then 2 else if pg ≤ 9 then 3
  else if pg ≤ 0x11 then 4 else if pg ≤ 0x13 then 5 else if pg ≤ 0x15 then 6 else if pg ≤ 0x17 then 7
  else if pg ≤ 0x24 then 8 else if pg = 0x25 then 9 else if pg ≤ 0x2D then 10 else if pg ≤ 0x32 then 11
  else if pg ≤ 0x34 then 12 else if pg ≤ 0x39 then 13 else if pg = 0x3A then 14 else 15

namespace Hw

/-- A page contributes to the aggregate of pin `k` (R502). -/
def pending (h : Hw) (k pg : Nat) : Bool :=
  h.pageUp pg && (h.reg (pg * 256 + 4) &&& h.reg (pg * 256 + 5 + k)) != 0

/-- The aggregate of INTk (R502). -/
def aggregate (h : Hw) (k : Nat) : Bool := allPages.any (h.pending k)

/-- `IRQ.SUMk` (R503). -/
def summary (h : Hw) (k : Nat) : Word :=
  allPages.foldl (fun w pg => if h.pending k pg then w ||| wd (2 ^ groupOf pg) else w) 0

/-- The lowest pending page of INTk, or 0xFF (R503). -/
def firstPage (h : Hw) (k : Nat) : Nat := (allPages.find? (h.pending k)).getD 0xFF

/-- The fields of INTk in `IRQ.CFG` (R506). -/
def intCfg (h : Hw) (k : Nat) : Nat := h.f R.IRQ_CFG (8 * k + 7) (8 * k)
def intEn (h : Hw) (k : Nat) : Bool := (h.intCfg k).testBit 7
def intPulse (h : Hw) (k : Nat) : Bool := (h.intCfg k).testBit 4

/-- One of the two interrupt pins. -/
def intPin (h : Hw) (k : Nat) : IntPin := if k = 0 then h.int0 else h.int1
def setIntPin (h : Hw) (k : Nat) (p : IntPin) : Hw := if k = 0 then { h with int0 := p } else { h with int1 := p }

/-- INTk is at its active level (R506 to R509). -/
def intActive (h : Hw) (k : Nat) : Bool :=
  h.intEn k && (if h.intPulse k then (h.intPin k).pulse else (h.intPin k).agg)

/-- A pulse of INTk starts 1 V-cycle later, or extends the one that runs: its width is (PW + 1) × 8 V-cycles (R506, R508). -/
def intStart (h : Hw) (k : Nat) : Hw :=
  h.setIntPin k { h.intPin k with pulse := true, stop := h.now + 1 + 8 * (h.intCfg k % 16 + 1) }

/-- The aggregate of INTk is taken; a rise in pulse mode starts or extends a pulse (R507, R508). -/
def settleInt (h : Hw) (k : Nat) : Hw :=
  let a := h.aggregate k
  let g := if a && !(h.intPin k).agg && h.intEn k && h.intPulse k then h.intStart k else h
  g.setIntPin k { g.intPin k with agg := a }

end Hw

end Sys2Proof.Machine
end

