-- ==== Sys2Proof/Machine/Pins.lean ====
section
/-!
DEFINITION. The pin multiplexer: the function table, claims, ownership, conflicts and pad levels (R523 to R529, R538).
Pin `i` is pin `i % 8` of port `i / 8`.
-/

namespace Sys2Proof.Machine

/-- The fixed functions of R523. -/
inductive PinFn
  | strmCk | strmD0 | strmD1 | xbclk | xbd (k : Nat) | ppsOut | capin (k : Nat) | tm (n x : Nat)
  deriving DecidableEq, Repr

/-- The function table (R523): the slots F1 to F3 of a pin. -/
def pinFns : Nat → List (Nat × PinFn)
  | 0 => [(1, .strmCk), (2, .tm 2 0)]
  | 1 => [(1, .strmD0), (2, .tm 2 1)]
  | 2 => [(1, .strmD1), (2, .capin 0)]
  | 3 => [(1, .capin 1)]
  | 4 => [(1, .tm 0 0)]
  | 5 => [(1, .tm 0 1)]
  | 6 => [(1, .ppsOut), (2, .tm 1 0)]
  | 7 => [(1, .tm 1 1)]
  | 8 => [(1, .xbclk), (2, .tm 3 0), (3, .capin 2)]
  | 9 => [(1, .xbd 0), (2, .tm 3 1)]
  | 10 => [(1, .xbd 1), (2, .tm 4 0), (3, .capin 3)]
  | 11 => [(1, .tm 4 1)]
  | 12 => [(1, .tm 5 0)]
  | 13 => [(1, .tm 5 1)]
  | _ => []

/-- The domain of a fixed function (R529). -/
def PinFn.dom : PinFn → Dom
  | .strmCk => .sense
  | .strmD0 => .sense
  | .strmD1 => .sense
  | .xbclk => .sense
  | .xbd _ => .sense
  | .ppsOut => .time
  | .capin _ => .time
  | .tm _ _ => .time

namespace Hw

/-- The timer numbered `n` modulo 6. -/
def timOf (h : Hw) (n : Nat) : Timer := h.tim[n % 6]'(Nat.mod_lt _ (by decide))

/-- Replace the timer numbered `n` modulo 6. -/
def setTim (h : Hw) (n : Nat) (t : Timer) : Hw := { h with tim := h.tim.set (n % 6) t (Nat.mod_lt _ (by decide)) }

/-- The channel numbered `x` modulo 2 of a timer. -/
def timCh (t : Timer) (x : Nat) : TimCh := t.ch[x % 2]'(Nat.mod_lt _ (by decide))

/-- The output level of a compare channel (R377, R378): its idle level while the timer is stopped. -/
def timOut (h : Hw) (n x : Nat) : Bool :=
  if (h.timOf n).running then (timCh (h.timOf n) x).out else h.b ((0x28 + n) * 256 + 0x1B + x) 12

/-- A function's claim (R524): none, as an input (`some false`) or as an output (`some true`). -/
def claim (h : Hw) (fn : PinFn) : Option Bool :=
  if !h.up fn.dom then none else
    match fn with
    | .strmCk => if h.f R.BUF_BCFG 1 0 = 2 then some true else none
    | .strmD0 => if h.f R.BUF_BCFG 1 0 = 2 then some true else none
    | .strmD1 => if h.f R.BUF_BCFG 1 0 = 2 && h.b R.STRM_CFG 4 then some true else none
    | .xbclk => if h.afe.chen.getLsbD 2 || h.afe.chen.getLsbD 3 then some (!h.afe.xbcfg.getLsbD 15) else none
    | .xbd _ => if h.afe.chen.getLsbD 2 || h.afe.chen.getLsbD 3 then some false else none
    | .ppsOut => if h.b R.TSU_PPSCFG 8 then some true else none
    | .capin k =>
      if (List.range 8).any (fun c => h.b (R.TSU_CCFG c) 15 && h.f (R.TSU_CCFG c) 7 0 == 0x40 + k) then some false
      else none
    | .tm n x =>
      let cfg := h.reg ((0x28 + n) * 256 + 0x1B + x)
      if fld cfg 15 14 = 1 && fld cfg 10 8 != 0 then some true
      else if fld cfg 15 14 = 2 && cfg.getLsbD 13 then some false
      else none

/-- Etcher levels mapped to a pin (R524, R539). -/
def esMapped (h : Hw) (i : Nat) : List (Fin 8) :=
  if !h.up .sense then [] else
    (List.finRange 8).filter fun n =>
      h.b (R.PMUX_ESMAP n) 15 && h.f (R.PMUX_ESMAP n) 5 4 * 8 + h.f (R.PMUX_ESMAP n) 2 0 == i

/-- The GPIO output of a port claims the pin (R524). -/
def gpioClaims (h : Hw) (i : Nat) : Bool := h.b (R.PORT_DIR (i / 8)) (i % 8)

/-- All claims on a pin in rank order: slot and direction. -/
def claims (h : Hw) (i : Nat) : List (Nat × Bool) :=
  ((pinFns i).filterMap fun p => (h.claim p.2).map fun d => (p.1, d))
    ++ (if (h.esMapped i).isEmpty then [] else [(4, true)])
    ++ (if h.gpioClaims i then [(5, true)] else [])

/-- The owner code of a pin (R525, R538). -/
def owner (h : Hw) (i : Nat) : Nat :=
  if h.pins.held.getLsbD i then 7 else ((h.claims i).head?.map Prod.fst).getD 0

/-- The pin is in conflict (R527). -/
def inConflict (h : Hw) (i : Nat) : Bool := (h.claims i).any (fun c => !c.2) && 2 ≤ (h.claims i).length

/-- The pins in conflict. -/
def conflicts (h : Hw) : BitVec 24 :=
  (List.range 24).foldl (fun w i => if h.inConflict i then w ||| (1#24 <<< i) else w) 0

/-- The level of a stream lane (R354): that of one STRM_CK period of the frame; which period the moment lies in is free (log
entry 14), and so are the bits of a frame that no command has sent yet. -/
def strmLane (h : Hw) (lane : Nat) : Bool :=
  h.strm.active &&
    match h.strm.lanes[h.open' 20 % h.strm.lanes.length]? with
    | none => (lane = 0 || h.b R.STRM_CFG 4) && h.open' (21 + lane) % 2 == 1
    | some w => w.getLsbD lane

/-- The value of an output function (R524, R177, R377); a clock that runs faster than V shows either level. -/
def fnLevel (h : Hw) : PinFn → Bool
  | .strmCk => h.strm.active && h.open' 24 % 2 == 1
  | .strmD0 => h.strmLane 0
  | .strmD1 => h.strmLane 1
  | .xbclk => h.open' 23 % 2 == 1
  | .xbd _ => false
  | .ppsOut => h.pps.active != h.b R.TSU_PPSCFG 9
  | .capin _ => false
  | .tm n x => h.timOut n x

/-- The OR of every output that claims the pin, inverted when its INV bit is 1 (R526). -/
def outLevel (h : Hw) (i : Nat) : Bool :=
  let fixed := (pinFns i).any fun p => h.claim p.2 == some true && h.fnLevel p.2
  let es := (h.esMapped i).any fun n => (h.etch[n]).level
  let gpio := h.gpioClaims i && h.b (R.PORT_OUT (i / 8)) (i % 8)
  (fixed || es || gpio) != h.b (R.PORT_INV (i / 8)) (i % 8)


/-- The VIO pads are driven and read: VIGIL is up and VIO is in band (R39, R520). -/
def padsOn (h : Hw) : Bool := h.vigil && h.pwr.vio != .out

/-- What the multiplexer drives on a pad: none when it is not driven (R525, R526, R529). -/
def muxDrive (h : Hw) (i : Nat) : Option Bool :=
  if !h.padsOn then none
  else if h.pins.held.getLsbD i then some (h.pins.heldLevel.getLsbD i)
  else
    match (h.claims i).head? with
    | some (_, true) => some (h.outLevel i)
    | some (_, false) => none
    | none => none

/-- What the boundary register drives on land `i` of the list in R561: the output cell while the enable cell is 1. -/
def landDrive (h : Hw) (i : Nat) : Option Bool :=
  if h.tap.boundary.getLsbD (3 * i + 2) then some (h.tap.boundary.getLsbD (3 * i + 1)) else none

/-- What drives pad `i` of the ports A to C, which are lands 34 to 57 (R526, R561, R562): the boundary register while the pads
follow it. -/
def padDrive (h : Hw) (i : Nat) : Option Bool := if h.tap.pads then h.landDrive (34 + i) else h.muxDrive i

/-- The pull of a pad (R521), from VIGIL up and whether or not the pad is driven: 0 none, 1 down, 2 up, 3 bus keeper. -/
def pull (h : Hw) (i : Nat) : Nat := if h.vigil then h.f (R.PORT_PULL (i / 8)) (2 * (i % 8) + 1) (2 * (i % 8)) else 0

/-- High drive is selected for a pad (R521). -/
def highDrive (h : Hw) (i : Nat) : Bool := h.b (R.PORT_DRV (i / 8)) (i % 8)

/-- The level of a wire (R521, R522): two drivers against each other leave it open, as does a pad that floats; the bus keeper
keeps the level last on the wire, which is outside the model's view (log entry 14). -/
def wireLevel (drive outside : Option Bool) (pull : Nat) (float : Bool) : Bool :=
  match drive, outside with
  | some d, none => d
  | none, some o => o
  | some d, some o => if d = o then d else float
  | none, none => if pull = 1 then false else if pull = 2 then true else float

/-- What parts outside drive onto a pad: free (log entry 14). -/
def outsideDrive (h : Hw) (i : Nat) : Option Bool :=
  match h.open' (40 + i) % 3 with
  | 0 => none
  | 1 => some false
  | _ => some true

/-- The level on the wire of a pad as a V edge samples it, never inverted (R522). -/
def padLevel (h : Hw) (i : Nat) : Bool :=
  wireLevel (h.padDrive i) (h.outsideDrive i) (h.pull i) (h.open' (70 + i) % 2 == 1)

/-- At the first step of a domain's off-sequence the pins that its functions own as outputs with OFFHOLD set are held at
their level (R529); `d` still claims in `h`. -/
def holdPins (h : Hw) (d : Dom) : Hw :=
  let ownedBy := fun (i : Nat) =>
    match (h.claims i).head? with
    | some (s, true) =>
      if s = 4 then d == .sense
      else ((pinFns i).find? (fun p => p.1 == s)).map (fun p => p.2.dom == d) == some true
    | _ => false
  (List.range 24).foldl (fun g i =>
    if ownedBy i && h.b (R.PORT_OFFHOLD (i / 8)) (i % 8) && !g.pins.held.getLsbD i then
      { g with pins := { g.pins with
          held := g.pins.held ||| (1#24 <<< i)
          heldLevel := if h.outLevel i then g.pins.heldLevel ||| (1#24 <<< i)
            else g.pins.heldLevel &&& ~~~(1#24 <<< i)
          heldDom := g.pins.heldDom.set (i % 24) d (Nat.mod_lt _ (by decide)) } }
    else g) h

/-- The holds of a domain end when its on-sequence completes (R529). -/
def endHolds (h : Hw) (d : Dom) : Hw :=
  (List.range 24).foldl (fun g i =>
    if g.pins.heldDom[i % 24]'(Nat.mod_lt _ (by decide)) == d then
      { g with pins := { g.pins with held := g.pins.held &&& ~~~(1#24 <<< i) } }
    else g) h

/-- The level a pin line sees: the pad level inverted by INV (R526). -/
def lineLevel (h : Hw) (lvl : Bool) (i : Nat) : Bool := lvl != h.b (R.PORT_INV (i / 8)) (i % 8)

end Hw

end Sys2Proof.Machine
end

