-- ==== Sys2Proof/Machine/Almanac.lean ====
section
/-!
DEFINITION. The almanacs, their reference ladder, PPS, target times, the capture unit and the calendar (R153 to R191).
-/

namespace Sys2Proof.Machine
namespace Hw

/-- IFLAG bit of an ALMn page (R189). -/
def almFlag (h : Hw) (n bit : Nat) : Hw := h.raise (0x20 + n) bit

/-! ### Time -/

/-- The slew rate in units of 2^-16 ns a T edge (R160). -/
def slewRate (h : Hw) (n : Nat) : Nat := max 1 (min 131 (h.f (R.ALM_SLEWRATE n) 7 0))

/-- Restart from the V-time coarse second counter (R155). The holdover mean and the qualified seconds count from the last TIME
on-sequence, so a block reset keeps them (R168, R171). -/
def almRestart (h : Hw) (n : Nat) : Hw :=
  let a := h.almOf n
  h.setAlm n
    { sec := h.clk.vsec.setWidth 48, sub := h.clk.vms * 1000000 * 4294967296, slew := 0, unknown := true
      rung := .freeRun, target := .freeRun, switching := false, committed := false, revert := false
      ptpQual := false, ppsGood := false, ppsQual := false, leftQual := false, ppsEdges := 0, ppsOut := 0, ppsLast := none
      means := a.means, qualSec := a.qualSec, holdSec := 0, left := 0, hostServo := false, tgt := none }

/-- What the slew adds over `k` T edges, in units of 2^-16 ns (R159): the last edge adds only the remainder. -/
def slewPart (h : Hw) (n k : Nat) : Int :=
  let s := (h.almOf n).slew
  if 0 ≤ s then min s (k * h.slewRate n : Nat) else max s (-((k * h.slewRate n : Nat) : Int))

/-- Units of 2^-32 ns that `k` T edges add (R156, R159). -/
def almGain (h : Hw) (n k : Nat) : Nat := ((k * h.addend n : Nat) + h.slewPart n k * 65536 : Int).toNat

/-- The first number of T edges after which the almanac has gained at least `need` units: with the slew running to that
edge, or with the slew ending before it. -/
def almEdges (h : Hw) (n need : Nat) : Nat :=
  let s := (h.almOf n).slew
  let r : Int := if 0 < s then h.slewRate n else if s < 0 then -(h.slewRate n : Int) else 0
  let inc := ((h.addend n : Nat) + r * 65536 : Int).toNat
  let k1 := (need + inc - 1) / inc
  if k1 * h.slewRate n ≤ s.natAbs || s == 0 then k1
  else max ((s.natAbs + h.slewRate n - 1) / h.slewRate n) ((((need : Int) - s * 65536).toNat + h.addend n - 1) / h.addend n)

/-- A slew has reached its amount (R159, R173): SLEWING falls. A switch to PTP or PPS_IN that has passed its commit point ends
with the slew of its correction, and a revert with it; when a switch ends is the model's choice (DESIGN CHOICE, log entry
96). -/
def slewEnded (h : Hw) (n : Nat) : Hw :=
  let a := h.almOf n
  if a.switching && a.committed && (a.rung = .ptp || a.rung = .pps) then
    h.setAlm n { a with slew := 0, switching := false, committed := false, revert := false }
  else h.setAlm n { a with slew := 0 }

/-- A microsecond in units of 2^-32 ns. -/
def microUnits : Nat := 1000 * 4294967296

/-- The microseconds that the tick almanac enters by counting to `sub` have a 1 MHz tick each (R165). -/
def almMicros (h : Hw) (n sub : Nat) : Nat :=
  if h.f R.CAL_ROLES 5 4 = n then sub / microUnits - (h.almOf n).sub / microUnits else 0

/-- Time passes by `k` T edges without a second tick: the sub-second and the remaining slew move. -/
def almCount (h : Hw) (n k : Nat) : Hw :=
  let a := h.almOf n
  let left := a.slew - h.slewPart n k
  let sub := a.sub + h.almGain n k
  let h1 := { h.setAlm n { a with sub := sub, slew := left } with
    cal := { h.cal with ticks := h.cal.ticks + h.almMicros n sub } }
  if a.slew ≠ 0 && left = 0 then h1.slewEnded n else h1

/-- The almanac is set to a time in units of 2^-32 ns since the epoch, modulo 2^48 seconds. -/
def almSet (h : Hw) (n : Nat) (units : Int) : Hw :=
  let u := (units % (2 ^ 48 * secUnits : Nat)).toNat
  let a := h.almOf n
  h.setAlm n { a with sec := BitVec.ofNat 48 (u / secUnits), sub := u % secUnits }

/-! ### Target times (R182, R183) -/

/-- The match fires if the target is due: EV30 + n, TGT, and re-arm at the first later value or disarm. `late` marks a
target due when committed. -/
def tgtCheck (h : Hw) (n : Nat) (late : Bool) : Hw :=
  let a := h.almOf n
  match a.tgt with
  | none => h
  | some t =>
    if almNs a < t then h
    else
      let period := h.reg32 (R.ALM_TGT_PL n)
      let next := if period = 0 then none else some (t + ((almNs a - t) / period + 1) * period)
      let h1 := ((h.setAlm n { a with tgt := next }).event (30 + n)).almFlag n 1
      if late then h1.almFlag n 2 else h1

/-! ### Steps and slews (R158 to R162, R173) -/

/-- A running PPS_OUT pulse ends (R177). -/
def ppsEnd (h : Hw) : Hw := { h with pps := { h.pps with active := false } }

/-- A step of the almanac to a time (R158, R162): STEPPED is set, no tick is produced, a PPS_OUT pulse of that almanac
ends, a due target fires, and the grid times of the sample almanac jump with it. `known` ends the unknown quality of R155. -/
def almStepTo (h : Hw) (n : Nat) (units : Int) (known : Bool) : Hw :=
  let h1 := h.almSet n units
  let a := h1.almOf n
  let h2 := (h1.setAlm n { a with unknown := a.unknown && !known }).almFlag n 3
  let h2 := if h2.f R.CAL_ROLES 1 0 = n then { h2 with dec := { h2.dec with nextT := none } } else h2
  let h3 := if h2.f R.TSU_PPSCFG 5 4 = n then h2.ppsEnd else h2
  h3.tgtCheck n false

/-- A slew starts or replaces the amount still to go, in units of 2^-16 ns (R159, R161). -/
def startSlew (h : Hw) (n : Nat) (amount : Int) : Hw :=
  let h1 := h.setAlm n { h.almOf n with slew := amount }
  if amount = 0 then h1.slewEnded n else h1

/-- Seconds and nanoseconds of a TIME-like list of words FRAC, NS_L, NS_H, SEC_L, SEC_M, SEC_H. -/
def word (vs : List Word) (i : Nat) : Nat := (vs.getD i 0).toNat

/-- A commit of `ALMn.TIME` (R158). -/
def almTimeSet (h : Hw) (n : Nat) (vs : List Word) : Hw :=
  let ns := word vs 1 + 65536 * (word vs 2 % 16384)
  let sec := word vs 3 + 65536 * word vs 4 + 4294967296 * word vs 5
  if 999999999 < ns then h.almFlag n 6
  else h.almStepTo n ((sec * secUnits + ns * 4294967296 + word vs 0 * 65536 : Nat) : Int) true

/-- A commit of `ALMn.ADD` (R157). -/
def almAddSet (h : Hw) (n : Nat) (vs : List Word) : Hw :=
  let v := word vs 0 + 65536 * word vs 1 + 4294967296 * (word vs 2 % 16)
  if v < 0x7C0000000 || 0x840000000 < v then h.almFlag n 6
  else ((h.setReg (R.ALM_ADD_L n) (wd v)).setReg (R.ALM_ADD_M n) (wd (v / 65536))).setReg (R.ALM_ADD_H n)
    (wd (v / 4294967296))

/-- A commit of `ALMn.TGT` (R182, R183). -/
def almTgtSet (h : Hw) (n : Nat) (vs : List Word) : Hw :=
  let ns := word vs 0 + 65536 * (word vs 1 % 16384)
  let sec := word vs 2 + 65536 * word vs 3 + 4294967296 * word vs 4
  if 999999999 < ns then h.almFlag n 6
  else
    let h1 := (List.range 7).foldl (fun g i => g.setReg (R.ALM_TGT_NL n + i)
      (wd (if i = 1 then word vs i % 16384 else word vs i))) h
    (h1.setAlm n { h1.almOf n with tgt := some (sec * 1000000000 + ns) }).tgtCheck n true

/-- DISARM (R183). -/
def almDisarm (h : Hw) (n : Nat) : Hw := h.setAlm n { h.almOf n with tgt := none }

/-- A write to `ALMn.BIND` (R167). -/
def almBind (h : Hw) (n : Nat) (v : Word) : Hw :=
  let dup := v.getLsbD 15 && (List.range 4).any fun m =>
    m != n && h.b (R.ALM_BIND m) 15 && h.f (R.ALM_BIND m) 7 0 == fld v 7 0
  if dup then h.almFlag n 7 else h.setReg (R.ALM_BIND n) (v &&& 0x80FF)

/-! ### The reference ladder (R168 to R175) -/

/-- QUAL in seconds or edges; 0 acts as 1. -/
def qualLen (h : Hw) (n : Nat) : Nat := max 1 (h.f (R.ALM_QUAL n) 7 0)

def rungRank : Rung → Nat
  | .ptp => 0
  | .pps => 1
  | .holdover => 2
  | .freeRun => 3

/-- The rung is enabled in `ALMn.LADDER`; holdover and free-run need no enable. -/
def rungEnabled (h : Hw) (n : Nat) : Rung → Bool
  | .ptp => h.b (R.ALM_LADDER n) 0
  | .pps => h.b (R.ALM_LADDER n) 1
  | .holdover => true
  | .freeRun => true

/-- HOLDMAX seconds have been spent in holdover since the last PTP or PPS_IN rung (R168). -/
def holdExpired (h : Hw) (n : Nat) : Bool := (h.reg (R.ALM_HOLDMAX n)).toNat ≤ (h.almOf n).holdSec

/-- The rung is good, or available for holdover (R168). -/
def rungGood (h : Hw) (n : Nat) (r : Rung) : Bool :=
  h.rungEnabled n r &&
    match r with
    | .ptp => h.b (R.ALM_SERVO n) 0
    | .pps => (h.almOf n).ppsGood
    | .holdover => h.qualLen n ≤ (h.almOf n).qualSec && !h.holdExpired n
    | .freeRun => true

/-- The best good rung below `r` (R169). -/
def bestBelow (h : Hw) (n : Nat) (r : Rung) : Rung :=
  if rungRank r < 1 && h.rungGood n .pps then .pps
  else if rungRank r < 2 && h.rungGood n .holdover then .holdover
  else .freeRun

/-- A switch starts toward a rung (R169). -/
def startSwitch (h : Hw) (n : Nat) (r : Rung) (rev : Bool) : Hw :=
  h.setAlm n { h.almOf n with target := r, switching := true, committed := false, revert := rev }

/-- The rung `r` is lost: the target of a switch before its commit point, which restarts (R174), or the current rung, which
starts a switch to the best rung below it (R169) unless one toward such a rung runs already. A restarted switch may name
the current rung (DESIGN CHOICE, log entry 97). -/
def rungLost (h : Hw) (n : Nat) (r : Rung) : Hw :=
  let a := h.almOf n
  let run := almSwitching a
  if run && a.target = r then h.startSwitch n (h.bestBelow n r) false
  else if a.rung = r && !(run && rungRank r < rungRank a.target) then h.startSwitch n (h.bestBelow n r) false
  else h

/-- A switch away from the rung `r` is abandoned when `r` becomes good again (R173). -/
def rungReturns (h : Hw) (n : Nat) (r : Rung) : Bool :=
  let a := h.almOf n
  almSwitching a && a.rung = r && rungRank r < rungRank a.target && h.rungGood n r

/-- The rung `r` became good again: a switch that left it and has not committed is abandoned, and the rung stays current as it
was, without requalification (R173). -/
def rungBack (h : Hw) (n : Nat) (r : Rung) : Hw :=
  let a := h.almOf n
  if h.rungReturns n r then
    (h.setAlm n { a with
      switching := false, target := r, revert := false
      ptpQual := a.ptpQual || (a.leftQual && r = .ptp), ppsQual := a.ppsQual || (a.leftQual && r = .pps) }).almFlag n 5
  else h

/-- The bit of a rung in `Alm.left`. -/
def leftBit : Rung → BitVec 2
  | .ptp => 1
  | .pps => 2
  | .holdover => 0
  | .freeRun => 0

/-- The rung `r` is qualified: the first qualification ends the unknown quality (R155), and a better rung than the current
one starts a switch up (R169), with REVERT when an earlier switch had left it (R173). -/
def rungQualified (h : Hw) (n : Nat) (r : Rung) : Hw :=
  let a := h.almOf n
  let a1 := { a with
    unknown := false, ptpQual := a.ptpQual || r = .ptp, ppsQual := a.ppsQual || r = .pps }
  let h1 := h.setAlm n a1
  if rungRank r < rungRank a1.rung && (!almSwitching a1 || rungRank r < rungRank a1.target) then
    h1.startSwitch n r (a.left &&& leftBit r != 0)
  else h1

/-- The mean of the kept addends (R171). -/
def holdMean (a : Alm) : Nat := if a.means.isEmpty then 0 else a.means.sum / a.means.length

/-- The commit point of the running switch (R170): the target becomes the current rung, RUNG is set, and holdover takes the
holdover mean. The switch runs on with COMMITTED: to PTP or PPS_IN until the slew of its correction ends, to holdover or
free-run until the next second tick (DESIGN CHOICE, log entry 96). -/
def switchCommit (h : Hw) (n : Nat) : Hw :=
  let a := h.almOf n
  if !almSwitching a then h
  else
    let h1 := if a.target = .holdover && !a.means.isEmpty then
        let m := holdMean a
        ((h.setReg (R.ALM_ADD_L n) (wd m)).setReg (R.ALM_ADD_M n) (wd (m / 65536))).setReg (R.ALM_ADD_H n)
          (wd (m / 4294967296 % 16))
      else h
    let a1 := h1.almOf n
    (h1.setAlm n { a1 with
      rung := a.target, committed := true, holdSec := if rungRank a.target < 2 then 0 else a.holdSec
      left := (if rungRank a.rung < rungRank a.target then a.left ||| leftBit a.rung else a.left) &&& ~~~(leftBit a.target)
      unknown := a.unknown && rungRank a.target ≥ 2 }).almFlag n 4

/-- A slew of the PTP servo, of the core or of a host (R168, R170): its first step is the commit point of a switch to the
rung. -/
def servoSlew (h : Hw) (n : Nat) (amount : Int) : Hw :=
  let a := h.almOf n
  (if almSwitching a && a.target = .ptp && amount ≠ 0 then h.switchCommit n else h).startSlew n amount

/-- A commit of `ALMn.STEP` (R158); during a revert it is applied as a slew (R173). The group reads the last committed
offset. -/
def almStepSet (h : Hw) (n : Nat) (vs : List Word) : Hw :=
  let ns := word vs 0 + 65536 * (word vs 1 % 16384)
  let sec := signed 48 (word vs 2 + 65536 * word vs 3 + 4294967296 * word vs 4)
  if 999999999 < ns then h.almFlag n 6
  else
    let off : Int := sec * 1000000000 + ns
    let a := h.almOf n
    if a.revert && (off < -1000000000 || 1000000000 < off) then h.almFlag n 6
    else
      let h1 := (List.range 5).foldl (fun g i => g.setReg (R.ALM_STEP_NL n + i)
        (wd (if i = 1 then word vs i % 16384 else word vs i))) h
      if a.revert then (h1.setAlm n { h1.almOf n with unknown := false }).servoSlew n (off * 65536)
      else h1.almStepTo n ((almUnits a : Int) + off * 4294967296) true

/-- A commit of `ALMn.SLEW` (R159, R170). -/
def almSlewSet (h : Hw) (n : Nat) (vs : List Word) : Hw :=
  let v := signed 32 (word vs 0 + 65536 * word vs 1)
  if v < -1000000000 || 1000000000 < v then h.almFlag n 6 else h.servoSlew n (v * 65536)

/-- The servo of the PTP domain that the almanac is bound to has measured the almanac's offset from its master in ns (R163): it
steps the almanac back by an offset above 1 ms in magnitude and slews it otherwise. -/
def servoCorrect (h : Hw) (n : Nat) (off : Int) : Hw :=
  let ns := (-off) % 1000000000
  let sec := (-off) / 1000000000
  if 1000000 < off.natAbs then
    h.almStepSet n [wdI ns, wdI (ns / 65536), wdI sec, wdI (sec / 65536), wdI (sec / 4294967296)]
  else h.almSlewSet n [wdI (-off), wdI (-off / 65536)]

/-- GOOD falls (R168): the PTP rung is lost. -/
def servoLost (h : Hw) (n : Nat) : Hw :=
  let h1 := h.clrBits (R.ALM_SERVO n) 1
  let a := h1.almOf n
  (h1.setAlm n { a with
    leftQual := if a.rung = .ptp && !almSwitching a then a.ptpQual else a.leftQual, ptpQual := false }).rungLost n .ptp

/-- A write to `ALMn.SERVO` (R168): TO and GOOD; a rise of GOOD may abandon a switch (R173). `host` says that a host wrote
it. -/
def servoWrite (h : Hw) (n : Nat) (host : Bool) (v : Word) : Hw :=
  let was := h.b (R.ALM_SERVO n) 0
  let h0 := h.setReg (R.ALM_SERVO n) (v &&& 0x00F1)
  let h1 := h0.setAlm n { h0.almOf n with hostServo := host }
  if v.getLsbD 0 then (if was then h1 else h1.rungBack n .ptp)
  else if was then h1.servoLost n
  else h1

/-- A write to `ALMn.LADDER` (R169): a switch starts when it disables the current rung, and a switch toward a disabled rung
starts anew (R174). -/
def ladderWrite (h : Hw) (n : Nat) (v : Word) : Hw :=
  let h1 := h.setReg (R.ALM_LADDER n) (v &&& 0x0003)
  let h2 := if v.getLsbD 0 then h1 else h1.rungLost n .ptp
  if v.getLsbD 1 then h2 else h2.rungLost n .pps

/-- The CORE off-sequence starts: GOOD falls where no host drives the rung (R168). -/
def servoCoreOff (h : Hw) : Hw :=
  (List.range 4).foldl (fun g n => if g.b (R.ALM_SERVO n) 0 && !(g.almOf n).hostServo then g.servoLost n else g) h

/-- The PPS rung is lost (R168). -/
def ppsLost (h : Hw) (n : Nat) : Hw :=
  let a := h.almOf n
  (h.setAlm n { a with
    leftQual := if a.rung = .pps && !almSwitching a then a.ppsQual else a.leftQual
    ppsGood := false, ppsQual := false, ppsEdges := 0, ppsOut := 0 }).rungLost n .pps

/-- The offset of an almanac's time from the nearest whole second in units of 2^-16 ns, in (−0.5 s, +0.5 s] (R172). -/
def ppsOffset (a : Alm) : Int :=
  let t := a.sub / 65536
  if t ≤ 500000000 * 65536 then t else (t : Int) - 1000000000 * 65536

/-- The PPS loop's correction of the addend from the change `de` of the offset between edges (R172): by the same fraction of a
second, within the range of R157. The rule gives no formula (DESIGN CHOICE, log entry 98). -/
def ppsAddend (h : Hw) (n : Nat) (de : Int) : Hw :=
  let add : Int := (h.addend n : Int) - de * (h.addend n : Int) / (1000000000 * 65536)
  let v := (clampI 0x7C0000000 0x840000000 add).toNat
  ((h.setReg (R.ALM_ADD_L n) (wd v)).setReg (R.ALM_ADD_M n) (wd (v / 65536))).setReg (R.ALM_ADD_H n) (wd (v / 4294967296))

/-- A PPS_IN edge at one almanac whose ladder enables the rung (R168, R172), whatever its current rung is (DESIGN CHOICE, log
entry 98). `period` is the time since the last edge in almanac ns. -/
def ppsEdge (h : Hw) (n : Nat) (period : Nat) : Hw :=
  if !h.b (R.ALM_LADDER n) 1 then h
  else
    let a := h.almOf n
    let e := ppsOffset a
    let big := 1000000 * 65536 < e.natAbs
    let inTime := 999900000 ≤ period && period ≤ 1000100000
    if a.ppsQual && big then
      let out := a.ppsOut + 1
      let h1 := (h.setAlm n { a with ppsOut := out, ppsEdges := 0 }).almFlag n 8
      if 4 ≤ out then h1.ppsLost n else h1
    else
      let edges := if inTime then a.ppsEdges + 1 else 0
      let h1 := h.setAlm n { a with ppsOut := 0, ppsEdges := edges, ppsGood := inTime, ppsLast := some e }
      if inTime && h1.rungReturns n .pps then h1.rungBack n .pps
      else
        let h2 := if inTime && almSwitching a && a.target = .pps && !big then h1.switchCommit n else h1
        let h3 := if inTime && h.qualLen n ≤ edges && !a.ppsQual then h2.rungQualified n .pps else h2
        if big then h3.almStepTo n ((almUnits (h3.almOf n) : Int) - e * 65536) false
        else
          let de := match a.ppsLast with
            | none => 0
            | some l => e - l
          (h3.ppsAddend n de).startSlew n (-e)

/-! ### Second tick (R166, R168, R170, R171, R177, R85) -/

/-- The addend of a second on a qualified PTP or PPS rung enters the mean, outside a switch before its commit point; a second
in holdover counts (R168, R171). That the addend at the closing tick stands for the second is the model's choice (DESIGN
CHOICE, log entry 99). -/
def secondMean (h : Hw) (n : Nat) : Hw :=
  let a := h.almOf n
  let counts := !almSwitching a && ((a.rung = .ptp && a.ptpQual) || (a.rung = .pps && a.ppsQual))
  if counts then h.setAlm n { a with means := (h.addend n :: a.means).take 16, qualSec := a.qualSec + 1 }
  else if a.rung = .holdover then h.setAlm n { a with holdSec := a.holdSec + 1 }
  else h

/-- The ladder at a second tick: a switch to holdover or free-run commits there (R170), a switch to one of them that has
committed ends, and HOLDMAX seconds in holdover lose that rung (R168). -/
def secondLadder (h : Hw) (n : Nat) : Hw :=
  let a := h.almOf n
  if almSwitching a && 2 ≤ rungRank a.target then
    if a.target = .holdover && h.holdExpired n then h.rungLost n .holdover else h.switchCommit n
  else
    let h1 := if a.switching && a.committed && 2 ≤ rungRank a.rung then
        h.setAlm n { a with switching := false, committed := false, revert := false }
      else h
    if a.rung = .holdover && h.holdExpired n then h1.rungLost n .holdover else h1

/-- PPS_OUT starts at the second tick of the almanac that OUTALM names (R177). -/
def ppsStart (h : Hw) (n : Nat) : Hw :=
  if h.b R.TSU_PPSCFG 8 && h.f R.TSU_PPSCFG 5 4 = n then
    { h with pps := { active := true, width := max 1 (min 999 (h.f R.TSU_PPSW 9 0)) } }
  else h

/-- The coarse second counter follows the almanac that VSRC names (R85). -/
def vFollow (h : Hw) (n : Nat) : Hw :=
  if h.b R.CLK_VSRC 15 && h.f R.CLK_VSRC 1 0 = n then
    { h with clk := { h.clk with vsec := (h.almOf n).sec.setWidth 32, vms := 0, vcyc := 0 } }
  else h

/-- The almanac counts to the first T edge at or after its next second and wraps (R153, R166). -/
def almWrap (h : Hw) (n : Nat) : Hw :=
  let need := secUnits - (h.almOf n).sub
  let h1 := h.almCount n (h.almEdges n need)
  let a := h1.almOf n
  h1.setAlm n { a with sec := a.sec + 1, sub := a.sub - secUnits }

/-! ### Capture (R178 to R181) -/

/-- The six words of a time in units of 2^-32 ns since the epoch. -/
def timeWords (u : Nat) : List Word :=
  let ns := u / 4294967296 % 1000000000
  let s := u / secUnits
  [wd (u / 65536), wd ns, wd (ns / 65536), wd s, wd (s / 65536), wd (s / 4294967296)]

/-- Words written to consecutive registers. -/
def setRegs (h : Hw) (a : Nat) : List Word → Hw
  | [] => h
  | v :: t => (h.setReg a v).setRegs (a + 1) t

/-- A capture on channel `n` at the present time of its almanac (R179, R180). -/
def tsuCapture (h : Hw) (n : Nat) : Hw :=
  let u := almUnits (h.almOf (h.f (R.TSU_CCFG n) 12 11))
  let h1 := h.setRegs (R.TSU_CAP n) (timeWords u)
  let h2 := (h1.setBits (R.TSU_CSTAT n) 0x8000).raise 0x25 n
  if h.b (R.TSU_CSTAT n) 15 then (h2.setBits (R.TSU_CSTAT n) 0x4000).raise 0x25 (n + 8) else h2

/-! ### The calendar (R184 to R187) -/

/-- A leap year (R184). -/
def isLeap (y : Nat) : Bool := (y % 4 == 0 && y % 100 != 0) || y % 400 == 0

/-- Days before each month of a common year. -/
def cumDays (m : Nat) : Nat := [0, 31, 59, 90, 120, 151, 181, 212, 243, 273, 304, 334].getD (m - 1) 0

/-- The days of a month. -/
def monthDays (y m : Nat) : Nat :=
  [31, if isLeap y then 29 else 28, 31, 30, 31, 30, 31, 31, 30, 31, 30, 31].getD (m - 1) 0

/-- Days from 2000-01-01 to a date (R187). -/
def civilDays (y m day : Nat) : Nat :=
  let n := y - 2000
  let leaps := (n + 3) / 4 - (n + 99) / 100 + (n + 399) / 400
  365 * n + leaps + cumDays m + (day - 1) + (if 2 < m && isLeap y then 1 else 0)

/-- Days before 1 January of a year from 2000 on. -/
def yearStart (y : Nat) : Nat := civilDays y 1 1

/-- The year of a day count from 2000-01-01, found from the leap count (R187). -/
def yearOfDay (d : Nat) : Nat :=
  let y := 2000 + d / 366
  let up := fun (y : Nat) => if yearStart (y + 1) ≤ d then y + 1 else y
  up (up y)

/-- The month of a day of the year. -/
def monthOfDay (y doy : Nat) : Nat :=
  ((List.range 12).filter fun m => civilDays y (m + 1) 1 - yearStart y ≤ doy).length

/-- TAI minus UTC (R185). -/
def utcOfs (h : Hw) : Int := signed 16 (h.reg R.CAL_UTCOFS).toNat

/-- The calendar almanac's number (R164). -/
def calAlm (h : Hw) : Nat := h.f R.CAL_ROLES 7 6

/-- The calendar's UTC seconds since 2000-01-01 00:00:00. -/
def calUtc (h : Hw) : Int := ((h.almOf h.calAlm).sec.toNat : Int) - h.utcOfs - 946684800

/-- The present UTC second as the calendar counts it (R186): during an inserted second the count stays on 23:59:59. -/
def calCount (h : Hw) : Int := if h.cal.inserted then h.calUtc - 1 else h.calUtc

/-- The time converts outside 2000 to 2399 (R185). -/
def calRange (h : Hw) : Bool := h.calCount < 0 || (yearStart 2400 : Int) * 86400 ≤ h.calCount

/-- The civil group (R185): year, month and day, hour and minute, second, nanoseconds, weekday. -/
def civilWords (h : Hw) : List Word :=
  if h.calRange then [0, 0, 0, 0, 0, 0, 0]
  else
    let u := h.calCount.toNat
    let d := u / 86400
    let y := yearOfDay d
    let doy := d - yearStart y
    let m := monthOfDay y doy
    let day := doy - (civilDays y m 1 - yearStart y) + 1
    let t := u % 86400
    let ns := (h.almOf h.calAlm).sub / 4294967296
    [wd y, wd (m * 256 + day), wd (t / 3600 * 256 + t / 60 % 60), wd (if h.cal.inserted then 60 else t % 60),
     wd ns, wd (ns / 65536), wd ((d + 5) % 7 + 1)]

/-- A commit of `CAL.CIVIL` (R187): steps the calendar almanac or is rejected whole. -/
def civilSet (h : Hw) (vs : List Word) : Hw :=
  let y := word vs 0
  let m := word vs 1 / 256 % 16
  let day := word vs 1 % 32
  let hr := word vs 2 / 256 % 32
  let mi := word vs 2 % 64
  let s := word vs 3 % 64
  let ns := word vs 4 + 65536 * (word vs 5 % 16384)
  let now := h.civilWords
  let today := !h.calRange && word now 0 = y && word now 1 = m * 256 + day
  let bad := y < 2000 || 2399 < y || m < 1 || 12 < m || day = 0 || monthDays y m < day || 23 < hr || 59 < mi
    || 60 < s || (s = 60 && !(h.b R.CAL_LEAP 0 && today && hr = 23 && mi = 59))
    || (hr = 23 && mi = 59 && s = 59 && today && h.b R.CAL_LEAP 1) || 999999999 < ns
  if bad then (h.setBits R.CAL_STAT 2).raise 0x24 1
  else
    let tai : Int := 946684800 + (civilDays y m day : Int) * 86400 + hr * 3600 + mi * 60 + s + h.utcOfs
    let h1 := { h with cal := { h.cal with inserted := s = 60 } }
    h1.almStepTo h.calAlm (tai * secUnits + (ns : Int) * 4294967296) false

/-- A write to `CAL.LEAP` (R186). -/
def leapWrite (h : Hw) (v : Word) : Hw :=
  if v.getLsbD 0 && v.getLsbD 1 then (h.setBits R.CAL_STAT 2).raise 0x24 1
  else h.setReg R.CAL_LEAP (v &&& 3)

/-- The core copies the leap flags and the UTC offset of the calendar almanac's PTP domain (R186). -/
def leapCopy (h : Hw) (flags : BitVec 2) (ofs : Int) : Hw := (h.setReg R.CAL_UTCOFS (wdI ofs)).leapWrite (flags.setWidth 16)

/-- `CAL.STAT.LEAPPEND` (R186, R190): in second 23:59:59 and in an inserted second, what was sampled for today; before, what
`CAL.LEAP` announces. -/
def leapPending (h : Hw) : Bool :=
  if h.cal.inserted then true
  else if h.calUtc % 86400 = 86399 then h.cal.sampled61 || h.cal.sampled59
  else h.b R.CAL_LEAP 0 || h.b R.CAL_LEAP 1

/-- A leap second completes (R186): the offset changes, the bit clears, LEAPDONE is set. -/
def leapDone (h : Hw) (plus : Bool) : Hw :=
  let o := h.utcOfs + (if plus then 1 else -1)
  let h1 := (h.setReg R.CAL_UTCOFS (wdI o)).clrBits R.CAL_LEAP (if plus then 1 else 2)
  { h1 with cal := { h1.cal with sampled61 := false, sampled59 := false, inserted := false } }.raise 0x24 0

/-- The leap second in progress is over (R186): the second after an inserted one has begun, or 23:59:58 has ended and LEAP59
was sampled at that instant. The completion is a command of its own. -/
def leapOver (h : Hw) : Hw :=
  let sod := (h.calUtc % 86400).toNat
  if !h.live .time then h
  else if h.cal.inserted then (if sod = 0 then h else h.leapDone true)
  else if sod = 86399 && h.cal.sampled59 then h.leapDone false
  else h

/-- The calendar at a second tick of its almanac (R186): the bits are sampled at the start of 23:59:59, and an inserted
second starts at the end of that second. That IFLAG.RANGE is set at each tick out of range is the model's choice (DESIGN
CHOICE, log entry 100). -/
def calSecond (h : Hw) (n : Nat) : Hw :=
  if h.calAlm ≠ n then h
  else
    let h1 := h.raiseIf (h.calRange && !h.b R.CAL_STAT 2) 0x24 2
    let sod := (h1.calUtc % 86400).toNat
    if h1.cal.inserted then h1
    else if h1.cal.sampled61 && sod = 0 then
      { h1 with cal := { h1.cal with inserted := true, sampled61 := false } }
    else if sod = 86399 then
      { h1 with cal := { h1.cal with sampled61 := h1.b R.CAL_LEAP 0, sampled59 := h1.b R.CAL_LEAP 1 } }
    else h1

end Hw
end Sys2Proof.Machine
end

