-- ==== Sys2Proof/Machine/Timer.lean ====
section
/-!
DEFINITION. The six timers (R364 to R386): counting, laps and wraps, enable and stop, slave actions, compare and capture
channels, commits.
-/

namespace Sys2Proof.Machine
namespace Hw

/-- IFLAG bit of a TMn page (R388). -/
def timFlag (h : Hw) (n bit : Nat) : Hw := h.raise (0x28 + n) bit

/-- A timer's channel replaced. -/
def setTimCh (h : Hw) (n x : Nat) (c : TimCh) : Hw :=
  let t := h.timOf n
  h.setTim n { t with ch := t.ch.set (x % 2) c (Nat.mod_lt _ (by decide)) }

/-- The configuration registers of a timer and a channel. -/
def timMode (h : Hw) (n : Nat) : Word := h.reg (R.TM_MODE n)
def timSlave (h : Hw) (n : Nat) : Nat := h.f (R.TM_SLAVE n) 15 13
def timCfg (h : Hw) (n x : Nat) : Word := h.reg (R.TM_CH0CFG n + x % 2)
def timSym (h : Hw) (n : Nat) : Bool := (h.timMode n).getLsbD 0
def timLapWait (h : Hw) (n x : Nat) : Bool := (h.timMode n).getLsbD (4 + x % 2)

/-- The idle level of a channel (R378). -/
def timIdle (h : Hw) (n x : Nat) : Bool := (h.timCfg n x).getLsbD 12

/-- One counted edge (R367, R368, R369): the count, whether it counts down after the edge, and whether the edge is the
wrap. -/
def timNext (t : Timer) (sym : Bool) : Nat × Bool × Bool :=
  if sym && t.top != 0 then
    if t.down || t.top ≤ t.cnt then
      if t.cnt ≤ 1 then (0, false, true) else (t.cnt - 1, true, false)
    else (t.cnt + 1, t.cnt + 1 == t.top, false)
  else if t.cnt = t.top || t.cnt = 0xFFFFFFFF then (0, false, true)
  else (t.cnt + 1, false, false)

/-- The preload copies of a wrap or a slave reset (R379, R381); a capture channel keeps the value it holds (R383). -/
def timCopy (h : Hw) (n : Nat) : Hw :=
  let t := h.timOf n
  h.setTim n { t with
    top := t.topHeld.getD t.top, topHeld := none
    ch := Vector.ofFn fun (x : Fin 2) =>
      let c := t.ch[x]
      if c.updp && fld (h.timCfg n x.val) 15 14 != 2 then { c with act := c.pre, updp := false } else c }

/-- The PWM level (R377, OACT 4) after an edge that changed the count or the active value. -/
def timPwm (h : Hw) (n x : Nat) : Hw :=
  if (h.timOf n).running && fld (h.timCfg n x) 15 14 = 1 && fld (h.timCfg n x) 10 8 = 4 then
    let t := h.timOf n
    h.setTimCh n x { timCh t x with out := t.cnt < (timCh t x).act }
  else h

/-- An arrival (R376): a compare channel whose active value the count now is matches, pulses its event and sets its
output. -/
def timArrive (h : Hw) (n x : Nat) : Hw :=
  let t := h.timOf n
  let c := timCh t x
  if fld (h.timCfg n x) 15 14 = 1 && t.cnt = c.act then
    let out := match fld (h.timCfg n x) 10 8 with
      | 1 => true
      | 2 => false
      | 3 => !c.out
      | _ => c.out
    ((h.setTimCh n x { c with out := out, lw := false }).timFlag n (1 + x % 2)).event (9 + 3 * n + x % 2)
  else h

/-- Step 5 of R370 after an edge that moved the count. -/
def timMatches (h : Hw) (n : Nat) : Hw :=
  (((h.timArrive n 0).timArrive n 1).timPwm n 0).timPwm n 1

/-- The timer stops: counting ends and each compare output goes to its idle level (R372). The gate stays as it is until the
next enable (R374). -/
def timHalt (h : Hw) (n : Nat) : Hw :=
  let t := h.timOf n
  { h.setTim n { t with running := false, wtrig := false } with stopping := h.stopping.filter (· != 0x28 + n) }

/-- The timer starts (R371): direction up, prescaler at 0, gate open, outputs at idle, waiting for its trigger in slave
mode 3. -/
def timStart (h : Hw) (n : Nat) : Hw :=
  let t := h.timOf n
  let h1 := h.setTim n { t with down := false, psc := 0, running := true, wtrig := h.timSlave n = 3, gateOff := false }
  let h2 := h1.setTimCh n 0 { timCh (h1.timOf n) 0 with out := h.timIdle n 0 }
  (h2.setTimCh n 1 { timCh (h2.timOf n) 1 with out := h.timIdle n 1 }).setBits (R.TM_CTRL n) 1

/-- A write of 1 to EN (R371, R99): latched while the timer is stopping, when EN already reads 1. -/
def timEnable (h : Hw) (n : Nat) : Hw :=
  if h.isStopping (0x28 + n) then
    { h.setBits (R.TM_CTRL n) 1 with
      pendEn := if h.pendEn.contains (0x28 + n) then h.pendEn else (0x28 + n) :: h.pendEn }
  else if h.enabled (0x28 + n) then h
  else h.timStart n

/-- A write of 0 to EN (R372, R99): at once, or at the end of the lap with STOPLAP. -/
def timStop (h : Hw) (n : Nat) : Hw :=
  let t := h.timOf n
  let h1 := { h.clrBits (R.TM_CTRL n) 1 with pendEn := h.pendEn.filter (· != 0x28 + n) }
  if h.isStopping (0x28 + n) || !t.running then h1
  else if (h.timMode n).getLsbD 8 && !t.wtrig && !t.gateOff then
    { h1 with stopping := (0x28 + n) :: h1.stopping }
  else h1.timHalt n

/-- A running STOPLAP stop ends on the wrap edge; a latched enable starts the timer again from 0 (R372, R99). -/
def timLapEnd (h : Hw) (n : Nat) : Hw :=
  if h.isStopping (0x28 + n) then
    let h1 := h.timHalt n
    if h.pendEn.contains (0x28 + n) then
      { h1 with pendEn := h1.pendEn.filter (· != 0x28 + n) }.timStart n
    else h1
  else h

/-- The timer takes source ticks: it runs, does not wait for a trigger and its gate is open (R371, R374). -/
def timTicks (h : Hw) (n : Nat) : Bool :=
  let t := h.timOf n
  h.up .time && t.running && !t.wtrig && !t.gateOff

/-- The slave event reaches the timer (R375): its EVSEL bit is set, and outside EV8 to EV33 SENSE runs. -/
def timSlaveEv (h : Hw) (n : Nat) : Bool :=
  let e := h.f (R.TM_SLAVE n) 5 0
  h.up .time && h.evEnabled e && ((8 ≤ e && e ≤ 33) || h.live .sense)

/-- A pulse resets the timer (R374, mode 1). -/
def timResets (h : Hw) (n : Nat) (slave : Bool) : Bool :=
  slave && h.timSlaveEv n && h.enabled (0x28 + n) && h.timSlave n = 1

/-- Step 1 of R370: the action of a pulse of the slave event in modes 1 to 3 (R374). -/
def timAct (h : Hw) (n : Nat) (slave : Bool) : Hw :=
  let t := h.timOf n
  if !(slave && h.timSlaveEv n && h.enabled (0x28 + n)) then h
  else if h.timSlave n = 1 then h.setTim n { t with cnt := 0, down := false, psc := 0 }
  else if h.timSlave n = 2 then h.setTim n { t with gateOff := !t.gateOff }
  else if h.timSlave n = 3 && t.wtrig then (h.setTim n { t with wtrig := false }).timFlag n 6
  else h

/-- A source tick reaches the prescaler on this edge (R365, R371): a T edge or 1 MHz tick, or a pulse in mode 4. After a
trigger, counting starts on the next T edge. -/
def timSourced (h : Hw) (n : Nat) (slave tick : Bool) : Bool :=
  !(h.timOf n).wtrig && !h.timResets n slave && (h.timAct n slave).timTicks n &&
    (if h.timSlave n = 4 then slave && h.timSlaveEv n else tick)

/-- The edge is a counted edge (R366): every (PSC + 1)-th source tick. -/
def timCounts (h : Hw) (n : Nat) (slave tick : Bool) : Bool :=
  h.timSourced n slave tick && (h.reg (R.TM_PSC n)).toNat ≤ (h.timOf n).psc

/-- Steps 1 and 2 of R370, and whether the edge is the wrap. -/
def timMoves (h : Hw) (n : Nat) (slave tick : Bool) : Hw × Bool :=
  let h1 := h.timAct n slave
  let t := h1.timOf n
  if h.timCounts n slave tick then
    let (c, d, w) := timNext t (h1.timSym n)
    (h1.setTim n { t with cnt := c, down := d, psc := 0 }, w)
  else if h.timSourced n slave tick then (h1.setTim n { t with psc := t.psc + 1 }, false)
  else (h1, false)

/-- One T edge at a timer (R370): a pulse of its slave event, a source tick, both or neither. With `commit`, a CNT commit
takes effect on the same edge: it replaces the count, so that this count arrives nowhere. -/
def timAt (h : Hw) (n : Nat) (slave tick commit : Bool) : Hw :=
  let (h1, w) := h.timMoves n slave tick
  let h2 := if w then ((h1.timCopy n).event (8 + 3 * n)).timFlag n 0
    else if h.timResets n slave then h1.timCopy n else h1
  let h3 := if (h.timCounts n slave tick || h.timResets n slave) && !commit then h2.timMatches n else h2
  if w then h3.timLapEnd n else h3

/-- One T edge at all timers: the timers whose slave event pulses, those with a source tick, and the one that takes a CNT
commit. -/
def timEdges (h : Hw) (slaves : BitVec 6) (tick : Nat → Bool) (commit : Option Nat) : Hw :=
  (List.range 6).foldl (fun g n => g.timAt n (slaves.getLsbD n) (tick n) (commit == some n)) h

/-- TMn counts T edges (R365). -/
def timOnT (h : Hw) (n : Nat) : Bool := !(h.timMode n).getLsbD 1

/-- A T edge of a timer that counts T edges. -/
def timTEdge (h : Hw) (n : Nat) : Hw := h.timAt n false (h.timOnT n) false

/-- A pulse of the slave event of a timer whose mode is `m` (R374). -/
def timPulse (h : Hw) (n m : Nat) : Hw := if h.timSlave n = m then h.timAt n true false false else h

/-! ### The 1 MHz tick (R164, R165) -/

/-- The tick almanac's number (R164). -/
def tickAlm (h : Hw) : Nat := h.f R.CAL_ROLES 5 4

/-- The next 1 MHz tick: one that counting has reached already, or the tick almanac counts to its next whole microsecond
within the second; the one at the second is the second tick's. -/
def tickDue (h : Hw) : Option Hw :=
  let n := h.tickAlm
  let k := h.almEdges n (microUnits - (h.almOf n).sub % microUnits)
  if !h.live .time then none
  else if 0 < h.cal.ticks then some { h with cal := { h.cal with ticks := h.cal.ticks - 1 } }
  else if (h.almOf n).sub + h.almGain n k < secUnits then
    let g := h.almCount n k
    some { g with cal := { g.cal with ticks := g.cal.ticks - 1 } }
  else none

/-- The 1 MHz tick reaches the timers with CLK = 1 (R165, R365), on a T edge with the given pulses and CNT commit. -/
def timMicro (h : Hw) (slaves : BitVec 6) (commit : Option Nat) : Hw :=
  h.timEdges slaves (fun n => !h.timOnT n) commit

/-- A T edge with the 1 MHz tick, if one is due. -/
def microTick (h : Hw) (slaves : BitVec 6) (commit : Option Nat) : Hw :=
  match h.tickDue with
  | some g => g.timMicro slaves commit
  | none => h.timEdges slaves (fun _ => false) commit

/-- A capture (R382, R383): of a selected pin edge, or of the channel's event. -/
def timCapture (h : Hw) (n x : Nat) (rising : Bool) : Hw :=
  let cfg := h.timCfg n x
  let c := timCh (h.timOf n) x
  let e := fld cfg 5 0
  let selected := if cfg.getLsbD 13 then cfg.getLsbD (if rising then 6 else 7)
    else h.evEnabled e && ((8 ≤ e && e ≤ 33) || h.live .sense)
  if h.up .time && fld cfg 15 14 = 2 && selected then
    let h1 := h.setTimCh n x { c with act := (h.timOf n).cnt, full := true }
    ((h1.event (9 + 3 * n + x % 2)).timFlag n (1 + x % 2)).raiseIf c.full (0x28 + n) (3 + x % 2)
  else h

/-- A key read of a capture group clears FULLx (R383). -/
def timCapRead (h : Hw) (n x : Nat) : Hw :=
  if fld (h.timCfg n x) 15 14 = 2 then h.setTimCh n x { timCh (h.timOf n) x with full := false } else h

/-- The number of a 32-bit group from its words. -/
def word32 (vs : List Word) : Nat := word vs 0 + 65536 * word vs 1

/-- A commit of `TMn.CNT` (R386, R370 step 3): the prescaler restarts, the direction becomes up, no match. -/
def timCntSet (h : Hw) (n : Nat) (vs : List Word) : Hw :=
  ((h.setTim n { h.timOf n with cnt := word32 vs, down := false, psc := 0 }).timPwm n 0).timPwm n 1

/-- A commit of `TMn.TOP` (R381). -/
def timTopSet (h : Hw) (n : Nat) (vs : List Word) : Hw :=
  let t := h.timOf n
  h.setTim n (if t.running then { t with topHeld := some (word32 vs) } else { t with top := word32 vs, topHeld := none })

/-- A commit of `TMn.CHx` in a compare channel (R379). -/
def timChSet (h : Hw) (n x : Nat) (vs : List Word) : Hw :=
  let c := timCh (h.timOf n) x
  let v := word32 vs
  if !(h.timOf n).running then h.setTimCh n x { c with act := v, pre := v, updp := false, lw := false }
  else if h.timLapWait n x then
    (h.setTimCh n x { c with act := v, pre := v, updp := false, lw := true }).timPwm n x
  else h.setTimCh n x { c with pre := v, updp := true }

/-- What a read of a timer's groups gives (R379, R381, R383, R385). -/
def timCntWords (h : Hw) (n : Nat) : List Word := [wd (h.timOf n).cnt, wd ((h.timOf n).cnt / 65536)]
def timTopWords (h : Hw) (n : Nat) : List Word :=
  let v := (h.timOf n).topHeld.getD (h.timOf n).top
  [wd v, wd (v / 65536)]
def timChWords (h : Hw) (n x : Nat) : List Word :=
  let c := timCh (h.timOf n) x
  let v := if fld (h.timCfg n x) 15 14 = 2 then c.act else c.pre
  [wd v, wd (v / 65536)]

/-- The live bits of `TMn.STAT` (R387), without the common bits. -/
def timStat (h : Hw) (n : Nat) : Nat :=
  let t := h.timOf n
  let bit := fun (c : Bool) (i : Nat) => if c then 2 ^ i else 0
  bit t.wtrig 11 + bit t.gateOff 10 + bit t.down 9 + bit t.topHeld.isSome 8
    + bit (timCh t 1).full 7 + bit (timCh t 0).full 6 + bit (h.timOut n 1) 5 + bit (h.timOut n 0) 4
    + bit (timCh t 1).updp 3 + bit (timCh t 0).updp 2 + bit (timCh t 1).lw 1 + bit (timCh t 0).lw 0

end Hw

/-- A timer at TIME up or after a block reset (R378, R387). -/
def Timer.init : Timer :=
  { cnt := 0, top := 0xFFFFFFFF, topHeld := none, psc := 0, down := false, running := false, wtrig := false
    gateOff := false
    ch := Vector.replicate 2 { act := 0, pre := 0, updp := false, lw := false, full := false, out := false } }

end Sys2Proof.Machine
end

