-- ==== Sys2Proof/Machine/Sense.lean ====
section
/-!
DEFINITION. The analog front end, the decimation chain and the grid discipliner (R192 to R261): range modes and blend,
channel enables, self-test, XB inputs, trims, responses, histories and WARM, the sample grid, re-anchor and EPOCH reset.
-/

namespace Sys2Proof.Machine

/-! ### Tables -/

/-- Output limits of a range mode (R198): the positive limit plus 1. -/
def rangeLimit (m : Nat) : Nat := [8388608, 262144, 524288, 1048576, 2097152, 4194304, 8388608].getD m 8388608

/-- Output limits of a gyroscope range (R207). -/
def gyroLimit (r : Nat) : Nat := [524288, 1048576, 2097152, 4194304, 8388608].getD r 8388608

/-- A value of a V3 by axis. -/
def V3.get (v : V3) (i : Nat) : Int := if i = 0 then v.x else if i = 1 then v.y else v.z

/-- The group of a channel: 0 ACC, 1 GYR, 2 XB0, 3 XB1. -/
def chGroup (i : Nat) : Nat := if i < 3 then 0 else if i < 6 then 1 else if i = 6 then 2 else 3

/-- Source field of an output axis in an orientation word (R194): the package axis, and whether it is negated. -/
def orientSrc (w : Word) (i : Nat) : Nat × Bool := (fld w (4 * i + 1) (4 * i), w.getLsbD (4 * i + 2))

/-- Sign of a permutation of the axes 0, 1, 2; 0 when it is none. -/
def permSign (a b c : Nat) : Int :=
  if (a, b, c) ∈ [(0, 1, 2), (1, 2, 0), (2, 0, 1)] then 1
  else if (a, b, c) ∈ [(0, 2, 1), (2, 1, 0), (1, 0, 2)] then -1 else 0

/-- The orientation word is a proper rotation (R194). -/
def properRotation (w : Word) : Bool :=
  let s := fun (i : Nat) => if (orientSrc w i).2 then (-1 : Int) else 1
  permSign (orientSrc w 0).1 (orientSrc w 1).1 (orientSrc w 2).1 * s 0 * s 1 * s 2 = 1

/-! ### The blend of one axis (R201 to R205, R239, R241) -/

/-- The window and the hold an axis uses from an instant at an end on. -/
def Axis.latch (a : Axis) (win hold : Nat) : Axis :=
  if a.dir ≠ 0 then a
  else { a with w := if a.w = 0 then 0 else win, win := win, hold := hold }

/-- The instants below 1.5 g, counted at each output instant in every range mode (R201). -/
def Axis.count (a : Axis) (c : Int) : Axis := { a with low := if c.natAbs < 786432 then a.low + 1 else 0 }

/-- One output instant of the sketch of R239 after its count: the new axis, whether a crossing completed, whether the blend
reversed. -/
def Axis.step (a : Axis) (c : Int) : Axis × Bool × Bool :=
  let upCond := 917504 ≤ c.natAbs && a.w < a.win && a.dir ≠ 1
  let downCond := max a.hold 1 ≤ a.low && 0 < a.w && a.dir ≠ -1
  let rev := a.dir ≠ 0 && (upCond || downCond)
  let frm := if upCond then (if a.w = 0 then 0 else a.frm)
    else if downCond then (if a.w = a.win then a.win else a.frm) else a.frm
  let dir := if upCond then 1 else if downCond then -1 else a.dir
  let w := ((a.w : Int) + dir).toNat
  let ended := dir ≠ 0 && (w = 0 || w = a.win)
  ({ a with w := w, frm := frm, dir := if ended then 0 else dir }, ended && w ≠ frm, rev)

/-- The blend-stage value (R204, R239). -/
def Axis.value (a : Axis) (i : AxisIn) : Int :=
  if i.taint then i.coarse
  else divRound (((a.win : Int) - a.w) * i.fine + a.w * i.coarse) (max a.win 1)

/-- The axis state as `AFE.RSTAT` shows it (R202, R206). -/
def Axis.code (a : Axis) : Nat :=
  if a.dir = 1 then 1 else if a.dir = -1 then 3 else if a.w = 0 then 0 else 2

/-- No sample of the axis is produced (R197). -/
def Axis.quiet (a : Axis) : Axis := { a with fovl := false }

/-- An axis at an end of the blend. -/
def Axis.atEnd (a : Axis) (coarse : Bool) : Axis :=
  { a with w := if coarse then a.win else 0, dir := 0 }

namespace Hw

/-- IFLAG bits of the AFE and DEC pages. -/
def afeFlag (h : Hw) (bit : Nat) : Hw := h.raise 0x10 bit
def decFlag (h : Hw) (bit : Nat) : Hw := h.raise 0x11 bit

/-- The sample almanac (R164). -/
def sampAlm (h : Hw) : Nat := h.f R.CAL_ROLES 1 0

/-- The groups that convert: enabled in force, the accelerometer alone in draft (R210, R247). -/
def groupsOn (h : Hw) : BitVec 4 :=
  if !h.afe.on then 0 else if h.pwr.draft then h.afe.chen &&& 1 else h.afe.chen

/-- Rate and response codes of a group in force; the draft chain runs code 3 with response 2 (R247). -/
def groupCode (h : Hw) (g : Nat) : Nat := if h.pwr.draft then 3 else fld h.dec.odr (4 * g + 3) (4 * g)
def groupResp (h : Hw) (g : Nat) : Nat := if h.pwr.draft then 2 else fld h.dec.resp (4 * g + 3) (4 * g)

/-- The group is XB in received mode. -/
def groupReceived (h : Hw) (g : Nat) : Bool := 2 ≤ g && h.afe.xbcfg.getLsbD 15

/-- The settling length of a group: the received-mode resampler adds 2 samples to XB (R236, R244). -/
def groupLen (h : Hw) (g : Nat) : Nat := respLen (h.groupResp g) + (if h.groupReceived g then 2 else 0)

/-- FIR inputs of a group that come after an instant's before its value under a response is complete: the received-mode
resampler adds 1.0 output period (R235, R244). -/
def groupLag (h : Hw) (g r : Nat) : Nat := respLag r + (if h.groupReceived g then 2 else 0)

/-- Output period of a rate code in ns (R232). -/
def periodOf (c : Nat) : Nat := 8000000 / 2 ^ min c 8

/-- The grid phase in force (R248, R249, R257). -/
def gridPhase (h : Hw) : Nat :=
  if h.b R.DEC_GRIDCFG 15 then h.dec.gridph else h.reg32 R.DEC_GRIDOFS_L % 8388608

/-- The rate code of the fastest group that converts. -/
def fastest (h : Hw) : Nat := (List.range 4).foldl (fun m g => if h.groupsOn.getLsbD g then max m (h.groupCode g) else m) 0

/-- The first instant of the fastest group's grid at or after a time. -/
def gridFrom (h : Hw) (t : Nat) : Nat :=
  let p := periodOf h.fastest
  t + (p - (t + 8000000 - h.gridPhase % 8000000) % p) % p

/-- A time lies on the grid of a rate code (R248). -/
def onGrid (h : Hw) (t c : Nat) : Bool := (t + 8000000 - h.gridPhase) % periodOf c = 0

/-- The trims are applied (R225, R227). -/
def trimsOn (h : Hw) : Bool := !h.pwr.draft && !h.afe.notrim && h.nvs.loaded

/-- The self-test actuates or settles: phases 1 to 3 (R213). -/
def stRuns (h : Hw) : Bool := h.afe.st.phase != 0 && h.afe.st.phase != 4

/-- The trims of a path (R225) over the values of the path's three axes: the offset goes, the sensitivity multiplies, then the
cross-axis matrix, with ΔT in units of 1/128 °C. The result is rounded once, to the nearest LSB (DESIGN CHOICE, log entry
103). Paths 0 to 2 are fine X to Z, 3 to 5 coarse, 6 to 8 the gyroscope. -/
def factoryTrim (f : FactoryTrim) (path range : Nat) (temp : Word) (raws : List Int) : Int :=
  let dT := signed 16 temp.toNat - 3200
  let poly := fun (i : Nat) =>
    if path < 6 then f.acc[(path / 3 * 3 + i) % 6]'(Nat.mod_lt _ (by decide))
    else (f.gyr[i % 3]'(Nat.mod_lt _ (by decide)))[range % 5]'(Nat.mod_lt _ (by decide))
  let unit := fun (i : Nat) =>
    let q := poly i
    (raws.getD i 0 * 4294967296 - (q.o0 + q.o1 * dT + q.o2 * dT * dT)) * (q.s0 + q.s1 * dT + q.s2 * dT * dT)
  let x := f.cross[path / 3 % 3]'(Nat.mod_lt _ (by decide))
  let i := path % 3
  let a := if i = 0 then 1 else 0
  let b := if i = 2 then 1 else 2
  divRound (unit i * 4294967296 + (x[2 * i % 6]'(Nat.mod_lt _ (by decide))) * unit a
    + (x[(2 * i + 1) % 6]'(Nat.mod_lt _ (by decide))) * unit b) (2 ^ 96)

/-- A path's value after stage 4 (R225, R227). -/
def trimmed (h : Hw) (path : Nat) (raws : List Int) : Int :=
  match h.trimsOn, h.nvs.trims with
  | true, some f => factoryTrim f path h.afe.grange (h.reg R.AFE_TEMP) raws
  | _, _ => raws.getD (path % 3) 0

/-- A group carries WARM (R236, R209, R215, R221). -/
def warmGroup (h : Hw) (g : Nat) : Bool :=
  h.groupsOn.getLsbD g &&
    (h.stRuns || (h.dec.warm[g % 4]'(Nat.mod_lt _ (by decide))) != 0 || (g = 1 && !h.afe.gdrv) || (2 ≤ g && h.afe.xbLost))

/-- The WARM bits (R246). -/
def warmBits (h : Hw) : BitVec 4 :=
  (List.range 4).foldl (fun w g => if h.warmGroup g then w ||| (1#4 <<< g) else w) 0

/-- The group of a modulator path. -/
def pathGroup (i : Nat) : Nat := if i < 6 then 0 else if i < 9 then 1 else i - 7

/-- A cause of R245 acts on groups: WARM counts from L, and the histories are emptied or kept. -/
def warmStart (h : Hw) (gs : BitVec 4) (empty : Bool) : Hw :=
  { h with dec := { h.dec with
      path := if empty then
          Vector.ofFn fun (i : Fin 11) => if gs.getLsbD (pathGroup i.val) then h.dec.path[i].empty else h.dec.path[i]
        else h.dec.path
      act := if empty then
          Vector.ofFn fun (i : Fin 2) => if gs.getLsbD i.val then [] else h.dec.act[i]
        else h.dec.act
      warm := Vector.ofFn fun (g : Fin 4) => if gs.getLsbD g.val then h.groupLen g.val else h.dec.warm[g]
      hist := if empty then
          Vector.ofFn fun (i : Fin 8) => if gs.getLsbD (chGroup i.val) then [] else h.dec.hist[i]
        else h.dec.hist
      tainted := if empty && gs.getLsbD 0 then Vector.replicate 3 [] else h.dec.tainted } }

/-- The next sample carries a gap mark of a cause (R242, R337); a newer mark replaces one that waits (log entry 16). -/
def gapMark (h : Hw) (c : Nat) : Hw := { h with dec := { h.dec with gap := some c } }

/-- The instants in the FIR are discarded (R337). -/
def dropFlight (h : Hw) : Hw :=
  { h with dec := { h.dec with flight := [], lost := h.dec.lost + h.dec.flight.length } }

/-- Every history emptied: a cause of R245 that acts on all groups, which leaves a gap mark of cause 6 (R337). -/
def emptyAll (h : Hw) : Hw := ((h.warmStart 0xF#4 true).dropFlight).gapMark 6

/-- The next grid index may be any: the chain stood still, or the grid's times have changed. -/
def gridFree (h : Hw) : Hw := { h with dec := { h.dec with nextT := none } }

/-! ### Self-test (R212 to R216) -/

/-- A run is in progress or waits for its first boundary. -/
def stBusy (h : Hw) : Bool := h.afe.st.phase != 0

/-- An abort condition outside an output instant: the run is aborted at the next one (R216). -/
def stAbort (h : Hw) : Hw :=
  if h.stBusy then { h with afe := { h.afe with st := { h.afe.st with abortDue := true } } } else h

/-- No run. -/
def stNone : SelfTest :=
  { phase := 0, k := 0, n := 0, level := 0, gyr := false, abortDue := false, aborted := false, sum1 := [], sum2 := [] }

/-- GO (R212): the start with the choices of the written word, or a rejection; ignored while a run is in progress. -/
def stStart (h : Hw) (v : Word) : Hw :=
  if h.stBusy then h
  else
    let gyr := v.getLsbD 13
    if !h.nvs.loaded || h.afe.notrim || !h.afe.chen.getLsbD 0 || (gyr && (!h.afe.chen.getLsbD 1 || !h.afe.gdrv)) then
      h.afeFlag 7
    else
      let h1 := h.setReg R.AFE_STSTAT 0
      { h1 with afe := { h1.afe with st :=
          { stNone with phase := 4, n := max 16 (fld v 7 0), level := if v.getLsbD 12 then 1 else 0, gyr := gyr
                        sum1 := List.replicate 9 0, sum2 := List.replicate 9 0 } } }

/-- A run ends by an abort after its release phase (R216). -/
def stAborted (h : Hw) : Hw :=
  let h1 := { h with afe := { h.afe with st := stNone } }
  (h1.setBits R.AFE_STSTAT 0x2000).afeFlag 6

/-- The run moves on by one accelerometer output sample (R213): the nine path values of the instant enter the sums of
phases 1 and 2 after L samples. `bad` is an abort condition of this instant. -/
def stSample (h : Hw) (paths : List Int) (bad : Bool) : Hw :=
  let s := h.afe.st
  let l := h.groupLen 0
  let set := fun (s : SelfTest) => { h with afe := { h.afe with st := s } }
  if s.phase = 0 then h
  else if (bad || s.abortDue) && s.phase != 3 then set { s with phase := 3, k := 1, aborted := true, abortDue := false }
  else
    match s.phase with
    | 3 =>
      let s1 := { s with aborted := s.aborted || bad || s.abortDue, abortDue := false }
      if s1.aborted && l ≤ s.k + 1 then h.stAborted else set { s1 with k := s.k + 1 }
    | p =>
      let acc := fun (t : List Int) => if l ≤ s.k then List.zipWith (· + ·) t paths else t
      let s1 := if p = 2 then { s with sum2 := acc s.sum2 } else { s with sum1 := acc s.sum1 }
      if l + s.n ≤ s.k + 1 then set { s1 with phase := p + 1, k := 0 } else set { s1 with k := s.k + 1 }

/-- The result of a path (R214) from its two sums, in STRES units: 1/16384 g is 32 LSB, and 1/256 °/s is 32768/1000
LSB. -/
def stResult (path n : Nat) (s1 s2 : Int) : Int :=
  if path < 6 then divRound (s1 - s2) (64 * n) else divRound ((s1 - s2) * 1000) (65536 * n)

/-- A result passes (R214): within the tolerance of the factory nominal at the level used (R224). -/
def stPass (h : Hw) (path level : Nat) (r : Int) : Bool :=
  let nom := match h.nvs.trims with
    | some f => (f.nominal[path % 9]'(Nat.mod_lt _ (by decide)))[level % 2]'(Nat.mod_lt _ (by decide))
    | none => 0
  let tol := if 3 ≤ path && path < 6 then 15 else 10
  (r - nom).natAbs * 100 ≤ tol * nom.natAbs

/-- The run ends with results (R214): STRES, STDONE, and PASS, or FAIL with the failing channels. -/
def stDone (h : Hw) : Hw :=
  let s := h.afe.st
  if s.phase = 3 && !s.aborted && !s.abortDue && h.groupLen 0 ≤ s.k then
    let paths := if s.gyr then 9 else 6
    let res := fun (p : Nat) => stResult p s.n (s.sum1.getD p 0) (s.sum2.getD p 0)
    let h1 := (List.range paths).foldl (fun g p => g.setReg (R.AFE_STRES_FX + p) (wdI (res p))) h
    let failch := (List.range paths).foldl (fun w p => if h.stPass p s.level (res p) then w else w + 2 ^ p) 0
    let h2 := { h1 with afe := { h1.afe with st := stNone } }.afeFlag 4
    if failch = 0 then h2.setReg R.AFE_STSTAT 0x8000
    else (h2.setReg R.AFE_STSTAT (wd (0x4000 + failch))).afeFlag 5
  else h

/-! ### The output-sample boundary -/

/-- The groups whose histories the boundary empties: conversion restarted, newly enabled groups, the gyroscope after a range
change, XB after a configuration change, a group whose rate changes at this instant (R200, R208, R210, R223, R233). -/
def boundaryEmpty (h : Hw) (t : Nat) : BitVec 4 :=
  let on := h.enabled 0x10
  let chen := (h.reg R.AFE_CHEN).setWidth 4
  let fresh := if on && !h.afe.on then 0xF#4 else chen &&& ~~~h.afe.chen
  let gyr := if h.f R.AFE_GRANGE 2 0 != h.afe.grange then 2#4 else 0#4
  let xb := if h.reg R.AFE_XBCFG != h.afe.xbcfg then 0xC#4 else 0#4
  let rate := (List.range 4).foldl (fun (w : BitVec 4) g =>
    let old := fld h.dec.odr (4 * g + 3) (4 * g)
    let new := h.f R.DEC_ODR (4 * g + 3) (4 * g)
    if !h.pwr.draft && old != new && h.onGrid t old && h.onGrid t new then w ||| (1#4 <<< g) else w) 0#4
  fresh ||| gyr ||| xb ||| rate

/-- Rate codes in force after the boundary (R233). -/
def boundaryOdr (h : Hw) (t : Nat) : Word :=
  (List.range 4).foldl (fun w g =>
    let old := fld h.dec.odr (4 * g + 3) (4 * g)
    let new := h.f R.DEC_ODR (4 * g + 3) (4 * g)
    if h.pwr.draft || (h.onGrid t old && h.onGrid t new) then setFld w (4 * g + 3) (4 * g) new else w) h.dec.odr

/-- The groups with an output instant at `t`. -/
def groupsDue (h : Hw) (t : Nat) : BitVec 4 :=
  (List.range 4).foldl (fun w g =>
    if h.groupsOn.getLsbD g && h.onGrid t (h.groupCode g) then w ||| (1#4 <<< g) else w) 0

/-- The frequency that `AFE.XBFREQ` reports in driven mode (R219), as the configuration in force gives it. -/
def xbDriven (h : Hw) : Hw :=
  if h.afe.xbcfg.getLsbD 15 then h
  else h.setReg R.AFE_XBFREQ (wd ([6144, 8192, 12288, 16384].getD (fld h.afe.xbcfg 10 8) 0))

/-- The range mode changes at the boundary (R200): a fixed range sets each axis to its end. -/
def boundaryMode (h : Hw) : Hw :=
  let m := h.f R.AFE_ARANGE 3 0
  if m = h.afe.mode then h
  else
    let ax := if m = 0 then h.afe.ax else h.afe.ax.map fun a => a.atEnd (4 ≤ m)
    { h with afe := { h.afe with mode := m, ax := ax } }

/-- Everything written since the last boundary takes effect (R194, R200, R208, R210, R223, R233, R237). -/
def boundary (h : Hw) (t : Nat) : Hw :=
  let gs := h.boundaryEmpty t
  let odr := h.boundaryOdr t
  let restart := h.enabled 0x10 && !h.afe.on
  let chen : BitVec 4 := (h.reg R.AFE_CHEN).setWidth 4
  let xbcfg := h.reg R.AFE_XBCFG
  let gyrOn := chen.getLsbD 1
  let oldResp := h.dec.resp
  let h1 := { h with
    afe := { h.afe with
      on := h.enabled 0x10, chen := chen, grange := h.f R.AFE_GRANGE 2 0, orient := h.reg R.AFE_ORIENT, xbcfg := xbcfg
      gdrv := h.afe.gdrv && gyrOn, gdrvOnce := h.afe.gdrvOnce && gyrOn
      xbLost := h.afe.xbLost && xbcfg.getLsbD 15 && (chen.getLsbD 2 || chen.getLsbD 3)
      ax := if h.enabled 0x10 && chen.getLsbD 0 then h.afe.ax else h.afe.ax.map Axis.quiet }
    dec := { h.dec with odr := odr }
    buf := { h.buf with anchorDue := h.buf.anchorDue || odr != h.dec.odr } }
  let due := h1.groupsDue t
  let sw := (List.range 4).foldl (fun (w : BitVec 4) g =>
    if due.getLsbD g && fld oldResp (4 * g + 3) (4 * g) != h1.f R.DEC_RESP (4 * g + 3) (4 * g) then w ||| (1#4 <<< g)
    else w) 0#4
  let resp := (List.range 4).foldl (fun w g =>
    if due.getLsbD g || gs.getLsbD g then setFld w (4 * g + 3) (4 * g) (h1.f R.DEC_RESP (4 * g + 3) (4 * g)) else w) oldResp
  let h2 := { h1 with dec := { h1.dec with resp := if h.pwr.draft then oldResp else resp } }
  let h3 := if h.pwr.draft then h2 else (if sw = 0 then h2 else (h2.warmStart sw false).stAbort)
  let h4 := if gs = 0 then h3 else h3.warmStart gs true
  let h5 : Hw := if restart then h4.dropFlight.gapMark 6 else h4
  let h5 := if xbcfg != h.afe.xbcfg then h5.xbDriven else h5
  let h5 := if h5.groupsOn = 0 then h5.gridFree else h5
  let h6 := h5.boundaryMode
  if h6.afe.st.phase = 4 then { h6 with afe := { h6.afe with st := { h6.afe.st with phase := 1, k := 0 } } } else h6

/-! ### Stages 1 to 3 of an output instant (R218, R230, R243, R244) -/

/-- Half-band stages of a group (R230). -/
def groupStages (h : Hw) (g : Nat) : Nat := 9 - min (h.groupCode g) 8

/-- Decimation of the CIC of a path onto 128 kHz (R230, R243). -/
def pathRate (h : Hw) (i : Nat) : Nat :=
  if i < 9 then 48 else [48, 64, 96, 128].getD (fld h.afe.xbcfg 10 8) 48

/-- A bit of XB channel `k` from the levels of its line at the two edges of XBCLK (R218). -/
def xbBit (h : Hw) (k : Nat) (l : Bool × Bool) : Bool :=
  (if h.afe.xbcfg.getLsbD 4 then l.2 else l.1) != h.afe.xbcfg.getLsbD k

/-- An instant's bits through the stages 1 to 3 of a path. -/
def pathFeed (h : Hw) (x : InstantIn) (i : Fin 11) : Path :=
  let p := h.dec.path[i]
  let k := h.groupStages (pathGroup i.val)
  if !h.groupsOn.getLsbD (pathGroup i.val) then p
  else if i.val < 9 then (x.bits[i.val % 9]'(Nat.mod_lt _ (by decide))).foldl (Path.bit 48 k) p
  else
    let c := i.val - 9
    let chunks := x.xb[c % 2]'(Nat.mod_lt _ (by decide))
    if h.groupReceived (pathGroup i.val) then
      chunks.foldl (fun q (b : List (Bool × Bool) × Nat) => q.resample k (b.1.map (h.xbBit c)) b.2) p
    else (chunks.flatMap fun b => b.1.map (h.xbBit c)).foldl (Path.bit (h.pathRate i.val) k) p

/-- The bits of an instant reach the end of stage 3. -/
def feedBits (h : Hw) (x : InstantIn) : Hw := { h with dec := { h.dec with path := Vector.ofFn (h.pathFeed x) } }

/-- What stage 3 of a path holds for the next stages, oldest first. -/
def pathOut (h : Hw) (i : Nat) : List Int := (h.dec.path[i % 11]'(Nat.mod_lt _ (by decide))).out

/-- The values of three paths from `base` on, oldest first. -/
def outs3 (h : Hw) (base : Nat) : List (List Int) :=
  List.zipWith (· :: ·) (h.pathOut base) (List.zipWith (fun y z => [y, z]) (h.pathOut (base + 1)) (h.pathOut (base + 2)))

/-! ### Stages 4 and 5 (R196, R225, R239, R240) -/

/-- The mode of the output clamp: the draft chain passes the fine path alone (R247). -/
def clampMode (h : Hw) : Nat := if h.pwr.draft then 3 else h.afe.mode

/-- Full scale of the coarse path (R196). -/
def coarseClamp (v : Int) : Int := clampI (-8388608) 8388607 v

/-- The blend-stage inputs of an axis: fine and clamped coarse values, trimmed; the last one lies on the instant. -/
def axisIns (h : Hw) (x : InstantIn) (i : Nat) : List AxisIn :=
  let raws := List.zip (h.outs3 0) (h.outs3 3)
  let t := x.taint[i % 3]'(Nat.mod_lt _ (by decide))
  raws.zipIdx.map fun r =>
    { fine := h.trimmed i r.1.1, coarse := coarseClamp (h.trimmed (3 + i) r.1.2)
      taint := if r.2 + 1 = raws.length then t.2 else t.1 }

/-- The blend-stage input of an axis on the instant. -/
def axisOn (h : Hw) (x : InstantIn) (i : Nat) : AxisIn := ((h.axisIns x i).getLast?).getD { fine := 0, coarse := 0, taint := false }

/-- A coarse value lies beyond full scale (R196). -/
def coarseClips (h : Hw) : Bool :=
  (h.outs3 3).any fun r => (List.range 3).any fun i =>
    let v := h.trimmed (3 + i) r
    v < -8388608 || 8388607 < v

/-- The blend-stage value of an axis in the mode in force (R200, R240, R247). -/
def stageFive (h : Hw) (a : Axis) (i : AxisIn) : Int :=
  if h.pwr.draft then (if i.taint then i.coarse else i.fine)
  else if h.afe.mode = 0 then a.value i
  else if 4 ≤ h.afe.mode then i.coarse
  else if i.taint then i.coarse else i.fine

/-- What the blend stage makes of an axis at its output instant: the new axis, the FIR inputs with whether they were tainted,
and whether a crossing completed and the blend reversed. -/
structure AxisOut where
  axis : Axis
  vals : List (Int × Bool)
  chg : Bool
  rev : Bool

/-- One axis of the accelerometer at its output instant: the samples before the instant use the weight of the instant before
it (R239). -/
def axisStep (h : Hw) (x : InstantIn) (i : Fin 3) : AxisOut :=
  let ins := h.axisIns x i.val
  let c := (h.axisOn x i.val).coarse
  let a := (h.afe.ax[i].latch (max 4 (min 64 (h.f R.AFE_BLEND 6 0))) (h.f R.AFE_BLEND 15 8)).count c
  let (a1, chg, rev) := if h.afe.mode = 0 && !h.pwr.draft then a.step c else (a, false, false)
  { axis := { a1 with fovl := x.taint[i].1 || x.taint[i].2 }
    vals := (ins.dropLast.map fun v => (h.stageFive h.afe.ax[i] v, v.taint)) ++
      ((ins.getLast?).map fun v => (h.stageFive a1 v, v.taint)).toList
    chg := chg, rev := rev }

/-- FIR inputs of a channel at its instant, oldest first. -/
def firIns (h : Hw) (acc : Vector AxisOut 3) (i : Nat) : List Int :=
  if i < 3 then (acc[i % 3]'(Nat.mod_lt _ (by decide))).vals.map Prod.fst
  else if i < 6 then (h.outs3 6).map (h.trimmed (3 + i))
  else h.pathOut (3 + i)

/-! ### Stage 6: the FIR (R230, R234, R237, R242) -/

/-- Nominal actuation of a group in its output units (R213): 0.25 g or 0.5 g, 10 °/s or 20 °/s. -/
def actLevel (g level : Nat) : Int :=
  if g = 0 then (if level = 0 then 131072 else 262144) else if level = 0 then 83886 else 167772

/-- The nominal actuation of a group now (R213, R215). -/
def actNow (h : Hw) (g : Nat) : Int :=
  let s := h.afe.st
  if g = 1 && !s.gyr then 0
  else if s.phase = 1 then actLevel g s.level
  else if s.phase = 2 then -actLevel g s.level
  else 0

/-- New values at the front of a FIR history. -/
def histPush {α : Type} (l : List α) (new : List α) : List α := (new.reverse ++ l).take 129

/-- How many FIR inputs a group takes at the instant. -/
def insOf (h : Hw) (acc : Vector AxisOut 3) (g : Nat) : Nat :=
  (h.firIns acc (if g = 0 then 0 else if g = 1 then 3 else 4 + g)).length

/-- The FIR takes the inputs of the groups due, the axes take their new blend states, and the instants under way have seen
more inputs. -/
def instantShift (h : Hw) (due : BitVec 4) (acc : Vector AxisOut 3) : Hw :=
  { h with
    afe := { h.afe with ax := if due.getLsbD 0 then acc.map AxisOut.axis else h.afe.ax }
    dec := { h.dec with
      path := Vector.ofFn fun (i : Fin 11) =>
        if due.getLsbD (pathGroup i.val) then { h.dec.path[i] with out := [] } else h.dec.path[i]
      hist := Vector.ofFn fun (i : Fin 8) =>
        if due.getLsbD (chGroup i.val) then histPush h.dec.hist[i] (h.firIns acc i.val) else h.dec.hist[i]
      tainted := if due.getLsbD 0 then
          Vector.ofFn fun (i : Fin 3) => histPush h.dec.tainted[i] (acc[i].vals.map Prod.snd)
        else h.dec.tainted
      act := Vector.ofFn fun (g : Fin 2) =>
        if due.getLsbD g.val then histPush h.dec.act[g] (List.replicate (h.insOf acc g.val) (h.actNow g.val))
        else h.dec.act[g]
      flight := h.dec.flight.map fun f => { f with
        since := Vector.ofFn fun (g : Fin 4) => if due.getLsbD g.val then f.since[g] + h.insOf acc g.val else f.since[g] } } }

/-- Response code of a group for an instant under way. -/
def flightResp (f : Flight) (g : Nat) : Nat := if f.draft then 2 else fld f.resp (4 * g + 3) (4 * g)

/-- The value of a group for an instant is complete: the inputs that the response needs after the instant's are there. -/
def flightReady (h : Hw) (f : Flight) (g : Nat) : Bool :=
  f.groups.getLsbD g && !f.done.getLsbD g &&
    h.groupLag g (flightResp f g) ≤ f.since[g % 4]'(Nat.mod_lt _ (by decide))

/-- Inputs of a history that are too new for the instant. -/
def flightSkip (h : Hw) (f : Flight) (g : Nat) : Nat :=
  (f.since[g % 4]'(Nat.mod_lt _ (by decide))) - h.groupLag g (flightResp f g)

/-- The FIR values of the groups that are complete for an instant enter it. -/
def flightFill (h : Hw) (f : Flight) : Flight :=
  let ready := fun (g : Nat) => h.flightReady f g
  let fir := fun (g : Nat) (l : List Int) => firOf (flightResp f g) (l.drop (h.flightSkip f g))
  { f with
    done := (List.range 4).foldl (fun w g => if ready g then w ||| (1#4 <<< g) else w) f.done
    fir := Vector.ofFn fun (i : Fin 8) =>
      if ready (chGroup i.val) then fir (chGroup i.val) h.dec.hist[i] else f.fir[i]
    tainted := Vector.ofFn fun (i : Fin 3) =>
      if ready 0 then
        ((h.dec.tainted[i].drop (h.flightSkip f 0)).take (respTaps (flightResp f 0))).any id
      else f.tainted[i]
    nominal := Vector.ofFn fun (g : Fin 2) => if ready g.val then fir g.val h.dec.act[g] else f.nominal[g] }

/-- Grid instants of the fastest enabled group that lie between the last one produced and `t` (R337). -/
def lostCount (h : Hw) (t : Nat) : Nat :=
  match h.dec.lastT with
  | none => 0
  | some l =>
    min 0xFFFF ((t - l) / periodOf h.fastest - 1)

/-- The gap mark of the sample at `t` (R242, R337). -/
def gapOf (h : Hw) (t : Nat) : Option (Nat × Nat) :=
  h.dec.gap.map fun c => (c, if c = 2 then h.lostCount t else if c = 6 then min 0xFFFF h.dec.lost else 0xFFFF)

/-- The instant `t` enters the FIR with the marks that belong to it (R242); its WARM counts down (R236, R246). -/
def flightEnter (h : Hw) (t : Nat) (due : BitVec 4) (coarse : V3) (chg : Bool) : Hw :=
  let f : Flight :=
    { t := t, groups := due, done := 0, resp := h.dec.resp, since := Vector.replicate 4 0, fir := Vector.replicate 8 0
      tainted := Vector.replicate 3 false, coarse := coarse
      nominal := Vector.replicate 2 0, warm := h.warmBits &&& due
      blend := !h.pwr.draft && h.afe.ax.any fun a => 0 < a.w && a.w < a.win
      range := chg, draft := h.pwr.draft, gap := h.gapOf t
      qual := if h.dec.glock then almQuality (h.almOf h.sampAlm) else 3 }
  let held := fun (g : Nat) => g = 1 && !h.afe.gdrv
  { h with dec := { h.dec with
    flight := h.dec.flight ++ [f], gap := none, lost := 0, lastT := some t, nextT := some (t + periodOf h.fastest)
    warm := Vector.ofFn fun (g : Fin 4) =>
      if due.getLsbD g.val && !held g.val then h.dec.warm[g] - 1 else h.dec.warm[g] } }

/-! ### Stages 7 to 9 (R194, R199, R207, R220, R226, R235) -/

/-- The orientation in force; the identity in draft (R194). -/
def orientNow (h : Hw) : Word := if h.pwr.draft then 0x0210 else h.afe.orient

/-- A value of three package axes on an output axis. -/
def orientVal (h : Hw) (i : Nat) (v : Nat → Int) : Int :=
  let (ax, neg) := orientSrc h.orientNow (i % 3)
  if neg then -v ax else v ax

/-- Stage 7 of an accelerometer or gyroscope output axis (R194, R226): orientation map and user trims; none in draft. -/
def stageSeven (h : Hw) (f : Flight) (i : Nat) : Int :=
  let base := if i < 3 then 0 else 3
  let u := h.orientVal i fun ax => f.fir[(base + ax) % 8]'(Nat.mod_lt _ (by decide))
  if h.pwr.draft then u
  else
    let ofs := signed 16 (h.reg (R.AFE_UOFS_AX + i)).toNat
    let sens := signed 16 (h.reg (R.AFE_USENS_AX + i)).toNat
    divRound ((u - 16 * ofs) * (1048576 + sens)) 1048576

/-- An output axis of the accelerometer takes the limit of a fine fixed range: its FIR history holds a tainted sample
(R199, R240). The sign is that of the coarse value of the instant. -/
def taintLimit (h : Hw) (f : Flight) (i : Nat) : Option Int :=
  let ax := (orientSrc h.orientNow (i % 3)).1
  let m := h.clampMode
  let lim : Int := rangeLimit m
  if 1 ≤ m && m ≤ 3 && f.tainted[ax % 3]'(Nat.mod_lt _ (by decide)) then
    let c := f.coarse.get ax
    let up := if (orientSrc h.orientNow (i % 3)).2 then c < 0 else 0 ≤ c
    some (if up then lim - 1 else -lim)
  else none

/-- The output value of a channel with whether it was clamped (R199, R207, R220, R221). -/
def outputOf (h : Hw) (f : Flight) (i : Nat) : Int × Bool :=
  if i < 3 then
    match h.taintLimit f i with
    | some v => (v, true)
    | none =>
      let l : Int := rangeLimit h.clampMode
      let u := h.stageSeven f i
      (clampI (-l) (l - 1) u, u < -l || l - 1 < u)
  else if i < 6 then
    let l : Int := gyroLimit h.afe.grange
    let u := h.stageSeven f i
    (clampI (-l) (l - 1) u, u < -l || l - 1 < u)
  else if h.afe.xbLost then (-8388608, false)
  else (clampI (-8388608) 8388607 (f.fir[i % 8]'(Nat.mod_lt _ (by decide))), false)

/-- The value of the channel that windows and recognizers see (R215): without the nominal actuation as the same response and
orientation pass it. -/
def seenOf (h : Hw) (f : Flight) (i : Nat) (v : Int) : Int :=
  if i < 6 then v - h.orientVal i fun _ => f.nominal[(i / 3) % 2]'(Nat.mod_lt _ (by decide)) else v

/-- The sample of an instant (R235). -/
def sampleOf (h : Hw) (f : Flight) : Sample :=
  let out := fun (i : Nat) => if f.groups.getLsbD (chGroup i) then (h.outputOf f i).1 else 0
  { t := f.t, groups := f.groups
    vals := Vector.ofFn fun (i : Fin 8) => out i.val
    seen := Vector.ofFn fun (i : Fin 8) => if f.groups.getLsbD (chGroup i.val) then h.seenOf f i.val (out i.val) else 0
    warm := f.warm, blend := f.blend, range := f.range, draft := f.draft, gap := f.gap, qual := f.qual }

/-- A channel of `chs` is clamped in the sample of an instant. -/
def flightClips (h : Hw) (f : Flight) (chs : Nat → Bool) : Bool :=
  (List.range 8).any fun i => chs i && f.groups.getLsbD (chGroup i) && (h.outputOf f i).2

/-- The channels that a self-test run actuates (R213, R216). -/
def actuated (h : Hw) (i : Nat) : Bool := i < 3 || (i < 6 && h.afe.st.gyr)

/-- The instants under way and the S output register replaced. -/
def setFlight (h : Hw) (l : List Flight) (o : Option Sample) : Hw :=
  { h with dec := { h.dec with flight := l, sout := o } }

/-- The oldest instant under way is loaded into the S output register once all its groups are done (R235, R238). -/
def flightLoad (h : Hw) : Hw :=
  match h.dec.flight with
  | f :: t =>
    if f.done = f.groups then
      let h1 := (h.raiseIf (h.flightClips f fun _ => true) 0x10 3).setFlight t (some (h.sampleOf f))
      if h.flightClips f h.actuated then h1.stAbort else h1
    else h
  | [] => h

/-! ### One output instant (R230, R235) -/

/-- The instant `t` is the next of the grid: none is produced twice, and none is left out (R238). -/
def gridNext (h : Hw) (t : Nat) : Bool :=
  h.onGrid t 8 &&
    match h.dec.nextT with
    | none => true
    | some n => h.gridFrom n == t

/-- The channels due at an instant go through stages 4 to 6, the instant enters the FIR, and the value that is complete is
loaded (R230, R235). -/
def instantRun (h : Hw) (x : InstantIn) (due : BitVec 4) : Hw :=
  let acc : Vector AxisOut 3 := Vector.ofFn fun i => h.axisStep x i
  let accDue := due.getLsbD 0
  let chg := accDue && acc.any AxisOut.chg
  let rev := accDue && acc.any AxisOut.rev
  let fovlRise := accDue && (List.finRange 3).any fun i => acc[i].axis.fovl && !h.afe.ax[i].fovl
  let coarse : V3 := ⟨(h.axisOn x 0).coarse, (h.axisOn x 1).coarse, (h.axisOn x 2).coarse⟩
  let h1 := (h.instantShift due acc).flightEnter x.t due coarse chg
  let h2 := { h1 with dec := { h1.dec with flight := h1.dec.flight.map h1.flightFill } }
  let h3 := (((h2.raiseIf rev 0x10 1).raiseIf fovlRise 0x10 2).raiseIf (accDue && h.coarseClips) 0x10 3).raiseIf chg 0x10 0
  let h4 := h3.flightLoad
  if accDue then
    let upCond := (List.range 3).any fun i => 917504 ≤ (h.axisOn x i).coarse.natAbs
    let overload := x.taint.any fun t => t.1 || t.2
    let last := fun (base : Nat) => ((h.outs3 base).getLast?).getD []
    let paths := (List.range 3).map (fun i => (h.axisOn x i).fine) ++ (List.range 3).map (fun i => (h.axisOn x i).coarse)
      ++ (List.range 3).map (fun i => h.trimmed (6 + i) (last 6))
    h4.stSample paths (upCond || overload || h.coarseClips)
  else h4

/-- The value for a grid instant (R235): nothing happens without S-loop lock (R91), off the grid or out of its order (R238),
or while no conversion runs. -/
def outputInstant (h : Hw) (x : InstantIn) : Hw :=
  if !h.live .sense || !h.clk.slock || !h.gridNext x.t then h
  else
    let h0 := if h.onGrid x.t 0 then h.setReg R.AFE_TEMP x.temp else h
    let h1 := (h0.feedBits x).boundary x.t
    let due := h1.groupsDue x.t
    if due = 0 then h1 else h1.instantRun x due

/-- The conversion has stopped (R98, R197): no sample is produced. -/
def afeHalt (h : Hw) : Hw :=
  { h with afe := { h.afe with on := false, ax := h.afe.ax.map Axis.quiet } }.gridFree

/-- The registers whose change is one of orientation or user trims (R272, R277). -/
def trimRegs : List Nat :=
  R.AFE_ORIENT :: (List.range 6).map (R.AFE_UOFS_AX + ·) ++ (List.range 6).map (R.AFE_USENS_AX + ·)

/-! ### Configuration writes (R194, R198, R207, R219, R232, R249, R254) -/

/-- A commit of `AFE.ORIENT`. -/
def orientWrite (h : Hw) (v : Word) : Hw :=
  if properRotation v then h.setReg R.AFE_ORIENT (v &&& 0x0777) else h.afeFlag 11

/-- An applied write to `AFE.ARANGE`. -/
def arangeWrite (h : Hw) (v : Word) : Hw :=
  if 6 < fld v 3 0 then h.afeFlag 11 else (h.setReg R.AFE_ARANGE (v &&& 0x000F)).stAbort

/-- An applied write to `AFE.GRANGE`. -/
def grangeWrite (h : Hw) (v : Word) : Hw :=
  if 4 < fld v 2 0 then h.afeFlag 11 else (h.setReg R.AFE_GRANGE (v &&& 0x0007)).stAbort

/-- An applied write to `AFE.CHEN`. -/
def chenWrite (h : Hw) (v : Word) : Hw := (h.setReg R.AFE_CHEN (v &&& 0x000F)).stAbort

/-- A write to `AFE.XBCFG`: reserved driven frequencies are rejected (R219). It takes effect at the boundary (R223). -/
def xbcfgWrite (h : Hw) (v : Word) : Hw :=
  if !v.getLsbD 15 && 3 < fld v 10 8 then h.afeFlag 11 else h.setReg R.AFE_XBCFG (v &&& 0x8713)

/-- A write to `DEC.ODR` (R232). -/
def odrWrite (h : Hw) (v : Word) : Hw :=
  if 8 < fld v 3 0 || 6 < fld v 7 4 || 8 < fld v 11 8 || 8 < fld v 15 12 then h.decFlag 5
  else h.setReg R.DEC_ODR v

/-- A write to `DEC.RESP` (R237); it takes effect at the group's next output instant. -/
def respWrite (h : Hw) (v : Word) : Hw := h.setReg R.DEC_RESP v

/-- A re-anchor starts (R254); a second trigger before the move merges with it. -/
def reanchor (h : Hw) : Hw := { h with dec := { h.dec with reanchor := true } }

/-- RESYNC (R254). -/
def resync (h : Hw) : Hw := if h.up .sense then h.reanchor else h

/-- A commit of `DEC.GRIDOFS` (R249, R257). -/
def gridofsSet (h : Hw) (vs : List Word) : Hw :=
  let v := word vs 0 + 65536 * (word vs 1 % 128)
  if 7999999 < v then h.decFlag 5
  else
    let h1 := (h.setReg R.DEC_GRIDOFS_L (wd v)).setReg R.DEC_GRIDOFS_H (wd (v / 65536))
    if h.b R.DEC_GRIDCFG 15 then h1 else ({ h1 with dec := { h1.dec with gridph := v } }.gridFree).reanchor

/-! ### The grid discipliner (R250 to R255) -/

/-- GLOCK falls (R251). -/
def glockFall (h : Hw) : Hw :=
  let h1 := { h with dec := { h.dec with glock := false, es := [], inRun := 0, outRun := 0 } }
  if h.dec.glock then h1.decFlag 1 else h1

/-- The S-loop offset after an update (R79, R250): within ±500 ppm, and at most 2 ppm per millisecond, 16 ppm over the 8 ms
between measurements, from the present offset. -/
def soffsLimit (want : Int) : Int := clampI (-2147483) 2147483 want

/-- The JUMP threshold in ns (R254). -/
def jumpLimit (h : Hw) : Option Nat :=
  match h.f R.DEC_GRIDCFG 9 8 with
  | 0 => none
  | 1 => some 1000
  | 2 => some 10000
  | _ => some 100000

/-- The GLOCK rule over one measurement (R251). -/
def glockStep (h : Hw) (e : Int) : Hw :=
  let es := (e :: h.dec.es).take 4
  let whole := es.length = 4
  let sum := es.foldl (· + ·) 0
  let inRun := if whole && sum.natAbs ≤ 80 then h.dec.inRun + 1 else 0
  let outRun := if whole && 160 < sum.natAbs then h.dec.outRun + 1 else 0
  let h1 := { h with dec := { h.dec with es := es, inRun := min inRun 16, outRun := min outRun 4 } }
  if !h.dec.glock && 16 ≤ inRun then { h1 with dec := { h1.dec with glock := true } }.decFlag 0
  else if h.dec.glock && 4 ≤ outRun then
    { h1 with dec := { h1.dec with glock := false } }.decFlag 1
  else h1

/-- The value e of R250: the sample almanac's time minus the nearest instant of the 125 Hz subgrid, in ns. -/
def gridError (h : Hw) : Int :=
  let r := (almNs (h.almOf h.sampAlm) + 8000000 - h.gridPhase % 8000000) % 8000000
  if r ≤ 4000000 then r else (r : Int) - 8000000

/-- The phase counters of every path move by `k` modulator bits of S / 4 (R255). -/
def phaseMove (h : Hw) (k : Int) : Hw :=
  let moved := fun (i : Fin 11) =>
    let p := h.dec.path[i]
    if h.groupReceived (pathGroup i.val) then { p with m := (((p.m : Int) + k / 48) % 1024).toNat }
    else p.move (h.pathRate i.val) (divRound (k * h.pathRate i.val) 48)
  { h with dec := { h.dec with path := Vector.ofFn moved } }

/-- A pending re-anchor takes effect (R255): the phase moves by the whole bits nearest to −e, a later instant is the next, and
the first sample after it carries the gap mark and WARM. -/
def anchorMove (h : Hw) (e : Int) : Hw :=
  let now := almNs (h.almOf h.sampAlm)
  let h1 := (h.glockFall).phaseMove (divRound (e * 6144) 1000000)
  let h2 := { h1 with dec := { h1.dec with
    reanchor := false
    nextT := some (h1.gridFrom (match h.dec.lastT with
      | some l => max now (l + 1)
      | none => now)) } }
  ((h2.warmStart 0xF#4 false).gapMark 2).decFlag 2

/-- A measurement at a 125 Hz instant (R250): the sample almanac counts `k` T edges to the one that samples the grid-instant S
edge. A pending re-anchor moves the phase there (R255); otherwise the S-loop offset takes its proportional and integral
terms, and GLOCK and the jump test follow. -/
def gridMeasure (h0 : Hw) (k : Nat) : Hw :=
  if !h0.live .sense || !h0.clk.slock then h0
  else
    let n := h0.sampAlm
    let h := if (h0.almOf n).sub + h0.almGain n k < secUnits then h0.almCount n k else h0
    let e := h.gridError
    let h1 := h.setReg R.DEC_GERR (wdI (clampI (-32767) 32767 e))
    if h.dec.reanchor then h1.anchorMove e
    else
      let sum := h1.dec.esum + e
      let bw := h1.f R.DEC_GRIDCFG 1 0
      let want := (Config.gridKp bw * e + Config.gridKi bw * sum) / 65536
      let h2 := { h1 with
        clk := { h1.clk with soffsTo := soffsLimit want }
        dec := { h1.dec with esum := sum } }
      let h3 := h2.glockStep e
      match h3.jumpLimit with
      | none => h3
      | some l => if l < e.natAbs then h3.reanchor else h3

/-- EPOCH resets the decimators (R256, R257): the histories are emptied, the phase counters restart, and the next sample is that
of the first grid instant from here on. An edge less than 4 S-cycles after the one before acts with it as one reset; in
DISSENT an edge is ignored (R258). -/
def decEpoch (h : Hw) (dissent : Bool) (since : Nat) : Hw :=
  if !h.live .sense || !h.b R.DEC_GRIDCFG 14 then h
  else if dissent then h.decFlag 4
  else if h.dec.epoch && since < 4 then h
  else
    let h0 := h.emptyAll.stAbort
    let h1 := { h0 with dec := { h0.dec with path := h0.dec.path.map Path.restart, epoch := true } }
    let h2 := if h.b R.DEC_GRIDCFG 15 then
        let ph := (almNs (h.almOf h.sampAlm) + h.reg32 R.DEC_GRIDOFS_L % 8388608) % 8000000
        { h1 with dec := { h1.dec with gridph := ph, es := [], inRun := 0, outRun := 0 } }
      else h1
    let h3 := { h2 with dec := { h2.dec with nextT := some (h2.gridFrom (almNs (h2.almOf h2.sampAlm))) } }
    h3.decFlag 3

/-! ### Gyroscope drive and XB inputs (R209, R219, R221, R222) -/

/-- The drive loop locks (R209): the first lock only sets the end of WARM; a lock after a loss empties the histories. -/
def gdrvLock (h : Hw) : Hw :=
  if !h.up .sense || h.afe.gdrv || !h.afe.chen.getLsbD 1 then h
  else
    let h1 := { h with afe := { h.afe with gdrv := true, gdrvOnce := true } }
    (h1.warmStart 2#4 h.afe.gdrvOnce).afeFlag 13

/-- The drive loop loses lock (R209). -/
def gdrvUnlock (h : Hw) : Hw :=
  if h.afe.gdrv then { h with afe := { h.afe with gdrv := false } } else h

/-- XBCLK is an input: received mode with an XB channel enabled. -/
def xbReceived (h : Hw) : Bool :=
  h.up .sense && h.afe.xbcfg.getLsbD 15 && (h.afe.chen.getLsbD 2 || h.afe.chen.getLsbD 3)

/-- XBCLK is lost (R221). -/
def xbLoss (h : Hw) : Hw :=
  if h.xbReceived && !h.afe.xbLost then { h with afe := { h.afe with xbLost := true } }.afeFlag 8 else h

/-- XBCLK measures within range again (R221). -/
def xbReturn (h : Hw) : Hw :=
  if h.xbReceived && h.afe.xbLost then
    ({ h with afe := { h.afe with xbLost := false } }.warmStart 0xC#4 true).afeFlag 9
  else h

/-- A measurement of XBCLK in kHz (R219, R221). -/
def xbMeasure (h : Hw) (khz : Word) : Hw :=
  if !h.xbReceived then h
  else
    let h1 := h.setReg R.AFE_XBFREQ khz
    if khz.toNat < 4900 || 20400 < khz.toNat then h1.xbLoss
    else if 5000 ≤ khz.toNat && khz.toNat ≤ 20000 then h1.xbReturn
    else h1

/-- A data line has held one level for 256 bit periods, or has changed its level (R222). -/
def xbStuck (h : Hw) (k : Fin 2) (held : Bool) : Hw :=
  if !h.up .sense || !h.afe.chen.getLsbD (2 + k.val) then h
  else if held then { h with afe := { h.afe with stuck := h.afe.stuck ||| (1#2 <<< k.val) } }.afeFlag 10
  else { h with afe := { h.afe with stuck := h.afe.stuck &&& ~~~(1#2 <<< k.val) } }

/-! ### Live registers -/

/-- The live bits of `AFE.STAT` without the common bits (R228). -/
def afeStat (h : Hw) : Nat :=
  let bit := fun (c : Bool) (i : Nat) => if c then 2 ^ i else 0
  let run := h.afe.st.phase != 0 && h.afe.st.phase != 4
  bit h.afe.notrim 11 + bit (h.trimsOn && h.up .sense) 10 + bit run 9 + bit h.afe.gdrv 8
    + bit (h.afe.xbLost && h.afe.chen.getLsbD 3) 7 + bit (h.afe.xbLost && h.afe.chen.getLsbD 2) 6
    + bit (h.afe.stuck.getLsbD 1) 5 + bit (h.afe.stuck.getLsbD 0) 4

/-- `AFE.RSTAT` (R197, R206). -/
def afeRstat (h : Hw) : Nat :=
  (List.finRange 3).foldl (fun n i =>
    n + (if h.afe.ax[i].fovl then 2 ^ (8 + i.val) else 0) + h.afe.ax[i].code * 4 ^ i.val) 0

/-- The live bits of `DEC.STAT` without the common bits (R260). -/
def decStat (h : Hw) : Nat := (if h.dec.glock then 128 else 0) + h.warmBits.toNat

/-- `CAL.ROLES` was `was` before a change (R164, R165, R254): a new sample almanac re-anchors the grid while SENSE is powered,
and the first 1 MHz tick after a change comes from the new tick almanac. -/
def rolesChanged (h : Hw) (was : Word) : Hw :=
  let h1 := if fld was 5 4 != h.tickAlm then { h with cal := { h.cal with ticks := 0 } } else h
  if fld was 1 0 != h1.sampAlm && h1.up .sense then h1.gridFree.reanchor else h1

end Hw
end Sys2Proof.Machine
end

