-- ==== Sys2Proof/Machine/Recognize.lean ====
section
/-!
DEFINITION. Windows, TAP, MOVE/SETTLE, FALL, the draft detectors, and the release of the STOP_N latch (R262 to R289).
-/

namespace Sys2Proof.Machine

/-- Integer square root, rounded down, of a number below 2^52: one result bit a step. -/
def isqrtBits : Nat → Nat → Nat → Nat
  | 0, _, r => r
  | k + 1, n, r => isqrtBits k n (if (r + 2 ^ k) * (r + 2 ^ k) ≤ n then r + 2 ^ k else r)

def isqrt (n : Nat) : Nat := isqrtBits 26 n 0

/-- The magnitude source of three values (R262, R265). -/
def magnitude (x y z : Int) : Int := min 8388607 (isqrt (x * x + y * y + z * z).natAbs)

/-- A run without samples. -/
def Run.empty : Run := { len := 0, chs := Vector.replicate 6 { n := 0, lo := 0, hi := 0, sum := 0 } }

/-- A value enters a channel of a run. -/
def RunCh.add (c : RunCh) (v : Int) : RunCh :=
  if c.n = 0 then { n := 1, lo := v, hi := v, sum := v }
  else { n := c.n + 1, lo := min c.lo v, hi := max c.hi v, sum := c.sum + v }

/-- The mean of a channel (R274); none without samples. -/
def RunCh.mean (c : RunCh) : Option Int := if c.n = 0 then none else some (divRound c.sum c.n)

/-- A sample enters a run (R273): `vals` gives the channels it has; one that spreads beyond its threshold starts a new run
with this sample. -/
def Run.add (r : Run) (acc : Bool) (vals : Nat → Option Int) (thr : Nat → Nat) : Run :=
  let put := fun (r : Run) => Run.mk (r.len + if acc then 1 else 0)
    (Vector.ofFn fun (i : Fin 6) => match vals i.val with
      | none => r.chs[i]
      | some v => r.chs[i].add v)
  let r1 := put r
  if (List.finRange 6).any fun i => 0 < r1.chs[i].n && (thr i.val : Int) < r1.chs[i].hi - r1.chs[i].lo then
    put Run.empty
  else r1

/-- Recognizers in their initial states (R264, R290). -/
def TapRec.init : TapRec :=
  { st := .armed, base := Vector.replicate 3 0, baseValid := false, cnt := 0, second := false }
def MoveSettle.init : MoveSettle := { st := .unknown, run := Run.empty, ref := Vector.replicate 6 none }
def Fall.init : Fall :=
  { g := Vector.replicate 3 0, gvalid := false, run := Run.empty, count := 0, leave := 0, active := false }
def Recog.init : Recog :=
  { wins := Vector.replicate 8 { inCond := false, count := 0 }, tap := TapRec.init, ms := MoveSettle.init
    fall := Fall.init, draftFall := 0 }

namespace Hw

/-- IFLAG bits of the REC and REFLEX pages. -/
def recFlag (h : Hw) (bit : Nat) : Hw := h.raise 0x14 bit
def reflexFlag (h : Hw) (bit : Nat) : Hw := h.raise 0x15 bit

/-- Every recognizer of the REC page starts in its initial state; the draft detectors are none of them (R280). -/
def recInit (h : Hw) : Hw := { h with recog := { Recog.init with draftFall := h.recog.draftFall } }

/-! ### Windows (R265 to R268) -/

/-- A window's configuration. -/
def winCfg (h : Hw) (n : Nat) : Word := h.reg (R.REC_WCFG n)
def winHi (h : Hw) (n : Nat) : Int := signed 24 (h.reg32 (R.REC_WTHR n) % 16777216)
def winLo (h : Hw) (n : Nat) : Int := signed 24 (h.reg32 (R.REC_WTHR n + 2) % 16777216)
def winHyst (h : Hw) (n : Nat) : Int := 16 * (h.reg (R.REC_WHYST n)).toNat

/-- The source value and its group (R265). -/
def winSource (s : Sample) (src : Nat) : Int × Nat :=
  if src < 8 then (s.seen[src % 8]'(Nat.mod_lt _ (by decide)), chGroup src)
  else if src = 8 then (magnitude s.seen[0] s.seen[1] s.seen[2], 0)
  else (magnitude s.seen[3] s.seen[4] s.seen[5], 1)

/-- The entry test (R266). -/
def winEnter (h : Hw) (n : Nat) (v : Int) : Bool :=
  match fld (h.winCfg n) 13 12 with
  | 0 => h.winHi n ≤ v
  | 1 => v ≤ h.winLo n
  | 2 => h.winHi n ≤ v || v ≤ h.winLo n
  | _ => h.winLo n ≤ v && v ≤ h.winHi n

/-- The leave test (R266). -/
def winLeave (h : Hw) (n : Nat) (v : Int) : Bool :=
  let hy := h.winHyst n
  match fld (h.winCfg n) 13 12 with
  | 0 => v < h.winHi n - hy
  | 1 => h.winLo n + hy < v
  | 2 => h.winLo n + hy < v && v < h.winHi n - hy
  | _ => v < h.winLo n - hy || h.winHi n + hy < v

/-- A window replaced. -/
def setWin (h : Hw) (n : Nat) (w : Win) : Hw :=
  { h with recog := { h.recog with wins := h.recog.wins.set (n % 8) w (Nat.mod_lt _ (by decide)) } }
def winOf (h : Hw) (n : Nat) : Win := h.recog.wins[n % 8]'(Nat.mod_lt _ (by decide))

/-- One window over one sample (R263, R267). -/
def winSample (h : Hw) (s : Sample) (n : Nat) : Hw :=
  let cfg := h.winCfg n
  let (v, g) := winSource s (fld cfg 11 8)
  let w := h.winOf n
  if !cfg.getLsbD 15 || !s.groups.getLsbD g then h
  else if s.warm.getLsbD g && cfg.getLsbD 14 then h.setWin n { w with count := 0 }
  else if w.inCond then
    if h.winLeave n v then h.setWin n { inCond := false, count := 0 } else h
  else if h.winEnter n v then
    if max 1 (fld cfg 7 0) ≤ w.count + 1 then
      ((h.setWin n { inCond := true, count := 0 }).event (36 + n)).recFlag n
    else h.setWin n { w with count := w.count + 1 }
  else h.setWin n { w with count := 0 }

/-- A commit of `REC.WnTHR` (R268). -/
def winThrSet (h : Hw) (n : Nat) (vs : List Word) : Hw :=
  let hi := signed 24 ((vs.getD 0 0).toNat + 65536 * ((vs.getD 1 0).toNat % 256))
  let lo := signed 24 ((vs.getD 2 0).toNat + 65536 * ((vs.getD 3 0).toNat % 256))
  if hi < lo then h.recFlag 15
  else
    let h1 := (List.range 4).foldl (fun g i =>
      g.setReg (R.REC_WTHR n + i) (if i % 2 = 1 then vs.getD i 0 &&& 0x00FF else vs.getD i 0)) h
    if hi = h.winHi n && lo = h.winLo n then h1 else h1.setWin n { h1.winOf n with count := 0 }

/-- A write to `REC.WnCFG` (R265, R268). -/
def winCfgWrite (h : Hw) (n : Nat) (v : Word) : Hw :=
  let old := h.winCfg n
  if 9 < fld v 11 8 then h.recFlag 15
  else
    let h1 := h.setReg (R.REC_WCFG n) v
    let fresh := fld old 11 8 != fld v 11 8 || (v.getLsbD 15 && !old.getLsbD 15)
    let restart := fresh || fld old 13 12 != fld v 13 12 || fld old 7 0 != fld v 7 0
    h1.setWin n { inCond := (h.winOf n).inCond && !fresh, count := if restart then 0 else (h.winOf n).count }

/-- A write to `REC.WnHYST` (R268). -/
def winHystWrite (h : Hw) (n : Nat) (v : Word) : Hw :=
  let h1 := h.setReg (R.REC_WHYST n) v
  if v = h.reg (R.REC_WHYST n) then h1 else h1.setWin n { h.winOf n with count := 0 }

/-- `REC.WSTAT`. -/
def wstat (h : Hw) : Nat := (List.range 8).foldl (fun m n => if (h.winOf n).inCond then m + 2 ^ n else m) 0

/-! ### TAP (R269 to R271) -/

/-- The square of the tap level p (R269). -/
def tapLevel (t : TapRec) (a : Nat → Int) (axis : Nat) : Nat :=
  let d := fun (i : Fin 3) => (a i.val - t.base[i]).natAbs
  if axis = 0 then d 0 * d 0 else if axis = 1 then d 1 * d 1 else if axis = 2 then d 2 * d 2
  else d 0 * d 0 + d 1 * d 1 + d 2 * d 2

/-- The next tap state (R270, R271) with the events of the sample: a first tap and a second tap are reported. -/
def tapNext (t : TapRec) (cfg qd : Word) (big half : Bool) : TapRec × Bool × Bool :=
  let dur := max 1 (fld cfg 7 0)
  let quiet := max 1 (fld qd 15 8)
  let dbl := fld qd 7 0
  let excl := cfg.getLsbD 13 && dbl != 0
  match t.st with
  | .armed => if big then ({ t with st := .inTap, cnt := 0, second := false }, false, false) else (t, false, false)
  | .inTap =>
    if !half then ({ t with st := .quiet, cnt := 0 }, !t.second && !excl, t.second)
    else if dur ≤ t.cnt + 1 then ({ t with st := .blocked, cnt := 0 }, false, false)
    else ({ t with cnt := t.cnt + 1 }, false, false)
  | .quiet =>
    if half then ({ t with cnt := 0 }, false, false)
    else if quiet ≤ t.cnt + 1 then
      ({ t with st := if !t.second && dbl != 0 then .dblWait else .armed, cnt := 0 }, false, false)
    else ({ t with cnt := t.cnt + 1 }, false, false)
  | .dblWait =>
    if big then ({ t with st := .inTap, cnt := 0, second := true }, false, false)
    else if dbl ≤ t.cnt + 1 then ({ t with st := .armed, cnt := 0 }, excl, false)
    else ({ t with cnt := t.cnt + 1 }, false, false)
  | .blocked =>
    if half then ({ t with cnt := 0 }, false, false)
    else if quiet ≤ t.cnt + 1 then ({ t with st := .armed, cnt := 0 }, false, false)
    else ({ t with cnt := t.cnt + 1 }, false, false)

/-- TAP over one accelerometer sample (R263, R269). -/
def tapSample (h : Hw) (s : Sample) : Hw :=
  if !h.b R.REC_RCFG 0 || !s.groups.getLsbD 0 then h
  else
    let t := h.recog.tap
    let set := fun (t : TapRec) => { h with recog := { h.recog with tap := t } }
    if s.warm.getLsbD 0 then
      set { t with st := if t.st = .inTap then .armed else t.st, baseValid := false }
    else
      let a := fun (i : Nat) => s.seen[i % 8]'(Nat.mod_lt _ (by decide))
      let cfg := h.reg R.REC_TAPCFG
      let t0 := if t.baseValid then t else { t with base := Vector.ofFn fun (i : Fin 3) => a i.val, baseValid := true }
      let thr := 64 * (h.reg R.REC_TAPTHR).toNat
      let p2 := tapLevel t0 a (fld cfg 15 14)
      let (t1, first, second) := tapNext t0 cfg (h.reg R.REC_TAPQD) (thr * thr ≤ p2) (thr * thr ≤ 4 * p2)
      let tc : Int := 2 ^ (min (fld cfg 11 8) 10 + 2)
      let t2 := if t0.st = .inTap || t1.st = .inTap then t1
        else { t1 with base := Vector.ofFn fun (i : Fin 3) => t1.base[i] + divRound (a i.val - t1.base[i]) tc }
      let h1 := set t2
      let h2 := if first then (h1.event 44).recFlag 8 else h1
      if second then (h2.event 45).recFlag 9 else h2

/-! ### MOVE/SETTLE (R272 to R275) -/

/-- The channels a sample gives MOVE/SETTLE. -/
def msVals (h : Hw) (s : Sample) (i : Nat) : Option Int :=
  if s.groups.getLsbD (chGroup i) && (i < 3 || h.b R.REC_MSCFG 15) then some (s.seen[i % 8]'(Nat.mod_lt _ (by decide)))
  else none

/-- MOVE/SETTLE over one sample. -/
def msSample (h : Hw) (s : Sample) : Hw :=
  let gyr := h.b R.REC_MSCFG 15
  let acc := s.groups.getLsbD 0
  if !h.b R.REC_RCFG 1 || !(acc || (gyr && s.groups.getLsbD 1)) then h
  else
    let m := h.recog.ms
    let set := fun (m : MoveSettle) => { h with recog := { h.recog with ms := m } }
    if (acc && s.warm.getLsbD 0) || (gyr && s.groups.getLsbD 1 && s.warm.getLsbD 1) then set { m with run := Run.empty }
    else
      let vals := h.msVals s
      let thr := fun (i : Nat) => (h.reg (if i < 3 then R.REC_SETTLETHR else R.REC_GSETTLETHR)).toNat
      let mv := fun (i : Nat) => 16 * (h.reg (if i < 3 then R.REC_MOVETHR else R.REC_GMOVETHR)).toNat
      if m.st = .settled then
        let moved := (List.finRange 6).any fun i =>
          match vals i.val, m.ref[i] with
          | some v, some r => mv i.val ≤ (v - r).natAbs
          | _, _ => false
        if moved then
          ((set { m with st := .moving, run := Run.empty.add acc vals thr }).event 46).recFlag 10
        else h
      else
        let r := m.run.add acc vals thr
        if acc && 2 ^ max 2 (min 12 (h.f R.REC_MSCFG 3 0)) ≤ r.len then
          ((set { st := .settled, run := Run.empty, ref := r.chs.map RunCh.mean }).event 47).recFlag 11
        else set { m with run := r }

/-! ### FALL (R276 to R279) -/

/-- The fall condition on a sample (R278). -/
def fallCond (h : Hw) (f : Fall) (x y z : Int) : Bool :=
  let t : Int := 16 * (h.reg R.REC_FALLTHR).toNat
  let gg := f.g[0] * f.g[0] + f.g[1] * f.g[1] + f.g[2] * f.g[2]
  x * x + y * y + z * z < t * t ||
    (f.gvalid && 256 * (x * f.g[0] + y * f.g[1] + z * f.g[2]) < (h.f R.REC_FALLCFG 15 8 : Nat) * gg)

/-- The still run learns the gravity estimate (R276); the answer says whether the estimate became valid. -/
def fallLearn (h : Hw) (f : Fall) (s : Sample) : Fall × Bool :=
  let vals := fun (i : Nat) => if i < 3 then some (s.seen[i % 8]'(Nat.mod_lt _ (by decide))) else none
  let r := f.run.add true vals fun _ => 16 * (h.reg R.REC_GSTILL).toNat
  if r.len < 64 then ({ f with run := r }, false)
  else
    let m := fun (i : Fin 3) => (RunCh.mean (r.chs[i.val]'(by omega))).getD 0
    if 262144 * 262144 ≤ m 0 * m 0 + m 1 * m 1 + m 2 * m 2 then
      ({ f with run := Run.empty, g := Vector.ofFn m, gvalid := true }, !f.gvalid)
    else ({ f with run := Run.empty }, false)

/-- FALL over one accelerometer sample. -/
def fallSample (h : Hw) (s : Sample) : Hw :=
  if !h.b R.REC_RCFG 2 || !s.groups.getLsbD 0 then h
  else
    let f := h.recog.fall
    let set := fun (f : Fall) => { h with recog := { h.recog with fall := f } }
    if s.warm.getLsbD 0 then set { f with run := Run.empty, count := 0, leave := 0 }
    else
      let n := max 1 (h.f R.REC_FALLCFG 7 0)
      let c := h.fallCond f s.seen[0] s.seen[1] s.seen[2]
      if f.active then
        if c then set { f with leave := 0 }
        else if n ≤ f.leave + 1 then set { f with active := false, leave := 0, count := 0 }
        else set { f with leave := f.leave + 1 }
      else if c && n ≤ f.count + 1 then
        let h1 := ((set { f with active := true, count := 0, leave := 0, run := Run.empty }).event 48).recFlag 12
        if f.gvalid then h1 else h1.recFlag 13
      else
        let (f1, learnt) := h.fallLearn { f with count := if c then f.count + 1 else 0 } s
        if learnt then (set f1).recFlag 14 else set f1

/-- The gravity estimate is lost, and MOVE/SETTLE returns to UNKNOWN (R272, R277). -/
def trimChange (h : Hw) : Hw :=
  { h with recog := { h.recog with
      ms := MoveSettle.init, fall := { h.recog.fall with gvalid := false, run := Run.empty } } }

/-- A write to `REC.RCFG` (R272, R277): a recognizer starts in its initial state. -/
def rcfgWrite (h : Hw) (v : Word) : Hw :=
  let old := h.reg R.REC_RCFG
  let h1 := h.setReg R.REC_RCFG (v &&& 0x0007)
  { h1 with recog := { h1.recog with
      tap := if v.getLsbD 0 && !old.getLsbD 0 then TapRec.init else h1.recog.tap
      ms := if v.getLsbD 1 && !old.getLsbD 1 then MoveSettle.init else h1.recog.ms
      fall := if !v.getLsbD 2 then Fall.init else h1.recog.fall } }

/-! ### The matrix, the draft detectors and the latch (R280 to R289) -/

/-- `REFLEX.MASK` as 64 bits; bit 63 is reserved. -/
def reflexMask (h : Hw) : BitVec 64 :=
  BitVec.ofNat 64 ((h.reg R.REFLEX_MASK0).toNat + 65536 * (h.reg R.REFLEX_MASK1).toNat
    + 4294967296 * (h.reg R.REFLEX_MASK2).toNat + 281474976710656 * (h.f R.REFLEX_MASK3 14 0))

/-- A reflex input fires (R281): the latch is set, or HITCNT counts. -/
def reflexFire (h : Hw) (typ ev t : Nat) : Hw :=
  if h.latch.set then (h.count R.REFLEX_HITCNT).reflexFlag 5 else h.setLatch typ ev t

/-- The draft detectors are running (R280). -/
def draftArm (h : Hw) : Bool := h.pwr.draft && h.live .sense && h.b R.REFLEX_DRAFTCFG 15

/-- The draft detectors over one draft sample (R280); a sample that is not evaluated breaks the run of FALLN. -/
def draftSample (h : Hw) (s : Sample) : Hw :=
  if !s.groups.getLsbD 0 then h
  else if !h.draftArm || s.warm.getLsbD 0 then { h with recog := { h.recog with draftFall := 0 } }
  else
    let sh : Nat := 4096 * max 1 (min 0xFE (h.f R.REFLEX_DRAFTTHR 15 8))
    let fa : Nat := 4096 * max 1 (h.f R.REFLEX_DRAFTTHR 7 0)
    let shock := h.b R.REFLEX_DRAFTCFG 9 && (List.range 3).any fun i =>
      sh ≤ (s.vals[i % 8]'(Nat.mod_lt _ (by decide))).natAbs
    let low := s.vals[0] * s.vals[0] + s.vals[1] * s.vals[1] + s.vals[2] * s.vals[2] < (fa * fa : Nat)
    let n := max 1 (h.f R.REFLEX_DRAFTCFG 7 0)
    let c := if low then min n (h.recog.draftFall + 1) else 0
    let fall := h.b R.REFLEX_DRAFTCFG 8 && n ≤ c
    let h1 := { h with recog := { h.recog with draftFall := c } }
    if shock then (h1.reflexFlag 1).reflexFire 2 0 s.t
    else if fall then (h1.reflexFlag 1).reflexFire 3 0 s.t
    else h1

/-- Every recognizer over one sample: in draft the draft detectors alone (R264). -/
def recSample (h : Hw) (s : Sample) : Hw :=
  if h.pwr.draft then h.draftSample s
  else if !h.enabled 0x14 then h
  else (((List.range 8).foldl (fun g n => g.winSample s n) h).tapSample s |>.msSample s).fallSample s

/-- The first condition of R285 that rejects a release; `who` is the RELWHO bit, none for AUTOREL (R287). -/
def relWhy (h : Hw) (who : Option Nat) : Option Nat :=
  if h.pwr.draft then some 1
  else if h.now - h.latch.setAt < h.f R.REFLEX_CFG 11 4 * 8000 then some 2
  else if (match who with
    | none => false
    | some i => !h.b R.REFLEX_CFG i) then some 3
  else if ((List.range 8).any fun n => (h.winOf n).inCond && h.reflexMask.getLsbD (36 + n))
      || (h.recog.fall.active && h.reflexMask.getLsbD 48) then some 4
  else none

/-- The RELWHO bit of a party (R285, R292). -/
def relWho : Party → Nat
  | .spi => 0
  | .twi0 => 1
  | .core => 2
  | .remote => 2
  | .etch _ => 3

/-- A write to `REFLEX.RELEASE` (R285, R286). -/
def releaseWrite (h : Hw) (p : Party) (v : Word) : Hw :=
  if v != 0xC1EA || !h.latch.set then h
  else
    match h.relWhy (some (relWho p)) with
    | some c => { h with latch := { h.latch with why := c } }.reflexFlag 3
    | none => h.clearLatch p.code

/-- AUTOREL (R287): the field lies in SENSE, so that it acts while SENSE is powered. -/
def autoRelease (h : Hw) : Hw :=
  if h.up .sense && h.b R.REFLEX_CFG 15 && h.latch.set && (h.relWhy none).isNone then h.clearLatch 0 else h

/-- FORCE (R284). -/
def forceLatch (h : Hw) : Hw := h.setLatch 6 0 0

/-- The live bits of `REC.STAT` without the common bits (R290). -/
def recStat (h : Hw) : Nat :=
  (if h.recog.fall.gvalid then 2048 else 0) + (if h.recog.fall.active then 256 else 0)
    + (match h.recog.ms.st with
      | .unknown => 0
      | .settled => 512
      | .moving => 1024)

/-- `REC.GEST` (R276). -/
def gestWords (h : Hw) : List Word :=
  let g := fun (i : Fin 3) => (BitVec.ofInt 24 h.recog.fall.g[i]).toNat
  [wd (g 0), wd (g 0 / 65536), wd (g 1), wd (g 1 / 65536), wd (g 2), wd (g 2 / 65536)]

end Hw
end Sys2Proof.Machine
end

