-- ==== Sys2Proof/Machine/Operands.lean ====
section
/-!
DEFINITION. The operand forms of the Etcher instructions (R302 to R313): fields of an instruction word, the decoded
instruction, channel, state and condition operands.
-/

namespace Sys2Proof.Machine

/-- The condition of a WAIT (R305). -/
inductive WaitCond
  | ev (a b : Nat)
  | state (pol : Bool) (st : Nat)
  | timer (sel : Bool)
  | sample (ch : Nat) (less skip : Bool) (imm : Word)
  | count (cn : Fin 4) (imm : Word)
  deriving DecidableEq, Repr

/-- The condition of a BRANCH (R308). -/
inductive BrCond
  | always
  | ev (e : Nat)
  | state (pol : Bool) (st : Nat)
  | cnt (rel : Nat) (cn cm : Fin 4)
  | timer (notExpired : Bool) (sel : Bool)
  | sample (ch : Nat) (less : Bool) (cn : Fin 4)
  deriving DecidableEq, Repr

/-- The SIG operations (R307). -/
inductive SigOp
  | nop | pulse | set | clr | tgl
  deriving DecidableEq, Repr

/-- The counter operations (R309). -/
inductive CntOp
  | inc | dec | add (imm : Word) | bind (ev : Nat)
  deriving DecidableEq, Repr

/-- A decoded Etcher instruction. -/
inductive EtchOp
  | halt (clr : Bool)
  | wait (c : WaitCond) (timeout : Option Bool)
  | sig (op : SigOp)
  | actReg (cn : Fin 4) (addr : Nat)
  | actMbx (mb len : Nat)
  | kick (addr : BitVec 10) (stop : Bool) (target : Fin 8)
  | branch (c : BrCond) (target : BitVec 10)
  | count (op : CntOp) (cn : Fin 4)
  | ldi (cn : Fin 4) (imm : Word)
  | ldt (it : Bool) (unit val : Nat)
  | ldr (cn : Fin 4) (addr : Nat)
  | lds (ch : Nat) (cn : Fin 4)
  deriving DecidableEq, Repr

/-- Bits `hi:lo` of an instruction word. -/
def ifld (w : BitVec 32) (hi lo : Nat) : Nat := w.toNat / 2 ^ lo % 2 ^ (hi + 1 - lo)

/-- A 2-bit counter field. -/
def cfld (w : BitVec 32) (lo : Nat) : Fin 4 := ⟨w.toNat / 2 ^ lo % 4, Nat.mod_lt _ (by decide)⟩

/-- The timeout of a WAIT (R306): TOEN and TSEL. -/
def waitTo (w : BitVec 32) : Option Bool := if w.getLsbD 25 then some (w.getLsbD 24) else none

/-- WAIT words (R305); none for a reserved code. -/
def decodeWait (w : BitVec 32) : Option EtchOp :=
  match ifld w 28 26 with
  | 0 => some (.wait (.ev (ifld w 5 0) (ifld w 13 8)) (waitTo w))
  | 1 => if 23 < ifld w 4 0 then none else some (.wait (.state (w.getLsbD 8) (ifld w 4 0)) (waitTo w))
  | 2 => some (.wait (.timer (w.getLsbD 0)) none)
  | 3 =>
    if 9 < ifld w 23 20 then none
    else some (.wait (.sample (ifld w 23 20) (w.getLsbD 19) (w.getLsbD 18) (w.setWidth 16)) (waitTo w))
  | 4 => some (.wait (.count (cfld w 16) (w.setWidth 16)) (waitTo w))
  | _ => none

/-- ACT words (R307). -/
def decodeAct (w : BitVec 32) : Option EtchOp :=
  match ifld w 28 26 with
  | 0 =>
    match ifld w 2 0 with
    | 0 => some (.sig .nop)
    | 1 => some (.sig .pulse)
    | 2 => some (.sig .set)
    | 3 => some (.sig .clr)
    | 4 => some (.sig .tgl)
    | _ => none
  | 1 => some (.actReg (cfld w 16) (ifld w 15 0))
  | 2 => if 4 < ifld w 10 8 then none else some (.actMbx (ifld w 18 16) (ifld w 10 8))
  | 3 => some (.kick (BitVec.ofNat 10 (ifld w 25 16)) (w.getLsbD 4) ⟨ifld w 2 0, Nat.mod_lt _ (by simp)⟩)
  | _ => none

/-- BRANCH words (R308). -/
def decodeBranch (w : BitVec 32) : Option EtchOp :=
  let t := BitVec.ofNat 10 (ifld w 9 0)
  match ifld w 28 26 with
  | 0 => some (.branch .always t)
  | 1 => some (.branch (.ev (ifld w 21 16)) t)
  | 2 => if 23 < ifld w 20 16 then none else some (.branch (.state (w.getLsbD 22) (ifld w 20 16)) t)
  | 3 => some (.branch (.cnt (ifld w 25 24) (cfld w 22) (cfld w 20)) t)
  | 4 => some (.branch (.timer (w.getLsbD 17) (w.getLsbD 16)) t)
  | 5 => if 9 < ifld w 25 22 then none else some (.branch (.sample (ifld w 25 22) (w.getLsbD 21) (cfld w 19)) t)
  | _ => none

/-- COUNT words (R309). -/
def decodeCount (w : BitVec 32) : Option EtchOp :=
  match ifld w 28 26 with
  | 0 => some (.count .inc (cfld w 16))
  | 1 => some (.count .dec (cfld w 16))
  | 2 => some (.count (.add (w.setWidth 16)) (cfld w 16))
  | 3 => some (.count (.bind (ifld w 5 0)) (cfld w 16))
  | _ => none

/-- LOAD words (R311). -/
def decodeLoad (w : BitVec 32) : Option EtchOp :=
  match ifld w 28 26 with
  | 0 => some (.ldi (cfld w 16) (w.setWidth 16))
  | 1 => some (.ldt false (ifld w 25 24) (ifld w 23 0))
  | 2 => some (.ldt true (ifld w 25 24) (ifld w 23 0))
  | 3 => some (.ldr (cfld w 16) (ifld w 15 0))
  | 4 => if 9 < ifld w 23 20 then none else some (.lds (ifld w 23 20) (cfld w 16))
  | _ => none

/-- An instruction word decoded (R302); none for an illegal instruction. -/
def decodeEtch (w : BitVec 32) : Option EtchOp :=
  match ifld w 31 29 with
  | 0 => if ifld w 28 26 = 0 then some (.halt (w.getLsbD 0)) else none
  | 1 => decodeWait w
  | 2 => decodeAct w
  | 3 => decodeBranch w
  | 4 => decodeCount w
  | 5 => decodeLoad w
  | _ => none

namespace Hw

/-- The Etcher numbered `n`. -/
def etcher (h : Hw) (n : Fin 8) : Etcher := h.etch[n]
def setEtcher (h : Hw) (n : Fin 8) (e : Etcher) : Hw := { h with etch := h.etch.set n e }

/-- Counter `c` of an Etcher. -/
def ctr (h : Hw) (n : Fin 8) (c : Fin 4) : Word := (h.etcher n).c[c]
def setCtr (h : Hw) (n : Fin 8) (c : Fin 4) (v : Word) : Hw :=
  h.setEtcher n { h.etcher n with c := (h.etcher n).c.set c v }

/-- Interval timer IT0 or IT1. -/
def itOf (h : Hw) (n : Fin 8) (sel : Bool) : IntTimer := if sel then (h.etcher n).it[1] else (h.etcher n).it[0]
def setIt (h : Hw) (n : Fin 8) (sel : Bool) (t : IntTimer) : Hw :=
  let e := h.etcher n
  h.setEtcher n { e with it := if sel then e.it.set 1 t else e.it.set 0 t }

/-- The value of a channel in E (R303): 0 for a disabled group. -/
def chValue (h : Hw) (ch : Nat) : Int :=
  if ch < 8 then
    if h.groupsOn.getLsbD (chGroup ch) then h.dec.vals[ch % 8]'(Nat.mod_lt _ (by decide)) else 0
  else if ch = 8 then
    if h.groupsOn.getLsbD 0 then magnitude h.dec.vals[0] h.dec.vals[1] h.dec.vals[2] else 0
  else if h.groupsOn.getLsbD 1 then magnitude h.dec.vals[3] h.dec.vals[4] h.dec.vals[5] else 0

/-- A STATE operand (R304). -/
def stateCond (h : Hw) (st : Nat) : Bool :=
  if st < 8 then (h.winOf st).inCond
  else if st = 8 then h.recog.fall.active
  else if st = 9 then h.recog.ms.st = .settled
  else if st = 10 then h.recog.ms.st = .moving
  else if st = 11 then h.recog.fall.gvalid
  else if st = 12 then h.latch.set
  else if st = 13 then h.dec.warmE.getLsbD 0
  else if st = 14 then h.dec.accBlend
  else if st = 15 then h.gang.st = .dissent
  else (h.etch[st % 8]'(Nat.mod_lt _ (by decide))).level

/-- An event pulses in the Etcher's executing cycle (R296); 63 is no event. -/
def evSeen (h : Hw) (n : Fin 8) (e : Nat) : Bool :=
  e < 63 && h.fabric.getLsbD e && !(h.etcher n).seen.getLsbD e

/-- A new sample of a channel is valid in the executing cycle (R305). -/
def sampleSeen (h : Hw) (n : Fin 8) (ch : Nat) : Bool :=
  h.newSample.getLsbD ch && !(h.etcher n).seenSample.getLsbD ch

/-- The group of a channel code, the magnitudes included. -/
def codeGroup (ch : Nat) : Nat := if ch = 8 then 0 else if ch = 9 then 1 else chGroup ch

/-- A WAIT condition (R305). -/
def waitHolds (h : Hw) (n : Fin 8) : WaitCond → Bool
  | .ev a b => h.evSeen n a || h.evSeen n b
  | .state pol st => h.stateCond st == pol
  | .timer sel => (h.itOf n sel).expired
  | .sample ch less skip imm =>
    let v := h.chValue ch
    let x := imm.toInt * 256
    h.sampleSeen n ch && !(skip && h.dec.warmE.getLsbD (codeGroup ch)) && (if less then v < x else x ≤ v)
  | .count cn imm => imm.toNat ≤ (h.ctr n cn).toNat

/-- A BRANCH condition (R308). -/
def branchHolds (h : Hw) (n : Fin 8) : BrCond → Bool
  | .always => true
  | .ev e => h.evSeen n e
  | .state pol st => h.stateCond st == pol
  | .cnt rel cn cm =>
    match rel with
    | 0 => h.ctr n cn = 0
    | 1 => h.ctr n cn != 0
    | 2 => h.ctr n cn = h.ctr n cm
    | _ => (h.ctr n cn).toNat < (h.ctr n cm).toNat
  | .timer notExpired sel => (h.itOf n sel).expired != notExpired
  | .sample ch less cn =>
    let v := h.chValue ch
    let x := (h.ctr n cn).toInt * 256
    if less then v < x else x ≤ v

end Hw
end Sys2Proof.Machine
end

