-- ==== Sys2Proof/Machine/Etch.lean ====
section
/-!
DEFINITION. The Etchers (R294 to R323): start, stop, errors, one executing cycle of each instruction class, interval timers,
bound counters, and the EPROG window. The access that a stalled Etcher waits for completes in EtchAccess.lean.
-/

namespace Sys2Proof.Machine

/-- An Etcher after SENSE up or a block reset (R324). -/
def Etcher.init (n : Fin 8) : Etcher :=
  { pc := BitVec.ofNat 10 (128 * n.val), c := Vector.replicate 4 0
    it := Vector.replicate 2 { val := 0, unit := 0, expired := true, counting := false, presc := 0 }
    bind := Vector.replicate 4 none, level := false, st := .idle, pend := none, stopping := false, access := none
    seen := 0, seenSample := 0, owed := 0 }

/-- The execution state's code (R295). -/
def EtchSt.code : EtchSt → Nat
  | .idle => 0
  | .run => 1
  | .wait => 2
  | .stall => 3

/-- The counters with the pulses that they are owed. -/
def Etcher.paid (e : Etcher) : Etcher :=
  { e with owed := 0, c := Vector.ofFn fun (i : Fin 4) => if e.owed.getLsbD i.val then e.c[i] + 1 else e.c[i] }

/-- The bound counters of an Etcher whose event pulses. -/
def Etcher.hits (e : Etcher) (pulses : BitVec 64) : BitVec 4 :=
  (List.finRange 4).foldl (fun m (i : Fin 4) =>
    if (e.bind[i]).any fun ev => pulses.getLsbD ev then m ||| (1#4 <<< i.val) else m) 0

namespace Hw

/-- IFLAG bits of the ETCH page (R325). -/
def etchFlag (h : Hw) (bit : Nat) : Hw := h.raise 0x16 bit

/-- The region and entry of an Etcher (R317, R324). -/
def etchLo (h : Hw) (n : Fin 8) : Nat := h.f (R.ETCH_R n 1) 9 0
def etchHi (h : Hw) (n : Fin 8) : Nat := h.f (R.ETCH_R n 2) 9 0
def etchEntry (h : Hw) (n : Fin 8) : Nat := h.f (R.ETCH_R n 0) 9 0
def inRegion (h : Hw) (n : Fin 8) (a : Nat) : Bool := h.etchLo n ≤ a && a ≤ h.etchHi n

/-- An Etcher is not IDLE. -/
def etchBusy (h : Hw) (n : Fin 8) : Bool := (h.etcher n).st != .idle

/-- The Etcher becomes IDLE (R299): its timers stop counting; the entry into IDLE sets HALTn. -/
def etchIdle (h : Hw) (n : Fin 8) : Hw :=
  let e := (h.etcher n).paid
  let h1 := h.setEtcher n { e with
    st := .idle, stopping := false, pend := none, access := none, it := e.it.map fun t => { t with counting := false } }
  if e.st = .idle then h1 else h1.etchFlag n.val

/-- A stop (R299): an Etcher in STALL is stopping until its access completes. -/
def etchStop (h : Hw) (n : Fin 8) : Hw :=
  let e := h.etcher n
  match e.st with
  | .idle => h
  | .stall => h.setEtcher n { e with stopping := true, pend := none }
  | _ => h.etchIdle n

/-- A start is rejected (R298). -/
def startRejected (h : Hw) (n : Fin 8) (a : Nat) : Bool :=
  h.pwr.draft || !h.enabled 0x16 || h.isStopping 0x16 || h.etchHi n < h.etchLo n || !h.inRegion n a

/-- The effect of a start (R297). -/
def etchBegin (h : Hw) (n : Fin 8) (a : Nat) : Hw :=
  h.setEtcher n { h.etcher n with
    pc := BitVec.ofNat 10 a, st := .run, stopping := false, pend := none, access := none
    it := (h.etcher n).it.map fun t => { t with val := 0, expired := true, counting := false, presc := 0 }
    bind := Vector.replicate 4 none, seen := h.fabric, seenSample := h.newSample }

/-- A start (R297, R298): rejected, latched, or applied. -/
def etchStart (h : Hw) (n : Fin 8) (a : Nat) : Hw :=
  if !h.live .sense then h
  else if h.startRejected n a then h.setBits R.ETCH_STAT 0x0800
  else if (h.etcher n).st = .stall then h.setEtcher n { h.etcher n with pend := some (BitVec.ofNat 10 a) }
  else h.etchBegin n a

/-- Several starts and stops of one page write (R301): a START and a STOP of one Etcher act as STOP. -/
def etchControl (h : Hw) (start stop : BitVec 8) : Hw :=
  (List.finRange 8).foldl (fun g (n : Fin 8) =>
    if stop.getLsbD n.val then g.etchStop n
    else if start.getLsbD n.val then g.etchStart n (g.etchEntry n)
    else g) h

/-- A write to `ETCH.CMDn`. -/
def etchCmd (h : Hw) (n : Fin 8) (v : Word) : Hw :=
  h.etchControl (if v.getLsbD 0 then 1#8 <<< n.val else 0) (if v.getLsbD 1 then 1#8 <<< n.val else 0)

/-- AUTORUN (R300). -/
def autorun (h : Hw) : Hw :=
  (List.finRange 8).foldl (fun g (n : Fin 8) =>
    if g.b (R.ETCH_R n 0) 15 then g.etchStart n (g.etchEntry n) else g) h

/-- Every Etcher stops: CTRL.EN written 0, or the first step of the SENSE off-sequence. -/
def etchStopAll (h : Hw) : Hw := (List.finRange 8).foldl (fun g (n : Fin 8) => g.etchStop n) h

/-- An error is recorded (R323). -/
def etchError (h : Hw) (n : Fin 8) (code pc : Nat) : Hw :=
  (h.setReg (R.ETCH_R n 5) (wd (code * 4096 + pc % 1024))).etchFlag (8 + n.val)

/-- The next instruction is at `a`. An address outside the region is an error when it is fetched (R317), in the next cycle:
control from outside that acts after the instruction comes before it (R301). -/
def etchGo (h : Hw) (n : Fin 8) (a : Nat) : Hw :=
  h.setEtcher n { h.etcher n with pc := BitVec.ofNat 10 a, st := .run }

/-- The PC as a number. -/
def etchPc (h : Hw) (n : Fin 8) : Nat := (h.etcher n).pc.toNat

/-- Execution continues at PC + 1. -/
def etchNext (h : Hw) (n : Fin 8) : Hw := h.etchGo n (h.etchPc n + 1)

/-- An error of code 1 or 4 (R323): continue at PC + 1, or halt with ERRHALT. -/
def etchSoftError (h : Hw) (n : Fin 8) (code : Nat) : Hw :=
  let h1 := h.etchError n code (h.etchPc n)
  if h.b (R.ETCH_R n 0) 14 then h1.etchIdle n else h1.etchNext n

/-- The program word at an address. -/
def progWord (h : Hw) (a : Nat) : BitVec 32 := Cells.get (fun _ => 0) h.prog a

/-- The Etcher executes in the present E-cycle: SENSE is powered, and it is in RUN or WAIT. -/
def etchRuns (h : Hw) (n : Fin 8) : Bool :=
  h.up .sense && ((h.etcher n).st == .run || (h.etcher n).st == .wait)

/-- The instruction it executes; none when the fetch leaves the region or the word is illegal. -/
def etchFetch (h : Hw) (n : Fin 8) : Option EtchOp :=
  if h.etchRuns n && h.inRegion n (h.etchPc n) then decodeEtch (h.progWord (h.etchPc n)) else none

/-- The pulses and samples of the present cycle have been present in an executed instruction of this Etcher. -/
def etchSaw (h : Hw) (n : Fin 8) : Hw :=
  h.setEtcher n { h.etcher n with seen := h.fabric, seenSample := h.newSample }

/-- The fetch of the present cycle leaves the region (R317). -/
def fetchFails (h : Hw) (n : Fin 8) : Bool := h.etchRuns n && !h.inRegion n (h.etchPc n)

/-- The cycle of an instruction ends: the bound pulses of the cycle are added to what the instruction left (R310). -/
def etchPaid (h : Hw) (n : Fin 8) : Hw := h.setEtcher n (h.etcher n).paid

/-! ### Instructions -/

/-- HALT (R312). -/
def doHalt (h : Hw) (n : Fin 8) (clr : Bool) : Hw :=
  let h1 := if clr then h.setEtcher n { h.etcher n with level := false } else h
  (h1.etchSaw n).etchIdle n

/-- One executing cycle of a WAIT (R305, R306). -/
def doWait (h : Hw) (n : Fin 8) (c : WaitCond) (timeout : Option Bool) : Hw :=
  let h1 := h.etchSaw n
  if h.waitHolds n c then h1.etchNext n
  else
    match timeout with
    | some sel =>
      if (h.itOf n sel).expired then h1.etchGo n (h1.etchPc n + 2)
      else h1.setEtcher n { h1.etcher n with st := .wait }
    | none => h1.setEtcher n { h1.etcher n with st := .wait }

/-- ACT SIG (R307). -/
def doSig (h : Hw) (n : Fin 8) (op : SigOp) : Hw :=
  let lvl := (h.etcher n).level
  let set := fun (l : Bool) (g : Hw) => g.setEtcher n { g.etcher n with level := l }
  let h1 := h.etchSaw n
  let h2 := match op with
    | .nop => h1
    | .pulse => h1.event (52 + n.val)
    | .set => (set true h1).event (52 + n.val)
    | .clr => set false h1
    | .tgl => if lvl then set false h1 else (set true h1).event (52 + n.val)
  h2.etchNext n

/-- An access to the ETCH or EPROG page (R315). -/
def etchForbidden (a : Nat) : Bool := a / 256 = 0x16 || a / 256 = 0x17

/-- The Etcher stalls on an access (R315, R316). -/
def etchStall (h : Hw) (n : Fin 8) (a : Access) : Hw :=
  h.setEtcher n { h.etcher n with st := .stall, access := some a }

/-- ACT REG (R315). -/
def doActReg (h : Hw) (n : Fin 8) (cn : Fin 4) (a : Nat) : Hw :=
  let h1 := h.etchSaw n
  if etchForbidden a then h1.etchSoftError n 4 else h1.etchStall n (.write a (h.ctr n cn))

/-- LDR (R315). -/
def doLdr (h : Hw) (n : Fin 8) (cn : Fin 4) (a : Nat) : Hw :=
  let h1 := h.etchSaw n
  if etchForbidden a then h1.etchSoftError n 4 else h1.etchStall n (.read a cn)

/-- ACT MBX (R316): the header carries sender ID 0x08 + n and the length. -/
def doActMbx (h : Hw) (n : Fin 8) (mb len : Nat) : Hw :=
  (h.etchSaw n).etchStall n (.post mb (wd ((8 + n.val) * 256 + len * 16)) ((List.finRange 4).map (h.ctr n) |>.take len))

/-- A KICK of Etcher `n` loses its target in this E-cycle (R301): control from the page reaches the target too, or the KICK of
an Etcher with a lower number. -/
def kickLost (n : Fin 8) (page : Bool) (kicks : BitVec 8) : Bool :=
  page || (List.range n.val).any kicks.getLsbD

/-- ACT KICK (R307, R301): `page` says that control from the page reaches the target in the same E-cycle, and `kicks` which
Etchers kick it then. A KICK that loses sets the target's KDROP bit. -/
def doKick (h : Hw) (n : Fin 8) (a : BitVec 10) (stop : Bool) (t : Fin 8) (page : Bool) (kicks : BitVec 8) : Hw :=
  let h1 := (h.etchSaw n).etchNext n
  if kickLost n page kicks then h1.setBits R.ETCH_KDROP (2 ^ t.val)
  else if stop then h1.etchStop t
  else h1.etchStart t a.toNat

/-- BRANCH (R308). -/
def doBranch (h : Hw) (n : Fin 8) (c : BrCond) (t : BitVec 10) : Hw :=
  let h1 := h.etchSaw n
  if h.branchHolds n c then h1.etchGo n t.toNat else h1.etchNext n

/-- COUNT (R309). -/
def doCount (h : Hw) (n : Fin 8) (op : CntOp) (cn : Fin 4) : Hw :=
  let v := h.ctr n cn
  let h1 := h.etchSaw n
  let h2 := match op with
    | .inc => h1.setCtr n cn (v + 1)
    | .dec => h1.setCtr n cn (if v = 0 then 0 else v - 1)
    | .add imm => h1.setCtr n cn (v + imm)
    | .bind ev =>
      h1.setEtcher n { h1.etcher n with bind := (h1.etcher n).bind.set cn (if ev = 63 then none else some ev) }
  h2.etchNext n

/-- LDI (R311). -/
def doLdi (h : Hw) (n : Fin 8) (cn : Fin 4) (imm : Word) : Hw := ((h.etchSaw n).setCtr n cn imm).etchNext n

/-- LDT0 and LDT1 (R313). -/
def doLdt (h : Hw) (n : Fin 8) (sel : Bool) (unit val : Nat) : Hw :=
  ((h.etchSaw n).setIt n sel
    { val := val, unit := unit, expired := val = 0, counting := val != 0, presc := 0 }).etchNext n

/-- LDS (R311). -/
def doLds (h : Hw) (n : Fin 8) (ch : Nat) (cn : Fin 4) : Hw :=
  ((h.etchSaw n).setCtr n cn (wdI (h.chValue ch / 256))).etchNext n

/-- An illegal instruction (R323, code 2) or a fetch outside the region (code 3) halts. -/
def doIllegal (h : Hw) (n : Fin 8) : Hw :=
  let h1 := h.etchSaw n
  if h.inRegion n (h.etchPc n) then (h1.etchError n 2 (h.etchPc n)).etchIdle n
  else (h1.etchError n 3 (h.etchPc n)).etchIdle n

/-! ### Interval timers and bound counters -/

/-- Units of a timer that `k` E-cycles complete, with the cycles left over (R313). -/
def unitCycles (u : Nat) : Nat := if u = 0 then 1 else if u = 1 then 48 else 48000

/-- A timer after `k` E-cycles; unit 3 counts samples. -/
def itRun (t : IntTimer) (k : Nat) : IntTimer :=
  if !t.counting || t.unit = 3 then t
  else
    let c := t.presc + k
    let n := c / unitCycles t.unit
    if t.val ≤ n then { t with val := 0, expired := true, counting := false, presc := 0 }
    else { t with val := t.val - n, presc := c % unitCycles t.unit }

/-- A timer at a new accelerometer sample (unit 3). -/
def itSample (t : IntTimer) : IntTimer :=
  if t.counting && t.unit = 3 then
    if t.val ≤ 1 then { t with val := 0, expired := true, counting := false } else { t with val := t.val - 1 }
  else t

/-- Every interval timer, by a function. -/
def mapTimers (h : Hw) (f : IntTimer → IntTimer) : Hw :=
  { h with etch := h.etch.map fun e => { e with it := e.it.map f } }

/-- A timer that counts E-cycles reaches 0 (R313); one in unit 3 reaches it only by accelerometer samples (`itSample`). -/
def itExpire (h : Hw) (n : Fin 8) (sel : Bool) : Hw :=
  let t := h.itOf n sel
  if h.live .sense && t.counting && t.unit ≠ 3 then h.setIt n sel { t with val := 0, expired := true, counting := false, presc := 0 }
  else h

/-- Bound counters count the pulses of a cycle (R310): after the instruction of the cycle in RUN, and at once in another
state, in which no instruction writes a counter. -/
def countBound (h : Hw) (pulses : BitVec 64) : Hw :=
  { h with etch := h.etch.map fun e =>
      let p := { e.paid with owed := e.hits pulses }
      if e.st = .run then p else p.paid }

/-- A page write of a counter (R310): a bound pulse of the same cycle is lost. -/
def pageCtr (h : Hw) (n : Fin 8) (c : Fin 4) (v : Word) : Hw :=
  let e := h.etcher n
  h.setEtcher n { e with c := e.c.set c v, owed := e.owed &&& ~~~(1#4 <<< c.val) }

/-- The present cycles end: what is owed is added. -/
def payAll (h : Hw) : Hw := { h with etch := h.etch.map Etcher.paid }

/-! ### The EPROG window (R319 to R321) -/

/-- A party's window; the Etchers have none. -/
def eprogSlot : Party → Option (Fin 3)
  | .spi => some 0
  | .twi0 => some 1
  | .core => some 2
  | .remote => some 2
  | .etch _ => none

/-- A window as it is cleared. -/
def EprogWin.init : EprogWin := { addr := 0, half := .empty, hold := 0, latched := 0 }

/-- A write to `EPROG.ADDR`. -/
def eprogAddr (h : Hw) (p : Party) (v : Word) : Hw :=
  match eprogSlot p with
  | none => h
  | some i => { h with eprog := h.eprog.set i { h.eprog[i] with addr := v.setWidth 10, half := .empty } }

/-- An address lies in the region of an Etcher that is not IDLE (R320). -/
def progHeld (h : Hw) (a : Nat) : Bool := (List.finRange 8).any fun (n : Fin 8) => h.etchBusy n && h.inRegion n a

/-- A whole program word is written, or rejected with WREJ (R320). -/
def progWrite (h : Hw) (a : BitVec 10) (w : BitVec 32) : Hw :=
  if h.progHeld a.toNat then (h.setReg R.EPROG_WREJADDR (a.setWidth 16)).raise 0x17 0
  else { h with prog := Cells.put (fun _ => 0) h.prog a.toNat w }

/-- A write to `EPROG.STREAM` (R319). -/
def streamWrite (h : Hw) (p : Party) (v : Word) : Hw :=
  match eprogSlot p with
  | none => h
  | some i =>
    let w := h.eprog[i]
    if w.half = .highWritten then
      let h1 := h.progWrite w.addr (w.hold ++ v)
      { h1 with eprog := h1.eprog.set i { w with addr := w.addr + 1, half := .empty } }
    else { h with eprog := h.eprog.set i { w with hold := v, half := .highWritten } }

/-- A read of `EPROG.STREAM` (R319): the word returned, and the window after it. -/
def streamRead (h : Hw) (p : Party) : Word × Hw :=
  match eprogSlot p with
  | none => (0, h)
  | some i =>
    let w := h.eprog[i]
    if w.half = .highRead then
      (w.latched.setWidth 16, { h with eprog := h.eprog.set i { w with addr := w.addr + 1, half := .empty } })
    else
      let l := h.progWord w.addr.toNat
      ((l >>> 16).setWidth 16, { h with eprog := h.eprog.set i { w with latched := l, half := .highRead } })

/-! ### Live registers -/

/-- `ETCH.STATEn` (R324). -/
def etchStateWord (h : Hw) (n : Fin 8) : Nat :=
  let e := h.etcher n
  e.st.code * 16384 + (if e.level then 8192 else 0) + (if e.pend.isSome then 4096 else 0)
    + (if e.stopping then 2048 else 0) + e.pc.toNat

/-- `ETCH.STAT.BUSY`. -/
def etchBusyBits (h : Hw) : Nat := (List.finRange 8).foldl (fun m n => if h.etchBusy n then m + 2 ^ n.val else m) 0

/-- `ETCH.TMRn_xL` and `TMRn_xH`. -/
def itWords (h : Hw) (n : Fin 8) (sel : Bool) : List Word :=
  let t := h.itOf n sel
  [wd t.val, wd ((if t.expired then 32768 else 0) + t.unit % 4 * 4096 + t.val / 65536 % 256)]

end Hw
end Sys2Proof.Machine
end

