-- ==== Sys2Proof/Machine/Buffer.lean ====
section
/-!
DEFINITION. The sample buffer, its writer, snapshot, watermarks and read ports (R327 to R352), the stream port (R353 to
R357), and the CRC of R134.
-/

namespace Sys2Proof.Machine

/-! ### CRC-16/CCITT-FALSE (R134): polynomial 0x1021, initial value 0xFFFF, MSB first -/

/-- `k` bit steps of the CRC register. -/
def crcBits : Nat → Word → Word
  | 0, c => c
  | k + 1, c => crcBits k (if c.getLsbD 15 then (c <<< 1) ^^^ 0x1021 else c <<< 1)

/-- The CRC of a list of words. -/
def crc16 (ws : List Word) : Word := ws.foldl (fun c w => crcBits 16 (c ^^^ w)) 0xFFFF

/-! ### Records -/

/-- Words the buffer holds (R327). -/
abbrev bufCap : Nat := 524288

/-- A tag word (R328): type, words in the record, quality, DRAFT, WARM, BLEND, SEQ. -/
def tagWord (typ len qual : Nat) (draft warm blend : Bool) (seq : Nat) : Word :=
  wd (typ * 4096 + (len - 1) % 16 * 256 + qual % 4 * 64 + (if draft then 32 else 0) + (if warm then 16 else 0)
    + (if blend then 8 else 0) + seq % 8)

/-- The bytes of packed 24-bit values, two words of 16 bits at a time (R331). -/
def packBytes : List Nat → List Word
  | a :: b :: t => wd (a * 256 + b) :: packBytes t
  | [a] => [wd (a * 256)]
  | [] => []

/-- Packed values (R331). -/
def packValues (vs : List Int) : List Word :=
  packBytes (vs.flatMap fun v =>
    let n := (BitVec.ofInt 24 v).toNat
    [n / 65536, n / 256 % 256, n % 256])

/-- The gap record of a read port (R329, R344): SEQ 0, quality 3. -/
def portGap (draft : Bool) (cause lost : Nat) : List Word :=
  [tagWord 5 3 3 draft false false 0, wd cause, wd (min 0xFFFF lost)]

/-- A record before its SEQ is known: type, quality, WARM, BLEND, and the words after the tag. -/
structure Draft where
  typ : Nat
  qual : Nat
  warm : Bool
  blend : Bool
  body : List Word
  deriving DecidableEq, Repr

/-- Snapshot state codes (R345). -/
def Snap.code : Snap → Nat
  | .none => 0
  | .arming => 1
  | .armed => 2
  | .triggered => 3
  | .complete => 4

/-- A read port at a record boundary. -/
def RdPort.at (p : Nat) : RdPort := { ptr := p, left := 0, inject := [] }

/-- An empty buffer. -/
def Buf.init : Buf :=
  { recs := [], wp := 0, portA := RdPort.at 0, portB := RdPort.at 0, seq := 0
    gaps := [], anchorDue := true, dropped := 0, ref := none, lastT := none, since := 0, marks := [], snap := .none
    fresh := false, short := false, retained := false, holding := false, post := 0, trigPos := none }

/-- The stream port at rest. -/
def Strm.init : Strm :=
  { active := false, fcnt := 0, frame := [], lanes := [], dg := [], dgFirst := none, dseq := 0 }

namespace Hw

/-- IFLAG bits of the BUF and STRM pages. -/
def bufFlag (h : Hw) (bit : Nat) : Hw := h.raise 0x12 bit
def strmFlag (h : Hw) (bit : Nat) : Hw := h.raise 0x13 bit

def bufMode (h : Hw) : Nat := h.f R.BUF_CFG 1 0
def sink (h : Hw) : Nat := h.f R.BUF_BCFG 1 0

/-- The ports read the data: outside snapshot mode, or from COMPLETE on (R347). -/
def portsOpen (h : Hw) : Bool := h.buf.snap = .none || h.buf.snap = .complete

/-- The level of a port (R348), 0 to 524,288 (R361). -/
def portLevel (h : Hw) (p : RdPort) : Nat :=
  if h.portsOpen then min bufCap (p.inject.length + (h.buf.wp - p.ptr)) else 0

/-- The writer runs: enabled, not stopping, the snapshot is not complete (R341, R347), and retention has not begun (R65,
R352). -/
def bufWrites (h : Hw) : Bool :=
  h.live .sense && h.enabled 0x12 && !h.isStopping 0x12 && h.buf.snap != .complete && !h.buf.holding

/-- Words free in FIFO mode (R343). -/
def fifoFree (h : Hw) : Nat :=
  let low := if h.sink = 0 then h.buf.portA.ptr else min h.buf.portA.ptr h.buf.portB.ptr
  bufCap - (h.buf.wp - low)

/-- A port after words before `wp - bufCap` were overwritten (R344): one with such a word unread moves to the oldest whole
record still held. The number counts the words it skips. -/
def overrun (h : Hw) (p : RdPort) : Nat × RdPort :=
  let low := h.buf.wp - bufCap
  if p.ptr < low then
    let s := ((h.buf.recs.find? fun r => low ≤ r.pos).map (·.pos)).getD h.buf.wp
    let skip := s - p.ptr
    let old := if p.inject.length = 3 then (p.inject.getD 2 0).toNat else 0
    let kept := if p.inject.length = 3 then [] else p.inject
    (skip, { ptr := s, left := 0, inject := kept ++ portGap h.pwr.draft 5 (old + skip) })
  else (0, p)

/-- In ring mode both ports leave the overwritten words (R344). -/
def overrunPorts (h : Hw) : Hw :=
  let (a, pa) := h.overrun h.buf.portA
  let (b, pb) := h.overrun h.buf.portB
  let h1 := { h with buf := { h.buf with portA := pa, portB := pb } }
  let h2 := if a = 0 then h1 else (h1.countBy R.BUF_AOVR a).bufFlag 4
  if b = 0 then h2 else (h2.countBy R.BUF_BOVR b).bufFlag 5

/-- INDEX of a grid instant (R333). -/
def recIndex (h : Hw) (t : Nat) : Nat := (((t : Int) - h.gridPhase) / 31250 % 4096).toNat

/-- The reference of the markers after a record of type `typ`: none after a gap, the sample's after a sample record (R335). -/
def refAfter (h : Hw) (typ : Nat) : Option Nat :=
  if typ = 5 then none else if typ = 1 || typ = 2 then h.buf.lastT.map h.recIndex else h.buf.ref

/-- A record enters the buffer (R329, R339); a gap record makes an anchor due (R334). -/
def putRecord (h : Hw) (d : Draft) : Hw :=
  let words := tagWord d.typ (d.body.length + 1) d.qual h.pwr.draft d.warm d.blend h.buf.seq :: d.body
  let wp := h.buf.wp + words.length
  let recs := h.buf.recs ++ [{ pos := h.buf.wp, words := words }]
  let low := if h.bufMode = 0 then
      (if h.sink = 0 then h.buf.portA.ptr else min h.buf.portA.ptr h.buf.portB.ptr)
    else wp - bufCap
  let kept := recs.filter fun r => low < r.pos + r.words.length
  let h1 := { h with buf := { h.buf with
    recs := kept, wp := wp, seq := (h.buf.seq + 1) % 8, ref := h.refAfter d.typ
    anchorDue := if d.typ = 5 then true else if d.typ = 3 then false else h.buf.anchorDue
    post := if h.buf.trigPos.isSome then h.buf.post + words.length else h.buf.post } }
  if h.bufMode = 1 then h1.overrunPorts else h1

/-- The snapshot is COMPLETE: it begins at the oldest whole record within PRE × 64 words before the trigger marker, and both
ports stand there (R347). -/
def snapClose (h : Hw) : Hw :=
  let b := h.buf
  let low := b.trigPos.getD b.wp - h.f R.BUF_PRE 12 0 * 64
  let kept := b.recs.filter fun r => low ≤ r.pos
  let s := (kept.head?.map (·.pos)).getD b.wp
  { h with buf := { b with snap := .complete, recs := kept, portA := RdPort.at s, portB := RdPort.at s } }

/-- The snapshot moves on after a record (R345, R347): ARMED after PRE × 64 words, COMPLETE after POST × 64 words behind the
trigger marker. -/
def snapStep (h : Hw) : Hw :=
  let b := h.buf
  if b.snap = .arming && h.f R.BUF_PRE 12 0 * 64 ≤ b.wp then { h with buf := { b with snap := .armed, fresh := true } }
  else if b.snap = .triggered && b.trigPos.isSome && h.f R.BUF_POST 12 0 * 64 ≤ b.post then
    (h.snapClose.bufFlag 2).event 51
  else h

/-- A record is dropped in FIFO mode (R343). -/
def dropRecord (h : Hw) : Hw :=
  let h1 := { h with buf := { h.buf with dropped := h.buf.dropped + 1 } }
  (h1.count R.BUF_DROPCNT).bufFlag 3

/-- The writer writes a record if the mode has room for it (R342, R343, R347). -/
def writeRecord (h : Hw) (d : Draft) : Hw :=
  if !h.bufWrites then h
  else if h.bufMode = 0 && (h.buf.dropped != 0 || h.fifoFree < d.body.length + 13) then h.dropRecord
  else (h.putRecord d).snapStep

/-- The watermarks after records were written, from the levels before (R348). -/
def watermarks (h : Hw) (a b : Nat) : Hw :=
  let hit := fun (wm old new : Nat) => wm != 0 && old < wm * 64 && wm * 64 ≤ new
  let ha := hit (h.f R.BUF_AWM 13 0) a (h.portLevel h.buf.portA)
  let hb := hit (h.f R.BUF_BWM 13 0) b (h.portLevel h.buf.portB)
  let h1 := (h.raiseIf ha 0x12 0).raiseIf hb 0x12 1
  if ha || hb then h1.event 50 else h1

/-- A batch of records of one E edge, with its watermarks. -/
def writeRecords (h : Hw) (ds : List Draft) : Hw :=
  (ds.foldl writeRecord h).watermarks (h.portLevel h.buf.portA) (h.portLevel h.buf.portB)

/-! ### The records of one sample (R330 to R339) -/

/-- The quality anchors and markers carry (R329). -/
def writerQual (h : Hw) : Nat := if h.dec.glock then almQuality (h.almOf h.sampAlm) else 3

/-- A gap record (R337). -/
def gapDraft (cause lost : Nat) : Draft :=
  { typ := 5, qual := 3, warm := false, blend := false, body := [wd cause, wd (min 0xFFFF lost)] }

/-- The anchor of a grid instant (R334). -/
def anchorDraft (h : Hw) (t : Nat) : Draft :=
  let ns := t % 1000000000
  let s := t / 1000000000
  { typ := 3, qual := h.writerQual, warm := false, blend := false
    body := [wd (h.sampAlm * 16384 + (if h.dec.glock then 8192 else 0) + h.recIndex t), h.reg R.DEC_ODR, h.reg R.DEC_GERR,
      wd ns, wd (ns / 65536), wd s, wd (s / 65536), wd (s / 4294967296)] }

/-- The inertial record of a sample (R330), if it has one. -/
def inertialDraft (h : Hw) (s : Sample) : List Draft :=
  let a := s.groups.getLsbD 0
  let g := s.groups.getLsbD 1
  if h.b R.BUF_SEL 0 && (a || g) then
    let vs := (if a then [s.vals[0], s.vals[1], s.vals[2]] else []) ++ (if g then [s.vals[3], s.vals[4], s.vals[5]] else [])
    [{ typ := 1, qual := s.qual
       warm := (a && s.warm.getLsbD 0) || (g && s.warm.getLsbD 1), blend := s.blend
       body := wd ((if a then 32768 else 0) + (if g then 16384 else 0) + (if s.range then 8192 else 0) + h.recIndex s.t)
         :: packValues vs }]
  else []

/-- The XB record of a sample (R332), if it has one. -/
def xbDraft (h : Hw) (s : Sample) : List Draft :=
  let a := s.groups.getLsbD 2
  let b := s.groups.getLsbD 3
  if h.b R.BUF_SEL 1 && (a || b) then
    let vs := (if a then [s.vals[6]] else []) ++ (if b then [s.vals[7]] else [])
    [{ typ := 2, qual := s.qual
       warm := (a && s.warm.getLsbD 2) || (b && s.warm.getLsbD 3), blend := s.blend
       body := wd ((if a then 32768 else 0) + (if b then 16384 else 0) + h.recIndex s.t) :: packValues vs }]
  else []

/-- The instant is an anchor instant (R334). -/
def anchorInstant (h : Hw) (t : Nat) : Bool :=
  h.onGrid t 0 && (((t : Int) - h.gridPhase) / 8000000) % (2 ^ h.f R.BUF_CFG 5 4 : Nat) = 0

/-- A gap that is due joins one of the same cause that is due already: LOST counts both, with saturation (R337). -/
def gapAdd : List (Nat × Nat) → Nat × Nat → List (Nat × Nat)
  | [], g => [g]
  | (c, l) :: t, g => if c = g.1 then (c, min 0xFFFF (l + g.2)) :: t else (c, l) :: gapAdd t g

/-- A sample became valid in E: it is the reference of later markers, and its gap mark makes a gap record due. A mark of a
sample that gets no record waits for the next one (log entry 16). -/
def bufValid (h : Hw) (s : Sample) : Hw :=
  { h with buf := { h.buf with
      lastT := some s.t, since := 0, ref := h.buf.ref.map fun _ => h.recIndex s.t
      gaps := if h.bufWrites then s.gap.elim h.buf.gaps (gapAdd h.buf.gaps) else h.buf.gaps } }

/-- Words of a record with its tag. -/
def Draft.size (d : Draft) : Nat := d.body.length + 1

/-- FIFO recovery (R343): the writer has dropped records, and at least 24 words more than the next record are free. -/
def recovers (h : Hw) (size : Nat) : Bool := h.bufMode = 0 && h.buf.dropped != 0 && 24 + size ≤ h.fifoFree

/-- The writer forms the records of a sample in the order of R339: gap, anchor, inertial, XB. -/
def bufSample (h : Hw) (s : Sample) : Hw :=
  let h0 := h.bufValid s
  let smp := h0.inertialDraft s ++ h0.xbDraft s
  if !h0.bufWrites || smp.isEmpty then h0
  else
    let recover := h0.recovers ((smp.head?.map Draft.size).getD 0)
    let gaps := (if recover then [gapDraft 4 h0.buf.dropped] else []) ++ h0.buf.gaps.map fun g => gapDraft g.1 g.2
    let anchor := !gaps.isEmpty || h0.buf.anchorDue || h0.anchorInstant s.t
    let h1 := { h0 with buf := { h0.buf with gaps := [], dropped := if recover then 0 else h0.buf.dropped } }
    h1.writeRecords (gaps ++ (if anchor then [h0.anchorDraft s.t] else []) ++ smp)

/-! ### Markers and the snapshot trigger (R335, R336, R346) -/

/-- A marker record (R335). -/
def markerDraft (h : Hw) (m : Mark) : Draft :=
  { typ := 4, qual := h.writerQual, warm := false, blend := false
    body := [wd ((if m.trig then 32768 else 0) + m.ev), wd m.index, wd m.delta] }

/-- DELTA of an event of this E-cycle (R335): counted in E-cycles within the command that made the reference sample valid;
later, the E edges of the V-cycles between, give or take the free places of the two commands in their V-cycles (log entry 3).
Without a reference sample the value is free. -/
def markDelta (h : Hw) : Nat :=
  if h.buf.ref.isNone then h.open' 25 % 65536
  else if h.sampleT.isSome then min 0xFFFF h.buf.since
  else min 0xFFFF (h.buf.since + h.open' 25 % 11 - 5)

/-- A marker for an event of this E-cycle. -/
def markOf (h : Hw) (trig : Bool) (ev : Nat) : Mark :=
  { trig := trig, ev := ev, index := h.buf.ref.getD 0xFFF, delta := h.markDelta }

/-- A marker enters the queue, or is dropped and counted when 16 wait there (R336). -/
def markIn (h : Hw) (m : Mark) : Hw :=
  if h.buf.marks.length < 16 then { h with buf := { h.buf with marks := h.buf.marks ++ [m] } }
  else (h.count R.BUF_MKLOST).bufFlag 6

/-- The snapshot waits for a trigger. -/
def snapWaits (h : Hw) : Bool := h.buf.snap = .arming || h.buf.snap = .armed

/-- A trigger (R346): TRIGGERED, with SHORT when ARMING had not ended before this E-cycle, and the marker with TRIG. A marker
that the full queue drops leaves the trigger in force at the present end of the data (log entry 106). -/
def snapTrigger (h : Hw) (ev : Nat) : Hw :=
  if !h.snapWaits || !h.bufWrites then h
  else
    let lost := 16 ≤ h.buf.marks.length
    let h1 := { h with buf := { h.buf with
      short := h.buf.short || h.buf.snap == Snap.arming || h.buf.fresh, snap := .triggered, post := 0
      trigPos := if lost then some h.buf.wp else none } }
    let h2 := h1.markIn (h.markOf true ev)
    if lost then h2.snapStep else h2

/-- `BUF.MARK` and the trigger event (R335, R346). -/
def bufMarks (h : Hw) : BitVec 64 :=
  BitVec.ofNat 64 ((h.reg R.BUF_MARK0).toNat + 65536 * (h.reg R.BUF_MARK1).toNat
    + 4294967296 * (h.reg R.BUF_MARK2).toNat + 281474976710656 * (h.f R.BUF_MARK3 14 0))

/-- The records that come before a marker: a gap record due since SENSE came up (R337, cause 1), and after a FIFO recovery a
gap record and an anchor of the latest valid sample (R343). -/
def markLead (h : Hw) (recover : Bool) : List Draft :=
  (if recover then [gapDraft 4 h.buf.dropped] else []) ++
    ((h.buf.gaps.filter (·.1 == 1)).map fun g => gapDraft g.1 g.2) ++
    (if recover then h.buf.lastT.toList.map h.anchorDraft else [])

/-- The writer writes the oldest marker of the queue (R336); the words after a trigger marker count toward POST (R347). -/
def markOut (h : Hw) : Hw :=
  match h.buf.marks with
  | [] => h
  | m :: t =>
    let recover := h.recovers 4
    let lead := h.markLead recover
    let h1 := { h with buf := { h.buf with
      marks := t, gaps := h.buf.gaps.filter (·.1 != 1), dropped := if recover then 0 else h.buf.dropped } }
    let h2 := lead.foldl writeRecord h1
    let h3 := h2.writeRecord (h2.markerDraft m)
    let h4 := { h3 with buf := { h3.buf with anchorDue := h3.buf.anchorDue || !lead.isEmpty } }
    let h5 := if m.trig && h2.bufWrites then
        { h4 with buf := { h4.buf with trigPos := some h2.buf.wp, post := 0 } }.snapStep
      else h4
    h5.watermarks (h.portLevel h.buf.portA) (h.portLevel h.buf.portB)

/-- Every marker of the queue is written. -/
def marksOut : Nat → Hw → Hw
  | 0, h => h
  | k + 1, h => marksOut k h.markOut

/-- The pulses of an E-cycle give a trigger and markers, in ascending order, and the writer writes one marker (R336, R339). -/
def bufEvents (h : Hw) (pulses : BitVec 64) : Hw :=
  let h0 := if h.sampleT.isSome then { h with buf := { h.buf with since := h.buf.since + 1 } } else h
  if !h0.bufWrites then h0
  else
    let ev := h0.f R.BUF_TRIG 5 0
    let trig := h0.b R.BUF_TRIG 15 && pulses.getLsbD ev && h0.snapWaits
    let marked := fun (e : Nat) => h0.b R.BUF_SEL 2 && h0.bufMarks.getLsbD e
    let h1 := ((List.range 63).filter pulses.getLsbD).foldl (fun g e =>
      if trig && e == ev then g.snapTrigger e else if marked e then g.markIn (g.markOf false e) else g) h0
    let h2 := h1.markOut
    { h2 with buf := { h2.buf with fresh := false } }

/-! ### Enable, arm, flush (R341, R345, R349, R351) -/

/-- Snapshot mode starts in ARMING, or in ARMED with PRE = 0. -/
def armSnap (h : Hw) : Hw :=
  { h with buf := { h.buf with snap := if h.f R.BUF_PRE 12 0 = 0 then .armed else .arming } }

/-- The buffer and both ports are emptied, and every snapshot result is cleared (R341). -/
def bufEmpty (h : Hw) : Hw :=
  { h with buf := { Buf.init with seq := h.buf.seq, lastT := h.buf.lastT, since := h.buf.since } }

/-- The writer starts in the configured mode (R341). -/
def bufBegin (h : Hw) : Hw :=
  let h1 := h.bufEmpty
  if h.bufMode = 2 then h1.armSnap else h1

/-- ARM (R345): acts in snapshot mode while EN = 1. It empties the buffer and the ports; the reference of the markers, a gap
and an anchor that are due stay, since an arm is no enable (R334, R335). -/
def bufArm (h : Hw) : Hw :=
  if h.enabled 0x12 && h.bufMode = 2 then
    armSnap { h with buf := { h.buf with
      recs := [], wp := 0, portA := RdPort.at 0, portB := RdPort.at 0, dropped := 0, fresh := false, short := false
      retained := false, post := 0, trigPos := none } }
  else h

/-- A port at the end of the data. -/
def portEnd (h : Hw) : RdPort := RdPort.at h.buf.wp
def flushA (h : Hw) : Hw := { h with buf := { h.buf with portA := h.portEnd } }
def flushB (h : Hw) : Hw := { h with buf := { h.buf with portB := h.portEnd } }

/-- A write to `BUF.ACFG` (R349). -/
def acfgWrite (h : Hw) (v : Word) : Hw :=
  if fld v 1 0 = 3 then h.bufFlag 7
  else
    let h1 := h.setReg R.BUF_ACFG (v &&& 0x0003)
    if v.getLsbD 15 then h1.flushA else h1

/-- A write to `BUF.BCFG` (R351): a change of SINK acts as a flush; DSEQ restarts when SINK becomes 1 (R359). -/
def bcfgWrite (h : Hw) (v : Word) : Hw :=
  if fld v 1 0 = 3 then h.bufFlag 7
  else
    let old := h.sink
    let h1 := h.setReg R.BUF_BCFG (v &&& 0x0003)
    let h2 := if v.getLsbD 15 || old != fld v 1 0 then h1.flushB else h1
    if old != fld v 1 0 then
      { h2 with strm := { h2.strm with
          dg := [], dgFirst := none, dseq := if fld v 1 0 = 1 then 0 else h2.strm.dseq } }
    else h2

/-- A write to CFG, SEL, PRE or POST (R340); `m` is the register's mask. -/
def bufCfgWrite (h : Hw) (a m : Nat) (v : Word) : Hw :=
  let pre := if a = R.BUF_PRE then fld v 12 0 else h.f R.BUF_PRE 12 0
  let post := if a = R.BUF_POST then fld v 12 0 else h.f R.BUF_POST 12 0
  if h.enabled 0x12 || h.isStopping 0x12 || 8192 < pre + post || (a = R.BUF_CFG && fld v 1 0 = 3) then h.bufFlag 7
  else h.setReg a (v &&& wd m)

/-! ### Reading the ports -/

/-- The record that holds an absolute position. -/
def recordAt (rs : List Rcd) (p : Nat) : Option Rcd := rs.find? fun r => r.pos ≤ p && p < r.pos + r.words.length

/-- The word at an absolute position. -/
def wordAt (rs : List Rcd) (p : Nat) : Option Word := (recordAt rs p).bind fun r => r.words[p - r.pos]?

/-- The next word of a port with the port after it is counted; none when the port has no word. -/
def portNext (h : Hw) (p : RdPort) : Option (Word × RdPort) :=
  match p.inject with
  | w :: t => some (w, { p with inject := t })
  | [] =>
    if h.portLevel p = 0 then none
    else
      (recordAt h.buf.recs p.ptr).bind fun r => r.words[p.ptr - r.pos]?.map fun w =>
        (w, { p with ptr := p.ptr + 1, left := r.pos + r.words.length - (p.ptr + 1) })

/-- The next word of a port opens a record. -/
def atBoundary (p : RdPort) : Bool :=
  match p.inject with
  | [] => p.left = 0
  | _ => p.inject.length = 3

/-- A read of `BUF.ADATA` (R349). -/
def adataRead (h : Hw) (p : Party) : Word × Hw :=
  if h.f R.BUF_ACFG 1 0 != relWho p then (0, h)
  else
    match h.portNext h.buf.portA with
    | none => (0xF000, h)
    | some (w, q) => (w, { h with buf := { h.buf with portA := q } })

/-- Up to `n` words of port B, with for each whether it opens a record. -/
def takeB : Nat → Hw → List (Word × Bool) × Hw
  | 0, h => ([], h)
  | n + 1, h =>
    match h.portNext h.buf.portB with
    | none => ([], h)
    | some (w, q) =>
      let tag := atBoundary h.buf.portB
      let (ws, h1) := takeB n { h with buf := { h.buf with portB := q } }
      ((w, tag) :: ws, h1)

/-! ### The stream port (R353 to R357) -/

/-- A port inside a record moves to the next boundary and makes a gap record of cause 7 (R357). -/
def restartB (h : Hw) : Hw :=
  let p := h.buf.portB
  if atBoundary p then h
  else
    ({ h with buf := { h.buf with portB :=
        { ptr := p.ptr + p.left, left := 0, inject := portGap h.pwr.draft 7 (p.inject.length + p.left) } } }).strmFlag 0

/-- The stream port starts (R357). -/
def strmStart (h : Hw) : Hw :=
  { h.restartB.setBits R.STRM_CTRL 1 with strm := { h.restartB.strm with active := true, fcnt := 0 } }

/-- The stream port holds its pins low (R357). -/
def strmHalt (h : Hw) : Hw :=
  { h with strm := { h.strm with active := false }, stopping := h.stopping.filter (· != 0x13) }

/-- The payload of a frame (R356): port B's words, then filler at a record boundary. -/
def strmPayload (h : Hw) : List (Word × Bool) × Hw :=
  let (ws, h1) := if h.sink = 2 then takeB 61 h else ([], h)
  (ws ++ List.replicate (61 - ws.length) (0xF000, true), h1)

/-- The STRM_CK periods of a word (R354): with one lane a period carries one bit on STRM_D0, MSB first; with two lanes bit
2i + 1 on STRM_D1 and bit 2i on STRM_D0, from i = 7 down. -/
def laneWord (two : Bool) (w : Word) : List (BitVec 2) :=
  if two then (List.range 8).map fun k => BitVec.ofBool (w.getLsbD (15 - 2 * k)) ++ BitVec.ofBool (w.getLsbD (14 - 2 * k))
  else (List.range 16).map fun k => 0#1 ++ BitVec.ofBool (w.getLsbD (15 - k))

/-- One frame (R355, R356): sync, header, 61 payload words, CRC over words 1 to 62; the lanes carry it (R354). -/
def strmFrame (h : Hw) : Hw :=
  if !h.strm.active || !h.live .sense then h
  else
    let (ws, h1) := h.strmPayload
    let first := ws.findIdx (·.2)
    let hdr := wd ((if first < 61 then first else 0x3F) * 1024 + h.strm.fcnt % 1024)
    let body := hdr :: ws.map (·.1)
    let h2 := h1.setReg R.STRM_FCNT (wd (h.strm.fcnt % 1024))
    let frame := 0x9E37 :: body ++ [crc16 body]
    let h3 := { h2 with strm := { h2.strm with
      frame := frame, lanes := frame.flatMap (laneWord (h.b R.STRM_CFG 4)), fcnt := (h.strm.fcnt + 1) % 1024 } }
    if h.isStopping 0x13 then
      let h4 := h3.strmHalt
      if h.pendEn.contains 0x13 then { h4 with pendEn := h4.pendEn.filter (· != 0x13) }.strmStart else h4
    else h3

/-- A write to `STRM.CFG` (R353). -/
def strmCfgWrite (h : Hw) (v : Word) : Hw :=
  if h.enabled 0x13 || 4 < fld v 2 0 then h.strmFlag 1 else h.setReg R.STRM_CFG (v &&& 0x0017)

/-- A write to `STRM.DGWORDS` (R359). -/
def dgwordsWrite (h : Hw) (v : Word) : Hw :=
  if fld v 9 0 < 16 || 720 < fld v 9 0 then h.strmFlag 1 else h.setReg R.STRM_DGWORDS (v &&& 0x03FF)

/-! ### SENSE off and on (R65, R352) -/

/-- The first step of the SENSE off-sequence (R65, R352): retention starts with BUFRET = 1, once the markers that wait are
written; a triggered snapshot completes short. -/
def bufSenseOff (h : Hw) : Hw :=
  if h.b R.PWR_CFG 0 then
    let h1 := marksOut 16 h
    let h2 := if h1.buf.snap = .triggered then
        { h1.snapClose with buf := { h1.snapClose.buf with short := true } }
      else h1
    { h2 with buf := { h2.buf with holding := true } }
  else h

/-- The writer starts in snapshot mode: with nothing armed, ARMING starts. -/
def snapStart (h : Hw) : Hw := if h.enabled 0x12 && h.bufMode = 2 && h.buf.snap = .none then h.armSnap else h

/-- SENSE comes up (R65, R352): retained contents stay, with a gap record of cause 1 due; otherwise the buffer is empty. -/
def bufSenseOn (h : Hw) : Hw :=
  if h.buf.holding then
    let b := h.buf
    let h1 := { h with buf := { b with
        holding := false, retained := true, gaps := [(1, 0xFFFF)], anchorDue := true, dropped := 0, ref := none
        lastT := none, since := 0, marks := [], snap := if b.snap == Snap.armed then Snap.arming else b.snap } }
    let h2 := h1.snapStart.snapStep
    { h2 with buf := { h2.buf with fresh := false } }
  else { h with buf := Buf.init }.snapStart

/-- The FIFO space is inside the 12-word reserve (R343, R361): no more than the reserve is free. -/
def inReserve (h : Hw) : Bool := h.bufMode = 0 && h.fifoFree ≤ 12

/-- The live bits of `BUF.STAT` without the common bits (R361). -/
def bufStat (h : Hw) : Nat :=
  h.buf.snap.code * 256 + (if h.buf.short then 128 else 0) + (if h.buf.retained then 64 else 0)
    + (if h.inReserve then 1 else 0)

/-- `BUF.ALVL` and `BUF.BLVL`. -/
def levelWords (h : Hw) (p : RdPort) : List Word := [wd (h.portLevel p), wd (h.portLevel p / 65536)]

end Hw
end Sys2Proof.Machine
end

