-- ==== Sys2Proof/Machine/Net.lean ====
section
/-!
DEFINITION. Ports, switch, insertion unit, transparent clock, hold rules, the IP engine, alarm and stream datagrams, and
the frames of the PTP firmware (R389 to R415). Port numbers are 0 for port 1 and 1 for port 2.
-/

namespace Sys2Proof.Machine

/-- A frame with nothing in it. -/
def Frame.blank : Frame :=
  { dst := 0, src := 0, etype := 0, tagged := false, srcIp := 0, dstIp := 0, opts := false, proto := 0, udp := 0
    udpSrc := 0, udpSum := 0, icmp := 0, ttl := 64, len := 64, good := true, ptp := none, carry := .plain, body := [], op := .none, alm := 0, echo := false, rxPort := 0, rxTc := 0
    rxAlm := [], held := false, late := false, egressSec := 0, egressNs := 0, qual := 0 }

def Port.init : Port :=
  { link := false, qAlarm := [], qEvent := [], qNormal := [], ptpCount := 0, sent := none, echo := none }

def Net.init : Net :=
  { port := Vector.replicate 2 Port.init, learned := [], delivered := none, stored := Vector.replicate 2 []
    storeLost := Vector.replicate 2 0, mdioBusy := false, arpAlarm := none, arpStream := none, arpWait := 0
    rseq := Vector.replicate 8 0, raReply := [] }

/-- The serial number, high word first (R360, R414). -/
def serialWords : List Word :=
  [Config.serial.extractLsb' 48 16, Config.serial.extractLsb' 32 16, Config.serial.extractLsb' 16 16,
   Config.serial.extractLsb' 0 16]

/-- A PTP event message (R394): message types 0 to 3. -/
def Ptp.event (p : Ptp) : Bool := p.msg < 4

/-- The message is in a form in which PTP is recognized (R401). -/
def Frame.isPtp (f : Frame) : Bool :=
  f.ptp.isSome && (f.etype = 0x88F7 || (f.etype = 0x0800 && f.proto = 17 && (f.udp = 319 || f.udp = 320) && !f.opts))

/-- The frame carries a recognized PTP event message. -/
def Frame.isEvent (f : Frame) : Bool := f.isPtp && (f.ptp.map Ptp.event).getD false

/-- An event frame (R394), which the hold rule covers (R409): one that is marked for insertion, or that the transparent clock
corrects. -/
def Frame.holds (f : Frame) : Bool := f.op != .none

/-- A changed UDP datagram leaves with the checksum 0x0000 (R398). -/
def Frame.unsum (f : Frame) : Frame :=
  if f.op != .none && f.etype = 0x0800 && f.proto = 17 then { f with udpSum := 0 } else f

abbrev macBroadcast : BitVec 48 := 0xFFFFFFFFFFFF
abbrev macPtp : BitVec 48 := 0x011B19000000
abbrev macPdelay : BitVec 48 := 0x0180C200000E

namespace Hw

def netPort (h : Hw) (n : Fin 2) : Port := h.net.port[n]
def setPort (h : Hw) (n : Fin 2) (p : Port) : Hw := { h with net := { h.net with port := h.net.port.set n p } }

def macFlag (h : Hw) (n : Fin 2) (bit : Nat) : Hw := h.raise (0x30 + n.val) bit

/-- The link of a port (R390, R91): taken as up with AUTOPOLL = 0; down while N runs on its backup. -/
def linkUp (h : Hw) (n : Fin 2) : Bool := !h.clk.nbackup && (!h.b (R.MAC_CFG n) 4 || (h.netPort n).link)

/-- The MAC may transmit (R391). -/
def txOn (h : Hw) (n : Fin 2) : Bool := h.live .net && h.enabled (0x30 + n.val) && h.linkUp n

def ownMac (h : Hw) : BitVec 48 := h.reg R.IPSVC_MAC_H ++ h.reg R.IPSVC_MAC_M ++ h.reg R.IPSVC_MAC_L
def ownIp (h : Hw) : BitVec 32 := BitVec.ofNat 32 (h.reg32 R.IPSVC_IP_L)

/-! ### Time stamps (R395, R396) -/

/-- An almanac's time in units of 2^-16 ns. -/
def almFine (h : Hw) (a : Nat) : Int := (almUnits (h.almOf a) / 65536 : Nat)

/-- Egress time at the MDI, in units of 2^-16 ns: the almanac's time plus TXLAT (R395). -/
def egressTime (h : Hw) (n : Fin 2) (a : Nat) : Int := h.almFine a + (h.reg (R.MAC_TXLAT n)).toNat * 4096

/-- Ingress time at the MDI: the almanac's time minus RXLAT (R395). -/
def ingressTime (h : Hw) (n : Fin 2) (a : Nat) : Int := h.almFine a - (h.reg (R.MAC_RXLAT n)).toNat * 4096

/-- The TC rate almanac (R164). -/
def tcAlm (h : Hw) : Nat := h.f R.CAL_ROLES 3 2

/-- The almanac bound to a PTP domain (R167). -/
def domainAlm (h : Hw) (d : Nat) : Option Nat :=
  (List.range 4).find? fun m => h.b (R.ALM_BIND m) 15 && h.f (R.ALM_BIND m) 7 0 == d

/-! ### Queues (R391, R394) -/

/-- A frame that cannot be queued is discarded and counted in TXDROP. -/
def txDrop (h : Hw) (n : Fin 2) (k : Nat) : Hw := h.countBy (R.MAC_TXDROP n) k

/-- A frame enters the event queue (8) or the normal queue (16). -/
def enqueue (h : Hw) (n : Fin 2) (event : Bool) (f : Frame) : Hw :=
  let p := h.netPort n
  if !h.txOn n then h.txDrop n 1
  else if event then
    if 8 ≤ p.qEvent.length then h.txDrop n 1 else h.setPort n { p with qEvent := p.qEvent ++ [f] }
  else if 16 ≤ p.qNormal.length then h.txDrop n 1
  else h.setPort n { p with qNormal := p.qNormal ++ [f] }

/-- The frames other than alarms that are queued for a port are discarded (R391). -/
def flushPort (h : Hw) (n : Fin 2) : Hw :=
  let p := h.netPort n
  (h.txDrop n (p.qEvent.length + p.qNormal.length)).setPort n { p with qEvent := [], qNormal := [] }

/-- ALMOVR counts a discarded alarm (R415). -/
def almOvr (h : Hw) (n : Fin 2) (k : Nat) : Hw :=
  if k = 0 then h else (h.countBy (R.MAC_ALMOVR n) k).macFlag n 5

/-- An alarm datagram enters its queue of 4; the oldest goes when it is full (R394, R415). It is late when it finds the link
down. -/
def enqueueAlarm (h : Hw) (n : Fin 2) (f : Frame) : Hw :=
  let p := h.netPort n
  let q := p.qAlarm ++ [{ f with late := f.late || !h.linkUp n }]
  if 4 ≤ p.qAlarm.length then (h.setPort n { p with qAlarm := q.drop 1 }).almOvr n 1
  else h.setPort n { p with qAlarm := q }

/-- Enqueue on every port that a 2-bit mask names. -/
def enqueueMask (h : Hw) (m : Nat) (event : Bool) (f : Frame) : Hw :=
  (List.finRange 2).foldl (fun g n => if m.testBit n.val then g.enqueue n event f else g) h

/-- A unicast frame of the endpoint goes to the learned port, or to every port that its request names (R393). -/
def endpointMask (h : Hw) (dst : BitVec 48) (m : Nat) : Nat :=
  match h.net.learned.find? (·.mac == dst) with
  | some l => 2 ^ (l.port - 1)
  | none => m

/-! ### Links and management (R390) -/

/-- A change of link state (R390): STAT.LINK, the port's bit in `SWITCH.IFLAG`, EV62. A port that goes down discards its
frames, but alarms wait and are late (R391, R415). -/
def linkSet (h : Hw) (n : Fin 2) (up : Bool) : Hw :=
  let p := h.netPort n
  if p.link == up then h
  else
    let h1 := h.setPort n
      { p with link := up, qAlarm := if up then p.qAlarm else p.qAlarm.map fun f => { f with late := true } }
    let h2 := (((h1.macFlag n 0).raise 0x32 n.val).event 62)
    if up then h2 else h2.flushPort n

/-- A poll of PHY register 1 (R390). -/
def linkPoll (h : Hw) (n : Fin 2) (up : Bool) : Hw :=
  if h.live .net && h.b (R.MAC_CFG n) 4 && !h.clk.nbackup then h.linkSet n up else h

/-- What a port does when its MAC page was loaded or reset: without polling the link is taken as up (R390), and a MAC that no
longer transmits discards its frames (R391). -/
def macChanged (old h : Hw) (n : Fin 2) : Hw :=
  let h1 := if h.b (R.MAC_CFG n) 4 || h.clk.nbackup then h else h.linkSet n true
  if old.enabled (0x30 + n.val) && !h1.enabled (0x30 + n.val) then h1.flushPort n else h1

/-- Both ports report link down (R91). -/
def linksDown (h : Hw) : Hw := (h.linkSet 0 false).linkSet 1 false

/-- The stored value of `MDIOCMD`, and the start of an access when GO is written while none runs (R390). -/
def mdioWrite (h : Hw) (v : Word) : Hw :=
  let h1 := h.setReg R.SWITCH_MDIOCMD (v &&& 0x43FF)
  if v.getLsbD 15 then { h1 with net := { h1.net with mdioBusy := true } } else h1

/-- An MDIO access ends (R390, R419): a read stores its data. -/
def mdioDone (h : Hw) (data : Word) : Hw :=
  if h.net.mdioBusy && h.live .net then
    let h1 := { h with net := { h.net with mdioBusy := false } }
    (if h1.b R.SWITCH_MDIOCMD 14 then h1 else h1.setReg R.SWITCH_MDIODATA data).raise 0x32 2
  else h

/-! ### Insertion (R397 to R403) -/

/-- A sum of correctionField (R403): a signed 64-bit value; an overflow is written as the largest and counted. -/
def corrAdd (h : Hw) (c d : Int) : Int × Hw :=
  let s := c + d
  if -9223372036854775808 ≤ s && s ≤ 9223372036854775807 then (s, h)
  else (9223372036854775807, (h.count R.TSI_TCSAT).raise 0x33 2)

/-- What the transparent clock adds to a forwarded event message (R402, R403), in units of 2^-16 ns. -/
def tcCorrection (h : Hw) (n : Fin 2) (f : Frame) : Int :=
  let res := h.egressTime n h.tcAlm - f.rxTc
  if h.b R.TSI_TCCFG 1 then
    let r := f.rxPort - 1
    let dly : Int := if h.b (R.MAC_STAT r) 4 then (h.reg32 (R.MAC_LINKDLY_L r) : Nat) else 0
    res + (dly + signed 16 (h.reg (R.MAC_ASYM r)).toNat) * 4096
  else res

/-- The message as the insertion unit leaves it (R397): `none` operation leaves it as it is. -/
def insertPtp (h : Hw) (n : Fin 2) (f : Frame) (p : Ptp) : Ptp × Hw :=
  match f.op with
  | .origin =>
    let e := h.egressTime n f.alm
    let ns := e / 65536
    ({ p with
        originSec := (ns / 1000000000).toNat, originNs := (ns % 1000000000).toNat, corr := p.corr + e % 65536 }, h)
  | .turnaround =>
    let r := h.corrAdd p.corr (h.egressTime n f.alm - f.rxAlm.getD f.alm 0)
    ({ p with corr := r.1 }, r.2)
  | .residence =>
    let r := h.corrAdd p.corr (h.tcCorrection n f)
    ({ p with corr := r.1 }, r.2)
  | .datagram => (p, h)
  | .none => (p, h)

/-- The key slot with a key ID, if it is usable (R547, R550). -/
def keyById (h : Hw) (kid : Nat) : Option (List Word) :=
  if h.b R.KEYS_STAT 11 then none
  else (h.keys.slots.find? fun s => (s.map fun k => k.1 == kid).getD false).bind fun s => s.map Prod.snd

/-- A secured message gets its ICV over the inserted fields, with correctionField taken as 0 (R407). -/
def signPtp (h : Hw) (body : List Word) (p : Ptp) : Ptp :=
  match p.sec with
  | none => p
  | some (spp, kid, _) =>
    let msg := [wd p.msg, wd p.domain, wd (p.originSec / 4294967296), wd (p.originSec / 65536), wd p.originSec,
      wd (p.originNs / 65536), wd p.originNs] ++ body
    { p with sec := some (spp, kid, Config.mac ((h.keyById kid).getD []) msg) }

/-- The EGRESS and QUAL fields of a datagram in its payload (R360, R414), and the flag word of an alarm. -/
def stampBody (f : Frame) : List Word :=
  let b := ((((f.body.set 6 (wd ((f.body.getD 6 0).toNat + f.qual))).set 8 (wd (f.egressSec / 4294967296))).set 9
    (wd (f.egressSec / 65536))).set 10 (wd f.egressSec)).set 11 (wd (f.egressNs / 65536))
  let b := b.set 12 (wd f.egressNs)
  if f.carry = .alarm then
    b.set 19 (wd ((if f.held then 1 else 0) + (if f.late then 2 else 0)))
  else b

/-- EGRESS and QUAL of a datagram (R397, R410): the sample almanac's egress time and quality, or all ones and 3. -/
def insertDatagram (h : Hw) (n : Fin 2) (f : Frame) : Frame :=
  let e := h.egressTime n h.sampAlm / 65536
  let g := if f.held then { f with egressSec := 2 ^ 48 - 1, egressNs := 2 ^ 32 - 1, qual := 3 }
    else { f with
      egressSec := (e / 1000000000).toNat, egressNs := (e % 1000000000).toNat
      qual := almQuality (h.almOf h.sampAlm) }
  { g with body := stampBody g }

/-- A frame passes the insertion unit and leaves (R397 to R400); with VIO out of band it reaches no wire (R39; log entry 89). -/
def transmit (h : Hw) (n : Fin 2) (f : Frame) : Hw :=
  let r : Frame × Hw :=
    match f.ptp with
    | some p =>
      let q := h.insertPtp n f p
      ({ f.unsum with ptp := some (if f.rxPort = 0 then h.signPtp f.body q.1 else q.1) }, q.2)
    | none => if f.op = .datagram then (h.insertDatagram n f.unsum, h) else (f, h)
  let p := r.2.netPort n
  let h1 := (r.2.setPort n { p with sent := if h.padsOn && !h.tap.pads then some r.1 else none, echo := if f.echo then some r.1 else p.echo }).count (R.MAC_TXOK n)
  if f.carry = .alarm then h1.raise 0x34 0 else h1

/-- The head of a queue may leave now: it is no event frame, SETTLED is 1, or the hold rule let it go (R409, R410). -/
def mayLeave (h : Hw) (f : Frame) : Bool := !f.holds || h.clk.settled || f.held

/-- The next frame of a port in strict priority (R394): queue number and frame. A held head waits, and a lower queue goes. -/
def nextFrame (h : Hw) (n : Fin 2) : Option (Nat × Frame) :=
  let p := h.netPort n
  let c := fun (k : Nat) (q : List Frame) => (q.head?.filter h.mayLeave).map fun f => (k, f)
  (c 0 p.qAlarm <|> c 1 p.qEvent) <|> c 2 p.qNormal

/-- The head of a queue is taken off. -/
def popQueue (h : Hw) (n : Fin 2) (k : Nat) : Hw :=
  let p := h.netPort n
  h.setPort n (if k = 0 then { p with qAlarm := p.qAlarm.drop 1 }
    else if k = 1 then { p with qEvent := p.qEvent.drop 1 } else { p with qNormal := p.qNormal.drop 1 })

/-- A port sends its next frame, if one may leave (R391, R394, R409). -/
def frameDepart (h : Hw) (n : Fin 2) : Hw :=
  if !h.txOn n then h
  else
    match h.nextFrame n with
    | none => h
    | some (k, f) => (h.popQueue n k).transmit n f

/-- A held frame reaches 2 ms (R410): a PTP event message is discarded, a datagram leaves with unknown time. -/
def holdTimeout (h : Hw) (n : Fin 2) (alarmQ : Bool) : Hw :=
  let p := h.netPort n
  let q := if alarmQ then p.qAlarm else p.qEvent
  match q with
  | [] => h
  | f :: t =>
    if h.clk.settled || !f.holds || f.held || !h.live .net then h
    else if f.carry = .plain then
      ((h.setPort n { p with qEvent := t }).count R.TSI_HOLDDROP).raise 0x33 0
    else
      let g := { f with held := true }
      let h1 := h.setPort n (if alarmQ then { p with qAlarm := g :: t } else { p with qEvent := g :: t })
      let h2 := (h1.count R.TSI_HOLDUNK).raise 0x33 1
      if h2.txOn n then (h2.popQueue n (if alarmQ then 0 else 1)).transmit n g else h2

/-- `TSI.STAT.HOLDING` (R409). -/
def holding (h : Hw) : Bool :=
  !h.clk.settled && (List.finRange 2).any fun n =>
    let w := fun (q : List Frame) => (q.head?.map fun f => f.holds && !f.held).getD false
    w (h.netPort n).qAlarm || w (h.netPort n).qEvent

/-! ### The switch (R392, R393) -/

/-- The source address of a received frame is learned (R393). -/
def learn (h : Hw) (n : Fin 2) (src : BitVec 48) : Hw :=
  if !h.b R.SWITCH_FWD 1 then h
  else if h.net.learned.any (·.mac == src) then
    { h with net := { h.net with
        learned := h.net.learned.map fun l => if l.mac == src then { l with port := n.val + 1 } else l } }
  else if 32 ≤ h.net.learned.length then h.raise 0x32 3
  else { h with net := { h.net with learned := h.net.learned ++ [{ mac := src, port := n.val + 1 }] } }

/-- A learned address ages out (R393). -/
def ageOut (h : Hw) (mac : BitVec 48) : Hw :=
  { h with net := { h.net with learned := h.net.learned.filter fun l => l.mac != mac } }

/-- The rows of R392: delivered to the endpoint, for untagged frames only, forwarded. -/
def route (h : Hw) (n : Fin 2) (f : Frame) : Bool × Bool :=
  let udpPtp := f.etype = 0x0800 && f.proto = 17 && (f.udp = 319 || f.udp = 320) && !f.opts
  if f.dst >>> 4 = 0x0180C200000#48 then (true, false)
  else if udpPtp && f.dstIp = 0xE000006B then (true, false)
  else if f.dst = h.ownMac then (!f.tagged, false)
  else if f.dst = macBroadcast || f.dst = macPtp || (udpPtp && f.dstIp = 0xE0000181) then
    (!f.tagged, h.b R.SWITCH_FWD 0)
  else if f.dst.getLsbD 40 then (false, h.b R.SWITCH_FWD 0)
  else if h.net.learned.any (fun l => l.mac == f.dst && l.port == n.val + 1) then (false, false)
  else (false, h.b R.SWITCH_FWD 0)

/-- The transparent clock corrects the message (R401, R402): Sync in both modes, Delay_Req in E2E. -/
def tcCorrects (h : Hw) (f : Frame) : Bool :=
  h.b R.TSI_TCCFG 0 && f.isPtp &&
    ((f.ptp.map (·.msg)) == some 0 || ((f.ptp.map (·.msg)) == some 1 && !h.b R.TSI_TCCFG 1))

/-- A frame is forwarded to the other external port (R392, R394, R402). -/
def forward (h : Hw) (n : Fin 2) (f : Frame) : Hw :=
  let tc := h.tcCorrects f
  h.enqueue (1 - n) tc { f with op := if tc then .residence else .none }

/-! ### The endpoint -/

def ipDrop (h : Hw) : Hw := (h.count R.IPSVC_IPDROP).raise 0x34 3

/-- A frame of the endpoint. -/
def frameOut (h : Hw) (dst : BitVec 48) (etype : Word) : Frame :=
  { Frame.blank with dst := dst, src := h.ownMac, etype := etype, srcIp := h.ownIp }

/-- A UDP datagram of the endpoint: its source port and checksum are free where the spec states none (log entry 3). -/
def udpOut (h : Hw) (dst : BitVec 48) (ip : BitVec 32) (port : Nat) : Frame :=
  { h.frameOut dst 0x0800 with
    dstIp := ip, proto := 17, udp := port, udpSrc := wd (h.open' 27), udpSum := wd (h.open' 28) }

/-- ARP at the endpoint (R411, R412): a request for the own address is answered; a reply resolves the destinations whose
next hop answers. `proto` is the ARP operation. -/
def arpReceive (h : Hw) (n : Fin 2) (f : Frame) (hop : BitVec 32 → BitVec 32) : Hw :=
  if f.dstIp ≠ h.ownIp then h
  else if f.proto = 1 then
    h.enqueue n false { h.frameOut f.src 0x0806 with dstIp := f.srcIp, proto := 2 }
  else if f.proto = 2 then
    let al := BitVec.ofNat 32 (h.reg32 R.IPSVC_ALDST_L)
    let st := BitVec.ofNat 32 (h.reg32 R.IPSVC_STDST_L)
    { h with net := { h.net with
        arpAlarm := if hop al = f.srcIp then some f.src else h.net.arpAlarm
        arpStream := if hop st = f.srcIp then some f.src else h.net.arpStream
        arpWait := h.net.arpWait &&&
          BitVec.ofNat 2 ((if hop al = f.srcIp then 0 else 1) + (if hop st = f.srcIp then 0 else 2)) } }
  else h

/-- The next hop toward an address (R411): the address itself in the subnet, the gateway outside it. -/
def nextHop (h : Hw) (a : BitVec 32) : BitVec 32 :=
  let m := BitVec.ofNat 32 (h.reg32 R.IPSVC_MASK_L)
  if a &&& m = h.ownIp &&& m then a else BitVec.ofNat 32 (h.reg32 R.IPSVC_GW_L)

/-- IPv4 at the endpoint (R411): fragments, options and large echo requests are dropped; an echo request is answered. -/
def ipReceive (h : Hw) (n : Fin 2) (f : Frame) : Hw :=
  if f.dstIp ≠ h.ownIp then h
  else if f.opts then h.ipDrop
  else if f.proto = 1 && f.icmp = 8 then
    if 576 < f.len - 18 then h.ipDrop
    else h.enqueue n false { h.frameOut f.src 0x0800 with dstIp := f.srcIp, proto := 1, len := f.len, body := f.body }
  else h

/-- `TSI.PTPCFGn`. -/
def ptpCfg (h : Hw) (m : Nat) : Word := h.reg (R.TSI_PTPCFG0 + m % 4)

/-- The ordinary clock of an almanac runs (R406). -/
def clockRuns (h : Hw) (m : Nat) : Bool := (h.ptpCfg m).getLsbD 15 && h.b (R.ALM_BIND m) 15 && h.live .core && h.live .net

/-- The authentication of a received message of a secured domain (R407, R550). -/
def secOk (h : Hw) (m : Nat) (f : Frame) (p : Ptp) : Bool :=
  match p.sec with
  | none => false
  | some (spp, kid, icv) =>
    spp == fld (h.ptpCfg m) 7 0 &&
      match h.keyById kid with
      | none => false
      | some key =>
        icv == Config.mac key ([wd p.msg, wd p.domain, wd (p.originSec / 4294967296), wd (p.originSec / 65536),
          wd p.originSec, wd (p.originNs / 65536), wd p.originNs] ++ f.body)

/-- A PTP frame of an ordinary clock (R405, R406): addresses by transport and message; event messages go to UDP port 319. -/
def ptpFrame (h : Hw) (m msg : Nat) (body : List Word) (op : InsOp) : Frame :=
  let p : Ptp :=
    { msg := msg, domain := h.f (R.ALM_BIND m) 7 0, sdo := 0, corr := 0, originSec := 0, originNs := 0, tlv := false, sec := none
      offset := none, leap := none }
  let peer := msg = 2 || msg = 3
  let base := if (h.ptpCfg m).getLsbD 13 then
      h.udpOut (if peer then 0x01005E00006B else 0x01005E000181) (if peer then 0xE000006B else 0xE0000181)
        (if msg < 4 then 319 else 320)
    else h.frameOut (if peer then macPdelay else macPtp) 0x88F7
  { base with ptp := some p, body := body, op := op, alm := m, echo := op != .none }

/-- The key IDs of usable slots (R550). -/
def keyIds (h : Hw) : List Nat := if h.b R.KEYS_STAT 11 then [] else h.keys.slots.filterMap fun s => s.map Prod.fst

/-- An ordinary clock sends a message on its ports (R406, R407): secured with a key of the store, and not at all when SEC = 1
and no slot is usable (R550). Which usable key it takes is not given (log entry 3). -/
def ptpSend (h : Hw) (m mask : Nat) (f : Frame) : Hw :=
  let ids := h.keyIds
  let ev := f.holds
  if (h.ptpCfg m).getLsbD 11 then
    if ids.isEmpty then h
    else
      let kid := ids.getD (h.open' 2 % ids.length) 0
      h.enqueueMask mask ev { f with ptp := f.ptp.map fun p => { p with sec := some (fld (h.ptpCfg m) 7 0, kid, []) } }
  else h.enqueueMask mask ev f

/-- The firmware answers (R405): a Pdelay_Req with a one-step Pdelay_Resp, a Delay_Req with a Delay_Resp while the clock is
master-capable, end-to-end and in the master state, which IEEE 1588's algorithm decides (log entry 3). -/
def ptpAnswer (h : Hw) (n : Fin 2) (f : Frame) (p : Ptp) : Hw :=
  if !h.live .core then h
  else
    match h.domainAlm p.domain with
    | none => h
    | some m =>
      if p.msg = 2 then
        h.ptpSend m (2 ^ n.val)
          { h.ptpFrame m 3 [] .turnaround with rxAlm := f.rxAlm }
      else if p.msg = 1 && h.clockRuns m && (h.ptpCfg m).getLsbD 12 && !(h.ptpCfg m).getLsbD 14 && h.open' 4 % 2 = 1 then
        let ns := f.rxAlm.getD m 0 / 65536
        h.ptpSend m (2 ^ n.val) (h.ptpFrame m 9
          [wdI (ns / 1000000000 / 4294967296), wdI (ns / 1000000000 / 65536), wdI (ns / 1000000000),
           wdI (ns % 1000000000 / 65536), wdI (ns % 1000000000)] .none)
      else h

/-- What the ordinary clock of the message's domain takes from it: the servo's measured offset corrects the almanac (R163), and
the leap flags and UTC offset of the calendar almanac's domain are copied (R186). -/
def ptpServo (h : Hw) (p : Ptp) : Hw :=
  match h.domainAlm p.domain with
  | none => h
  | some m =>
    if !h.clockRuns m || !h.live .time then h
    else
      let h1 := match p.offset with
        | some off => h.servoCorrect m off
        | none => h
      match p.leap with
      | some (flags, ofs) => if p.msg = 11 && m = h1.calAlm then h1.leapCopy flags ofs else h1
      | none => h1

/-- A PTP message at the endpoint (R406, R407, R408). -/
def ptpReceive (h : Hw) (n : Fin 2) (f : Frame) (p : Ptp) : Hw :=
  let port := h.netPort n
  if p.event && h.f R.TSI_SRVRUN 3 0 = 0 && 64 ≤ port.ptpCount then (h.count (R.MAC_PTPLIM n)).macFlag n 4
  else
    let h1 := if p.event then h.setPort n { port with ptpCount := port.ptpCount + 1 } else h
    if p.sdo ≠ 0 || p.tlv || !([0, 1, 2, 3, 8, 9, 10, 11].contains p.msg) then h1.count R.TSI_UNSUP
    else
      let bad := (h1.domainAlm p.domain).any fun m => (h1.ptpCfg m).getLsbD 11 && !h1.secOk m f p
      if bad then (h1.count R.TSI_SECFAIL).raise 0x33 3
      else ({ h1 with net := { h1.net with delivered := some f } }.ptpServo p).ptpAnswer n f p

/-- A frame is delivered to the endpoint (R392, R396, R411). -/
def deliver (h : Hw) (n : Fin 2) (f : Frame) : Hw :=
  match f.isPtp, f.ptp with
  | true, some p => h.ptpReceive n f p
  | _, _ =>
    let h1 := { h with net := { h.net with delivered := some f } }
    if f.etype = 0x0806 then h1.arpReceive n f h.nextHop
    else if f.etype = 0x0800 then h1.ipReceive n f
    else h1

/-- The port takes the frame in: the MAC is enabled, and the frame is whole (R389). -/
def frameTaken (h : Hw) (n : Fin 2) (f : Frame) : Bool :=
  h.live .net && h.enabled (0x30 + n.val) && f.good && 64 ≤ f.len && f.len ≤ 1522

/-- A port receives a frame whole (R389, R392, R396, R411), whatever its link state: that stops transmission alone (R391). -/
def frameReceive (h : Hw) (n : Fin 2) (f0 : Frame) : Hw :=
  if !(h.live .net && h.enabled (0x30 + n.val)) then h
  else if !f0.good || f0.len < 64 || 1522 < f0.len then (h.count (R.MAC_RXERR n)).macFlag n 1
  else
    let f := { f0 with
      carry := .plain, op := .none, echo := false, held := false, late := false, rxPort := n.val + 1
      rxTc := h.ingressTime n h.tcAlm, rxAlm := (List.range 4).map (h.ingressTime n) }
    let h1 := (h.count (R.MAC_RXOK n)).learn n f.src
    let r := h.route n f
    let h2 := if r.2 then h1.forward n f else h1
    if r.1 then h2.deliver n f
    else if f.dst = h.ownMac && f.tagged then h2.ipDrop
    else h2

/-- The 1 s window of the PTP limit ends (R408). -/
def ptpWindow (h : Hw) : Hw :=
  (List.finRange 2).foldl (fun g n => g.setPort n { g.netPort n with ptpCount := 0 }) h

/-! ### Address resolution (R412) -/

def alMac (h : Hw) : BitVec 48 := h.reg R.IPSVC_ALDMAC_H ++ h.reg R.IPSVC_ALDMAC_M ++ h.reg R.IPSVC_ALDMAC_L

/-- `IPSVC.STAT.ALRES` (R414): a destination MAC is given, or ARP has found one. -/
def alRes (h : Hw) : Bool := h.alMac != 0 || h.net.arpAlarm.isSome

/-- The address and the ports of a destination (R412): the stream's, or the alarm's without a given MAC. -/
def arpTarget (h : Hw) (stream : Bool) : Option (BitVec 32 × Nat) :=
  let a := BitVec.ofNat 32 (h.reg32 (if stream then R.IPSVC_STDST_L else R.IPSVC_ALDST_L))
  if a = 0 || (!stream && h.alMac != 0) then none
  else some (a, h.f (if stream then R.IPSVC_STCFG else R.IPSVC_ALCFG) 9 8)

/-- An ARP request for a configured destination (R412). -/
def arpAsk (h : Hw) (stream : Bool) : Hw :=
  match h.arpTarget stream with
  | none => h
  | some (a, m) =>
    if !h.live .net then h
    else
      let g := h.enqueueMask m false { h.frameOut macBroadcast 0x0806 with dstIp := h.nextHop a, proto := 1 }
      { g with net := { g.net with arpWait := g.net.arpWait ||| (if stream then 2 else 1) } }

/-- ARP requests for the configured destinations, every 60 s (R412). -/
def arpRefresh (h : Hw) : Hw := (h.arpAsk false).arpAsk true

/-- No reply within 1 s: ARPFAIL is set and the engine keeps trying (R412). -/
def arpFail (h : Hw) : Hw :=
  if h.net.arpWait = 0 || !h.live .net then h
  else
    let w := h.net.arpWait
    let h1 := h.raise 0x34 2
    let h2 := if w.getLsbD 0 then h1.arpAsk false else h1
    if w.getLsbD 1 then h2.arpAsk true else h2

/-- A commit of the alarm destination (R412): it is resolved anew. -/
def alarmDstChanged (h : Hw) : Hw := { h with net := { h.net with arpAlarm := none } }.arpAsk false

/-- A commit of the stream destination (R412). -/
def streamDstChanged (h : Hw) : Hw := { h with net := { h.net with arpStream := none } }.arpAsk true

/-- A commit of the address, the mask or the gateway: every destination may have another next hop and is resolved anew
(R412). -/
def hopChanged (h : Hw) : Hw := h.alarmDstChanged.streamDstChanged

/-- A commit of a group of the IPSVC page (R412, R421), by its key. The alarm headers of later requests are built from the
configuration then in force (R414, R415). -/
def ipCommitted (h : Hw) (key : Nat) : Hw :=
  if key = R.IPSVC_STDST_L then h.streamDstChanged
  else if key = R.IPSVC_ALDST_L then h.alarmDstChanged
  else if key = R.IPSVC_ALDMAC_L then h.arpAsk false
  else if key = R.IPSVC_IP_L || key = R.IPSVC_MASK_L || key = R.IPSVC_GW_L then h.hopChanged
  else h

/-! ### Alarm datagrams (R414, R415) -/

/-- The payload of an alarm datagram before insertion (R414). -/
def alarmBody (h : Hw) (q : AlarmReq) : List Word :=
  [0x4D58, 0x0102] ++ serialWords ++
    [wd (h.gang.gid.toNat * 256), q.aseq, 0, 0, 0, 0, 0, q.cause,
     wd (q.t / 1000000000 / 4294967296), wd (q.t / 1000000000 / 65536), wd (q.t / 1000000000),
     wd (q.t % 1000000000 / 65536), wd (q.t % 1000000000), 0]

/-- The alarm datagram of a request under the configuration in force (R414). -/
def alarmFrame (h : Hw) (q : AlarmReq) (late : Bool) : Frame :=
  let mac := if h.alMac != 0 then h.alMac else h.net.arpAlarm.getD macBroadcast
  { h.udpOut mac (BitVec.ofNat 32 (h.reg32 R.IPSVC_ALDST_L)) (h.reg R.IPSVC_ALPORT).toNat with
    carry := .alarm, op := .datagram, body := h.alarmBody q, late := late, len := 86 }

/-- An alarm request reaches NET (R289, R414): without a powered NET it is dropped and counted in ALMLOST. -/
def alarmRequest (h : Hw) (t : Nat) : Hw :=
  if !h.up .net then (h.count R.REFLEX_ALMLOST).raise 0x15 4
  else
    let aseq := h.reg R.IPSVC_ALSEQ + 1
    let h1 := h.setReg R.IPSVC_ALSEQ aseq
    if h1.b R.IPSVC_ALCFG 15 then
      let f := h1.alarmFrame { aseq := aseq, cause := causeWord h1.latch, t := t } false
      (List.finRange 2).foldl (fun g n => if h1.b R.IPSVC_ALCFG (8 + n.val) then g.enqueueAlarm n f else g) h1
    else h1

/-- An alarm datagram as its request, for the pending store (R415): ASEQ, cause and event time from its payload. -/
def reqOf (f : Frame) : AlarmReq :=
  let w := fun i => (f.body.getD i 0).toNat
  { aseq := f.body.getD 7 0, cause := f.body.getD 13 0
    t := (w 14 * 4294967296 + w 15 * 65536 + w 16) * 1000000000 + w 17 * 65536 + w 18 }

/-- A request enters the pending store of a port, which holds 4 (R415). -/
def storeAlarm (h : Hw) (n : Fin 2) (q : AlarmReq) : Hw :=
  let l := h.net.stored[n] ++ [q]
  if 4 < l.length then
    { h with net := { h.net with
        stored := h.net.stored.set n (l.drop 1), storeLost := h.net.storeLost.set n (h.net.storeLost[n] + 1) } }
  else { h with net := { h.net with stored := h.net.stored.set n l } }

/-- The stop work of NET on one port (R50, R415): waiting alarms leave at once, held ones with unknown time, or are stored
when the link is down; other frames are discarded and counted. -/
def netStopPort (h : Hw) (n : Fin 2) : Hw :=
  let q := (h.netPort n).qAlarm
  let h1 := h.setPort n { h.netPort n with qAlarm := [] }
  let h2 := q.foldl (fun g f =>
    if g.txOn n then
      if g.mayLeave f then g.transmit n f
      else ((g.count R.TSI_HOLDUNK).raise 0x33 1).transmit n { f with held := true }
    else g.storeAlarm n (reqOf f)) h1
  h2.flushPort n

def netStop (h : Hw) : Hw := (h.netStopPort 0).netStopPort 1

/-- NET has come up (R50, R415): links restart, and the stored alarms are built again and wait, late. -/
def netStart (h : Hw) : Hw :=
  let h1 := { h with net := { Net.init with stored := h.net.stored, storeLost := h.net.storeLost, rseq := h.net.rseq } }
  (List.finRange 2).foldl (fun g n =>
    let lost := g.net.storeLost[n]
    let reqs := g.net.stored[n]
    let g1 := { g with net := { g.net with storeLost := g.net.storeLost.set n 0, stored := g.net.stored.set n [] } }
    let g2 := if g1.b (R.MAC_CFG n) 4 then g1 else g1.linkSet n true
    reqs.foldl (fun k q => k.enqueueAlarm n (k.alarmFrame q true)) (g2.almOvr n lost)) h1

/-- A pin, command or power-on reset clears the pending store (R415). -/
def clearStored (h : Hw) : Hw := { h with net := Net.init }

/-! ### Stream datagrams (R359, R360, R413) -/

/-- The core takes port B's words while SINK = 1 and datagrams are on (R359, R413). -/
def strmCollect (h : Hw) : Hw :=
  if h.sink = 1 && h.up .core && h.up .net && h.b R.IPSVC_STCFG 15 then
    let r := takeB ((h.reg R.STRM_DGWORDS).toNat - h.strm.dg.length) h
    { r.2 with strm := { r.2.strm with
        dg := r.2.strm.dg ++ r.1.map Prod.fst
        dgFirst := r.2.strm.dgFirst <|> (r.1.findIdx? (·.2)).map (· + h.strm.dg.length) } }
  else h

/-- A stream datagram is sent with the words the core holds (R359, R360, R413). -/
def strmSend (h : Hw) : Hw :=
  let dst := BitVec.ofNat 32 (h.reg32 R.IPSVC_STDST_L)
  let mac := h.net.arpStream.getD macBroadcast
  let body := [0x4D58, 0x0101] ++ serialWords ++
    [wd (h.gang.gid.toNat * 256), h.strm.dseq, 0, 0, 0, 0, 0, wd (h.strm.dgFirst.getD 0xFFFF), wd h.strm.dg.length] ++ h.strm.dg
  let f := { h.udpOut mac dst (h.reg R.IPSVC_STPORT).toNat with
    udpSrc := 47810, carry := .stream, op := .datagram, body := body
    len := 46 + 2 * body.length }
  let h1 := h.setReg R.STRM_DGSEQ h.strm.dseq
  { h1 with strm := { h1.strm with dg := [], dgFirst := none, dseq := h1.strm.dseq + 1 } }.enqueueMask
    (h.endpointMask mac (h.f R.IPSVC_STCFG 9 8)) true f

/-- The record area holds DGWORDS words (R359). -/
def strmDatagram (h : Hw) : Hw :=
  let g := h.strmCollect
  if g.sink = 1 && g.up .core && g.up .net && (g.reg R.STRM_DGWORDS).toNat ≤ g.strm.dg.length && g.strm.dg ≠ [] then g.strmSend.strmCollect
  else g

/-- DGTMO ms after a datagram's first word (R359). -/
def strmTimeout (h : Hw) : Hw :=
  if h.sink = 1 && h.up .core && h.up .net && h.strm.dg ≠ [] then h.strmSend.strmCollect else h

end Hw
end Sys2Proof.Machine
end

