-- ==== Sys2Proof/Machine/Mailbox.lean ====
section
/-!
DEFINITION. The mailboxes (R476 to R489, R500, R501).
-/

namespace Sys2Proof.Machine

def Box.init : Box := { msg := none, lastSnd := 0, count := 0 }

namespace Hw

/-- The mailbox numbered `n` modulo 8. -/
def box (h : Hw) (n : Nat) : Box := h.mbx[n % 8]'(Nat.mod_lt _ (by decide))
def setBox (h : Hw) (n : Nat) (b : Box) : Hw := { h with mbx := h.mbx.set (n % 8) b (Nat.mod_lt _ (by decide)) }

def boxFull (h : Hw) (n : Nat) : Bool := (h.box n).msg.isSome

/-- The receiver of a mailbox (R477): 0 host, 1 core, 2 Etchers. -/
def receiver (h : Hw) (n : Nat) : Nat := h.f R.MBX_RCV (2 * (n % 8) + 1) (2 * (n % 8))

/-- The mailbox is closed (R488). -/
def boxClosed (h : Hw) (n : Nat) : Bool :=
  !h.b R.PWR_WAKEEN 10 && h.receiver n = 1 && !h.up .core && !h.b R.PWR_REQ 3

/-- A message is accepted (R479, R482): header, LASTSND, count, ARRIVEn; one for the core wakes it (R46, R488). -/
def boxAccept (h : Hw) (snd n len : Nat) (data : List Word) : Hw :=
  let c := (h.box n).count + 1
  let b : Box :=
    { msg := some (wd (snd * 256 + len * 16 + c.toNat), (List.range len).map fun i => data.getD i 0), lastSnd := snd, count := c }
  let h1 := (h.setBox n b).raise 6 (n % 8)
  if h.b R.PWR_WAKEEN 10 && h.receiver n = 1 && !h.b R.PWR_REQ 3 then h1.wake 4 (n % 8) 8 else h1

/-- A commit tests full and closed before LEN (R480, R14); true is a bus error. -/
def boxCommit (h : Hw) (snd n len : Nat) (data : List Word) : Hw × Bool :=
  if h.boxFull n || h.boxClosed n then (h, true)
  else if 8 < len then (h.setBits R.MBX_STAT 0x0800, false)
  else (h.boxAccept snd n len data, false)

/-- The nine words of `MBX.MSGn` and its data (R483). -/
def boxWords (h : Hw) (n : Nat) : List Word :=
  match (h.box n).msg with
  | none => List.replicate 9 0
  | some (hd, ds) => hd :: (List.range 8).map fun i => ds.getD i 0

/-- `MBX.INFOn` (R500). -/
def boxInfo (h : Hw) (n : Nat) : Nat :=
  (h.box n).lastSnd * 256 + (if h.boxFull n then 128 else 0) + (h.box n).count.toNat

/-- The receiver code whose mailboxes a party may release (R477). -/
def relClass : Party → Nat
  | .spi => 0
  | .twi0 => 0
  | .remote => 0
  | .core => 1
  | .etch _ => 2

/-- A mailbox empties on an accepted release (R484). -/
def boxEmpty (h : Hw) (n : Nat) : Hw := (h.setBox n { h.box n with msg := none }).raise 6 (8 + n % 8)

/-- The writes to `MBX.REL` of one V-cycle, each judged against its own right (R484, R487). -/
def boxRelease (h : Hw) (ws : List (Party × Word)) : Hw :=
  let bits := fun (n : Nat) (may : Bool) =>
    ws.any fun w => w.2.getLsbD n && (relClass w.1 = h.receiver n) == may
  (List.range 8).foldl (fun g n =>
    if h.boxFull n then
      let g1 := if bits n false then g.setBits R.MBX_STAT 0x0400 else g
      if bits n true then g1.boxEmpty n else g1
    else g) h

/-- A write to `MBX.RCV` (R477). -/
def rcvWrite (h : Hw) (v : Word) : Hw :=
  if (List.range 8).any fun n => fld v (2 * n + 1) (2 * n) = 3 then h.setBits R.MBX_STAT 0x0800
  else h.setReg R.MBX_RCV v

/-- One bit per mailbox. -/
def boxMask (p : Nat → Bool) : Nat := (List.range 8).foldl (fun m n => if p n then m + 2 ^ n else m) 0

end Hw
end Sys2Proof.Machine
end

