-- ==== Sys2Proof/Machine/Twi.lean ====
section
/-!
DEFINITION. The two-wire blocks: bus state, configuration, timeouts, the TWI1 transfer engine (R422 to R444). What the gang
engine adds to the controller is in Gang.lean.
-/

namespace Sys2Proof.Machine

/-- A block at VIGIL up and after a block reset (R427): the bus is busy; the lines rest high. -/
def TwiBus.init (cfg : Word) : TwiBus := { busy := true, scl := true, sda := true, cfg := cfg }

def Xfer.init : Xfer := { ctlr := .idle, busy := false, nw := 0, nr := 0, tries := 0 }

namespace Hw

def twiPage (k : Fin 2) : Nat := 0x38 + k.val
def twiFlag (h : Hw) (k : Fin 2) (bit : Nat) : Hw := h.raise (twiPage k) bit
def twiBus (h : Hw) (k : Fin 2) : TwiBus := h.twi[k]
def setTwi (h : Hw) (k : Fin 2) (b : TwiBus) : Hw := { h with twi := h.twi.set k b }

/-- CFGREJ of a block: bit 2 on TWI0, bit 5 on TWI1 (R443, R444). -/
def twiReject (h : Hw) (k : Fin 2) : Hw := h.twiFlag k (if k = 0 then 2 else 5)

/-- A write to `TWIn.CFG` (R425): MODE 3 or FILT above the limit of the written MODE is rejected. -/
def twiCfgWrite (h : Hw) (k : Fin 2) (v : Word) : Hw :=
  let limit := [24, 4, 0].getD (fld v 1 0) 0
  if fld v 1 0 = 3 || limit < fld v 12 8 then h.twiReject k
  else h.setReg (twiPage k * 256 + 0x10) (v &&& (if k = 0 then 0x1F03 else 0x1F13))

/-- TOCNT counts a timeout (R432). -/
def twiCount (h : Hw) (k : Fin 2) : Hw := h.count (if k = 0 then R.TWI0_TOCNT else R.TWI1_TOCNT)

/-- `TWIn.TOUT` fields (R431). -/
def twiTout (h : Hw) (k : Fin 2) (sda : Bool) : Nat :=
  fld (h.reg (twiPage k * 256 + 0x11)) (if sda then 15 else 7) (if sda then 8 else 0)

/-- A recognized line level (R427): high on a free bus, low after the timeout that says so; in the middle of what happens on a
busy bus the moment of the read decides, which the model leaves free (log entry 14). -/
def twiLevel (h : Hw) (k : Fin 2) (lvl : Bool) (i : Nat) : Bool := lvl && (!(h.twiBus k).busy || h.open' i % 2 == 1)

/-- Low bits of `TWIn.STAT`. -/
def twiStat (h : Hw) (k : Fin 2) : Nat :=
  let b := h.twiBus k
  (if h.twiLevel k b.sda (31 + k.val) then 4 else 0) + (if h.twiLevel k b.scl (33 + k.val) then 2 else 0)
    + (if b.busy then 1 else 0) +
    (if k = 1 then (match h.xfer.ctlr with | .idle => 0 | .gang => 8 | .engine => 16) + (if h.xfer.busy then 32 else 0) else 0)

/-! ### The transfer engine -/

/-- A GO that R438 rejects, for the written command word. -/
def xferBad (h : Hw) (v : Word) : Bool :=
  let a := h.f R.TWI1_XADDR 6 0
  h.xfer.busy || 32 < fld v 13 8 || 32 < fld v 5 0 || a < 8 || 0x78 ≤ a || a = 0x50 + h.gang.gid.toNat

/-- A write to `TWI1.XCMD` (R437, R438): with GO the command is checked as written; a rejected write changes no field. -/
def xcmdWrite (h : Hw) (v : Word) : Hw :=
  if v.getLsbD 15 then
    if h.xferBad v then h.twiReject 1
    else { h.setReg R.TWI1_XCMD (v &&& 0x7F3F) with
      xfer := { h.xfer with busy := true, nw := fld v 13 8, nr := fld v 5 0, tries := 0 } }
  else h.setReg R.TWI1_XCMD (v &&& 0x7F3F)

/-- A write to XADDR or the buffer is rejected while XBUSY = 1 (R438). -/
def xbufWrite (h : Hw) (a : Nat) (v : Word) : Hw := if h.xfer.busy then h.twiReject 1 else h.setReg a v

/-- A transfer of the engine ends (R440). -/
def xferEnd (h : Hw) (result bytes : Nat) : Hw :=
  let h1 := h.setReg R.TWI1_XSTAT (wd (result * 4096 + bytes % 64))
  let h2 := { h1 with xfer := { h1.xfer with
    busy := false, tries := 0, ctlr := if h1.xfer.ctlr = Ctlr.engine then Ctlr.idle else h1.xfer.ctlr } }
  h2.twiFlag 1 2

/-- Byte `i` of the buffer (R439). -/
def xbufByte (h : Hw) (i : Nat) : Nat :=
  let w := h.reg (R.TWI1_XBUF (i / 2))
  if i % 2 = 0 then fld w 15 8 else fld w 7 0

/-- A read byte stored in the buffer (R439). -/
def xbufPut (h : Hw) (i : Nat) (b : Byte) : Hw :=
  let a := R.TWI1_XBUF (i / 2)
  if i % 2 = 0 then h.setF a 15 8 b.toNat else h.setF a 7 0 b.toNat

/-- The engine's transfer ends on the bus with XDONE (R440). A read byte that the target does not drive reads as ones. -/
def xferDone (h : Hw) (e : XEnd) : Hw :=
  if h.xfer.ctlr ≠ .engine then h
  else
    let nw := h.xfer.nw
    let nr := h.xfer.nr
    match e with
    | .done data =>
      let h1 := (List.range nr).foldl (fun g i => g.xbufPut i (data.getD i 0xFF)) h
      h1.xferEnd 0 (nw + nr)
    | .addrNack second => h.xferEnd 1 (if second && 0 < nr then nw else 0)
    | .byteNack k => h.xferEnd 2 (min k (nw - 1))

end Hw
end Sys2Proof.Machine
end

