-- ==== Sys2Proof/Machine/Gang.lean ====
section
/-!
DEFINITION. The gang engine (R445 to R475) and its use of the TWI1 controller (R432, R434, R436, R449).
-/

namespace Sys2Proof.Machine

def Peer.init : Peer := { serial := 0, heard := none, excl := 0, dissent := false }

/-- The engine after a reset or a block reset (R62, R474): ALONE, in its backoff. -/
def Gang.init (gid : BitVec 4) : Gang :=
  { st := .alone, gid := gid, backoff := true, leader := none, peers := Vector.replicate 16 Peer.init, heardRoster := 0
    leaderHello := false, leaderMiss := 0, leaderFrozen := false, lcword := 0, cword := 0, dup := false, tdiss := false
    cdiss := false, solst := 0, solC := 0, solAt := 0, outbox := [], cur := none, capture := none, epgo := none
    epLow := false, rlyBusy := false }

def GangSt.code : GangSt → Nat
  | .alone => 0
  | .joining => 1
  | .concord => 2
  | .dissent => 3

/-- The CRC of R134 over bytes. -/
def crcBytes (bs : List Byte) : Word := bs.foldl (fun c b => crcBits 8 (c ^^^ ((b.setWidth 16 : Word) <<< 8))) 0xFFFF

/-- `k` bit steps of the reflected CRC-32 (R455). -/
def crc32Bits : Nat → BitVec 32 → BitVec 32
  | 0, c => c
  | k + 1, c => crc32Bits k (if c.getLsbD 0 then (c >>> 1) ^^^ 0xEDB88320 else c >>> 1)

/-- The CRC-32 of bytes (R455). -/
def crc32 (bs : List Byte) : BitVec 32 :=
  bs.foldl (fun c b => crc32Bits 8 (c ^^^ b.setWidth 32)) 0xFFFFFFFF ^^^ 0xFFFFFFFF

/-- The bytes of a number, high byte first. -/
def bytesBE (n k : Nat) : List Byte := (List.range k).map fun i => BitVec.ofNat 8 (n / 256 ^ (k - 1 - i))

/-- B of the backoff (R451): bits 1:0 of the CRC-32 of the serial. -/
def backoffB : Nat := (crc32 (bytesBE Config.serial.toNat 8)).toNat % 4

/-- A VETO or a WAKE, which is retried for 50 ms (R449). -/
def GangMsg.lasting (m : GangMsg) : Bool := m.typ = 4 || m.typ = 5

namespace Hw

def gangFlag (h : Hw) (bit : Nat) : Hw := h.raise 0x3A bit
def gid (h : Hw) : Nat := h.gang.gid.toNat

/-- The engine takes part (R446). -/
def gangOn (h : Hw) : Bool := h.vigil && h.enabled 0x3A && !h.isStopping 0x3A

def leads (h : Hw) : Bool := h.gang.leader == some h.gid

def peer (h : Hw) (k : Nat) : Peer := h.gang.peers[k % 16]'(Nat.mod_lt _ (by decide))
def setPeer (h : Hw) (k : Nat) (p : Peer) : Hw :=
  { h with gang := { h.gang with peers := h.gang.peers.set (k % 16) p (Nat.mod_lt _ (by decide)) } }

/-- The GIDs in the leader's own roster (R453, R454). -/
def ownRoster (h : Hw) : List Nat :=
  (List.range 16).filter fun k => k != h.gid && (h.peer k).heard.isSome && (h.peer k).excl == 0

/-- A mask of GIDs. -/
def gidMask (ks : List Nat) : Nat := ks.foldl (fun m k => m ||| 2 ^ k) 0

/-- `GANG.ROSTER`: the own roster of the leader, or the one last received. -/
def rosterMask (h : Hw) : Nat := if h.leads then gidMask h.ownRoster else h.gang.heardRoster.toNat

/-- Every other member it knows (R447). -/
def known (h : Hw) : List Nat :=
  (List.range 16).filter fun k => k != h.gid && (h.rosterMask.testBit k || h.gang.leader == some k)

/-- The consistency word is frozen (R456). -/
def frozen (h : Hw) : Bool := !(h.up .sense && h.up .time)

/-! ### Sending (R447, R449, R450) -/

/-- A message waits for the bus: address, TYPE, GID, payload, CRC. -/
def gangSend (h : Hw) (typ dst : Nat) (payload : List Byte) : Hw :=
  let m : List Byte := BitVec.ofNat 8 typ :: BitVec.ofNat 8 h.gid :: payload
  let crc := crcBytes (BitVec.ofNat 8 ((0x50 + dst) * 2) :: m)
  let msg : GangMsg := { typ := typ, dst := dst, bytes := m ++ bytesBE crc.toNat 2, tries := 0 }
  { h with gang := { h.gang with outbox := h.gang.outbox ++ [msg] } }

def gangSendAll (h : Hw) (typ : Nat) (dsts : List Nat) (payload : List Byte) : Hw :=
  dsts.foldl (fun g k => g.gangSend typ k payload) h

def bit (b : Bool) (i : Nat) : Nat := if b then 2 ^ i else 0

/-- The payload of a HELLO to a GID (R450). -/
def helloPayload (h : Hw) (dst : Nat) : List Byte :=
  let g := h.gang
  bytesBE (g.st.code + bit h.leads 2 + bit g.dup 3 + bit g.tdiss 4 + bit g.cdiss 5 + bit (g.solst = 2) 6 + bit h.frozen 7) 1
    ++ bytesBE (g.leader.getD 0 + bit g.leader.isSome 7) 1 ++ bytesBE g.cword.toNat 4 ++ bytesBE Config.serial.toNat 8
    ++ bytesBE (h.peer dst).serial.toNat 4 ++ bytesBE (if h.leads then gidMask h.ownRoster else 0) 2

/-- The HELLO of a period (R447, R454): to the leader, to each roster member, or with DUPGID to each address that answers. -/
def helloSend (h : Hw) (acks : BitVec 16) : Hw :=
  let dsts := if h.gang.dup then (List.range 16).filter fun k => k != h.gid && acks.getLsbD k
    else if h.leads then h.ownRoster
    else h.gang.leader.toList
  dsts.foldl (fun g k => g.gangSend 1 k (g.helloPayload k)) h

/-! ### Solstice, the parts that others call (R466, R467, R469) -/

def solId (h : Hw) : Nat := h.f R.GANG_SOLID 7 0

/-- A proposal is cancelled (R467). -/
def solCancel (h : Hw) : Hw := { h with gang := { h.gang with solst := 0 } }.gangFlag 6

/-- VETO to every other member it knows, and the own proposal is cancelled (R467). -/
def veto (h : Hw) (cause : Nat) : Hw :=
  (h.gangSendAll 4 h.known (bytesBE h.solId 1 ++ bytesBE cause 1)).solCancel

/-- A proposal pending when `cause` arises is vetoed (R467). -/
def vetoIf (h : Hw) (cause : Nat) : Hw := if h.gang.solst = 1 then h.veto cause else h

/-- The member leaves the solstice (R469). -/
def solLeave (h : Hw) : Hw := { h with gang := { h.gang with solst := 0 } }.gangFlag 7

/-- The gang WAKE message as a wake source (R46); it is no wake request of R466. -/
def gangWakeMsg (h : Hw) : Hw := { h.wake 3 0 h.wakeProfile with wakeReq := h.wakeReq }

/-- A wake request (R466) at the engine: a veto before C, a WAKE to the others after it (R467, R469). -/
def gangWakeRequest (h : Hw) : Hw :=
  if h.gang.solst = 1 then h.veto 1
  else if h.gang.solst = 2 then (h.gangSendAll 5 h.known (bytesBE h.solId 1)).solLeave
  else h

/-! ### State (R453, R457, R458) -/

/-- A change of state (R457, R458, R510): IFLAG.STATE, a GANG entry, and on entry to DISSENT EV60, its flag and a veto. -/
def gangState (h : Hw) (s : GangSt) : Hw :=
  if h.gang.st = s then h
  else
    let h1 := { h with gang := { h.gang with st := s } }.gangFlag 0
    let h2 := if h1.b R.DIARY_SRCEN 2 then
        h1.diaryAdd 10 (wd s.code) (wd (bit h1.gang.leader.isSome 15 + h1.gang.leader.getD 0))
      else h1
    if s = .dissent then ((h2.event 60).gangFlag 15).vetoIf 3 else h2

/-- A change of leader (R453, R467). -/
def setLeader (h : Hw) (l : Option Nat) : Hw :=
  if h.gang.leader = l then h
  else
    let h1 := { h with gang := { h.gang with leader := l, leaderHello := false, leaderMiss := 0 } }.gangFlag 1
    let h2 := if l = some h.gid then h1 else h1.gangState .joining
    h2.vetoIf 6

/-- The rows of R457 in order: the state and CDISS. -/
def gangNext (h : Hw) : GangSt × Bool :=
  let g := h.gang
  if g.leader.isNone || (h.leads && h.ownRoster.isEmpty) then (.alone, false)
  else if g.dup then (.dissent, false)
  else if h.leads then (.concord, false)
  else if g.tdiss then (.dissent, false)
  else if !g.leaderHello then (.joining, false)
  else if h.frozen || g.leaderFrozen then (if g.st = .alone then .joining else g.st, g.cdiss)
  else if g.cword = g.lcword then (.concord, false)
  else if h.pwr.draft then (.joining, false)
  else (.dissent, true)

def gangEval (h : Hw) : Hw :=
  let r := h.gangNext
  { h with gang := { h.gang with cdiss := r.2 } }.gangState r.1

/-! ### Election (R451 to R454) -/

/-- The probes of R452: `acks` holds the addresses 0x50 + k that acknowledge. -/
def probe (h : Hw) (acks : BitVec 16) : Hw :=
  let lim := min h.gid (h.gang.leader.getD 16)
  match (List.range lim).find? fun k => acks.getLsbD k && (h.peer k).excl == 0 with
  | some k => h.setLeader (some k)
  | none => if h.gang.leader.isNone && !h.gang.dup then h.setLeader (some h.gid) else h

/-- The backoff ends (R451): probes, HELLO, state. -/
def backoffEnd (h : Hw) (acks : BitVec 16) : Hw :=
  if h.gangOn && h.gang.backoff then
    (({ h with gang := { h.gang with backoff := false } }.probe acks).helloSend acks).gangEval
  else h

/-- One period passes for a peer (R453, R454). -/
def peerAge (p : Peer) : Peer :=
  { p with heard := p.heard.bind fun k => if k + 1 < 3 then some (k + 1) else none, excl := p.excl - 1 }

/-- The timeouts of a HELLO period (R453). -/
def gangAge (h : Hw) : Hw :=
  let m := h.gang.leaderMiss + 1
  let h1 := { h with gang := { h.gang with peers := h.gang.peers.map peerAge, leaderMiss := m } }
  if 3 ≤ m && h1.gang.leader.isSome && !h1.leads then h1.setLeader none else h1

/-- A HELLO period starts (R452): probes, HELLO, timeouts, state. -/
def helloPeriod (h : Hw) (acks : BitVec 16) : Hw :=
  if h.gangOn && !h.gang.backoff then (((h.probe acks).helloSend acks).gangAge).gangEval else h

/-- DUPGID is set (R454); a leader with it leads no more. -/
def setDup (h : Hw) : Hw :=
  let h1 := if h.gang.dup then h else { h with gang := { h.gang with dup := true } }.gangFlag 2
  if h1.leads then h1.setLeader none else h1

/-- A message is discarded (R448). -/
def rxDiscard (h : Hw) (counted : Bool) : Hw := (if counted then h.count R.GANG_RXERRCNT else h).gangFlag 14

/-- A received message counts, or is discarded (R446, R448). -/
def gangReceive (h : Hw) (rx : RxMsg) (act : Hw → Hw) : Hw :=
  if !h.vigil then h
  else if !h.gangOn then h.rxDiscard false
  else if rx ≠ .whole then h.rxDiscard true
  else act h

/-- What a HELLO of another GID records (R453, R454). -/
def helloPeer (h : Hw) (m : Hello) : Hw :=
  let p := h.peer m.snd.val
  let h1 := h.setPeer m.snd.val
    { serial := m.serial.setWidth 32, heard := some 0, excl := if m.dup then 3 else p.excl, dissent := m.st = 3 }
  if m.dup && h1.gang.leader = some m.snd.val then h1.setLeader none else h1

/-- What the leader's HELLO tells a member (R453, R456, R457). -/
def helloLeader (h : Hw) (m : Hello) : Hw :=
  if h.gang.leader = some m.snd.val then
    { h with gang := { h.gang with
        leaderHello := true, leaderMiss := 0, leaderFrozen := m.frozen, lcword := m.cword, heardRoster := m.roster } }
  else h

/-- A HELLO with SLEEP = 0 from a known member 400,000 V-cycles or more after C wakes (R469). -/
def helloWake (h : Hw) (m : Hello) : Hw :=
  if h.gang.solst = 2 && !m.sleep && h.known.contains m.snd.val && h.gang.solAt + 400000 ≤ h.now then
    h.gangWakeMsg.solLeave
  else h

/-- A HELLO (R453, R454, R457, R469). -/
def helloReceive (h : Hw) (m : Hello) : Hw :=
  if m.snd.val = h.gid then h.setDup.gangEval
  else
    let h1 := if m.dser ≠ 0 && m.dser ≠ Config.serial.setWidth 32 then h.setDup else h
    let h2 := h1.helloPeer m
    let better := (h2.peer m.snd.val).excl = 0 && (h2.gang.leader.any fun l => m.snd.val < l)
    let h3 := if better then h2.setLeader (some m.snd.val) else h2
    ((h3.helloLeader m).helloWake m).gangEval

/-! ### The consistency word (R455, R456) -/

/-- The registers of R455 in order. -/
def cwordRegs : List Nat :=
  [R.IDENT_FWVER, R.GANG_CEPOCH, R.GANG_CFG, R.GANG_EPOFS_L, R.GANG_EPOFS_H, R.GANG_TTOL, R.DEC_ODR, R.DEC_RESP,
   R.DEC_GRIDCFG, R.DEC_GRIDOFS_L, R.DEC_GRIDOFS_H, R.AFE_ARANGE, R.AFE_BLEND, R.AFE_GRANGE, R.AFE_CHEN, R.CAL_ROLES,
   R.ALM_BIND 0, R.ALM_BIND 1, R.ALM_BIND 2, R.ALM_BIND 3]

/-- The value a listed register reads. -/
def cwordReg (h : Hw) (a : Nat) : Word := if a = R.IDENT_FWVER then Config.fwver else h.reg a

def cwordNow (h : Hw) : BitVec 32 := crc32 (cwordRegs.flatMap fun a => bytesBE (h.cwordReg a).toNat 2)

/-- The word is recomputed while SENSE and TIME are powered (R456). -/
def cwordRecompute (h : Hw) : Hw :=
  if h.vigil && !h.frozen then { h with gang := { h.gang with cword := h.cwordNow } } else h

/-! ### EPOCH and the time check (R461 to R463) -/

/-- The sample almanac's time at an EPOCH falling edge (R462). -/
def gangCapture (h : Hw) : Hw :=
  if h.up .time then { h with gang := { h.gang with capture := some (almNs (h.almOf h.sampAlm), h.now) } } else h

/-- The leader may drive EPOCH (R461). -/
def mayDrive (h : Hw) : Bool :=
  h.gangOn && h.leads && h.gang.st = .concord && !h.pwr.draft && h.b R.GANG_CFG 0

/-- A write of 1 to EPGO (R461). -/
def epgoWrite (h : Hw) : Hw :=
  if h.mayDrive then { h with gang := { h.gang with epgo := some h.now } } else h.gangFlag 10

/-- EPOFS of a whole second of the sample almanac is a drive instant (R461): the first one at least 2 ms after EPGO, or one of
the periodic ones. -/
def driveDue (h : Hw) : Bool :=
  let per := h.f R.GANG_CFG 15 8
  (h.gang.epgo.any fun a => a + 16000 ≤ h.now) || (per != 0 && almNs (h.almOf h.sampAlm) / 1000000000 % per == 0)

/-- The leader's sample almanac reaches a drive instant (R461). -/
def epochDrive (h : Hw) : Hw :=
  if h.mayDrive && h.up .time && h.driveDue then
    { h with gang := { h.gang with
        epLow := true, epgo := h.gang.epgo.filter fun a => h.now < a + 16000 } }.gangFlag 9
  else h

/-- The leader releases EPOCH and sends TCHK with its capture (R461, R462). -/
def epochRelease (h : Hw) : Hw :=
  if !h.gang.epLow then h
  else
    let h1 := { h with gang := { h.gang with epLow := false } }
    match h1.gang.capture with
    | none => h1
    | some (t, _) =>
      h1.gangSendAll 2 (if h1.leads then h1.ownRoster else []) (bytesBE (t / 1000000000) 6 ++ bytesBE (t % 1000000000) 4)

/-- A TCHK (R463). -/
def tchkReceive (h : Hw) (sec ns : Nat) : Hw :=
  match h.gang.capture with
  | none => h
  | some (t, at') =>
    if at' + 400000 < h.now then h
    else
      let d := clampI (-2147483647) 2147483647 ((t : Int) - (sec * 1000000000 + ns : Nat))
      let raw : Int := (t : Int) - (sec * 1000000000 + ns : Nat)
      let tol := (h.reg R.GANG_TTOL).toNat
      let h1 := ((h.setReg R.GANG_TCDIFF_L (wdI d)).setReg R.GANG_TCDIFF_H (wdI (d / 65536))).gangFlag 3
      { h1 with gang := { h1.gang with tdiss := tol ≠ 0 && tol < raw.natAbs } }.gangEval

/-! ### Solstice (R464 to R470) -/

/-- The first condition of R464 that does not hold. -/
def solWhy (h : Hw) : Option Nat :=
  if !h.leads then some 1
  else if h.gang.st ≠ .concord then some 2
  else if h.ownRoster.any fun k => (h.peer k).dissent then some 3
  else if !h.b R.GANG_SOLCFG 15 then some 4
  else if h.pwr.draft then some 5
  else if h.gang.solst ≠ 0 then some 6
  else none

/-- A write of 1 to SOLREQ (R464). -/
def solRequest (h : Hw) : Hw :=
  match h.solWhy with
  | some w => (h.setF R.GANG_SOLID 11 8 w).gangFlag 8
  | none =>
    let id := (h.solId + 1) % 256
    let lead := max 100 (min 1000 (h.f R.GANG_SOLCFG 9 0))
    let c := almNs (h.almOf h.sampAlm) + lead * 1000000
    let h1 := (h.setF R.GANG_SOLID 7 0 id).gangFlag 4
    let h2 := { h1 with gang := { h1.gang with solst := 1, solC := c } }
    h2.gangSendAll 3 h2.ownRoster (bytesBE id 1 ++ bytesBE (c / 1000000000) 6 ++ bytesBE (c % 1000000000) 4)

/-- A PROPOSE (R465). -/
def proposeReceive (h : Hw) (snd id sec ns : Nat) : Hw :=
  if h.gang.leader ≠ some snd || h.leads then h
  else
    let c := sec * 1000000000 + ns
    let refuse := fun cause => h.gangSendAll 4 h.known (bytesBE id 1 ++ bytesBE cause 1)
    if !h.b R.GANG_SOLCFG 15 then refuse 2
    else if h.gang.st = .dissent then refuse 3
    else if c < almNs (h.almOf h.sampAlm) then refuse 4
    else
      let h1 := h.setF R.GANG_SOLID 7 0 id
      { h1 with gang := { h1.gang with solst := 1, solC := c } }.gangFlag 4

/-- A VETO (R467, R469). -/
def vetoReceive (h : Hw) (id : Nat) : Hw :=
  if id ≠ h.solId then h
  else if h.gang.solst = 1 then h.solCancel
  else if h.gang.solst = 2 then h.gangWakeMsg.solLeave
  else h

/-- A WAKE: a wake source always (R46); for the recorded SOLID it also ends the proposal or the solstice (R467, R469). -/
def wakeReceive (h : Hw) (id : Nat) : Hw :=
  let g := h.gangWakeMsg
  if id ≠ g.solId then g
  else if g.gang.solst = 1 then g.solCancel
  else if g.gang.solst = 2 then g.solLeave
  else g

/-- The member commits to the solstice (R468): TIME only is requested. -/
def solCommit (h : Hw) : Hw :=
  if h.gang.solst = 1 && h.up .time then
    { h.setReg R.PWR_REQ 1 with gang := { h.gang with solst := 2, solAt := h.now } }.gangFlag 5
  else h

/-- A write of 1 to `GANG.CTRL.WAKE` (R466). -/
def gangWakeWrite (h : Hw) : Hw := { h.setBits R.PWR_REQ (h.wakeProfile % 16) with wakeReq := true }

/-! ### Relay (R471 to R473) -/

def relayEnd (h : Hw) (result : Nat) : Hw :=
  { h.setReg R.GANG_RLYSTAT (wd result) with gang := { h.gang with rlyBusy := false } }.gangFlag 11

/-- A write to `GANG.RLYCTL` (R471). -/
def rlyctlWrite (h : Hw) (v : Word) : Hw :=
  let len := fld v 3 0
  let dst := h.f R.GANG_RLYDST 11 8
  if !v.getLsbD 15 then h.setReg R.GANG_RLYCTL (v &&& 0x000F)
  else if h.gang.rlyBusy || len = 0 || 8 < len || dst = h.gid || !h.gangOn then h.gangFlag 12
  else
    let h1 := h.setReg R.GANG_RLYCTL (v &&& 0x000F)
    let data := (List.range len).flatMap fun i => bytesBE (h.reg (R.GANG_RLYD0 + i)).toNat 2
    { h1 with gang := { h1.gang with rlyBusy := true } }.gangSend 6 dst
      (bytesBE (h.f R.GANG_RLYDST 2 0) 1 ++ bytesBE len 1 ++ data)

/-- A write to RLYDST or RLYD is rejected while BUSY = 1 (R471). -/
def rlyWrite (h : Hw) (a : Nat) (v : Word) : Hw := if h.gang.rlyBusy then h.gangFlag 12 else h.setReg a v

/-- A RELAY (R448, R472): refused at byte 2 by a full or closed mailbox, else written with sender 0x10 + GID. -/
def relayReceive (h : Hw) (rx : RxMsg) (snd : Fin 16) (mb : Fin 8) (data : List Word) : Hw :=
  if !h.vigil then h
  else if !h.gangOn || h.boxFull mb.val || h.boxClosed mb.val then h.rxDiscard false
  else if rx ≠ .whole || data.length = 0 || 8 < data.length then h.rxDiscard true
  else
    let r := h.boxCommit (0x10 + snd.val) mb.val data.length data
    if r.2 then r.1.rxDiscard true else r.1

/-! ### The bus (R432, R434, R436, R449) -/

/-- A message is dropped (R449): LOSTCNT, MSGLOST; a relay ends with `result`, and a PROPOSE is vetoed with CAUSE 5. -/
def dropMsg (h : Hw) (m : GangMsg) (result : Nat) : Hw :=
  let h1 := (h.count R.GANG_LOSTCNT).gangFlag 13
  let h2 := if m.typ = 6 then h1.relayEnd result else h1
  if m.typ = 3 then h2.vetoIf 5 else h2

/-- The controller is free of the gang engine. -/
def gangOffBus (h : Hw) : Hw :=
  { h with gang := { h.gang with cur := none }
           xfer := { h.xfer with ctlr := if h.xfer.ctlr = Ctlr.gang then Ctlr.idle else h.xfer.ctlr } }

/-- The message waits again, in front. -/
def requeue (h : Hw) (m : GangMsg) : Hw := { h with gang := { h.gang with outbox := m :: h.gang.outbox } }

/-- The message on the bus ends (R449, R473). -/
def gangMsgEnd (h : Hw) (e : GangEnd) : Hw :=
  match h.gang.cur with
  | none => h
  | some m =>
    let h1 := h.gangOffBus
    match e with
    | .delivered => if m.typ = 6 then h1.relayEnd 0 else h1
    | .addrNack =>
      let h2 := h1.count R.GANG_NACKCNT
      if m.lasting then h2.requeue m else h2.dropMsg m 1
    | .byteNack k => if m.lasting then h1.requeue m else h1.dropMsg m (if k = 2 then 2 else 3)

/-- The message on the bus is lost to arbitration, a timeout or a block reset of TWI1 (R436, R449, R444). -/
def gangMsgLost (h : Hw) : Hw :=
  match h.gang.cur with
  | none => h
  | some m =>
    let h1 := h.gangOffBus
    if m.lasting || m.tries < 8 then h1.requeue { m with tries := m.tries + 1 } else h1.dropMsg m 4

/-- The messages that may go: the engine sends nothing while it is off and during its backoff (R446, R451). -/
def gangQueue (h : Hw) : List GangMsg := if h.gangOn && !h.gang.backoff then h.gang.outbox else []

/-- The bus is free: the waiting transfer of the gang engine, or else of the transfer engine, starts (R434). -/
def controllerStart (h : Hw) : Hw :=
  let b := h.twiBus 1
  if b.busy || h.xfer.ctlr ≠ Ctlr.idle || !h.padsOn then h
  else
    match h.gangQueue with
    | m :: t =>
      { h.setTwi 1 { b with busy := true } with
        gang := { h.gang with outbox := t, cur := some m }, xfer := { h.xfer with ctlr := Ctlr.gang } }
    | [] =>
      if h.xfer.busy then { h.setTwi 1 { b with busy := true } with xfer := { h.xfer with ctlr := Ctlr.engine } } else h

/-- The controller loses arbitration after `bytes` data bytes (R436, R441). -/
def arbLost (h : Hw) (bytes : Nat) : Hw :=
  let h1 := (h.count R.TWI1_ARBCNT).twiFlag 1 3
  match h.xfer.ctlr with
  | .idle => h
  | .gang => h1.gangMsgLost
  | .engine =>
    if h.f R.TWI1_XCFG 3 0 ≤ h.xfer.tries then h1.xferEnd 3 bytes
    else { h1 with xfer := { h1.xfer with ctlr := Ctlr.idle, tries := h1.xfer.tries + 1 } }

/-- A bus becomes free (R427, R425); a gang message that was on TWI1 has ended as `e` says. -/
def busFree (h : Hw) (k : Fin 2) (e : GangEnd) : Hw :=
  if !h.vigil then h
  else
    let h1 := h.setTwi k { busy := false, scl := true, sda := true, cfg := h.reg (twiPage k * 256 + 0x10) }
    if k = 1 then h1.gangMsgEnd e else h1

/-- TWI1 abandons what it takes part in (R432): a transfer of the engine ends with a result, a gang message is lost. -/
def twi1Abandon (h : Hw) (result bytes : Nat) : Hw :=
  match h.xfer.ctlr with
  | .idle => h
  | .gang => h.gangMsgLost
  | .engine => h.xferEnd result bytes

/-- The SCL-low timeout (R431, R432). -/
def sclTimeout (h : Hw) (k : Fin 2) (bytes : Nat) : Hw :=
  if !h.vigil || h.twiTout k false = 0 then h
  else
    let h1 := ((h.setTwi k { h.twiBus k with busy := true, scl := false }).twiCount k).twiFlag k 0
    if k = 1 then h1.twi1Abandon 4 bytes else h1

/-- The SDA-low timeout (R431 to R433); on TWI1 with RECOVER = 1 a bus clear follows, and `high` says that SDA is recognized
high within its pulses. -/
def sdaTimeout (h : Hw) (k : Fin 2) (bytes : Nat) (high : Bool) : Hw :=
  if !h.vigil || h.twiTout k true = 0 then h
  else
    let h1 := ((h.setTwi k { busy := true, scl := true, sda := false, cfg := (h.twiBus k).cfg }).twiCount k).twiFlag k 1
    if k = 0 then h1
    else
      let h2 := h1.twi1Abandon 5 bytes
      if h2.b R.TWI1_CFG 4 && high then (h2.setTwi 1 { h2.twiBus 1 with sda := true }).twiFlag 1 4 else h2

/-- The 50 ms of a VETO or WAKE end without delivery (R449): the oldest one is dropped. -/
def msgLost (h : Hw) : Hw :=
  match h.gang.cur with
  | some m =>
    if m.lasting then h.gangOffBus.dropMsg m 0
    else
      match h.gang.outbox.find? GangMsg.lasting with
      | some o => { h with gang := { h.gang with outbox := h.gang.outbox.erase o } }.dropMsg o 0
      | none => h
  | none =>
    match h.gang.outbox.find? GangMsg.lasting with
    | some o => { h with gang := { h.gang with outbox := h.gang.outbox.erase o } }.dropMsg o 0
    | none => h

/-- A relay ends on the bus (R473). -/
def relayDone (h : Hw) (e : GangEnd) : Hw :=
  if (h.gang.cur.map (·.typ)) = some 6 then h.gangMsgEnd e else h

/-! ### Enable and registers -/

/-- The engine stops (R446): ALONE, no leader, roster or solstice; an EN cycle clears DUPGID (R454). Of the messages that wait
a relay goes on waiting, and the engine's own are discarded with what they were about (log entry 107). -/
def gangStop (h : Hw) : Hw :=
  let g := h.gang
  let h1 := { h with gang :=
    { Gang.init g.gid with
      st := g.st, cword := g.cword, capture := g.capture, rlyBusy := g.rlyBusy, cur := g.cur
      outbox := g.outbox.filter (·.typ == 6) } }
  h1.gangState .alone

/-- The engine starts its backoff (R451). -/
def gangStart (h : Hw) : Hw := { h with gang := { h.gang with backoff := true } }

/-- `GANG.STAT` bits 11:0. -/
def gangStat (h : Hw) : Nat :=
  let g := h.gang
  h.gid * 256 + g.st.code * 64 + bit h.leads 5 + bit g.dup 4 + bit g.tdiss 3 + bit g.cdiss 2 + g.solst

/-- `GANG.PEERDIS` (R458). -/
def peerDis (h : Hw) : Nat := if h.leads then gidMask (h.ownRoster.filter fun k => (h.peer k).dissent) else 0

/-- A commit of `GANG.EPOFS` (R474). -/
def epofsSet (h : Hw) (vs : List Word) : Hw :=
  let v := word vs 0 + 65536 * (word vs 1 % 16384)
  if 999999999 < v then h.gangFlag 12 else (h.setReg R.GANG_EPOFS_L (wd v)).setReg R.GANG_EPOFS_H (wd (v / 65536))

end Hw
end Sys2Proof.Machine
end

