-- ==== Sys2Proof/Machine/Store.lean ====
section
/-!
DEFINITION. The configuration store: choice of copies, load, the NV image, writes (R8, R541 to R546), the key store and
zeroize (R547 to R552).
-/

namespace Sys2Proof.Machine

/-- An erased copy. -/
def Copy.empty {α : Type} (d : α) : Copy α := { st := .erased, seq := 0, data := d }

def Body.none : Body := { fields := .none, prog := .none, clocks := .none }

/-- No slot holds a key. -/
def noKeys : KeySlots := List.replicate 8 none

/-- The store as shipped (R1): the factory trim record in both copies, every other region erased. -/
def Nvs.shipped : Nvs :=
  { boot := Vector.replicate 2 (Copy.empty []), body := Vector.replicate 2 (Copy.empty Body.none)
    factory := Vector.replicate 2 { st := .good, seq := 1, data := Config.factory }, keys := Vector.replicate 2 (Copy.empty noKeys)
    bootIn := none, bootSeq := 0, image := none, loaded := false, trims := none, job := none }

def KeyStore.init : KeyStore := { slots := noKeys, kdata := Vector.replicate 3 [], zeroizing := false, klockDone := false, scanDone := false }

/-! ### Choice of copies (R543) -/

section Pick
variable {α : Type} [DecidableEq α]

/-- The identical-data row of R543. -/
def identical (v : Vector (Copy α) 2) : Bool :=
  v[0].st = .badCrc && v[1].st = .badCrc && v[0].seq = v[1].seq && v[0].data = v[1].data

/-- The code in `NVS.SRC`: 0 none, 1 A, 2 B, 3 both under the identical-data row. -/
def pickCode (v : Vector (Copy α) 2) : Nat :=
  if v[0].st = .good then (if v[1].st = .good && v[0].seq < v[1].seq then 2 else 1)
  else if v[1].st = .good then 2
  else if identical v then 3
  else 0

/-- The copy loaded. -/
def pickCopy (v : Vector (Copy α) 2) : Option (Copy α) :=
  match pickCode v with
  | 0 => none
  | 2 => some v[1]
  | _ => some v[0]

/-- The two bits of `NVS.CRCFAIL` (R543): an erased copy never sets its bit. -/
def pickFail (v : Vector (Copy α) 2) : Nat :=
  if identical v then 0
  else
    (if v[0].st = .badCrc || v[0].st = .broken then 1 else 0) + (if v[1].st = .badCrc || v[1].st = .broken then 2 else 0)

/-- The highest SEQ among the passing copies and those loaded under the identical-data row (R546); 0 when there are none. -/
def topSeq (v : Vector (Copy α) 2) (src : Nat) : Nat :=
  let s := fun (c : Copy α) => if c.st = .good || (src = 3 && c.st = .badCrc) then c.seq else 0
  max (s v[0]) (s v[1])

end Pick

/-- The regions that a write touches. -/
inductive Region
  | boot | body | keys
  deriving DecidableEq, Repr

/-- The place of a region in `NVS.SRC` and `NVS.CRCFAIL` (R566). -/
def Region.shift : Region → Nat
  | .boot => 0
  | .body => 2
  | .keys => 6

/-- The registers of the boot record in order (R542). -/
def bootRegs : List Nat :=
  [R.CLK_CFG, R.PWR_REQ, R.PWR_CFG, R.PWR_WAKEEN, R.PWR_WAKEPROF, R.PWR_VINWARN, R.REFLEX_DRAFTCFG, R.REFLEX_DRAFTTHR]

/-- The NV mask of a register. -/
def nvMask (a : Nat) : Word := wd ((descOf a).map (·.nv) |>.getD 0)

/-- The addresses of a page that hold NV fields, ascending. -/
def nvOfPage (pg : Nat) : List Nat :=
  ((List.range 256).map (pg * 256 + ·)).filter fun a => nvMask a != 0

/-- The default settings of an ordinary clock (R497): words 2 to 4 of PTP_SET_CLOCK and of PTP_SET_INTERVALS. -/
def clockDefaults : Vector Word 6 := #v[0x8080, 0xF8FE, 0xFFFF, 0x0100, 0x0000, 0x0003]

/-- The six words of clock `m` in the firmware settings of an image (R542). -/
def clockOfImage (ws : List Word) (m : Nat) : Vector Word 6 := Vector.ofFn fun i => ws.getD (6 * m + i.val) 0

namespace Hw

def nvsFlag (h : Hw) (bit : Nat) : Hw := h.raise 9 bit
def keysFlag (h : Hw) (bit : Nat) : Hw := h.raise 8 bit

/-- The store is loading or writing (R493, R548). -/
def storeBusy (h : Hw) : Bool := !h.nvs.loaded || h.nvs.job.isSome

/-- The source code of a region in force. -/
def srcOf (h : Hw) (r : Region) : Nat := h.f R.NVS_SRC (r.shift + 1) r.shift

/-! ### The NV image (R8, R49, R542) -/

/-- The stored values in force, later ones winning: the boot record and the body's fields, the lower SEQ first. -/
def nvFields (h : Hw) : List (Nat × Word) :=
  let b := bootRegs.zip (h.nvs.bootIn.getD [])
  let f := (h.nvs.image.bind (·.fields)).getD []
  if h.reg32 R.NVS_SEQ_L < h.nvs.bootSeq then f ++ b else b ++ f

/-- One stored value replaces the NV bits of its register. -/
def nvPut (h : Hw) (x : Nat × Word) : Hw :=
  let m := nvMask x.1
  h.setReg x.1 ((h.reg x.1 &&& ~~~m) ||| (x.2 &&& m))

/-- The stored values of the pages that satisfy `p` take effect. -/
def nvApply (h : Hw) (p : Nat → Bool) : Hw := (h.nvFields.filter fun x => p (x.1 / 256)).foldl nvPut h

/-- The program section of the image in force (R318). -/
def nvProgram (h : Hw) : Cells (BitVec 32) :=
  ((h.nvs.image.bind (·.prog)).getD []).foldl (fun c x => Cells.put (fun _ => 0) c x.1 x.2) []

/-- The firmware settings of the image in force, or the defaults (R497, R544). -/
def nvClocks (h : Hw) : Vector (Vector Word 6) 4 :=
  match h.nvs.image.bind (·.clocks) with
  | none => Vector.replicate 4 clockDefaults
  | some ws => Vector.ofFn fun m => clockOfImage ws m.val

/-- Loaded volatile key copies (R547). -/
def keysLoad (h : Hw) : Hw :=
  { h with keys := { h.keys with slots := ((pickCopy h.nvs.keys).map (·.data)).getD noKeys } }

/-- The boot region loads (R56, R58, R543): the record is held for the NV fields. -/
def bootLoad (h : Hw) : Hw :=
  let c := pickCopy h.nvs.boot
  { h with nvs := { h.nvs with bootIn := c.map (·.data), bootSeq := (c.map (·.seq)).getD 0 } }

/-- The registers that a load writes (R543 to R545). -/
def loadReport (h : Hw) : Hw :=
  let n := h.nvs
  let src := pickCode n.boot + 4 * pickCode n.body + 16 * pickCode n.factory + 64 * pickCode n.keys
  let fail := pickFail n.boot + 4 * pickFail n.body + 16 * pickFail n.factory + 64 * pickFail n.keys
  let seq := ((pickCopy n.body).map (·.seq)).getD 0
  let sus := pickCode n.boot = 3 || pickCode n.body = 3 || pickCode n.keys = 3
  let fsus := pickCode n.factory = 3
  let old := (pickCopy n.boot).isSome && (pickCopy n.body).isSome && n.bootSeq < seq
  let st := (if old then 128 else 0) + (if (pickCopy n.keys).isNone then 64 else 0)
    + (if (pickCopy n.body).isNone then 32 else 0) + (if fsus then 16 else 0) + (if sus then 8 else 0)
  let h1 := (((h.setReg R.NVS_SRC (wd src)).setReg R.NVS_CRCFAIL (wd fail)).setReg R.NVS_SEQ_L (wd seq)).setReg
    R.NVS_SEQ_H (wd (seq / 65536))
  (h1.setF R.NVS_STAT 7 0 st).raiseIf (sus || fsus) 9 3

/-- `NVS.STAT` bits 7:0 as read: WRITING, LOADING and LOADED follow the controller. -/
def nvsStat (h : Hw) : Nat :=
  h.f R.NVS_STAT 7 3 * 8 + (if h.nvs.job.isSome then 4 else 0) + (if h.nvs.loaded then 1 else 2)

/-! ### Writing (R495, R546) -/

/-- The key region is gated (R551): the keys are zeroized, or being zeroized. -/
def keysGated (h : Hw) : Bool := h.b R.KEYS_STAT 11 || h.keys.zeroizing

/-- The copy written first (R546): the one not in force; B when neither is, or when both were loaded as identical. -/
def firstCopy (h : Hw) (r : Region) : Fin 2 := if h.srcOf r = 2 then 0 else 1

/-- The copies of a job in the order in which they are written (R495, R546). -/
def jobSteps (h : Hw) : StoreJob → List (Region × Fin 2)
  | .save _ _ _ =>
    let b := h.firstCopy .body
    let o := h.firstCopy .boot
    [(.body, b), (.boot, o), (.body, 1 - b), (.boot, 1 - o)]
  | .confirm =>
    ([Region.boot, .body, .keys].filter fun r => h.srcOf r = 3 && (r ≠ .keys || !h.keysGated)).flatMap fun r =>
      [(r, h.firstCopy r), (r, 1 - h.firstCopy r)]
  | .erase =>
    [(.body, h.firstCopy .body), (.body, 1 - h.firstCopy .body), (.boot, h.firstCopy .boot), (.boot, 1 - h.firstCopy .boot)]
  | .key _ => [(.keys, h.firstCopy .keys), (.keys, 1 - h.firstCopy .keys)]

/-- SEQ of a key write (R546). -/
def keySeq (h : Hw) : Nat := 1 + topSeq h.nvs.keys (h.srcOf .keys)

/-- SEQ of a save (R546): one for boot and body. -/
def saveSeq (h : Hw) : Nat := 1 + max (topSeq h.nvs.boot (h.srcOf .boot)) (topSeq h.nvs.body (h.srcOf .body))

/-- One copy written and checked. -/
def writeCopy (n : Nvs) (j : StoreJob) (kseq : Nat) (s : Region × Fin 2) : Nvs :=
  match j, s.1 with
  | .save q b _, .boot => { n with boot := n.boot.set s.2 { st := .good, seq := q, data := b } }
  | .save q _ b, .body => { n with body := n.body.set s.2 { st := .good, seq := q, data := b } }
  | .save _ _ _, .keys => n
  | .confirm, .boot => { n with boot := n.boot.set s.2 { n.boot[s.2] with st := .good } }
  | .confirm, .body => { n with body := n.body.set s.2 { n.body[s.2] with st := .good } }
  | .confirm, .keys => { n with keys := n.keys.set s.2 { n.keys[s.2] with st := .good } }
  | .erase, .boot => { n with boot := n.boot.set s.2 (Copy.empty []) }
  | .erase, .body => { n with body := n.body.set s.2 (Copy.empty Body.none) }
  | .erase, .keys => n
  | .key k, .keys => { n with keys := n.keys.set s.2 { st := .good, seq := kseq, data := k } }
  | .key _, .boot => n
  | .key _, .body => n

/-- A copy left invalid by a failure or a loss of power. -/
def breakCopy (n : Nvs) (s : Region × Fin 2) : Nvs :=
  match s.1 with
  | .boot => { n with boot := n.boot.set s.2 { n.boot[s.2] with st := .broken } }
  | .body => { n with body := n.body.set s.2 { n.body[s.2] with st := .broken } }
  | .keys => { n with keys := n.keys.set s.2 { n.keys[s.2] with st := .broken } }

/-- The first `k` copies of a job are written; the next one, if there is one and `bad` says so, is left invalid. -/
def jobUpTo (h : Hw) (j : StoreJob) (k : Nat) (bad : Bool) : Nvs :=
  let steps := h.jobSteps j
  let n := (steps.take k).foldl (fun n s => writeCopy n j h.keySeq s) h.nvs
  match steps[k]?, bad with
  | some s, true => breakCopy n s
  | _, _ => n

/-- Loss of power during a write (R546): the controller stops after some copies, and the one being written is invalid. How
far it has come is free (log entry 3). -/
def storePowerLoss (h : Hw) : Hw :=
  match h.nvs.job with
  | none => h
  | some j =>
    let n := (h.jobSteps j).length
    if n = 0 then { h with nvs := { h.nvs with job := none } }
    else { h with nvs := { h.jobUpTo j (h.open' 3 % n) true with job := none } }

/-- `NVS.SRC` of a region after a completed write: the copy that a load would now use. -/
def srcRefresh (h : Hw) (r : Region) : Hw :=
  let c := match r with
    | .boot => pickCode h.nvs.boot
    | .body => pickCode h.nvs.body
    | .keys => pickCode h.nvs.keys
  h.setF R.NVS_SRC (r.shift + 1) r.shift c

/-- What a completed job leaves in force (R495, R546, R548, R566). SUSPECT ends when no user or key region is left in force
under the identical-data row (R545): a gated key region was not confirmed (R551). -/
def jobInForce (h : Hw) (j : StoreJob) : Hw :=
  match j with
  | .save q b body =>
    let h1 := { h with nvs := { h.nvs with bootIn := some b, bootSeq := q, image := some body } }
    let h2 := ((h1.setReg R.NVS_SEQ_L (wd q)).setReg R.NVS_SEQ_H (wd (q / 65536))).clrBits R.NVS_STAT 0xA0
    (h2.srcRefresh .boot).srcRefresh .body
  | .confirm =>
    let h1 := ((h.srcRefresh .boot).srcRefresh .body).srcRefresh .keys
    if [Region.boot, .body, .keys].any fun r => h1.srcOf r = 3 then h1 else h1.clrBits R.NVS_STAT 0x08
  | .erase => h
  | .key k =>
    let h1 := { h with keys := { h.keys with slots := k } }
    ((h1.clrBits R.NVS_STAT 0x40).srcRefresh .keys).keysFlag 1

/-- The store write ends (R546, R548): every copy checked, or the copy number `fail` failing twice. -/
def storeDone (h : Hw) (fail : Option Nat) : Hw :=
  match h.nvs.job with
  | none => h
  | some j =>
    let n := (h.jobSteps j).length
    match fail.filter (· < n) with
    | none =>
      let h1 := { h with nvs := { h.jobUpTo j n false with job := none } }
      (h1.jobInForce j).nvsFlag 1
    | some k =>
      let h1 := ({ h with nvs := { h.jobUpTo j k true with job := none } }).nvsFlag 2
      match j with
      | .key _ => (h1.setBits R.KEYS_STAT 0x0200).keysFlag 1
      | _ => h1

/-- The NV fields a save takes (R495): of pages whose domains are powered, else the image in force or the default. -/
def saveFields (h : Hw) : List (Nat × Word) :=
  let inForce := h.nvFields
  allPages.flatMap fun pg => (nvOfPage pg).map fun a =>
    let v := if h.pageUp pg then h.reg a
      else ((inForce.reverse.find? fun x => x.1 == a).map Prod.snd).getD (resetOf a)
    (a, v &&& nvMask a)

/-- The program words of the present program memory, zeros left out. -/
def saveProgram (h : Hw) : List (Nat × BitVec 32) := h.prog

/-- NVS_SAVE hands a new image to the controller (R495, R546). -/
def storeSave (h : Hw) (sect : Nat) : Hw :=
  let fs := h.saveFields
  let body : Body :=
    { fields := if sect.testBit 0 then some fs else none
      prog := if sect.testBit 1 then some h.saveProgram else none
      clocks := if sect.testBit 2 then some (h.fw.clocks.toList.flatMap Vector.toList) else none }
  let boot := bootRegs.map fun a => ((fs.find? fun x => x.1 == a).map Prod.snd).getD 0
  { h with nvs := { h.nvs with job := some (.save h.saveSeq boot body) } }

/-! ### Keys (R547 to R552) -/

/-- KDATA copy of a party: host SPI, host TWI0, the core with remote access; none for Etchers. -/
def kdataSlot : Party → Option (Fin 3)
  | .spi => some 0
  | .twi0 => some 1
  | .core => some 2
  | .remote => some 2
  | .etch _ => none

/-- A write to `KEYS.KDATAj`. -/
def kdataWrite (h : Hw) (p : Party) (j : Nat) (v : Word) : Hw :=
  match kdataSlot p with
  | none => h
  | some i => { h with keys := { h.keys with
      kdata := h.keys.kdata.set i (Cells.put (fun _ => 0) h.keys.kdata[i] (j % 16) v) } }

/-- Every KCMD clears the party's KDATA (R548). -/
def kdataClear (h : Hw) (p : Party) : Hw :=
  match kdataSlot p with
  | none => h
  | some i => { h with keys := { h.keys with kdata := h.keys.kdata.set i [] } }

/-- The 16 key words a party has staged. -/
def kdataWords (h : Hw) (p : Party) : List Word :=
  match kdataSlot p with
  | none => []
  | some i => (List.range 16).map fun j => Cells.get (fun _ => 0) h.keys.kdata[i] j

/-- Zeroizing starts (R551): the volatile copies are overwritten, and a key write in progress is abandoned with the copy
being written left invalid. -/
def zeroizeStart (h : Hw) : Hw :=
  let h1 := match h.nvs.job with
    | some (.key _) =>
      { h.setBits R.KEYS_STAT 0x0200 with
        nvs := { breakCopy h.nvs (.keys, h.firstCopy .keys) with job := none } }
    | _ => h
  { h1 with keys := { h1.keys with slots := noKeys, zeroizing := true } }

/-- Zeroizing completes (R551, R562): ZEROED and its flag; the pads take their boundary values under EXTEST. -/
def zeroizeDone (h : Hw) : Hw :=
  if !h.keys.zeroizing then h
  else
    let h1 := { h with
      keys := { h.keys with zeroizing := false }, tap := { h.tap with pads := h.tap.ir = TapIr.extest } }
    (h1.setBits R.KEYS_STAT 0x0800).keysFlag 0

/-- A KCMD that R548 rejects. -/
def kcmdBad (h : Hw) (p : Party) (c : Nat) : Bool :=
  (kdataSlot p).isNone ||
    ((c = 1 || c = 2) && (h.keysGated || h.b R.KEYS_KLOCK (h.f R.KEYS_KSEL 2 0) || h.storeBusy || h.pwr.vinWarn))

/-- A write to `KEYS.KCMD` (R548). -/
def kcmdWrite (h : Hw) (p : Party) (v : Word) : Hw :=
  let c := fld v 1 0
  if c = 0 then h
  else if h.kcmdBad p c then (h.keysFlag 2).kdataClear p
  else
    let slot := h.f R.KEYS_KSEL 2 0
    let put := fun (x : Option (Nat × List Word)) => { h with nvs := { h.nvs with
      job := some (.key (h.keys.slots.set slot x)) } }
    let h1 :=
      if c = 1 then (put (some (h.f R.KEYS_KID 7 0, h.kdataWords p))).clrBits R.KEYS_STAT 0x0200
      else if c = 2 then (put none).clrBits R.KEYS_STAT 0x0200
      else h.zeroizeStart
    h1.kdataClear p

/-- A key write is in progress (KBUSY). -/
def keyBusy (h : Hw) : Bool :=
  match h.nvs.job with
  | some (.key _) => true
  | _ => false

def keySlot (h : Hw) (k : Nat) : Option (Nat × List Word) := (h.keys.slots[k]?).join

/-- `KEYS.KVALID`. -/
def keyValid (h : Hw) : Nat := (List.range 8).foldl (fun m k => if (h.keySlot k).isSome then m + 2 ^ k else m) 0

end Hw
end Sys2Proof.Machine
end

