-- ==== Sys2Proof/Machine/Proof.lean ====
section
/-!
DEFINITION. The end of draft (R57) and the proof controller (R553 to R558).
-/

namespace Sys2Proof.Machine

def ProofRun.init : ProofRun :=
  { mask := 0, todo := 0, cur := 0, active := false, quick := false, failed := false, vddcOk := true, tOk := true }

namespace Hw

/-- Draft ends (R57, R245): FULLSVC, the configured settings replace the draft settings, every history is emptied, and Etchers
with AUTORUN are due (R300). -/
def draftEnd (h : Hw) : Hw :=
  if !h.pwr.draft then h
  else
    let h1 := ({ h with pwr := { h.pwr with draft := false } }).raise 1 9
    let h2 := if h1.b R.DIARY_SRCEN 3 then h1.diaryAdd 11 0 0 else h1
    if h2.up .sense then
      { ({ h2 with dec := { h2.dec with odr := h2.reg R.DEC_ODR, resp := h2.reg R.DEC_RESP } }).emptyAll.recInit with
        buf := { h2.buf with anchorDue := true }, autoDue := true }
    else h2

def proofFlag (h : Hw) (bit : Nat) : Hw := h.raise 7 bit

/-- The domain that a slice needs (R553). -/
def sliceDom (k : Nat) : Dom :=
  if k ≤ 2 then .vigil else if k = 3 then .time else if k = 7 then .core else .sense

/-- The slice's domain is powered; slice 8 needs full service (R553, R555). -/
def sliceUp (h : Hw) (k : Nat) : Bool := h.up (sliceDom k) && (k != 8 || !h.pwr.draft)

/-- VIO lies in the band that VIO33 names (R554). -/
def vioOk (h : Hw) : Bool := h.pwr.vio = (if h.pwr.vio33 then VioBand.v33 else VioBand.v18)

/-- The conditions of R554 for a slice: slices 1 and 2 are judged on the first two alone. -/
def sliceCond (h : Hw) (k : Nat) : Bool :=
  h.proof.vddcOk && h.vioOk && (k ≤ 2 || (h.proof.tOk && h.clk.refOk))

/-- The result nibble of slice `k` (R564). -/
def setResult (h : Hw) (k v : Nat) : Hw :=
  let i := (k - 1) % 8
  let a := if i < 4 then R.PROOF_RESA else R.PROOF_RESB
  h.setF a (4 * (i % 4) + 3) (4 * (i % 4)) v

def result (h : Hw) (k : Nat) : Nat :=
  let i := (k - 1) % 8
  h.f (if i < 4 then R.PROOF_RESA else R.PROOF_RESB) (4 * (i % 4) + 3) (4 * (i % 4))

/-- A slice of the run recorded one of these results. -/
def runHas (h : Hw) (vs : List Nat) : Bool :=
  (List.range 8).any fun i => h.proof.mask.testBit (i + 1) && vs.contains (h.result (i + 1))

/-- The run ends (R556, R557); the quick run ends draft. -/
def proofEnd (h : Hw) : Hw :=
  let quick := h.proof.quick
  let h1 := h.proofFlag 0
  let h2 := ((h1.raiseIf (h.runHas [2]) 7 1).raiseIf (h.runHas [3, 4, 6, 7]) 7 2).raiseIf (h.runHas [5]) 7 3
  let h3 := { h2 with proof := { h2.proof with active := false, quick := false, cur := 0, todo := 0 } }
  if quick then h3.draftEnd else h3

/-- The next slice starts, in ascending number, or the run ends; a slice that may not run records why (R554, R555). -/
def proofNext : Nat → Hw → Hw
  | 0, h => h.proofEnd
  | f + 1, h =>
    match (List.range 9).find? h.proof.todo.testBit with
    | none => h.proofEnd
    | some k =>
      let h1 := { h with proof := { h.proof with todo := h.proof.todo - 2 ^ k, cur := 0 } }
      if !h1.sliceUp k then proofNext f (h1.setResult k 4)
      else if !h1.sliceCond k then proofNext f (h1.setResult k 3)
      else if k = 8 then
        let busy := h1.stBusy
        let h2 := h1.stStart (0x0040 + if h1.afe.chen.getLsbD 1 then 0x2000 else 0)
        if !busy && h2.stBusy then { h2 with proof := { h2.proof with cur := 8 } } else proofNext f (h2.setResult 8 7)
      else { h1 with proof := { h1.proof with cur := k } }

/-- A run of the slices in `mask` starts (R553, R556, R557). -/
def proofStart (h : Hw) (mask : Nat) (quick : Bool) : Hw :=
  let h1 := (List.range 8).foldl (fun g i => if mask.testBit (i + 1) then g.setResult (i + 1) 0 else g) h
  let h2 := h1.setReg R.PROOF_DETAIL 0
  proofNext 9 { h2 with proof := { h2.proof with
    mask := mask, todo := mask, cur := 0, active := true, quick := quick, failed := false } }

/-- The slice in progress ends with a result, and the next one starts. -/
def sliceStop (h : Hw) (v : Nat) : Hw :=
  let k := h.proof.cur
  let h1 := if k = 8 && v ≠ 1 && v ≠ 2 && v ≠ 6 then h.stAbort else h
  proofNext 9 (h1.setResult k v)

/-- A failure is recorded, the first of a run in DETAIL (R553). -/
def sliceFail (h : Hw) (code : Nat) : Hw :=
  let h1 := if h.proof.failed then h
    else { h.setReg R.PROOF_DETAIL (wd (h.proof.cur * 4096 + code % 4096)) with proof := { h.proof with failed := true } }
  h1.sliceStop 2

/-- A slice ends by itself (R555); slice 8 ends as its self-test run did. -/
def sliceEnd (h : Hw) (r : SliceResult) : Hw :=
  if !h.proof.active || h.proof.cur = 0 then h
  else if h.proof.cur = 8 then
    if h.stBusy then h
    else if h.b R.AFE_STSTAT 15 then h.sliceStop 1
    else if h.b R.AFE_STSTAT 13 then h.sliceStop 6
    else h.sliceFail (h.f R.AFE_STSTAT 8 0)
  else
    match r with
    | .pass => h.sliceStop 1
    | .fail c => h.sliceFail c.toNat

/-- A slice's budget expires (R554). -/
def sliceOverrun (h : Hw) : Hw := if h.proof.active && h.proof.cur ≠ 0 then h.sliceStop 5 else h

/-- A slice in progress whose domain is down, or whose conditions fail, ends (R554, R555). -/
def proofCheck (h : Hw) : Hw :=
  if !h.proof.active || h.proof.cur = 0 then h
  else if !h.sliceUp h.proof.cur then h.sliceStop 4
  else if !h.sliceCond h.proof.cur then h.sliceStop 3
  else h

/-- The quick run reaches 28 ms (R556): the slice in progress ends with OVERRUN, and slices not started are NOT_RUN. -/
def quickEnd (h : Hw) : Hw :=
  if !h.proof.active || !h.proof.quick then h
  else
    let h1 := { h with proof := { h.proof with todo := 0 } }
    if h.proof.cur = 0 then h1.proofEnd else h1.sliceStop 5

/-- VDDC in mV and the T error in ppm are measured (R554). -/
def proofMeasure (h : Hw) (mv : Word) (ppm : Int) : Hw :=
  let h1 := h.setReg R.PROOF_VDDC mv
  let h2 := if h.up .time then h1.setReg R.PROOF_TPPM (wdI (clampI (-32768) 32767 ppm)) else h1
  { h2 with proof := { h2.proof with
      vddcOk := 1050 ≤ mv.toNat && mv.toNat ≤ 1200
      tOk := if h.up .time then ppm.natAbs ≤ 500 else h.proof.tOk } }

/-- A write of 1 to `PROOF.CTRL.GO` (R557). -/
def proofGo (h : Hw) : Hw :=
  let run := h.reg R.PROOF_RUN
  if h.pwr.draft || h.proof.active || run = 0 then h.proofFlag 4 else h.proofStart run.toNat false

/-- What a block reset of the page does to a run in progress (R62, R564): the running slice records OVERRUN, no flag is set,
and a cut quick run ends draft. The page's registers are already reset. -/
def proofCut (h : Hw) : Hw :=
  if !h.proof.active then h
  else
    let h1 := if h.proof.cur = 0 then h else h.setResult h.proof.cur 5
    let h2 := if h.proof.cur = 8 then h1.stAbort else h1
    let quick := h.proof.quick
    let h3 := { h2 with proof := { h2.proof with active := false, quick := false, cur := 0, todo := 0 } }
    if quick then h3.draftEnd else h3

/-- The live bits of `PROOF.STAT`. -/
def proofStat (h : Hw) : Nat := h.proof.cur % 16 * 16 + (if h.proof.quick then 1 else 0)

end Hw
end Sys2Proof.Machine
end

