-- ==== Sys2Proof/Machine/Clock.lean ====
section
/-!
DEFINITION. Clocks: the synthesizer, the references and monitors, the N and S islands, the V-time coarse second counter
(R68 to R91).
-/

namespace Sys2Proof.Machine

/-- Clock control after a reset (R92); the V-time counter is given. -/
def Clk.init (vsec : BitVec 32) (vms vcyc : Nat) : Clk :=
  { synst := .off, refact := 0, refOk := false, needCal := true, calFree := false, lockedOnce := false, settled := false
    xok := false, nbackup := false, refclkOut := false, slock := false, soffs := 0, soffsTo := 0, vco := 0
    vsec := vsec, vms := vms, vcyc := vcyc }

/-- What drives the REFCLK pad (R81, R91): 50 MHz from the crystal, a low level while the crystal is lost, or nothing, when
the pad is an input. -/
inductive RefPad
  | out50 | low | high | input
  deriving DecidableEq, Repr

/-- Where the N island takes its clock from (R77, R81, R91): the REFCLK pad, or VCO / 120. -/
inductive NSource
  | pad | backup
  deriving DecidableEq, Repr

/-- The code of `CLK.STAT.SYNST` (R71). -/
def Synst.code : Synst → Nat
  | .off => 0
  | .cal => 1
  | .acq => 2
  | .locked => 3
  | .hold => 4
  | .free => 5

namespace Hw

def clkFlag (h : Hw) (bit : Nat) : Hw := h.raise 2 bit
def setClk (h : Hw) (c : Clk) : Hw := { h with clk := c }

/-- The synthesizer changes state; SETTLED falls when it leaves LOCKED (R72). -/
def synGo (h : Hw) (s : Synst) : Hw :=
  h.setClk { h.clk with
    synst := s, settled := h.clk.settled && s = .locked, lockedOnce := h.clk.lockedOnce || s = .locked }

/-- The reference that REFSEL names; code 3 acts as 0 (R68). -/
def refSel (h : Hw) : Nat := if h.f R.CLK_CFG 1 0 = 3 then 0 else h.f R.CLK_CFG 1 0

/-- The crystal oscillator runs (R70): TIME is requested or powered, or REFCLKOUT = 1. -/
def oscRuns (h : Hw) : Bool := h.b R.PWR_REQ 0 || h.pwr.time != .off || h.b R.CLK_CFG 4

/-- The calibration ends (R71, R73, R76). -/
def calComplete (h : Hw) : Hw :=
  if h.clk.synst ≠ .cal || !h.vigil then h
  else
    let h1 := h.setClk { h.clk with needCal := false, lockedOnce := false, calFree := !h.clk.refOk }
    let h2 := h1.clrBits R.CLK_CTRL 2
    if h.clk.refOk then h2.synGo .locked else (h2.synGo .free).clkFlag 3

/-- The synthesizer locks (R72). -/
def synthLock (h : Hw) : Hw :=
  if h.vigil && h.clk.synst = .acq && h.clk.refOk then h.synGo .locked else h

/-- SETTLED rises 6,250 T-cycles after LOCKED (R72); held frames leave by their own departure. -/
def settledRise (h : Hw) : Hw :=
  if h.vigil && h.clk.synst = .locked && !h.clk.settled then (h.setClk { h.clk with settled := true }).clkFlag 8 else h

/-- The synthesizer at the completion of a TIME on-sequence (R71, R73). -/
def synthOnComplete (h : Hw) : Hw :=
  let h1 := h.calComplete
  if h1.clk.synst ≠ .acq then h1
  else if h1.clk.refOk then h1.synGo .locked
  else if !h1.clk.lockedOnce && h1.clk.calFree then (h1.synGo .free).clkFlag 3
  else (h1.synGo .hold).clkFlag 1

/-- The reference is lost (R71, R91, R593). The acquisition of a running TIME on-sequence waits for the completion of the
sequence (R73). -/
def refLost (h : Hw) : Hw :=
  if !h.vigil || !h.clk.refOk then h
  else
    let h1 := (h.setClk { h.clk with refOk := false }).clkFlag 1
    if h.clk.synst = .locked || (h.clk.synst = .acq && h.pwr.time ≠ .rising) then h1.synGo .hold else h1

/-- The reference has shown 4,096 qualified cycles (R91, R593). -/
def refBack (h : Hw) : Hw :=
  if !h.vigil || h.clk.refOk then h
  else
    let h1 := (h.setClk { h.clk with refOk := true }).clkFlag 2
    if h.clk.synst = .hold || h.clk.synst = .free then h1.synGo .acq else h1


/-- The REFCLK pad (R39, R81, R82, R91): with REFCLKOUT in force it carries the doubled crystal clock, or a low level while
the V monitor sees no crystal edges. Under EXTEST it follows the boundary register (R561, R562). -/
def refclkPad (h : Hw) : RefPad :=
  if h.tap.pads then
    match h.landDrive 31 with
    | none => .input
    | some b => if b then .high else .low
  else if !h.padsOn || !h.clk.refclkOut then .input else if h.clk.xok then .out50 else .low

/-- The clock source of the N island (R81, R91). -/
def nSource (h : Hw) : NSource := if h.clk.nbackup then .backup else .pad

/-- The crystal stops (R70, R91): REFCLK, if it is driven, goes low (`refclkPad`). -/
def crystalLost (h : Hw) : Hw := if h.vigil then h.setClk { h.clk with xok := false } else h

/-- Crystal edges are seen while the oscillator runs (R70). -/
def crystalBack (h : Hw) : Hw := if h.vigil && h.oscRuns then h.setClk { h.clk with xok := true } else h

/-- The N island switches to its backup (R91): both ports report link down. -/
def nclkLost (h : Hw) : Hw :=
  if !h.live .net || h.clk.nbackup then h
  else ((h.setClk { h.clk with nbackup := true }).clkFlag 4).linksDown

/-- The N island switches back, and the links restart (R91): a port without polling is taken as up again (R390). -/
def nclkBack (h : Hw) : Hw :=
  if !h.live .net || !h.clk.nbackup then h
  else
    let h1 := (h.setClk { h.clk with nbackup := false }).clkFlag 5
    (List.finRange 2).foldl (fun g (n : Fin 2) => if g.b (R.MAC_CFG n) 4 then g else g.linkSet n true) h1

/-- The S loop loses lock (R91). -/
def sUnlock (h : Hw) : Hw :=
  if h.live .sense && h.clk.slock then (h.setClk { h.clk with slock := false }).clkFlag 6 else h

/-- The S loop locks (R80, R91): after a loss the buffer writes a gap record of cause 3 (R337), and instants were left out. -/
def sLock (h : Hw) : Hw :=
  if !h.vigil || h.clk.slock || h.pwr.sense = .off then h
  else
    let h1 := h.setClk { h.clk with slock := true }
    if h.pwr.sense = .rising then h1 else h1.gridFree.gapMark 3

/-- The V clock is measured against T (R84). -/
def vcalUpdate (h : Hw) (v : Word) : Hw :=
  if h.vigil && h.clk.synst = .locked then h.setReg R.CLK_VCAL v else h

/-- A commit of `CLK.VTIME` (R86). It names seconds and milliseconds; that the fraction of the millisecond restarts at 0 is
the model's choice (DESIGN CHOICE, log entry 86). -/
def vtimeSet (h : Hw) (vs : List Word) : Hw :=
  h.setClk { h.clk with
    vms := min 999 (word vs 0 % 1024), vcyc := 0, vsec := BitVec.ofNat 32 (word vs 1 + 65536 * word vs 2) }

/-- One V-cycle of the coarse second counter (R84): VCAL holds V-cycles in a millisecond in units of an eighth. -/
def vtimeTick (h : Hw) : Hw :=
  let c := h.clk
  let cyc := c.vcyc + 8
  if cyc < max 1 (h.reg R.CLK_VCAL).toNat then h.setClk { c with vcyc := cyc }
  else
    let left := cyc - max 1 (h.reg R.CLK_VCAL).toNat
    if c.vms + 1 < 1000 then h.setClk { c with vcyc := left, vms := c.vms + 1 }
    else h.setClk { c with vcyc := left, vms := 0, vsec := c.vsec + 1 }

/-- VCO periods in the present V-cycle (R77; log entry 5). VCO runs at 6 GHz, 750 periods to a V-cycle. In LOCKED and HOLD
the reference is within ±100 ppm and V within ±1 %; in FREE, T is set against V within ±1.5 % (R71). -/
def vcoPeriods (h : Hw) : Nat :=
  if h.clk.synst = .locked || h.clk.synst = .hold then max 742 (min 758 (Config.vcoPeriods h.now))
  else max 738 (min 762 (Config.vcoPeriods h.now))

/-- Edges of a clock of VCO / `d` in the present V-cycle. -/
def vcoEdges (h : Hw) (d : Nat) : Nat := (h.clk.vco + h.vcoPeriods) / d - h.clk.vco / d

/-- T and E edges in the present V-cycle (R77): T is VCO / 48 and E is VCO / 125. -/
def tEdges (h : Hw) : Nat := h.vcoEdges 48
def eEdges (h : Hw) : Nat := h.vcoEdges 125

/-- The VCO counts through the present V-cycle. -/
def vcoTick (h : Hw) : Hw := h.setClk { h.clk with vco := (h.clk.vco + h.vcoPeriods) % 6000 }

/-- The S-loop offset approaches what the discipliner asks for by one unit a V-cycle, 1.9 ppm per millisecond (R79; log
entry 87). -/
def soffsStep (h : Hw) : Hw :=
  let c := h.clk
  if c.soffs < c.soffsTo then h.setClk { c with soffs := c.soffs + 1 }
  else if c.soffsTo < c.soffs then h.setClk { c with soffs := c.soffs - 1 }
  else h

/-- The live bits of `CLK.STAT` without the common bits (R92). -/
def clkStat (h : Hw) : Nat :=
  let bit := fun (c : Bool) (i : Nat) => if c then 2 ^ i else 0
  let c := h.clk
  c.refact * 256 + c.synst.code * 32 + bit c.slock 4 + bit c.nbackup 3 + bit c.settled 2 + bit (c.xok && h.oscRuns) 1
    + bit c.refOk 0

/-- The `CLK.SOFFS` group. -/
def soffsWords (h : Hw) : List Word :=
  let v := (BitVec.ofInt 32 h.clk.soffs).toNat
  [wd v, wd (v / 65536)]

end Hw
end Sys2Proof.Machine
end

