-- ==== Sys2Proof/Machine/Domain.lean ====
section
/-!
DEFINITION. The machine after a power-on reset, the clearing of pages, the resets of R59 to R63, and what a domain's pages
and blocks are at its on-sequence (R49, R62).
-/

namespace Sys2Proof.Machine

def HostPort.init (addr0 : Bool) : HostPort :=
  { mode3 := false, addr0 := addr0, queue := [], prevBus := false, prevCrc := false, prevFull := false, prevLate := false
    twiPage := 0, twiPtr := 0, miso := [], twiOut := [], twiAck := [] }

def Alm.init : Alm :=
  { sec := 0, sub := 0, slew := 0, unknown := true, rung := .freeRun, target := .freeRun, switching := false
    committed := false, revert := false, ptpQual := false, ppsGood := false, ppsQual := false, leftQual := false, ppsEdges := 0
    ppsOut := 0, ppsLast := none, means := [], qualSec := 0, holdSec := 0, left := 0, hostServo := false, tgt := none }

def Cal.init : Cal := { sampled61 := false, sampled59 := false, inserted := false, ticks := 0 }
def PpsOut.init : PpsOut := { active := false, width := 1 }
def Axis.init : Axis := { w := 0, win := 8, hold := 0, dir := 0, frm := 0, low := 0, fovl := false }

def SelfTest.init : SelfTest :=
  { phase := 0, k := 0, n := 0, level := 0, gyr := false, abortDue := false, aborted := false, sum1 := [], sum2 := [] }

def Afe.init : Afe :=
  { mode := 0, grange := 0, chen := 3, orient := 0x0210, xbcfg := 0, on := true, ax := Vector.replicate 3 Axis.init
    gdrv := false, gdrvOnce := false, st := SelfTest.init, xbLost := false, stuck := 0, notrim := false }

def Dec.init : Dec :=
  { odr := 0, resp := 0, warm := Vector.replicate 4 0, path := Vector.replicate 11 Path.init, hist := Vector.replicate 8 []
    tainted := Vector.replicate 3 [], act := Vector.replicate 2 [], flight := [], lost := 0, lastT := none, nextT := none
    epoch := false, gridph := 0, reanchor := false, gap := none, glock := false, es := [], inRun := 0, outRun := 0
    esum := 0, sout := none, vals := Vector.replicate 8 0, warmE := 0, accBlend := false
    warmWas := 0 }

def Firmware.init : Firmware :=
  { cmd := none, handed := false, reply := none, sleep := false, upAt := 0, clocks := Vector.replicate 4 clockDefaults }

/-- After a TAP reset IDCODE is current (R559). -/
def Tap.init : Tap := { ir := .idcode, boundary := 0, pads := false }

def Pins.init (straps : BitVec 4) : Pins :=
  { straps := straps, held := 0, heldLevel := 0, heldDom := Vector.replicate 24 .vigil, conf := 0
    lines := Vector.replicate 8 { level := false, lockout := false } }

/-- Power control while the buck starts (R30, R56). -/
def Pwr.init (vio : VioBand) (vin : Nat) : Pwr :=
  { running := true, vin := vin, vinWarn := false, buckFault := false, buckOv := false, buckGrid := false, vio := vio
    vio33 := vio = .v33, vigilUp := false, held := false, time := .off, sense := .off, net := .off, core := .off
    opposite := none, bootLoaded := false, bootDef := false, draft := true, pstate := 0, forced := false }

/-- The machine after a power-on reset, before VIGIL up (R62), with the store `n`. -/
def Hw.start (n : Nvs) (vio : VioBand) (vin now free : Nat) : Hw :=
  { regs := [], shadows := [], staging := [], now := now, free := free, fabric := 0, raised := 0, newSample := 0
    evAt := Vector.replicate 64 none, sampleT := none, alarmReq := none, stopping := [], pendEn := [], wakeReq := false, autoDue := false
    pwr := Pwr.init vio vin, clk := Clk.init 0 0 0, int0 := { agg := false, pulse := false, stop := 0 }
    int1 := { agg := false, pulse := false, stop := 0 }, diary := { entries := [], num := 0 }, pins := Pins.init 0
    latch := { set := true, typ := 4, ev := 0, why := 0, setAt := now }, recog := Recog.init
    etch := Vector.ofFn Etcher.init, prog := [], eprog := Vector.replicate 3 EprogWin.init, buf := Buf.init
    strm := Strm.init, host := HostPort.init false, alm := Vector.replicate 4 Alm.init, cal := Cal.init
    pps := PpsOut.init, afe := Afe.init, dec := Dec.init, tim := Vector.replicate 6 Timer.init, net := Net.init
    twi := Vector.replicate 2 (TwiBus.init 0x0101), xfer := Xfer.init, gang := Gang.init 0
    mbx := Vector.replicate 8 Box.init, fw := Firmware.init
    nvs := { n with bootIn := none, bootSeq := 0, image := none, loaded := false, trims := none }
    keys := KeyStore.init, proof := ProofRun.init, tap := Tap.init }

namespace Hw

/-! ### Clearing pages (R62, R107) -/

/-- The registers, shadows and staging copies of the pages that satisfy `p` return to reset values. -/
def clearPages (h : Hw) (p : Nat → Bool) : Hw :=
  { h with
    regs := Cells.clear (fun a => p (a / 256)) h.regs
    shadows := Cells.clear (fun a => p (a % 65536 / 256)) h.shadows
    staging := Cells.clear (fun a => p (a % 65536 / 256)) h.staging
    stopping := h.stopping.filter fun g => !p g
    pendEn := h.pendEn.filter fun g => !p g }

/-- The page lies in a domain. -/
def inDom (d : Dom) (pg : Nat) : Bool :=
  match kindOf pg with
  | none => false
  | some k => k.dom == d

/-- A domain's pages at power-down or power-up (R62, R64): with REFLEX the RELWHY code returns to its reset value, while the
latch bit and its cause stay (R283). -/
def clearDomain (h : Hw) (d : Dom) : Hw :=
  let g := h.clearPages (inDom d)
  if d = .sense then { g with latch := { g.latch with why := 0 } } else g

/-! ### Resets (R59 to R63) -/

/-- A power-on reset or a brown-out (R59, R62): everything but the store and the levels outside starts anew. -/
def powerReset (h : Hw) (code : Nat) : Hw :=
  let g := h.storePowerLoss
  let s := start g.nvs h.pwr.vio h.pwr.vin h.now h.free
  { s with pwr := { s.pwr with buckFault := h.pwr.buckFault, buckOv := h.pwr.buckOv } }.setReg R.PWR_LASTRST (wd code)

/-- A pin or command reset (R60, R62, R63): WOO fields, the diary, the V-time counter, the latch and the test port are
kept, and so is a write that the store controller carries out (R546). -/
def warmReset (h : Hw) (code : Nat) : Hw :=
  let s := start h.nvs h.pwr.vio h.pwr.vin h.now h.free
  let scan := h.tap.ir = .extest || h.tap.ir = .priv
  let h1 : Hw := { s with
    pwr := { s.pwr with buckFault := h.pwr.buckFault, buckOv := h.pwr.buckOv, held := true }
    clk := Clk.init h.clk.vsec h.clk.vms h.clk.vcyc
    diary := h.diary, latch := { h.latch with why := 0 }, tap := h.tap
    keys := { KeyStore.init with
      klockDone := h.keys.klockDone, scanDone := h.keys.scanDone, zeroizing := h.keys.zeroizing && scan } }
  let h2 := ((h1.setReg R.KEYS_KLOCK (h.reg R.KEYS_KLOCK)).setReg R.KEYS_SCANLOCK (h.reg R.KEYS_SCANLOCK)).setReg
    R.DIARY_LOST (h.reg R.DIARY_LOST)
  let h3 := h2.setReg R.PWR_LASTRST (wd code)
  if scan && h.b R.KEYS_STAT 11 then h3.setBits R.KEYS_STAT 0x0800 else h3

/-! ### What a domain's blocks are when it comes up (R49, R62) -/

/-- The almanacs, the calendar, PPS and the timers at TIME up (R155, R378). -/
def timeInit (h : Hw) : Hw :=
  let h1 : Hw := { h with
    alm := Vector.replicate 4 Alm.init, cal := Cal.init, pps := PpsOut.init, tim := Vector.replicate 6 Timer.init }
  (List.range 4).foldl (fun g n => g.almRestart n) h1

/-- The front end at SENSE up: the written settings are in force, and each axis sits at the end of its mode (R200). -/
def afeStart (h : Hw) : Hw :=
  let m := h.f R.AFE_ARANGE 3 0
  let win := max 4 (min 64 (h.f R.AFE_BLEND 6 0))
  { h with afe := { Afe.init with
      mode := m, grange := h.f R.AFE_GRANGE 2 0, chen := (h.reg R.AFE_CHEN).setWidth 4, orient := h.reg R.AFE_ORIENT
      xbcfg := h.reg R.AFE_XBCFG, on := h.enabled 0x10, notrim := h.nvs.loaded && h.nvs.trims.isNone
      ax := Vector.replicate 3 ({ Axis.init with win := win }.atEnd (4 ≤ m)) } }

/-- The decimation chain at SENSE up (R245, R247, R254). -/
def decStart (h : Hw) : Hw :=
  { h with dec := { Dec.init with
      odr := h.reg R.DEC_ODR, resp := h.reg R.DEC_RESP, gridph := h.reg32 R.DEC_GRIDOFS_L % 8388608 } }.emptyAll.reanchor

/-- The blocks of SENSE at its on-sequence. -/
def senseInit (h : Hw) : Hw :=
  let h1 := h.afeStart.decStart.xbDriven
  let h2 := { h1 with
    recog := Recog.init, etch := Vector.ofFn Etcher.init, eprog := Vector.replicate 3 EprogWin.init, strm := Strm.init
    prog := h1.nvProgram, newSample := 0, sampleT := none }
  let h3 := h2.bufSenseOn
  if h3.enabled 0x13 then h3.strmStart else h3

/-- The firmware after it has booted (R417, R490, R497). -/
def coreInit (h : Hw) : Hw :=
  { h with
    fw := { Firmware.init with upAt := h.now, clocks := h.nvClocks }
    net := { h.net with rseq := Vector.replicate 8 0 } }

/-- The endpoint address after a full reset (R421): from the serial number. -/
def macInit (h : Hw) : Hw :=
  (h.setReg R.IPSVC_MAC_L (Config.serial.setWidth 16)).setReg R.IPSVC_MAC_M
    (BitVec.ofNat 16 (Config.serial.toNat / 65536 % 256))

/-- The pages and blocks of a domain start (R49 steps 3 and 4). -/
def domainInit (h : Hw) (d : Dom) : Hw :=
  let h0 := h.clearDomain d
  let h1 := if d = .net then { h0 with net := { h0.net with mdioBusy := false } }.macInit else h0
  let h2 := h1.nvApply (inDom d)
  match d with
  | .vigil => h2
  | .time => h2.timeInit
  | .sense => h2.senseInit
  | .net => h2
  | .core => h2.coreInit

end Hw
end Sys2Proof.Machine
end

