-- ==== Sys2Proof/Machine/Power.lean ====
section
/-!
DEFINITION. Power: VIN and its comparator, the buck, VIO, the start of VIGIL, the store loads, the sequences of the
domains and their requests, loss of power without a sequence, resets (R30 to R66, R91, R545).
-/

namespace Sys2Proof.Machine
namespace Hw

/-- The modes in which the buck runs (R36). -/
inductive BuckMode
  | grid | free | skip
  deriving DecidableEq, Repr

def pwrFlag (h : Hw) (bit : Nat) : Hw := h.raise 1 bit
def setPwr (h : Hw) (p : Pwr) : Hw := { h with pwr := p }

/-! ### VIN, buck and VIO (R30 to R39, R576) -/

/-- The warning threshold in mV (R32, R67). -/
def vinThreshold (h : Hw) : Nat := 30000 + 100 * max 0x14 (min 0x64 (h.f R.PWR_VINWARN 7 0))

/-- The comparator evaluates the last VIN level told (R32). -/
def vinEval (h : Hw) : Hw :=
  if !h.vigil then h
  else if h.pwr.vinWarn then
    if h.vinThreshold + 500 < h.pwr.vin then h.setPwr { h.pwr with vinWarn := false } else h
  else if h.pwr.vin < h.vinThreshold then
    ((h.setPwr { h.pwr with vinWarn := true }).pwrFlag 8).diaryAdd 2 (h.reg R.PWR_VINMON) 0
  else h

/-- VIN is at a level, in mV (R32). -/
def vinLevel (h : Hw) (mv : Nat) : Hw := (h.setPwr { h.pwr with vin := mv }).vinEval

/-- A measurement of VIN (R33). -/
def vinmonUpdate (h : Hw) (v : Word) : Hw := if h.vigil then h.setReg R.PWR_VINMON v else h

/-- VIN rises through 34.0 V (R30): a power-on reset. -/
def powerOn (h : Hw) : Hw :=
  if h.pwr.running then h
  else (h.setPwr { h.pwr with vin := 34000, buckFault := false, buckOv := false }).powerReset 1

/-- VIN falls through 31.5 V (R31): everything loses power. -/
def uvloStop (h : Hw) : Hw :=
  if !h.pwr.running then h
  else
    let g := h.storePowerLoss
    g.setPwr { g.pwr with
      running := false, vigilUp := false, vin := 31500, buckGrid := false, vinWarn := false
      time := .off, sense := .off, net := .off, core := .off, opposite := none }

/-- A brown-out (R35, R59); `vaux` says that VAUX caused it, so that the buck waits 10 ms. -/
def brownOut (h : Hw) (vaux : Bool) : Hw :=
  if !h.pwr.running then h
  else
    let g := h.powerReset 2
    g.setPwr { g.pwr with buckFault := vaux || g.pwr.buckFault }

/-- The buck restarts 10 ms after a VAUX fault (R35). -/
def buckRestart (h : Hw) : Hw :=
  if h.pwr.running && h.pwr.buckFault then h.setPwr { h.pwr with buckFault := false } else h

/-- The buck enters grid mode after SENSE up (R36, R37). -/
def buckGridEntry (h : Hw) : Hw := if h.up .sense then h.setPwr { h.pwr with buckGrid := true } else h

/-- The mode of the buck while it runs (R35 to R37, R576). Skip mode needs SENSE off: it is never active while SENSE
converts. -/
def buckMode (h : Hw) : Option BuckMode :=
  if !h.pwr.running || h.pwr.buckFault || h.pwr.buckOv then none
  else if h.pwr.buckGrid then some .grid
  else if h.b R.PWR_CFG 1 || h.pwr.sense = .on then some .free
  else some .skip

/-- VIN above the overvoltage stop threshold and back (R576). -/
def overStop (h : Hw) : Hw := if h.pwr.running then h.setPwr { h.pwr with buckOv := true } else h
def overRestart (h : Hw) : Hw := if h.pwr.running then h.setPwr { h.pwr with buckOv := false } else h

/-- VIO leaves or enters a band (R39, R573). -/
def vioOut (h : Hw) : Hw := h.setPwr { h.pwr with vio := .out }
def vioIn (h : Hw) (v33 : Bool) : Hw := h.setPwr { h.pwr with vio := if v33 then .v33 else .v18 }

/-! ### Requests and sequences (R42 to R54) -/

/-- The bit of a domain in `PWR.REQ` and in the flags. -/
def domBit : Dom → Nat
  | .vigil => 4
  | .time => 0
  | .sense => 1
  | .net => 2
  | .core => 3

def setDom (h : Hw) (d : Dom) (s : DomState) : Hw :=
  h.setPwr (match d with
    | .vigil => h.pwr
    | .time => { h.pwr with time := s }
    | .sense => { h.pwr with sense := s }
    | .net => { h.pwr with net := s }
    | .core => { h.pwr with core := s })

def switched : List Dom := [.time, .sense, .net, .core]

/-- A domain that depends on TIME is requested, powered or in a sequence (R43). -/
def needsTime (h : Hw) : Bool :=
  [Dom.sense, .net, .core].any fun d => h.b R.PWR_REQ (domBit d) || h.domState d != .off

/-- The effective request for a domain (R43, R45). -/
def effReq (h : Hw) : Dom → Bool
  | .vigil => true
  | .time => h.b R.PWR_REQ 0 || h.needsTime
  | .sense => h.b R.PWR_REQ 1
  | .net => h.b R.PWR_REQ 2
  | .core => h.b R.PWR_REQ 3

/-- A sequence runs. -/
def seqRuns (h : Hw) : Bool := switched.any fun d => h.domState d == .rising || h.domState d == .falling

/-- PENDING_ON and PENDING_OFF of a domain (R53, R54). -/
def pendOn (h : Hw) (d : Dom) : Bool := h.domState d == .falling && h.effReq d
def pendOff (h : Hw) (d : Dom) : Bool := h.domState d == .rising && !h.effReq d

/-- A domain is on and not wanted, or off and wanted. -/
def mustLower (h : Hw) (d : Dom) : Bool := h.domState d == .on && !h.effReq d
def mustRaise (h : Hw) (d : Dom) : Bool := h.domState d == .off && h.effReq d

/-- The next sequence (R44): the domain and whether it is raised. -/
def nextSeq (h : Hw) : Option (Dom × Bool) :=
  if !h.vigil || !h.pwr.bootLoaded || h.seqRuns then none
  else
    match h.pwr.opposite.filter fun d => h.mustLower d || h.mustRaise d with
    | some d => some (d, h.mustRaise d)
    | none =>
      match [Dom.core, .net, .sense, .time].find? h.mustLower with
      | some d => some (d, false)
      | none => ([Dom.time, .sense, .net, .core].find? h.mustRaise).map fun d => (d, true)

/-- The named power state of the powered domains (R48). -/
def pstateNow (h : Hw) : Nat :=
  match h.domState .time == .on, h.domState .sense == .on, h.domState .net == .on, h.domState .core == .on with
  | true, true, true, true => 3
  | true, true, false, false => 2
  | true, false, false, false => 1
  | false, false, false, false => 0
  | _, _, _, _ => 7

/-- `PWR.PSTATE` (R48): while a sequence runs, the value of the state that it leaves. -/
def pstate (h : Hw) : Nat := if h.seqRuns then h.pwr.pstate.toNat else h.pstateNow

/-- The first step of an on-sequence (R49, R69, R71, R82). -/
def onStart (h : Hw) (d : Dom) : Hw :=
  let h1 := h.setDom d .rising
  match d with
  | .time =>
    let h2 := h1.setClk { h1.clk with refact := h1.refSel, refOk := h1.clk.refOk && h1.clk.refact = h1.refSel }
    h2.synGo (if h2.clk.needCal || h2.b R.CLK_CTRL 1 then .cal else .acq)
  | .net => h1.setClk { h1.clk with refclkOut := h1.b R.CLK_CFG 4, nbackup := false }
  | .vigil => h1
  | .sense => h1
  | .core => h1

/-- A reply that waits is dropped when CORE stops (R492, R499). -/
def replyDrop (h : Hw) : Hw :=
  if h.fw.reply.isNone then h
  else ({ h with fw := { h.fw with reply := none, cmd := none, handed := false } }.count R.MBX_RPLOST).setBits R.MBX_STAT 0x0200

/-- The first step and the stop work of an off-sequence (R37, R47, R49 to R51, R65, R251, R499, R529). -/
def offStart (h : Hw) (d : Dom) : Hw :=
  let h1 := (h.holdPins d).setDom d .falling
  match d with
  | .vigil => h
  | .time => h1
  | .sense =>
    let h2 := h1.bufSenseOff.glockFall.etchStopAll.stAbort
    h2.setPwr { h2.pwr with buckGrid := false }
  | .net => h1.netStop
  | .core =>
    let h2 := h1.diaryAdd 4 0 0
    let h3 := (h2.setReg R.TSI_SRVRUN 0).replyDrop.servoCoreOff
    ({ h3 with fw := { h3.fw with cmd := none, handed := false, sleep := false } }).setPwr { h3.pwr with forced := false }

/-- The next sequence starts (R44). -/
def seqStart (h : Hw) : Hw :=
  match h.nextSeq with
  | none => h
  | some (d, up) =>
    let h1 := h.setPwr { h.pwr with pstate := BitVec.ofNat 3 h.pstateNow, opposite := none }
    if up then h1.onStart d else h1.offStart d

/-- The domain whose on-sequence, or off-sequence, runs. -/
def risingDom (h : Hw) : Option Dom := switched.find? fun d => h.domState d == .rising
def fallingDom (h : Hw) : Option Dom := switched.find? fun d => h.domState d == .falling

/-- A DOMAIN diary entry (R510); CORE has entries of its own. -/
def domainEntry (h : Hw) (d : Dom) (up : Bool) : Hw :=
  if d != .core && h.b R.DIARY_SRCEN 0 then h.diaryAdd 8 (wd (2 ^ domBit d + if up then 256 else 0)) 0 else h

/-- The last step of an on-sequence (R49, R52, R53). -/
def onComplete (h : Hw) : Hw :=
  match h.risingDom with
  | none => h
  | some d =>
    let h0 := if d = .time then h.synthOnComplete else if d = .sense then h.setClk { h.clk with slock := true } else h
    let h1 := ((h0.domainInit d).setDom d .on).endHolds d
    let h2 := match d with
      | .vigil => h1
      | .time => h1
      | .sense =>
        let g := (h1.setReg R.AFE_TEMP (wd (h1.open' 6))).raiseIf h1.afe.notrim 0x10 12
        { g with autoDue := !g.pwr.draft }
      | .net => h1.netStart
      | .core => h1.diaryAdd 5 0 0
    let h3 := (h2.pwrFlag (domBit d)).domainEntry d true
    if h3.effReq d then h3 else h3.setPwr { h3.pwr with opposite := some d }

/-- The registers and blocks of a domain that has lost power (R64); what retention holds stays (R65). Two points the spec
leaves open are the model's choice (DESIGN CHOICE): NBACKUP keeps reading 1 after NET went off on its backup, until the next
NET on-sequence starts (log entry 90); the S-loop offset is kept while SENSE is off and in force again at SENSE up (log entry
91). -/
def domainGone (h : Hw) (d : Dom) : Hw :=
  let h1 := (h.clearDomain d).setDom d .off
  match d with
  | .vigil => h1
  | .time =>
    { h1 with pps := PpsOut.init, clk := { h1.clk with synst := .off, settled := false } }
  | .sense =>
    { h1 with
      strm := Strm.init, etch := Vector.ofFn Etcher.init, newSample := 0, sampleT := none, fabric := 0, autoDue := false
      buf := if h1.buf.holding then h1.buf else Buf.init
      dec := Dec.init, afe := Afe.init, recog := Recog.init, clk := { h1.clk with slock := false } }
  | .net => { h1 with net := { Net.init with stored := h1.net.stored, storeLost := h1.net.storeLost, rseq := h1.net.rseq } }
  | .core => { h1 with fw := Firmware.init }

/-- The last step of an off-sequence (R49, R52, R53). -/
def offComplete (h : Hw) : Hw :=
  match h.fallingDom with
  | none => h
  | some d =>
    let h1 := h.domainGone d
    let h2 := (h1.pwrFlag (4 + domBit d)).domainEntry d false
    if h2.effReq d then h2.setPwr { h2.pwr with opposite := some d } else h2

/-- The newest held CORE_SLEEP entry gets its FORCED bit (R510). -/
def markForced (es : List Entry) : List Entry :=
  match es.reverse.findIdx? fun e => e.src == 4 with
  | none => es
  | some i => es.modify (es.length - 1 - i) fun e => { e with arg := e.arg ||| 1 }

/-- The power controller forces the CORE stop (R50, R52). -/
def forcedStop (h : Hw) : Hw :=
  if h.vigil && h.pwr.core = .falling && !h.pwr.forced then
    { (h.setPwr { h.pwr with forced := true }).pwrFlag 11 with
      diary := { h.diary with entries := markForced h.diary.entries } }
  else h

/-- A write to `PWR.REQ` (R45); one that writes a 1 to SENSE, NET or CORE is a wake request (R466). -/
def reqWrite (h : Hw) (v : Word) : Hw :=
  let h1 := h.setReg R.PWR_REQ (v &&& 0x000F)
  { h1 with wakeReq := h1.wakeReq || (v &&& 0x000E) != 0 }

/-! ### Loss of power without a sequence (R60, R91) -/

/-- A domain loses power at once; its outputs with OFFHOLD are held when `hold` says so (R529). -/
def domainDrop (h : Hw) (hold : Bool) (d : Dom) : Hw :=
  if h.domState d = .off then h
  else
    let h1 := if hold && h.domState d == .on then h.holdPins d else h
    let h2 := if d = .core then h1.replyDrop else h1
    if d = .sense && h2.domState d == .on then { h2 with buf := { h2.buf with holding := false } }.domainGone d else h2.domainGone d

/-- TIME, SENSE, NET and CORE lose power at once. -/
def dropAll (h : Hw) (hold : Bool) : Hw :=
  let g := [Dom.core, .net, .sense, .time].foldl (fun g d => g.domainDrop hold d) h
  g.setPwr { g.pwr with opposite := none, buckGrid := false, forced := false }

/-- The VCO stops (R91, R594): the latch first, then the domains, with a full calibration due. -/
def tdead (h : Hw) : Hw :=
  if !h.live .time && h.pwr.time ≠ .rising then h
  else
    let h1 := (h.setLatch 5 0 0).clkFlag 7
    let h2 := h1.dropAll true
    h2.setClk { h2.clk with needCal := true }

/-! ### VIGIL up, boot record and load (R56, R58, R543 to R545) -/

/-- VIGIL comes out of reset (R39, R56, R445, R517, R533): the straps and ADDR0 are sampled, the entries written. -/
def vigilStart (h : Hw) (straps : BitVec 4) (addr0 : Bool) : Hw :=
  if !h.pwr.running || (h.pwr.vigilUp && !h.pwr.held) || h.pwr.vio = .out || h.pwr.buckFault || h.tap.ir = .priv then h
  else
    let h1 := { h with
      pwr := { h.pwr with vigilUp := true, held := false, vio33 := h.pwr.vio = VioBand.v33 }
      pins := Pins.init straps, gang := Gang.init straps, host := HostPort.init addr0 }
    let h2 := h1.diaryAdd 1 (h1.reg R.PWR_LASTRST) 0
    let h3 := if (h1.reg R.PWR_LASTRST).toNat ≤ 2 then h2.diaryAdd 6 (causeWord h2.latch) 0 else h2
    h3.vinEval

/-- The boot record's registers on the pages PWR and CLK take their stored values. Without a valid record they keep what they
hold, the factory defaults (R58) or a value written since (R8). The stored REFCLKOUT is in force from here on (R83; log
entry 88). -/
def bootApply (h : Hw) : Hw :=
  let fs := (bootRegs.zip (h.nvs.bootIn.getD [])).filter fun x => x.1 / 256 = 1 || x.1 / 256 = 2
  let g := fs.foldl nvPut h
  g.setClk { g.clk with refclkOut := g.b R.CLK_CFG 4 }

/-- The boot record has loaded (R56, R58): its settings take effect and the first on-sequence starts. -/
def bootComplete (h : Hw) : Hw :=
  if !h.vigil || h.pwr.bootLoaded then h
  else
    let h1 := h.bootLoad
    let h2 := h1.setPwr { h1.pwr with bootLoaded := true, bootDef := h1.nvs.bootIn.isNone }
    h2.bootApply.vinEval.seqStart

/-- A pin line takes the present level of its pin without an edge, and a lockout ends (R534, R540). -/
def linePresent (h : Hw) (n : Nat) : Hw :=
  let i := h.f (R.PINT_LCFG n) 14 13 * 8 + n % 8
  let lvl := h.b (R.PINT_LCFG n) 15 && h.lineLevel (h.padLevel i) (i % 24)
  { h with pins := { h.pins with
      lines := h.pins.lines.set (n % 8) { level := lvl, lockout := false } (Nat.mod_lt _ (by decide)) } }

/-- A write to `IRQ.CFG` (R506, R508): it counts as a rise when it puts a pending pin into pulse mode. -/
def irqCfgSet (h : Hw) (v : Word) : Hw :=
  let h1 := h.setReg R.IRQ_CFG v
  let on := fun (g : Hw) (k : Nat) => g.intEn k && g.intPulse k
  (List.range 2).foldl (fun g k =>
    let p := g.intPin k
    if on h1 k && !on h k && h.aggregate k then g.intStart k
    else if !on h1 k then g.setIntPin k { p with pulse := false }
    else g) h1

/-- What the blocks do when a load changes the NV fields of running pages (R8). -/
def loadEffects (old h : Hw) : Hw :=
  let h1 := (List.range 8).foldl (fun g n =>
    if old.reg (R.PINT_LCFG n) != g.reg (R.PINT_LCFG n) then g.linePresent n else g) h
  let h2 := (h1.setReg R.IRQ_CFG (old.reg R.IRQ_CFG)).irqCfgSet (h1.reg R.IRQ_CFG)
  let h3 := if h2.up .sense then
      let g := { h2 with prog := h2.nvProgram
                         dec := { h2.dec with gridph := h2.reg32 R.DEC_GRIDOFS_L % 8388608, nextT := none } }
      let g := g.raiseIf (g.nvs.trims.isNone) 0x10 12
      let g := { g with afe := { g.afe with notrim := g.nvs.trims.isNone } }
      let g := if old.sink != g.sink then { g.flushB with strm := Strm.init } else g
      let g := if g.enabled 0x12 && (!old.enabled 0x12 || old.bufMode != g.bufMode) then g.bufBegin else g
      if g.enabled 0x13 && !old.enabled 0x13 then g.strmStart
      else if !g.enabled 0x13 && old.enabled 0x13 then g.strmHalt
      else g
    else h2
  let h4 := if h3.up .core then { h3 with fw := { h3.fw with clocks := h3.nvClocks } } else h3
  let h5 := if h4.up .net then (macChanged old (macChanged old h4 0) 1).hopChanged else h4
  let h6 := if h5.up .time then h5.rolesChanged (old.reg R.CAL_ROLES) else h5
  if old.enabled 0x3A && !h6.enabled 0x3A then h6.gangStop else h6

/-- The load completes (R543 to R545, R547, R556): every NV field of a powered page holds its stored value, and the quick
run starts. -/
def loadComplete (h : Hw) : Hw :=
  if !h.vigil || !h.pwr.bootLoaded || h.nvs.loaded || h.nvs.job.isSome then h
  else
    let h1 := { h with nvs := { h.nvs with
      image := (pickCopy h.nvs.body).map fun (c : Copy Body) => c.data, loaded := true, trims := (pickCopy h.nvs.factory).map fun (c : Copy FactoryTrim) => c.data } }
    let h2 := h1.loadReport.nvsFlag 0
    let h3 := if h2.keysGated then h2 else h2.keysLoad
    let h4 := loadEffects h (h3.nvApply h3.pageUp)
    (h4.vinEval).proofStart (h4.f R.PROOF_QUICK 7 1 * 2) true

/-! ### Pin and command reset (R59 to R61) -/

/-- RST_N is recognized low (R59, R60): it resets VIGIL while it is up and while an earlier reset holds it; only until the
first VIGIL up the start stays a power-on reset (R592). -/
def pinReset (h : Hw) : Hw := if h.pwr.running && (h.pwr.vigilUp || h.pwr.held) then h.warmReset 3 else h

/-- A command reset (R60, R61, R118). -/
def commandReset (h : Hw) : Hw := if h.vigil then h.warmReset 4 else h

/-! ### Live registers -/

/-- The live bits of `PWR.STAT` without the common bits (R67). -/
def pwrStat (h : Hw) : Nat :=
  let bit := fun (c : Bool) (i : Nat) => if c then 2 ^ i else 0
  let p := h.pwr
  bit (switched.any fun d => h.pendOn d || h.pendOff d) 12 + bit p.bootDef 4 + bit p.vio33 3 + bit p.vinWarn 2
    + bit p.buckGrid 1 + bit p.draft 0

def DomStateCode : DomState → Nat
  | .off => 0
  | .rising => 1
  | .on => 2
  | .falling => 3

/-- `PWR.DSTAT`. -/
def dstat (h : Hw) : Nat :=
  switched.foldl (fun m d => m + DomStateCode (h.domState d) * 4 ^ domBit d
    + (if h.pendOn d then 2 ^ (8 + domBit d) else 0) + (if h.pendOff d then 2 ^ (12 + domBit d) else 0)) 0

end Hw
end Sys2Proof.Machine
end

