-- ==== Sys2Proof/Machine/Live.lean ====
section
/-!
DEFINITION. What a register reads: live values page by page, wide groups with their shadows (R103, R104), the registers
whose reads advance a pointer (R130), the write queue seen by a read is in Host.lean.
-/

namespace Sys2Proof.Machine

/-! ### Wide groups -/

/-- The wide groups of a kind of page: key offset, length, and whether every field is RO (R103 to R107). -/
def Kind.groups : Kind → List (Nat × Nat × Bool)
  | .ident => [(0x14, 4, true)]
  | .clk => [(0x14, 3, false), (0x18, 2, true)]
  | .irq => [(0x18, 4, false)]
  | .diary => [(0x18, 4, false), (0x20, 8, true)]
  | .mbx => (List.range 8).map fun n => (0x20 + 16 * n, 9, false)
  | .nvs => [(0x10, 2, true)]
  | .dec => [(0x14, 2, false), (0x18, 2, true)]
  | .buf => [(0x18, 4, false), (0x22, 2, true), (0x2A, 2, true)]
  | .recog => (0x20, 6, true) :: (List.range 8).map fun n => (0x42 + 8 * n, 4, false)
  | .reflex => [(0x18, 4, false)]
  | .etch => (List.range 8).flatMap fun n => [(0x2A + 16 * n, 2, true), (0x2C + 16 * n, 2, true)]
  | .alm => [(0x10, 6, false), (0x18, 3, false), (0x1C, 5, false), (0x22, 2, false), (0x30, 7, false)]
  | .cal => [(0x10, 7, false)]
  | .tsu => (List.range 8).map fun n => (0x20 + 8 * n, 6, true)
  | .tm => [(0x10, 2, false), (0x12, 2, false), (0x14, 2, false), (0x16, 2, false)]
  | .mac => [(0x14, 2, false)]
  | .ipsvc => [(0x10, 3, false), (0x14, 2, false), (0x16, 2, false), (0x18, 2, false), (0x1D, 2, false), (0x20, 3, false),
      (0x24, 2, false)]
  | .gang => [(0x11, 2, false), (0x19, 2, true), (0x1B, 2, true), (0x1D, 2, true)]
  | .pwr => []
  | .host => []
  | .proof => []
  | .keys => []
  | .afe => []
  | .strm => []
  | .eprog => []
  | .switch => []
  | .tsi => []
  | .twi0 => []
  | .twi1 => []
  | .port => []
  | .pmux => []
  | .pint => []

/-- The group that holds an address: key address, length, read-only. -/
def groupAt (a : Nat) : Option (Nat × Nat × Bool) :=
  match kindOf (a / 256) with
  | none => none
  | some k =>
    (k.groups.find? fun g => g.1 ≤ a % 256 && a % 256 < g.1 + g.2.1).map fun g => (a / 256 * 256 + g.1, g.2)

/-- The reset value of a register (R102): the endpoint address comes from the serial number (R421). -/
def resetWord (a : Nat) : Word :=
  if a = R.IPSVC_MAC_L then Config.serial.setWidth 16
  else if a = R.IPSVC_MAC_M then BitVec.ofNat 16 (Config.serial.toNat / 65536 % 256)
  else resetOf a

/-- The groups whose reset value is a dash, so that an unlatched shadow shows the live value (R102, R104). -/
def dashGroup (key : Nat) : Bool :=
  key = 0x0014 || (key % 256 = 0x10 && (key / 256 - 0x20) < 5 && 0x20 ≤ key / 256) || key = 0x3A19

namespace Hw

/-- One bit. -/
def onBit (c : Bool) (i : Nat) : Nat := if c then 2 ^ i else 0

/-- A word of a list, 0 beyond its end. -/
def wordOf (vs : List Word) (i : Nat) : Word := vs.getD i 0

/-! ### STAT and CTRL -/

/-- The bits of STAT that a page's block shows, without DOMUP, STOPPING, LKV, PENDING and the stored W1C bits. -/
def statLive (h : Hw) (pg : Nat) : Kind → Nat
  | .ident => 0
  | .pwr => h.pwrStat % 4096
  | .clk => h.clkStat
  | .host => onBit (!h.host.queue.isEmpty) 2 + onBit h.host.addr0 1 + onBit h.host.mode3 0
  | .irq => onBit (h.intActive 1) 1 + onBit (h.intActive 0) 0
  | .diary => 0
  | .mbx => boxMask h.boxFull
  | .proof => h.proofStat
  | .keys => onBit h.keyBusy 10
  | .nvs => h.nvsStat
  | .afe => h.afeStat
  | .dec => h.decStat
  | .buf => h.bufStat
  | .strm => onBit h.strm.active 0
  | .recog => h.recStat
  | .reflex => onBit h.draftArm 0
  | .etch => h.etchBusyBits
  | .eprog => 0
  | .alm => onBit (h.almOf (pg - 0x20)).tgt.isSome 3 + onBit ((h.almOf (pg - 0x20)).slew != 0) 2
      + almQuality (h.almOf (pg - 0x20))
  | .cal => onBit h.calRange 2 + onBit h.leapPending 0
  | .tsu => 0
  | .tm => h.timStat (pg - 0x28)
  | .mac => onBit (if pg = 0x30 then h.linkUp 0 else h.linkUp 1) 3
  | .switch => 0
  | .tsi => onBit h.holding 0
  | .ipsvc => onBit h.alRes 0
  | .twi0 => h.twiStat 0
  | .twi1 => h.twiStat 1
  | .gang => h.gangStat
  | .port => 0
  | .pmux => 0
  | .pint => 0

/-- The stored bits that STAT shows beside the live ones: the W1C bits, ZEROED and KFAIL, and LDVALID. -/
def statStored : Kind → Nat
  | .ident => 0x2800
  | .mbx => 0x2E00
  | .keys => 0x2A00
  | .etch => 0x2800
  | .cal => 0x2002
  | .mac => 0x2010
  | _ => 0x2000

/-- PENDING in `PWR.STAT` shows a recorded sequence (R67); elsewhere a latched enable (R99). -/
def statPending (h : Hw) (pg : Nat) (k : Kind) : Bool :=
  if k = .pwr then h.pwrStat / 4096 % 2 = 1 else h.pendEn.contains pg

/-- `STAT` of a page (R95). -/
def readStat (h : Hw) (pg : Nat) (k : Kind) : Word :=
  (h.reg (pg * 256 + 3) &&& wd (statStored k)) |||
    wd (onBit (h.pageUp pg) 15 + onBit (h.isStopping pg) 14 + onBit (h.statPending pg k) 12) ||| wd (h.statLive pg k)

/-- `CTRL` of a page: EN, and the SC and W1S bits that still act. -/
def readCtrl (h : Hw) (pg : Nat) (k : Kind) : Word :=
  let c := h.reg (pg * 256 + 2)
  match k with
  | .proof => c ||| wd (onBit (h.proof.active && !h.proof.quick) 1)
  | .dec => c ||| wd (onBit h.dec.reanchor 1)
  | _ => c

/-! ### Block registers -/

/-- The owner codes of eight pins, four at a time (R538). -/
def ownWord (h : Hw) (port half : Nat) : Word :=
  wd ((List.range 4).foldl (fun m i => m + h.owner (8 * port + 4 * half + i) * 16 ^ i) 0)

/-- `PORTx.IN` (R522). -/
def inWord (h : Hw) (port : Nat) : Word :=
  wd ((List.range 8).foldl (fun m i => m + onBit (h.padLevel (8 * port + i)) i) 0)

/-- Blocks of VIGIL, first part. -/
def liveVigil (h : Hw) (k : Kind) (a : Nat) : Word :=
  let o := a % 256
  match k with
  | .ident =>
    if o = 0x12 then Config.fwver
    else if 0x14 ≤ o && o < 0x18 then wd (Config.serial.toNat / 65536 ^ (o - 0x14))
    else h.reg a
  | .pwr => if o = 0x11 then wd h.dstat else if o = 0x18 then wd h.pstate else h.reg a
  | .clk =>
    if o = 0x14 then wd h.clk.vms
    else if o = 0x15 then wd h.clk.vsec.toNat
    else if o = 0x16 then wd (h.clk.vsec.toNat / 65536)
    else if o = 0x18 || o = 0x19 then wordOf h.soffsWords (o - 0x18)
    else h.reg a
  | .host =>
    if o = 0x11 then wd h.host.queue.length
    else if o = 0x16 then wd (h.host.twiPage.toNat * 256 + h.host.twiPtr.toNat)
    else if o = 0x18 then h.summary 0 ||| h.summary 1
    else h.reg a
  | .irq =>
    if o = 0x11 then h.summary 0
    else if o = 0x12 then h.summary 1
    else if o = 0x13 then wd (h.firstPage 1 * 256 + h.firstPage 0)
    else h.reg a
  | .diary =>
    if o = 0x12 then wd h.diary.entries.length
    else if 0x20 ≤ o && o < 0x28 then
      match h.diary.entries with
      | [] => 0
      | e :: _ => wordOf [wd (e.src * 256 + onBit e.coarse 7 + e.qual % 4 * 32), e.num, e.arg, e.arg2, e.t0, e.t1, e.t2, e.t3]
          (o - 0x20)
    else h.reg a
  | .mbx =>
    if o = 0x12 then wd (boxMask h.boxClosed)
    else if 0x20 ≤ o && o < 0xA0 then
      if o % 16 < 9 then wordOf (h.boxWords (o / 16 - 2)) (o % 16)
      else if o % 16 = 9 then wd (h.boxInfo (o / 16 - 2))
      else 0
    else h.reg a
  | .keys =>
    if o = 0x13 then wd h.keyValid
    else if 0x18 ≤ o && o < 0x20 then wd (((h.keySlot (o - 0x18)).map Prod.fst).getD 0)
    else h.reg a
  | _ => h.reg a

/-- The two-wire blocks, the gang and the pins. -/
def livePins (h : Hw) (k : Kind) (a : Nat) : Word :=
  let o := a % 256
  match k with
  | .twi1 =>
    if o = 0x12 then wd (0x50 + h.gang.gid.toNat)
    else if o = 0x15 then h.reg a ||| wd (onBit h.xfer.busy 15)
    else h.reg a
  | .gang =>
    if o = 0x16 then wd (match h.gang.leader with | none => 0 | some g => 0x8000 + g % 16)
    else if o = 0x17 then wd h.rosterMask
    else if o = 0x18 then wd h.peerDis
    else if o = 0x19 || o = 0x1A then wd (h.gang.cword.toNat / 65536 ^ (o - 0x19))
    else if o = 0x1B || o = 0x1C then wd (h.gang.lcword.toNat / 65536 ^ (o - 0x1B))
    else if o = 0x21 then h.reg a ||| wd (onBit h.gang.rlyBusy 15)
    else if o = 0x22 then h.reg a ||| wd (onBit h.gang.rlyBusy 15)
    else if o = 0x23 then wd (onBit h.frozen 0)
    else h.reg a
  | .port =>
    let x := a / 256 - 0x40
    if o = 0x15 then h.inWord x
    else if o = 0x1A then h.ownWord x 0
    else if o = 0x1B then h.ownWord x 1
    else h.reg a
  | .pmux =>
    if 0x18 ≤ o && o < 0x1B then wd (h.pins.conf.toNat / 256 ^ (o - 0x18) % 256)
    else if o = 0x1C then wd h.pins.straps.toNat
    else h.reg a
  | .pint =>
    if o = 0x18 then wd ((List.finRange 8).foldl (fun m n => m + onBit (h.pins.lines[n]).level n.val) 0) else h.reg a
  | _ => h.reg a

/-- The blocks of SENSE. -/
def liveSense (h : Hw) (p : Party) (k : Kind) (a : Nat) : Word :=
  let o := a % 256
  match k with
  | .afe =>
    if o = 0x15 then wd h.afeRstat
    else if o = 0x18 then h.reg a ||| wd (onBit h.stBusy 15)
    else h.reg a
  | .dec => if o = 0x18 || o = 0x19 then wd (h.gridPhase / 65536 ^ (o - 0x18)) else h.reg a
  | .buf =>
    if o = 0x22 || o = 0x23 then wordOf (h.levelWords h.buf.portA) (o - 0x22)
    else if o = 0x2A || o = 0x2B then wordOf (h.levelWords h.buf.portB) (o - 0x2A)
    else h.reg a
  | .recog =>
    if 0x20 ≤ o && o < 0x26 then wordOf h.gestWords (o - 0x20)
    else if o = 0x26 then wd h.wstat
    else h.reg a
  | .reflex =>
    if o = 0x12 then wd (onBit h.latch.set 15 + h.latch.why)
    else if o = 0x13 then causeWord h.latch
    else h.reg a
  | .etch =>
    if 0x20 ≤ o && o < 0xA0 then
      let n : Fin 8 := ⟨(o / 16 - 2) % 8, Nat.mod_lt _ (by decide)⟩
      let j := o % 16
      if j = 4 then wd (h.etchStateWord n)
      else if 6 ≤ j && j < 10 then (h.etcher n).paid.c[(j - 6) % 4]'(Nat.mod_lt _ (by decide))
      else if j = 10 || j = 11 then wordOf (h.itWords n false) (j - 10)
      else if j = 12 || j = 13 then wordOf (h.itWords n true) (j - 12)
      else h.reg a
    else h.reg a
  | .eprog =>
    if o = 0x10 then ((eprogSlot p).map fun i => (h.eprog[i]).addr.setWidth 16).getD 0
    else if o = 0x11 then (h.streamRead p).1
    else if o = 0x12 then
      ((eprogSlot p).map fun i =>
        match (h.eprog[i]).half with
        | .empty => (0 : Word)
        | .highWritten => 1
        | .highRead => 2).getD 0
    else h.reg a
  | _ => h.reg a

/-- The blocks of TIME and NET. -/
def liveTime (h : Hw) (k : Kind) (a : Nat) : Word :=
  let o := a % 256
  match k with
  | .alm =>
    let n := a / 256 - 0x20
    if 0x10 ≤ o && o < 0x16 then wordOf (timeWords (almUnits (h.almOf n))) (o - 0x10)
    else if o = 0x22 || o = 0x23 then
      wd (((BitVec.ofInt 32 ((h.almOf n).slew.tdiv 65536)).toNat) / 65536 ^ (o - 0x22))
    else if o = 0x2A then
      let x := h.almOf n
      wd (onBit x.revert 6 + onBit x.committed 5 + onBit x.switching 4 + rungRank x.target * 4 + rungRank x.rung)
    else h.reg a
  | .cal => if 0x10 ≤ o && o < 0x17 then wordOf h.civilWords (o - 0x10) else h.reg a
  | .tm =>
    let n := a / 256 - 0x28
    if o = 0x10 || o = 0x11 then wordOf (h.timCntWords n) (o - 0x10)
    else if o = 0x12 || o = 0x13 then wordOf (h.timTopWords n) (o - 0x12)
    else if o = 0x14 || o = 0x15 then wordOf (h.timChWords n 0) (o - 0x14)
    else if o = 0x16 || o = 0x17 then wordOf (h.timChWords n 1) (o - 0x16)
    else h.reg a
  | .switch => if o = 0x14 then h.reg a ||| wd (onBit h.net.mdioBusy 15) else h.reg a
  | _ => h.reg a

/-- The live value of the register at an address, as party `p` would read it. -/
def live' (h : Hw) (p : Party) (a : Nat) : Word :=
  match kindOf (a / 256) with
  | none => 0
  | some k =>
    let o := a % 256
    if o = 0 then wd (a / 256 * 256 + k.blockType)
    else if o = 2 then h.readCtrl (a / 256) k
    else if o = 3 then h.readStat (a / 256) k
    else if o = 7 then h.reg (a / 256 * 256 + 4)
    else if o = 0x0F then h.host.twiPage.setWidth 16
    else if o < 0x10 then h.reg a
    else if k.dom = .sense then h.liveSense p k a
    else if k.dom = .vigil then
      match k with
      | .twi0 => h.livePins k a
      | .twi1 => h.livePins k a
      | .gang => h.livePins k a
      | .port => h.livePins k a
      | .pmux => h.livePins k a
      | .pint => h.livePins k a
      | _ => h.liveVigil k a
    else h.liveTime k a

/-! ### Reads -/

/-- Where a party's copy of a group register is kept. -/
def copyKey (p : Party) (a : Nat) : Nat := slot p * 65536 + a

/-- A party's shadow of a register (R104). -/
def shadow (h : Hw) (p : Party) (key a : Nat) : Word :=
  match Cells.get (fun _ => none) h.shadows (copyKey p a) with
  | some w => w
  | none => if dashGroup key then h.live' p a else resetWord a

/-- A key read latches the whole group into the party's shadow (R104). -/
def latchGroup (h : Hw) (p : Party) (key len : Nat) : Hw :=
  { h with shadows := (List.range len).foldl (fun c i =>
      Cells.put (fun _ => none) c (copyKey p (key + i)) (some (h.live' p (key + i)))) h.shadows }

/-- A key read of a capture group clears its FULL bit (R180, R383). -/
def capRead (h : Hw) (key : Nat) : Hw :=
  let pg := key / 256
  if pg = 0x25 then h.clrBits (R.TSU_CSTAT ((key % 256 - 0x20) / 8)) 0x8000
  else if 0x28 ≤ pg && pg < 0x2E then
    if key % 256 = 0x14 then h.timCapRead (pg - 0x28) 0
    else if key % 256 = 0x16 then h.timCapRead (pg - 0x28) 1
    else h
  else h

/-- A read of an address by a party, the page being powered: the word and what the read does. -/
def readReg (h : Hw) (p : Party) (a : Nat) : Word × Hw :=
  if a = R.BUF_ADATA then h.adataRead p
  else if a = R.EPROG_STREAM then h.streamRead p
  else
    match groupAt a with
    | none => (h.live' p a, h)
    | some (key, len, _) =>
      if a = key then (h.live' p a, (h.latchGroup p key len).capRead key) else (h.shadow p key a, h)

/-- A read ends in bus error when its page's domain is down (R11, R42). -/
def readErr (h : Hw) (a : Nat) : Bool := !h.pageUp (a / 256)

/-- A read with its bus error: none for a bus error, which reads 0x0000 (R12). Over TWI0, PSEL never ends in one (R149). -/
def readBus (h : Hw) (p : Party) (a : Nat) : Option Word × Hw :=
  if p = .twi0 && a % 256 = 0x0F && (kindOf (a / 256)).isSome then (some (h.host.twiPage.setWidth 16), h)
  else if h.readErr a then (none, h)
  else
    let (w, g) := h.readReg p a
    (some w, g)

end Hw
end Sys2Proof.Machine
end

