-- ==== Sys2Proof/Machine/BlockCtl.lean ====
section
/-!
DEFINITION. What CTRL does: block enable, stop and block reset of a page (R62, R98 to R100).
-/

namespace Sys2Proof.Machine
namespace Hw

/-- A port of the switch from a MAC page. -/
def macPort (pg : Nat) : Fin 2 := if pg = 0x30 then 0 else 1

/-! ### Enable and stop (R98, R99) -/

/-- The pages whose `CTRL.EN` can be written (R95 and the page tables). -/
def hasEnable : Kind → Bool
  | .afe => true
  | .recog => true
  | .reflex => true
  | .etch => true
  | .buf => true
  | .strm => true
  | .tm => true
  | .mac => true
  | .gang => true
  | .cal => true
  | .tsu => true
  | _ => false

/-- A block starts from its stopped state. -/
def blockStart (h : Hw) (pg : Nat) : Hw :=
  match kindOf pg with
  | some .buf => h.bufBegin
  | some .strm => h.strmStart
  | some .recog => h.recInit
  | some .gang => h.gangStart
  | _ => h

/-- An Etcher still waits for an access after a stop (R299). -/
def etchStalls (h : Hw) : Bool := (List.finRange 8).any fun (n : Fin 8) => (h.etcher n).st == .stall

/-- What a stop does at once, and whether work is left (R98, R299, R341, R357, R391, R446). -/
def blockStop (h : Hw) (pg : Nat) : Hw × Bool :=
  match kindOf pg with
  | some .afe => (h, true)
  | some .buf => (h, true)
  | some .strm => (h, h.strm.active)
  | some .etch => let g := h.etchStopAll; (g, g.etchStalls)
  | some .mac => (h.flushPort (macPort pg), false)
  | some .gang => if h.gang.cur.isSome then (h, true) else (h.gangStop, false)
  | _ => (h, false)

/-- The stop work of a page is done: what then holds; none while work is left. -/
def stopWork (h : Hw) (pg : Nat) : Option Hw :=
  match kindOf pg with
  | some .afe => some h.afeHalt
  | some .buf => some h
  | some .strm => some h.strmHalt
  | some .etch => if h.etchStalls then none else some h
  | some .gang => if h.gang.cur.isSome then none else some h.gangStop
  | _ => none

/-- A write to `CTRL.EN` of a page (R98, R99). -/
def enWrite (h : Hw) (pg : Nat) (on : Bool) : Hw :=
  match kindOf pg with
  | some .tm => if on then h.timEnable (pg - 0x28) else h.timStop (pg - 0x28)
  | some k =>
    if !hasEnable k then h
    else if on then
      let h1 := h.setBits (pg * 256 + 2) 1
      if h.isStopping pg then { h1 with pendEn := if h1.pendEn.contains pg then h1.pendEn else pg :: h1.pendEn }
      else if h.enabled pg then h
      else h1.blockStart pg
    else
      let h1 := { h.clrBits (pg * 256 + 2) 1 with pendEn := h.pendEn.filter (· != pg) }
      if h.isStopping pg || !h.enabled pg then h1
      else
        let (g, work) := h1.blockStop pg
        if work then { g with stopping := pg :: g.stopping } else g
  | none => h

/-- A block's stop completes (R98); a latched enable then starts the block (R99). A timer's stop ends on its own wrap
(R372). -/
def stopComplete (h : Hw) (pg : Nat) : Hw :=
  if !h.isStopping pg || !h.pageUp pg then h
  else
    match h.stopWork pg with
    | none => h
    | some g =>
      let g1 := { g with stopping := g.stopping.filter (· != pg) }
      if g1.pendEn.contains pg then { g1 with pendEn := g1.pendEn.filter (· != pg) }.blockStart pg else g1

/-! ### Block reset (R62, R100) -/

/-- The registers of a page with RWL bits. -/
def rwlRegs (k : Kind) : List (Nat × Nat) := (k.rows.filter (·.rwl != 0)).map fun d => (d.off, d.rwl)

/-- The registers of a page under a block reset (R62): reset values and NV values, but LOCK and locked RWL fields keep
theirs. -/
def resetPage (h : Hw) (pg : Nat) (k : Kind) : Hw :=
  let h1 := (h.clearPages (· == pg)).nvApply (· == pg)
  if !h.locked pg then h1
  else
    (rwlRegs k).foldl (fun g r =>
      let a := pg * 256 + r.1
      g.setReg a ((g.reg a &&& ~~~(wd r.2)) ||| (h.reg a &&& wd r.2))) (h1.setReg (pg * 256 + 8) 1)

/-- The HOST page's block reset (R152). -/
def resetHost (h : Hw) : Hw :=
  let h1 := [R.HOST_IFLAG, R.HOST_CRCCNT, R.HOST_BECNT, R.HOST_FRMCNT, R.HOST_ERRADDR].foldl (fun g a => g.setReg a 0) h
  (h1.clrBits R.HOST_CFG 1).clrBits R.HOST_STAT 0x2000

/-- The IDENT page's block reset (R62, R116). -/
def resetIdent (h : Hw) : Hw :=
  [R.IDENT_STAT, R.IDENT_IFLAG, R.IDENT_LKVADDR, R.IDENT_COLLADDR, R.IDENT_COLLWHO].foldl (fun g a => g.setReg a 0) h

/-- The blocks of VIGIL behind their reset pages. -/
def resetVigil (old h : Hw) (k : Kind) (pg : Nat) : Hw :=
  match k with
  | .irq =>
    let h1 := { h with int0 := { h.int0 with pulse := false }, int1 := { h.int1 with pulse := false } }
    (h1.setReg R.IRQ_CFG (old.reg R.IRQ_CFG)).irqCfgSet (h.reg R.IRQ_CFG)
  | .diary => { h.setReg R.DIARY_LOST (old.reg R.DIARY_LOST) with diary := { entries := [], num := 0 } }
  | .mbx => { h with mbx := Vector.replicate 8 Box.init }
  | .proof => h.proofCut
  | .twi0 => h.setTwi 0 (TwiBus.init (h.reg R.TWI0_CFG))
  | .twi1 =>
    let h1 := h.setTwi 1 (TwiBus.init (h.reg R.TWI1_CFG))
    let h2 := if h.xfer.busy then h1.xferEnd 6 0 else h1
    h2.gangMsgLost
  | .gang =>
    let h1 := if h.gang.cur.isSome then { h with xfer := { h.xfer with ctlr := .idle } } else h
    { h1 with gang := { Gang.init h.gang.gid with cword := h.gang.cword } }
  | .port =>
    { h with pins := { h.pins with held := h.pins.held &&& ~~~((0xFF#24) <<< (8 * (pg - 0x40))) } }
  | .pint => (List.range 8).foldl (fun g n => g.linePresent n) h
  | _ => h

/-- The blocks of SENSE behind their reset pages. -/
def resetSense (old h : Hw) (k : Kind) : Hw :=
  match k with
  | .afe =>
    let h1 := (h.setReg R.AFE_TEMP (old.reg R.AFE_TEMP)).emptyAll.stAbort.xbDriven
    if trimRegs.any fun a => h1.reg a != old.reg a then h1.trimChange else h1
  | .dec => h.emptyAll.reanchor
  | .buf =>
    { h with buf := { Buf.init with lastT := h.buf.lastT, since := h.buf.since } }.snapStart
  | .strm =>
    let h1 := { h with strm := Strm.init }
    if h1.enabled 0x13 then h1.strmStart else h1
  | .recog => h.recInit
  | .reflex => { h with latch := { h.latch with why := 0 } }
  | .etch => { h with etch := Vector.ofFn Etcher.init }
  | .eprog => { h with prog := h.nvProgram, eprog := Vector.replicate 3 EprogWin.init }
  | _ => h

/-- The blocks of TIME and NET behind their reset pages. -/
def resetTime (old h : Hw) (k : Kind) (pg : Nat) : Hw :=
  match k with
  | .alm => h.almRestart (pg - 0x20)
  | .cal => { h with cal := { Cal.init with ticks := h.cal.ticks } }.rolesChanged (old.reg R.CAL_ROLES)
  | .tsu => { h with pps := PpsOut.init }
  | .tm => h.setTim (pg - 0x28) Timer.init
  | .mac => macChanged old h (macPort pg)
  | .switch => { h with net := { h.net with learned := [], mdioBusy := false } }
  | .ipsvc => h.hopChanged
  | _ => h

/-- A write of 1 to `CTRL.SRST` (R62, R100). -/
def blockReset (h : Hw) (pg : Nat) : Hw :=
  match kindOf pg with
  | none => h
  | some k =>
    match k with
    | .ident => h.resetIdent
    | .pwr => h
    | .keys => h
    | .nvs => h
    | .host => h.resetHost
    | .eprog =>
      if (List.finRange 8).any fun (n : Fin 8) => h.etchBusy n then h.raise 0x17 0 else resetSense h (h.resetPage pg k) k
    | .ipsvc =>
      let keep := h.locked pg
      let h1 := h.resetPage pg k
      resetTime h (if keep then h1 else (h1.macInit).nvApply (· == pg)) k pg
    | _ =>
      let h1 := h.resetPage pg k
      if k.dom = .sense then resetSense h h1 k
      else if k.dom = .vigil then resetVigil h h1 k pg
      else resetTime h h1 k pg

end Hw
end Sys2Proof.Machine
end

