-- ==== Sys2Proof/Machine/Write.lean ====
section
/-!
DEFINITION. Writes at the register arbiter: field access codes, locks, write-once fields, wide groups, the effects of the
blocks, and several parties at one register (R6 to R14, R94 to R115).
-/

namespace Sys2Proof.Machine
namespace Hw

/-! ### Locked writes (R7, R108 to R111) -/

/-- A locked write reached an address. -/
def lockHit (h : Hw) (a : Nat) : Hw :=
  ((((h.setBits R.IDENT_STAT 0x2000).raise 0 0).setBits (a / 256 * 256 + 3) 0x2000)).setReg R.IDENT_LKVADDR (wd a)

/-- A write to LOCK (R108). -/
def lockWrite (h : Hw) (a : Nat) (v : Word) : Hw := if v = 0x4C4B then h.setReg a 1 else h

/-- The plain effect of a write (R6): RW and RWL bits take the value, W1C bits written with 1 are cleared. -/
def plainWrite (h : Hw) (a : Nat) (v : Word) : Hw :=
  match descOf a with
  | none => h
  | some d =>
    let m := wd d.rw ||| wd d.rwl
    h.setReg a (((h.reg a &&& ~~~m) &&& ~~~(v &&& wd d.w1c)) ||| (v &&& m))

/-- The masks of a register's RW and RWL bits. -/
def rwMask (a : Nat) : Word := ((descOf a).map fun d => wd d.rw).getD 0
def rwlMask (a : Nat) : Word := ((descOf a).map fun d => wd d.rwl).getD 0

/-- A write-once field (R110): `done` says that it was written before. -/
def wooWrite (h : Hw) (a : Nat) (v : Word) : Hw :=
  let scan := a = R.KEYS_SCANLOCK
  let m : Word := if scan then 1 else 0x00FF
  let done := if scan then h.keys.scanDone else h.keys.klockDone
  if done then (if v &&& m = h.reg a then h else h.lockHit a)
  else
    let h1 := h.setReg a (v &&& m)
    { h1 with keys := { h1.keys with
        scanDone := h1.keys.scanDone || scan, klockDone := h1.keys.klockDone || !scan } }

/-! ### CTRL, STAT and the interrupt registers (R95, R96) -/

/-- EOI of a pulse-mode pin (R508). -/
def eoi (h : Hw) (k : Nat) : Hw :=
  if h.intEn k && h.intPulse k && h.aggregate k then h.intStart k else h

/-- CLRCNT of a MAC page (R418). -/
def macClear (h : Hw) (pg : Nat) : Hw := (List.range 8).foldl (fun g i => g.setReg (pg * 256 + 0x18 + i) 0) h

/-- The action bits of CTRL beside SRST and EN. -/
def ctrlActions (h : Hw) (pg : Nat) (k : Kind) (v : Word) : Hw :=
  let on := fun (i : Nat) (f : Hw → Hw) (g : Hw) => if v.getLsbD i then f g else g
  match k with
  | .clk => on 1 (fun g => g.setBits R.CLK_CTRL 2) h
  | .irq => on 2 (fun g => g.eoi 1) (on 1 (fun g => g.eoi 0) h)
  | .proof => on 1 proofGo h
  | .dec => on 1 resync h
  | .buf => on 2 (fun g => if g.snapWaits then g.snapTrigger 0x3F else g) (on 1 bufArm h)
  | .reflex => on 1 forceLatch h
  | .mac => on 1 (fun g => g.macClear pg) h
  | .gang => on 4 gangWakeWrite (on 3 solRequest (on 2 epgoWrite h))
  | _ => h

/-- A write to CTRL: SRST resets the page and nothing else; otherwise EN and then the action bits. A locked EN keeps its
value (R109); an applied write of AFE's EN aborts a self-test run (R216). -/
def ctrlWrite (h : Hw) (pg : Nat) (k : Kind) (v : Word) : Hw :=
  if v.getLsbD 15 && !(k = .pwr || k = .keys || k = .nvs) then h.blockReset pg
  else
    let a := pg * 256 + 2
    let held := h.locked pg && (h.reg a ^^^ v) &&& rwlMask a != 0
    let h0 := if k = .afe && !held then h.stAbort else h
    let h1 := if held then h0.lockHit a else if hasEnable k then h0.enWrite pg (v.getLsbD 0) else h0
    h1.ctrlActions pg k v

/-- A write to STAT, IFLAG, IEN0, IEN1, IFORCE, LOCK or EVSEL. -/
def commonWrite (h : Hw) (pg : Nat) (k : Kind) (off : Nat) (v : Word) : Hw :=
  let a := pg * 256 + off
  if off = 7 then h.setBits (pg * 256 + 4) (v.toNat &&& k.ifMask)
  else if off = 8 then h.lockWrite a v
  else h.plainWrite a v

/-! ### Registers whose write does more than store (by block) -/

/-- POP (R514). -/
def diaryPop (h : Hw) (v : Word) : Hw :=
  match h.diary.entries with
  | [] => h.raise 5 3
  | e :: t => if e.num = v then { h with diary := { h.diary with entries := t } } else h.raise 5 3

/-- NOTE (R510): an entry with the value and the writing party. -/
def diaryNote (h : Hw) (p : Party) (v : Word) : Hw := h.diaryAdd 12 v (wd p.code)

/-- A write to `PINT.LCFGn` (R534). -/
def lcfgWrite (h : Hw) (n : Nat) (v : Word) : Hw :=
  if fld v 14 13 = 3 || fld v 10 9 = 3 then h.raise 0x44 8
  else (h.setReg (R.PINT_LCFG n) (v &&& 0xFEFF)).linePresent n

/-- A write to `PMUX.ESMAPn` (R539): PORT 3 is rejected. -/
def esmapWrite (h : Hw) (a : Nat) (v : Word) : Hw :=
  if fld v 5 4 = 3 then h.raise 0x43 1 else h.setReg a (v &&& 0x8037)

/-- A write to `TSU.PPSCFG` (R177): clearing OUTEN or naming another almanac ends a running pulse. -/
def ppscfgWrite (h : Hw) (v : Word) : Hw :=
  let h1 := h.setReg R.TSU_PPSCFG (v &&& 0x0331)
  if !v.getLsbD 8 || fld v 5 4 != h.f R.TSU_PPSCFG 5 4 then h1.ppsEnd else h1

/-- A write to `CAL.ROLES` (R164): a change of sample almanac while SENSE is powered starts a re-anchor. -/
def rolesWrite (h : Hw) (v : Word) : Hw := (h.setReg R.CAL_ROLES (v &&& 0x00FF)).rolesChanged (h.reg R.CAL_ROLES)

/-- The register belongs to the group of a capture channel, whose writes are ignored (R383). -/
def captureReg (h : Hw) (a : Nat) : Bool :=
  kindOf (a / 256) = some .tm && 0x14 ≤ a % 256 && a % 256 ≤ 0x17 &&
    fld (h.timCfg (a / 256 - 0x28) ((a % 256 - 0x14) / 2)) 15 14 = 2

/-- A write to a timer's configuration (R373). -/
def timCfgWrite (h : Hw) (n a : Nat) (v : Word) : Hw :=
  let o := a % 256
  let bad := (o = 0x1A && 5 ≤ fld v 15 13) || ((o = 0x1B || o = 0x1C) && (fld v 15 14 = 3 || 5 ≤ fld v 10 8))
  if h.enabled (0x28 + n) || h.isStopping (0x28 + n) || bad then h.timFlag n 5 else h.plainWrite a v

/-- A write to `MACn.CFG` (R390): without AUTOPOLL the link is taken as up. -/
def macCfgWrite (h : Hw) (pg : Nat) (a : Nat) (v : Word) : Hw :=
  let h1 := h.plainWrite a v
  if v.getLsbD 4 || h1.clk.nbackup then h1 else h1.linkSet (macPort pg) true

/-- A write to `DEC.GRIDCFG` (R257, R249): when ANCHOR becomes 1 the present GRIDOFS is the phase. -/
def gridcfgWrite (h : Hw) (v : Word) : Hw :=
  let h1 := h.setReg R.DEC_GRIDCFG (v &&& 0xC303)
  if v.getLsbD 15 && !h.b R.DEC_GRIDCFG 15 then
    { h1 with dec := { h1.dec with gridph := h1.reg32 R.DEC_GRIDOFS_L % 8388608 } }
  else h1

/-- A write to `AFE.STCTL` (R212). -/
def stctlWrite (h : Hw) (v : Word) : Hw :=
  let h1 := h.setReg R.AFE_STCTL (v &&& 0x30FF)
  if v.getLsbD 15 then h1.stStart v else h1

/-- An effect that counts as a change of orientation or user trims when the register's value changes (R272, R277). -/
def trimWatch (h g : Hw) (a : Nat) : Hw := if g.reg a != h.reg a then g.trimChange else g

/-- Registers of VIGIL but MBX, PORT, PMUX, PINT, TWI and GANG. -/
def writeVigil (h : Hw) (p : Party) (k : Kind) (a : Nat) (v : Word) : Hw :=
  let o := a % 256
  match k with
  | .ident => if o = 0x18 then (if v = 0xD1A5 then h.commandReset else h) else h.plainWrite a v
  | .pwr =>
    if o = 0x10 then h.reqWrite v
    else if o = 0x15 then (h.plainWrite a v).vinEval
    else h.plainWrite a v
  | .irq => if o = 0x10 then h.irqCfgSet v else h.plainWrite a v
  | .diary => if o = 0x15 then h.diaryPop v else if o = 0x16 then h.diaryNote p v else h.plainWrite a v
  | .mbx => if o = 0x10 then h.rcvWrite v else if o = 0x11 then h.boxRelease [(p, v)] else h.plainWrite a v
  | .keys =>
    if o = 0x12 then h.kcmdWrite p v
    else if o = 0x14 || o = 0x15 then h.wooWrite a v
    else if 0x20 ≤ o && o < 0x30 then h.kdataWrite p (o - 0x20) v
    else h.plainWrite a v
  | .twi0 => if o = 0x10 then h.twiCfgWrite 0 v else h.plainWrite a v
  | .twi1 =>
    if o = 0x10 then h.twiCfgWrite 1 v
    else if o = 0x15 then h.xcmdWrite v
    else if o = 0x14 then h.xbufWrite a (v &&& 0x007F)
    else if 0x20 ≤ o && o < 0x30 then h.xbufWrite a v
    else h.plainWrite a v
  | .gang =>
    if o = 0x21 then h.rlyctlWrite v
    else if o = 0x20 then h.rlyWrite a (v &&& 0x0F07)
    else if 0x28 ≤ o && o < 0x30 then h.rlyWrite a v
    else h.plainWrite a v
  | .pmux => if 0x10 ≤ o && o < 0x18 then h.esmapWrite a v else h.plainWrite a v
  | .pint => if 0x10 ≤ o && o < 0x18 then h.lcfgWrite (o - 0x10) v else h.plainWrite a v
  | _ => h.plainWrite a v

/-- Registers of SENSE. -/
def writeSense (h : Hw) (p : Party) (k : Kind) (a : Nat) (v : Word) : Hw :=
  let o := a % 256
  match k with
  | .afe =>
    if o = 0x10 then h.arangeWrite v
    else if o = 0x12 then h.grangeWrite v
    else if o = 0x13 then h.chenWrite v
    else if o = 0x14 then trimWatch h (h.orientWrite v) a
    else if o = 0x18 then h.stctlWrite v
    else if o = 0x28 then h.xbcfgWrite v
    else if 0x30 ≤ o && o < 0x3E then trimWatch h (h.plainWrite a v) a
    else h.plainWrite a v
  | .dec =>
    if o = 0x10 then h.odrWrite v
    else if o = 0x11 then h.respWrite v
    else if o = 0x12 then h.gridcfgWrite v
    else h.plainWrite a v
  | .buf =>
    if 0x10 ≤ o && o < 0x14 then h.bufCfgWrite a ([0x33, 7, 0x1FFF, 0x1FFF].getD (o - 0x10) 0) v
    else if o = 0x21 then h.acfgWrite v
    else if o = 0x28 then h.bcfgWrite v
    else h.plainWrite a v
  | .strm => if o = 0x10 then h.strmCfgWrite v else if o = 0x14 then h.dgwordsWrite v else h.plainWrite a v
  | .recog =>
    if o = 0x10 then h.rcfgWrite v
    else if 0x40 ≤ o && o < 0x80 then
      if o % 8 = 0 then h.winCfgWrite ((o - 0x40) / 8) v
      else if o % 8 = 1 then h.winHystWrite ((o - 0x40) / 8) v
      else h
    else h.plainWrite a v
  | .reflex => if o = 0x11 then h.releaseWrite p v else h.plainWrite a v
  | .etch =>
    let n : Fin 8 := ⟨(o / 16 - 2) % 8, Nat.mod_lt _ (by decide)⟩
    if o = 0x10 then h.etchControl (v.setWidth 8) ((v >>> 8).setWidth 8)
    else if 0x20 ≤ o && o % 16 = 3 then h.etchCmd n v
    else if 0x20 ≤ o && 6 ≤ o % 16 && o % 16 < 10 then h.pageCtr n ⟨(o % 16 - 6) % 4, Nat.mod_lt _ (by decide)⟩ v
    else h.plainWrite a v
  | .eprog => if o = 0x10 then h.eprogAddr p v else if o = 0x11 then h.streamWrite p v else h.plainWrite a v
  | _ => h.plainWrite a v

/-- Registers of TIME and NET. -/
def writeTime (h : Hw) (p : Party) (k : Kind) (a : Nat) (v : Word) : Hw :=
  let o := a % 256
  let pg := a / 256
  match k with
  | .alm =>
    let n := pg - 0x20
    if o = 0x26 then h.almBind n v
    else if o = 0x27 then h.ladderWrite n v
    else if o = 0x2B then h.servoWrite n (p = .spi || p = .twi0) v
    else if o = 0x37 then (if v.getLsbD 0 then h.almDisarm n else h)
    else h.plainWrite a v
  | .cal => if o = 0x19 then h.leapWrite v else if o = 0x1A then h.rolesWrite v else h.plainWrite a v
  | .tsu => if o = 0x10 then h.ppscfgWrite v else h.plainWrite a v
  | .tm => if 0x18 ≤ o && o < 0x1D then h.timCfgWrite (pg - 0x28) a v else h.plainWrite a v
  | .mac => if o = 0x10 then h.macCfgWrite pg a v else h.plainWrite a v
  | .switch => if o = 0x14 then h.mdioWrite v else h.plainWrite a v
  | _ => h.plainWrite a v

/-- The effect of an accepted write to a block register. -/
def blockWrite (h : Hw) (p : Party) (k : Kind) (a : Nat) (v : Word) : Hw :=
  if k.dom = .sense then h.writeSense p k a v
  else if k.dom = .vigil then h.writeVigil p k a v
  else h.writeTime p k a v

/-! ### Ports (R530 to R532) -/

/-- The data byte of a masked register after the writes, ranked highest first: each bit takes the highest-ranked party
whose mask selects it. -/
def maskedValue (old : Word) : List (Party × Word) → Word
  | [] => old
  | (_, v) :: t =>
    let m := (v >>> 8) &&& 0x00FF
    (maskedValue old t &&& ~~~m) ||| (v &&& m)

/-- Two masks of a list overlap: the winner and the loser that R532 records. -/
def maskClash : List (Party × Word) → Option (Party × Party)
  | [] => none
  | (p, v) :: t =>
    match t.find? fun q => (q.2 &&& v) >>> 8 != 0 with
    | some q => some (p, q.1)
    | none => maskClash t

/-- A dropped write is recorded (R112). -/
def collide (h : Hw) (a : Nat) (winner loser : Party) : Hw :=
  (((h.setBits R.IDENT_STAT 0x0800).raise 0 1).setReg R.IDENT_COLLADDR (wd a)).setReg R.IDENT_COLLWHO
    (wd (loser.code * 256 + winner.code))

/-- Masked writes to OUT, DIR or INV (R530, R532). -/
def portMasked (h : Hw) (a : Nat) (ws : List (Party × Word)) : Hw :=
  let v := maskedValue (h.reg a) ws
  let h1 := match maskClash ws with
    | some (w, l) => h.collide a w l
    | none => h
  if a % 256 = 0x16 && h.locked (a / 256) && v != h.reg a then h1.lockHit a else h1.setReg a v

/-- OUTSET, OUTCLR and OUTTGL (R531, R532). -/
def portSet (h : Hw) (a : Nat) (v : Word) : Hw :=
  let out := R.PORT_OUT (a / 256 - 0x40)
  let m := v &&& 0x00FF
  let o := h.reg out
  h.setReg out (if a % 256 = 0x11 then o ||| m else if a % 256 = 0x12 then o &&& ~~~m else o ^^^ m)

/-- A port register with a rule of its own against R112. -/
def portMaskedReg (a : Nat) : Bool :=
  0x40 ≤ a / 256 && a / 256 ≤ 0x42 && (a % 256 = 0x10 || a % 256 = 0x14 || a % 256 = 0x16)

def portSetReg (a : Nat) : Bool := 0x40 ≤ a / 256 && a / 256 ≤ 0x42 && 0x11 ≤ a % 256 && a % 256 ≤ 0x13

/-! ### Wide groups (R105, R106) -/

/-- A staging write (R105). -/
def stage (h : Hw) (p : Party) (a : Nat) (v : Word) : Hw :=
  { h with staging := Cells.put (fun _ => none) h.staging (copyKey p a) (some v) }

/-- The words of a commit: the key value, the party's staged values, and live values for what it has not staged; an
unstaged mailbox word is 0 (R105, R479). -/
def commitWords (h : Hw) (p : Party) (key len : Nat) (v : Word) : List Word :=
  (List.range len).map fun i =>
    if i = 0 then v
    else
      match Cells.get (fun _ => none) h.staging (copyKey p (key + i)) with
      | some w => w
      | none => if key / 256 = 6 then 0 else h.live' p (key + i)

/-- The party's staging copy of a group empties. -/
def unstage (h : Hw) (p : Party) (key len : Nat) : Hw :=
  { h with staging := Cells.clear (fun c => copyKey p key ≤ c && c < copyKey p key + len) h.staging }

/-- The words stored under their field masks. -/
def storeWords (h : Hw) (key : Nat) (vs : List Word) : Hw :=
  (vs.zipIdx).foldl (fun g x => g.plainWrite (key + x.2) x.1) h

/-- The commit would change an RWL field of a locked page (R106). -/
def commitLocked (h : Hw) (key : Nat) (vs : List Word) : Bool :=
  h.locked (key / 256) && (vs.zipIdx).any fun x => (x.1 ^^^ h.reg (key + x.2)) &&& rwlMask (key + x.2) != 0

/-- What an accepted commit of a group does. -/
def commitApply (h : Hw) (key : Nat) (vs : List Word) : Hw :=
  let pg := key / 256
  let o := key % 256
  match kindOf pg with
  | some .clk => h.vtimeSet vs
  | some .dec => h.gridofsSet vs
  | some .recog => h.winThrSet ((o - 0x40) / 8) vs
  | some .alm =>
    let n := pg - 0x20
    if o = 0x10 then h.almTimeSet n vs
    else if o = 0x18 then h.almAddSet n vs
    else if o = 0x1C then h.almStepSet n vs
    else if o = 0x22 then h.almSlewSet n vs
    else h.almTgtSet n vs
  | some .cal => h.civilSet vs
  | some .tm =>
    let n := pg - 0x28
    if o = 0x10 then h.timCntSet n vs
    else if o = 0x12 then h.timTopSet n vs
    else if o = 0x14 then h.timChSet n 0 vs
    else h.timChSet n 1 vs
  | some .ipsvc => (h.storeWords key vs).ipCommitted key
  | some .gang => h.epofsSet vs
  | _ => h.storeWords key vs

/-- The sender ID of a party in a mailbox header (R478). -/
def senderId : Party → Nat
  | .remote => 0x20
  | p => p.code

/-- A write to a group's key register (R105, R106, R480); true is a bus error. -/
def commit (h : Hw) (p : Party) (key len : Nat) (v : Word) : Hw × Bool :=
  let vs := h.commitWords p key len v
  if key / 256 = 6 then
    let r := h.boxCommit (senderId p) (key % 256 / 16 - 2) (fld v 7 4) (vs.drop 1)
    if r.2 then (h, true) else (r.1.unstage p key len, false)
  else if h.commitLocked key vs then ((h.lockHit key).unstage p key len, false)
  else ((h.commitApply key vs).unstage p key len, false)

/-! ### One party's write -/

/-- A write to a block register outside the groups: the lock comes before the register's own rejection (R14), and RW fields
beside a locked one still take their values (R7). -/
def fieldWrite (h : Hw) (p : Party) (k : Kind) (a : Nat) (v : Word) : Hw :=
  match k.desc (a % 256) with
  | none => h
  | some d =>
    if h.locked (a / 256) && ((h.reg a ^^^ v) &&& wd d.rwl) != 0 then
      if d.rw = 0 then h.lockHit a
      else (h.lockHit a).plainWrite a ((v &&& ~~~(wd d.rwl)) ||| (h.reg a &&& wd d.rwl))
    else h.blockWrite p k a v

/-- A word written over TWI0 to PSEL (R149): it selects an assigned page. -/
def pselWrite (h : Hw) (v : Word) : Hw :=
  if (kindOf (v.toNat % 256)).isSome then { h with host := { h.host with twiPage := v.setWidth 8 } } else h.raise 3 7

/-- The access is one of TWI0 to PSEL, which the host port holds (R97, R149). -/
def pselAccess (p : Party) (a : Nat) : Bool := p = .twi0 && a % 256 = 0x0F && (kindOf (a / 256)).isSome

/-- An Etcher's access to the ETCH or EPROG page (R315): it is not applied, and it is an error of code 4. -/
def etchBarred (p : Party) (a : Nat) : Option (Fin 8) :=
  match p with
  | .etch n => if etchForbidden a then some n else none
  | _ => none

/-- An error of an access (R323): recorded, and with ERRHALT a halt. -/
def accessError (h : Hw) (n : Fin 8) (code : Nat) : Hw :=
  let h1 := h.etchError n code (h.etchPc n)
  if h.b (R.ETCH_R n 0) 14 then h1.etchIdle n else h1

/-- A write to an address by a party, in the order of R14; true is a bus error. -/
def writeReg (h : Hw) (p : Party) (a : Nat) (v : Word) : Hw × Bool :=
  match kindOf (a / 256), etchBarred p a with
  | none, _ => (h, false)
  | some _, some n => (h.accessError n 4, false)
  | some k, none =>
    let o := a % 256
    if pselAccess p a then (h.pselWrite v, false)
    else if !h.pageUp (a / 256) then (h, true)
    else if o < 2 || o = 0x0F then (h, false)
    else if o = 2 then (h.ctrlWrite (a / 256) k v, false)
    else if o < 0x10 then (h.commonWrite (a / 256) k o v, false)
    else if portMaskedReg a then (h.portMasked a [(p, v)], false)
    else if portSetReg a then (h.portSet a v, false)
    else
      match groupAt a with
      | some (key, len, ro) =>
        if ro || h.captureReg a then (h, false)
        else if a = key then h.commit p key len v
        else (h.stage p a v, false)
      | none => (h.fieldWrite p k a v, false)

/-! ### Several parties in one V-cycle (R112, R113, R486, R532) -/

/-- Rank at the arbiter: lower goes first (R112). -/
def insertRank (x : Party × Word) : List (Party × Word) → List (Party × Word)
  | [] => [x]
  | y :: t => if slot x.1 ≤ slot y.1 then x :: y :: t else y :: insertRank x t

def ranked (ws : List (Party × Word)) : List (Party × Word) := ws.foldr insertRank []

/-- Every field that a write can set is W1C or W1S (R113). -/
def orReg (a : Nat) : Bool :=
  let o := a % 256
  if o = 4 || o = 7 then true
  else
    match descOf a with
    | none => false
    | some d => d.w1c != 0 && d.rw = 0 && d.rwl = 0

/-- The parties can send accesses: their logic runs. -/
def partyUp (h : Hw) : Party → Bool
  | .spi => h.vigil
  | .twi0 => h.vigil
  | .core => h.live .core
  | .remote => h.live .core
  | .etch _ => h.live .sense

/-- A bus error of a word of the host port is counted and its address kept (R12, R152). -/
def hostBusErr (h : Hw) (a : Nat) : Hw := ((h.raise 3 1).count R.HOST_BECNT).setReg R.HOST_ERRADDR (wd a)

/-- A bus error of a word over SPI also shows in the STATUS word of the next frame (R12). -/
def spiBusErr (h : Hw) (a : Nat) : Hw :=
  let g := h.hostBusErr a
  { g with host := { g.host with prevBus := true } }

/-- The indication of a bus error to a party (R12, R323); the firmware handles the core's bus fault itself. -/
def busErrTo (h : Hw) (a : Nat) : Party → Hw
  | .spi => h.spiBusErr a
  | .twi0 => h.hostBusErr a
  | .core => h
  | .remote => h
  | .etch n => h.accessError n 1

/-- A write does not reach the arbiter: TWI0's to PSEL and an Etcher's to its own pages (R149, R315). -/
def aside (a : Nat) (p : Party) : Bool := pselAccess p a || (etchBarred p a).isSome

/-- The writes of one V-cycle that do not reach the arbiter. -/
def asideWrites (h : Hw) (a : Nat) (ws : List (Party × Word)) : Hw :=
  (ws.filter fun w => aside a w.1).foldl (fun g w => (g.writeReg w.1 a w.2).1) h

/-- The writes that reach one address in one V-cycle, every party distinct. A collision is recorded at every register of an
assigned page, also where no write would apply (DESIGN CHOICE, log entry 33). -/
def arbitrate (h0 : Hw) (a : Nat) (ws0 : List (Party × Word)) : Hw :=
  let up := ws0.filter fun w => h0.partyUp w.1
  let h := h0.asideWrites a up
  match ranked (up.filter fun w => !aside a w.1) with
  | [] => h
  | (p, v) :: t =>
    let ws := (p, v) :: t
    if (kindOf (a / 256)).isNone then h
    else if h.readErr a then ws.foldl (fun g w => g.busErrTo a w.1) h
    else if a = R.MBX_REL then h.boxRelease ws
    else if portMaskedReg a then h.portMasked a ws
    else if portSetReg a || orReg a then (h.writeReg p a (ws.foldl (fun m w => m ||| w.2) 0)).1
    else
      let post := a / 256 = 6 && (groupAt a).map Prod.fst == some a
      let h1 := match t with
        | (q, _) :: _ => if post then h else h.collide a p q
        | [] => h
      let r := h1.writeReg p a v
      let g := if r.2 then r.1.busErrTo a p else r.1
      if post then t.foldl (fun g w => g.busErrTo a w.1) g else g

/-! ### A block and a party in one cycle (R114) -/

/-- The W1S bits that a block clears by itself: `CLK.CTRL.RECAL` (R92). -/
def w1sMask (a : Nat) : Word := if a = R.CLK_CTRL then 2 else 0

/-- The W1C bits of a register. -/
def w1cMask (a : Nat) : Word :=
  match kindOf (a / 256) with
  | none => 0
  | some k => if a % 256 = 4 then wd k.ifMask else ((descOf a).map fun d => wd d.w1c).getD 0

/-- The writes of one V-cycle, with what the register's block does to it in the same cycle of its island (R114): the party's
value and its set of a W1S bit prevail over the block's change, and a W1C flag that the block sets stays set. The completion
of an SC action and the effects of the block's change are commands of their own, which stand before this one in the queue
(log entry 92). -/
def arbitrateTie (h : Hw) (a : Nat) (ws : List (Party × Word)) (t : Tie) : Hw :=
  if t = Tie.none || !h.pageUp (a / 256) then h.arbitrate a ws
  else
    let h1 := h.clrBits a (t.clears &&& w1sMask a).toNat
    let m := rwMask a ||| rwlMask a
    let h2 := match t.value with
      | none => h1
      | some v => h1.setReg a ((h1.reg a &&& ~~~m) ||| (v &&& m))
    let h3 := h2.arbitrate a ws
    if h3.pageUp (a / 256) then h3.setBits a (t.sets &&& w1cMask a).toNat else h3

end Hw
end Sys2Proof.Machine
end

