-- ==== Sys2Proof/Machine/Host.lean ====
section
/-!
DEFINITION. The host port: SPI frames with the write queue and the CRC check, and TWI0 transfers (R119 to R152).
-/

namespace Sys2Proof.Machine
namespace Hw

def hostFlag (h : Hw) (bit : Nat) : Hw := h.raise 3 bit
def setHost (h : Hw) (x : HostPort) : Hw := { h with host := x }

/-! ### Frames (R121 to R125, R141 to R143) -/

/-- The fields of CMD (R122). -/
def cmdRead (c : Word) : Bool := c.getLsbD 15
def cmdCrc (c : Word) : Bool := c.getLsbD 14
def cmdHold (c : Word) : Bool := c.getLsbD 13
def cmdCount (c : Word) : Nat := fld c 12 8 + 1

/-- The address of the next word of a burst (R125). -/
def nextAddr (hold : Bool) (a : Nat) : Nat := if hold then a else a / 256 * 256 + (a % 256 + 1) % 256

/-- STATUS (R123). -/
def statusWord (h : Hw) : Word :=
  wd (onBit h.host.prevBus 15 + onBit h.host.prevCrc 14 + onBit h.pwr.draft 13 + onBit (h.intActive 0) 12
    + onBit (h.intActive 1) 11 + onBit (h.up .time) 10 + onBit (h.up .sense) 9 + onBit (h.up .net) 8 + onBit (h.up .core) 7
    + onBit h.host.prevFull 6 + onBit h.host.prevLate 5 + fld (h.reg R.HOST_SEQ) 3 0)

/-- SUMMARY (R124). -/
def summaryWord (h : Hw) : Word := h.summary 0 ||| h.summary 1

/-- A frame starts: the flags of the previous frame have been sent. -/
def frameBegin (h : Hw) : Hw :=
  h.setHost { h.host with prevBus := false, prevCrc := false, prevFull := false, prevLate := false }

/-- A frame is counted (R141), with what MISO carried. -/
def frameCount (h : Hw) (mode3 : Bool) (miso : List Word) : Hw :=
  (h.setReg R.HOST_SEQ (h.reg R.HOST_SEQ + 1)).setHost { h.host with mode3 := mode3, miso := miso }

/-- What MISO carries while `n` whole words are clocked: the words of the slots, then 0x0000 (R143). -/
def misoWords (slots : List Word) (n : Nat) : List Word := slots.take n ++ List.replicate (n - slots.length) 0

/-- A truncated or overlong frame (R142, R143). -/
def frameBad (h : Hw) (bad : Bool) : Hw := if bad then (h.hostFlag 2).count R.HOST_FRMCNT else h

/-- A frame is rejected (R135, R138): by its CRC check (flag 0) or by CRCREQ (flag 8). -/
def frameReject (h : Hw) (flag : Nat) : Hw :=
  let h1 := (h.hostFlag flag).count R.HOST_CRCCNT
  h1.setHost { h1.host with prevCrc := true }

/-! ### The write queue (R131 to R133) -/

/-- A write that would end in bus error now (R132): its page is down, or its mailbox is full or closed. -/
def wouldErr (h : Hw) (a : Nat) : Bool :=
  h.readErr a ||
    (a / 256 = 6 && 0x20 ≤ a % 256 && a % 256 < 0xA0 && a % 16 = 0 &&
      (h.boxFull (a % 256 / 16 - 2) || h.boxClosed (a % 256 / 16 - 2)))

/-- A written word arrives at the queue: bus error, QFULL or a place in it. -/
def enqueueWord (h : Hw) (a : Nat) (v : Word) : Hw :=
  if h.wouldErr a then h.spiBusErr a
  else if 32 ≤ h.host.queue.length then
    let h1 := h.hostFlag 3
    h1.setHost { h1.host with prevFull := true }
  else h.setHost { h.host with queue := h.host.queue ++ [(a, v)] }

/-- The oldest queued word is applied (R131), or discarded with LATEBUS (R132). -/
def queueApply (h : Hw) : Hw :=
  if !h.vigil then h
  else
    match h.host.queue with
    | [] => h
    | (a, v) :: t =>
      let h1 := h.setHost { h.host with queue := t }
      let r := h1.writeReg .spi a v
      if r.2 then h1.hostFlag 5 else r.1

/-- Several queued words are applied. -/
def queueDrain : Nat → Hw → Hw
  | 0, h => h
  | n + 1, h => queueDrain n h.queueApply

/-- The data words of a write frame enter the queue; before word k the queue has applied `drains[k]` words. A reset on the
way discards the rest (R61). -/
def writeBurst (hold : Bool) : Nat → List Word → List Nat → Hw → Hw
  | _, [], _, h => h
  | a, v :: t, ds, h =>
    let h1 := queueDrain (ds.headD 0) h
    if !h1.vigil then h1 else writeBurst hold (nextAddr hold a) t ds.tail (h1.enqueueWord a v)

/-- A write frame (R121, R131, R135, R138, R142, R143): the whole MOSI words received, and whether CS_N stayed low after the
last slot. With CRC = 1 the words enter the queue together once the check has passed. -/
def spiWrite (h : Hw) (mode3 : Bool) (ws : List Word) (drains : List Nat) (extra : Bool) : Hw :=
  match ws with
  | [] => h
  | cmd :: rest =>
    if !h.padsOn || cmdRead cmd then h
    else
      let n := cmdCount cmd
      let crc := cmdCrc cmd
      let slots := 2 + n + if crc then 1 else 0
      let short := ws.length < slots
      let long := extra || slots < ws.length
      let addr := (rest.headD 0).toNat
      let data := (rest.drop 1).take n
      let own := crc16 (ws.take (n + 2))
      let miso := misoWords ((h.statusWord :: h.summaryWord :: List.replicate n 0) ++ (if crc then [own] else [])) ws.length
      let h0 := h.frameBegin
      let h1 :=
        if h.b R.HOST_CFG 1 && !crc then h0.frameReject 8
        else if !crc then writeBurst (cmdHold cmd) addr data drains h0
        else if short || ws.getD (n + 2) 0 != own then h0.frameReject 0
        else writeBurst (cmdHold cmd) addr data [] (queueDrain drains.sum h0)
      if !h1.vigil then h1 else (h1.frameBad (short || long)).frameCount mode3 miso

/-! ### Read frames (R126 to R130, R136, R139, R140) -/

/-- A read advances a pointer (R130). -/
def pointerReg (a : Nat) : Bool := a = R.BUF_ADATA || a = R.EPROG_STREAM

/-- The machine with every queued word applied, in queue order (R29, R129). -/
def withQueue (h : Hw) : Hw := queueDrain h.host.queue.length h

/-- The queue holds words for a register, or for its group. -/
def queuedFor (h : Hw) (a : Nat) : Bool :=
  let key := fun (x : Nat) => ((groupAt x).map Prod.fst).getD x
  h.host.queue.any fun w => key w.1 = key a

/-- A read of a register over SPI (R128, R129): the word, and the machine with the shadow latched and a pointer moved. A read
of `EPROG.STREAM` waits for the queued words, so that it moves the window that they leave (DESIGN CHOICE, log entry 93). -/
def spiReadReg (h : Hw) (a : Nat) : Word × Hw :=
  if a = R.EPROG_STREAM && h.host.queue.any (fun w => w.1 / 256 = 0x17) then h.withQueue.readReg .spi a
  else if h.queuedFor a then
    let r := h.withQueue.readReg .spi a
    (r.1, { (h.readReg .spi a).2 with shadows := r.2.shadows })
  else h.readReg .spi a

/-- One read word of a frame: a page that is down gives 0x0000 and a bus error (R127). -/
def spiReadWord (h : Hw) (a : Nat) : Word × Hw :=
  if h.readErr a then (0, h.spiBusErr a) else h.spiReadReg a

/-- The `k` words of a read burst. -/
def readBurst (hold : Bool) : Nat → Nat → Hw → List Word × Hw
  | _, 0, h => ([], h)
  | a, k + 1, h =>
    let (w, h1) := h.spiReadWord a
    let (ws, h2) := readBurst hold (nextAddr hold a) k h1
    (w :: ws, h2)

/-- The address of word `k` of a burst. -/
def burstAddr (hold : Bool) : Nat → Nat → Nat
  | a, 0 => a
  | a, k + 1 => burstAddr hold (nextAddr hold a) k

/-- A failed CRC check takes the pointers and FULL bits back, and keeps the shadow latches (R136, R142). -/
def unread (old h : Hw) : Hw :=
  let h1 := (List.range 8).foldl (fun g n => g.setReg (R.TSU_CSTAT n) (old.reg (R.TSU_CSTAT n))) h
  { h1 with buf := old.buf, eprog := old.eprog, tim := old.tim }

/-- A read frame: `late` is the first word that was late in the draft format (R140). -/
def spiRead (h : Hw) (mode3 : Bool) (ws : List Word) (late : Option Nat) (extra : Bool) : Hw :=
  match ws with
  | [] => h
  | cmd :: rest =>
    if !h.padsOn || !cmdRead cmd then h
    else
      let n := cmdCount cmd
      let crc := cmdCrc cmd
      let hold := cmdHold cmd
      let dummy := if h.pwr.draft then 1 else 0
      let slots := 2 + dummy + n + if crc then 1 else 0
      let short := ws.length < slots
      let long := extra || slots < ws.length
      let addr := (rest.headD 0).toNat
      let sent := if ws.length < 2 then 0 else min n (ws.length - 2 - dummy)
      let good := if h.pwr.draft then min sent (late.getD n) else sent
      let h0 := h.frameBegin
      let (data, h1) := readBurst hold addr good h0
      -- in full service the word after the last whole one has had its fork (R126, R128)
      let h2 := if !h.pwr.draft && 2 ≤ ws.length && good < n && !pointerReg (burstAddr hold addr good) then
          (h1.spiReadWord (burstAddr hold addr good)).2
        else h1
      -- a late word whose bit 15 was due counts as LATE even when CS_N then cuts it off
      let h3 := if h.pwr.draft && 3 ≤ ws.length && late.any (fun k => k ≤ sent && k < n) then
          let g := h2.hostFlag 4
          g.setHost { g.host with prevLate := true }
        else h2
      let words := data ++ List.replicate (n - data.length) 0
      let own := crc16 (cmd :: wd addr :: words)
      let miso := misoWords ((h.statusWord :: h.summaryWord :: List.replicate dummy 0) ++ words
        ++ (if crc then [own] else [])) ws.length
      let fail := crc && (short || ws.getD (slots - 1) 0 != crc16 [cmd, wd addr])
      let h4 := if fail then (unread h0 h3).frameReject 0 else h3
      (h4.frameBad (short || long)).frameCount mode3 miso

/-! ### TWI0 (R144 to R151) -/

/-- TWI0's own address (R144). -/
def twi0Addr (h : Hw) : Nat := if h.host.addr0 then 0x3B else 0x3A

/-- The pointer after a word (R148). A word that writes `HOST.CFG.T0HOLD` is followed by its new value (DESIGN CHOICE, log
entry 94). -/
def twiAdvance (h : Hw) : Hw :=
  if h.b R.HOST_CFG 0 then h else h.setHost { h.host with twiPtr := h.host.twiPtr + 1 }

def twiAt (h : Hw) : Nat := h.host.twiPage.toNat * 256 + h.host.twiPtr.toNat

/-- One word written over TWI0 (R146, R149, R150): the machine, and whether the low byte is acknowledged. -/
def twiWriteWord (h : Hw) (v : Word) : Hw × Bool :=
  if h.host.twiPtr = 0x0F then ((h.pselWrite v).twiAdvance, true)
  else
    let r := h.writeReg .twi0 h.twiAt v
    if r.2 then ((r.1.hostBusErr h.twiAt).twiAdvance, false)
    else if !r.1.vigil then (r.1, true)
    else (r.1.twiAdvance, true)

/-- The bytes after the pointer byte, two at a time; a byte without its partner is discarded with TWIHALF. -/
def twiWriteBytes : List Byte → Hw → Hw × List Bool
  | [], h => (h, [])
  | [_], h => (h.hostFlag 6, [true])
  | hi :: lo :: t, h =>
    if !h.vigil then (h, [])
    else
      let (h1, ack) := h.twiWriteWord (hi ++ lo)
      let (h2, acks) := twiWriteBytes t h1
      (h2, true :: ack :: acks)

/-- The bus is busy from a START until it is free again (R427). -/
def twiBusy (h : Hw) (k : Fin 2) : Hw := h.setTwi k { h.twiBus k with busy := true }

/-- A write transfer to a 7-bit address (R144, R146, R150). -/
def twi0Write (h : Hw) (addr : BitVec 7) (bytes : List Byte) : Hw :=
  if !h.padsOn then h
  else if addr.toNat ≠ h.twi0Addr then h.twiBusy 0
  else
    match bytes with
    | [] => (h.twiBusy 0).setHost { h.host with twiOut := [], twiAck := [true] }
    | ptr :: t =>
      let h1 := (h.twiBusy 0).setHost { h.host with twiPtr := ptr }
      let (h2, acks) := twiWriteBytes t h1
      if !h2.vigil then h2 else h2.setHost { h2.host with twiOut := [], twiAck := true :: true :: acks }

/-- One word read over TWI0 (R147, R149). -/
def twiReadWord (h : Hw) : Word × Hw :=
  if h.host.twiPtr = 0x0F then (h.host.twiPage.setWidth 16, h)
  else if h.readErr h.twiAt then (0, h.hostBusErr h.twiAt)
  else h.readReg .twi0 h.twiAt

/-- The two bytes of a word, high byte first. -/
def wordBytes (w : Word) : List Byte := [(w >>> 8).setWidth 8, w.setWidth 8]

/-- Whole words of a read transfer. -/
def twiReadWords : Nat → Hw → List Byte × Hw
  | 0, h => ([], h)
  | n + 1, h =>
    let (w, h1) := h.twiReadWord
    let (bs, h2) := twiReadWords n h1.twiAdvance
    (wordBytes w ++ bs, h2)

/-- A read transfer (R147): `n` whole words, and whether the controller ended after one more high byte, which counts nothing
but the latch of a key read. -/
def twi0Read (h : Hw) (addr : BitVec 7) (n : Nat) (half : Bool) : Hw :=
  if !h.padsOn then h
  else if addr.toNat ≠ h.twi0Addr then h.twiBusy 0
  else
    let (bs, h1) := twiReadWords n (h.twiBusy 0)
    let (w, h2) := h1.twiReadWord
    let h3 := if half && !pointerReg h1.twiAt && (h1.host.twiPtr = 0x0F || !h1.readErr h1.twiAt) then h2 else h1
    h3.setHost { h3.host with twiOut := bs ++ (if half then (wordBytes w).take 1 else []), twiAck := [true] }

end Hw
end Sys2Proof.Machine
end

