-- ==== Sys2Proof/Machine/EtchAccess.lean ====
section
/-!
DEFINITION. The access of a stalled Etcher completes (R298, R299, R315, R316, R323).
-/

namespace Sys2Proof.Machine
namespace Hw

/-- Writes of one V-cycle to this register merge, so that none is dropped (R113, R531, R532). -/
def mergesWrites (a : Nat) : Bool := orReg a || portSetReg a || portMaskedReg a

/-- The address of a mailbox key, whose losing commit ends in bus error (R486). -/
def boxKey (a : Nat) : Bool := a / 256 = 6 && (groupAt a).map Prod.fst == some a

/-- A party goes before Etcher `n` at the arbiter (R112, R315, R486). -/
def beats (n : Fin 8) (p : Party) : Bool := slot p < slot (.etch n)

/-- What the access does and whether it ends in an error of code 1; `rival` is a party that reaches its register or mailbox in
the same V-cycle, and the access is lost to it when it ranks higher (R112, R315, R322, R486). -/
def accessApply (h : Hw) (n : Fin 8) (a : Access) (rival : Option Party) : Hw × Bool :=
  let lost := rival.filter (beats n)
  match a with
  | .write x v =>
    if h.readErr x then (h, true)
    else
      match lost.filter fun _ => !mergesWrites x && (kindOf (x / 256)).isSome with
      | some w => if boxKey x then (h, true) else (h.collide x w (.etch n), false)
      | none => h.writeReg (.etch n) x v
  | .read x cn =>
    let r := h.readBus (.etch n) x
    (if (r.2.etcher n).stopping then r.2 else r.2.setCtr n cn (r.1.getD 0), r.1.isNone)
  | .post mb hdr data =>
    if lost.isSome then (h, true) else h.boxCommit (8 + n.val) mb (fld hdr 7 4) data

/-- The Etcher after its access: a stop or a latched start applies, an error halts with ERRHALT, and otherwise execution
continues at PC + 1. The pulses of the cycles of the STALL have passed unseen (R296). -/
def accessFinish (h : Hw) (n : Fin 8) (err : Bool) : Hw :=
  let h0 := h.etchSaw n
  let h1 := if err then h0.etchError n 1 (h0.etchPc n) else h0
  let e := h1.etcher n
  let h2 := h1.setEtcher n { e with access := none }
  match e.pend with
  | some a => if e.stopping then (h2.etchIdle n).etchBegin n a.toNat else h2.etchBegin n a.toNat
  | none =>
    if e.stopping then h2.etchIdle n
    else if err && h.b (R.ETCH_R n 0) 14 then h2.etchIdle n
    else h2.etchNext n

/-- The access of Etcher `n` completes; a reset that it caused leaves nothing to continue. -/
def accessComplete (h : Hw) (n : Fin 8) (rival : Option Party) : Hw :=
  match (h.etcher n).st == .stall && h.live .sense, (h.etcher n).access with
  | true, some a =>
    let r := h.accessApply n a rival
    if !r.1.vigil then r.1 else r.1.accessFinish n r.2
  | _, _ => h

end Hw
end Sys2Proof.Machine
end

