-- ==== Sys2Proof/Machine/Firmware.lean ====
section
/-!
DEFINITION. The firmware services: taking a command, the commands, replies, and the end of a store write (R490 to R499,
R546, R595).
-/

namespace Sys2Proof.Machine
namespace Hw

def setFw (h : Hw) (f : Firmware) : Hw := { h with fw := f }

/-- Fields of a command word (R491). -/
def cmdWord (c : FwCmd) (i : Nat) : Word := c.words.getD i 0
def cmdCode (c : FwCmd) : Nat := fld (cmdWord c 0) 15 8
def cmdTag (c : FwCmd) : Nat := fld (cmdWord c 0) 7 4
def cmdReply (c : FwCmd) : Nat := fld (cmdWord c 0) 2 0

/-- The fixed LEN of a code (R494); none for a code outside the table. -/
def codeLen (c : Nat) : Option Nat :=
  match c with
  | 0x01 => some 1
  | 0x10 => some 2
  | 0x11 => some 1
  | 0x12 => some 2
  | 0x18 => some 1
  | 0x20 => some 5
  | 0x21 => some 5
  | 0x22 => some 2
  | 0x23 => some 2
  | _ => none

/-- RPLOST counts a request or a reply (R492). -/
def rpLost (h : Hw) : Hw := (h.count R.MBX_RPLOST).setBits R.MBX_STAT 0x0200

/-- The firmware is free, and CORE_SLEEP, if that was the command, clears its request (R490, R496). -/
def fwEnd (h : Hw) : Hw :=
  let h1 := h.setFw { h.fw with cmd := none, handed := false, reply := none, sleep := false }
  if h.fw.sleep then h1.clrBits R.PWR_REQ 8 else h1

/-- The command ends with an error code and result words (R491, R492): its reply waits, or is dropped at once when the
reply mailbox's receiver is the core. -/
def answer (h : Hw) (c : FwCmd) (err : Nat) (result : List Word) : Hw :=
  let ws := wd (cmdCode c * 256 + cmdTag c * 16 + err) :: if err = 0 then result else []
  if h.receiver (cmdReply c) = 1 then h.rpLost.fwEnd
  else h.setFw { h.fw with reply := some (cmdReply c, ws) }

/-- The firmware takes the next command (R490, R492, R493): the lowest full mailbox whose receiver is the core. An empty
request is counted; a code outside the table is answered. -/
def commandTake (h : Hw) : Hw :=
  if !h.up .core || h.fw.cmd.isSome || h.fw.reply.isSome then h
  else
    match (List.range 8).find? fun n => h.boxFull n && h.receiver n == 1 with
    | none => h
    | some n =>
      match (h.box n).msg with
      | none => h
      | some (hdr, data) =>
        let h1 := h.boxEmpty n
        if data.isEmpty then h1.rpLost
        else
          let c : FwCmd := { sender := fld hdr 15 8, words := data }
          let h2 := h1.setFw { h1.fw with cmd := some c, handed := false, sleep := false }
          if (codeLen (cmdCode c)).isNone then h2.answer c 1 [] else h2

/-- A command of a code runs: the first error that holds is answered, otherwise `act` (R493). -/
def command (h : Hw) (code : Nat) (err : Hw → FwCmd → Nat) (act : Hw → FwCmd → Hw) : Hw :=
  match h.fw.cmd with
  | none => h
  | some c =>
    if !h.up .core || cmdCode c ≠ code || h.fw.handed || h.fw.reply.isSome then h
    else if some c.words.length ≠ codeLen code then h.answer c 2 []
    else
      let e := err h c
      if e ≠ 0 then h.answer c e [] else act h c

/-- Bit 3 of word 0 is set (R493). -/
def badWord0 (c : FwCmd) : Bool := (cmdWord c 0).getLsbD 3

/-- PING (R494). The seconds since the CORE on-sequence completed are counted in V-cycles of 125 ns. -/
def fwPing (h : Hw) : Hw :=
  h.command 0x01 (fun _ c => if badWord0 c then 3 else 0) fun h c =>
    let s := (h.now - h.fw.upAt) / 8000000
    h.answer c 0 [Config.fwver, wd (s / 65536), wd s]

/-- The store errors in order: ARG, BUSY, UNAVAIL, VINLOW (R493, R494). -/
def storeErr (h : Hw) (arg unavail : Bool) : Nat :=
  if arg then 3 else if h.storeBusy then 4 else if unavail then 5 else if h.pwr.vinWarn then 8 else 0

/-- A store write is handed to the controller (R495, R546). -/
def handOver (h : Hw) : Hw := h.setFw { h.fw with handed := true }

/-- NVS_SAVE (R494, R495, R595). -/
def fwSave (h : Hw) : Hw :=
  h.command 0x10
    (fun h c =>
      let s := (cmdWord c 1).toNat
      h.storeErr (badWord0 c || s = 0 || 8 ≤ s) (s.testBit 1 && !h.up .sense))
    fun h c => (h.storeSave (cmdWord c 1).toNat).handOver

/-- NVS_CONFIRM (R494, R495). -/
def fwConfirm (h : Hw) : Hw :=
  h.command 0x11 (fun h c => h.storeErr (badWord0 c || !h.b R.NVS_STAT 3) false)
    fun h _ => { h with nvs := { h.nvs with job := some .confirm } }.handOver

/-- NVS_ERASE (R494, R495): only host SPI and host TWI0 may use it. -/
def fwErase (h : Hw) : Hw :=
  h.command 0x12
    (fun h c => if c.sender = 1 || c.sender = 2 then h.storeErr (badWord0 c || cmdWord c 1 != 0xE5A5) false else 7)
    fun h _ => { h with nvs := { h.nvs with job := some .erase } }.handOver

/-- CORE_SLEEP (R496). -/
def fwSleep (h : Hw) : Hw :=
  h.command 0x18 (fun _ c => if badWord0 c then 3 else 0)
    fun h c => (h.setFw { h.fw with sleep := true }).answer c 0 []

/-- An ALM argument out of range (R494). -/
def badAlm (c : FwCmd) : Bool := badWord0 c || 4 ≤ (cmdWord c 1).toNat

/-- The ordinary clock of the argument is bound and enabled (R595). -/
def clockReady (h : Hw) (c : FwCmd) : Bool :=
  let m := (cmdWord c 1).toNat % 4
  h.b (R.ALM_BIND m) 15 && (h.ptpCfg m).getLsbD 15

/-- Setting words of a clock, three from an index on, replaced by words 2 to 4 of the command (R497). -/
def clockSet (h : Hw) (c : FwCmd) (first : Nat) : Hw :=
  let m : Fin 4 := ⟨(cmdWord c 1).toNat % 4, Nat.mod_lt _ (by decide)⟩
  let ws : Vector Word 6 := Vector.ofFn fun i =>
    if first ≤ i.val && i.val < first + 3 then cmdWord c (i.val - first + 2) else h.fw.clocks[m][i]
  h.setFw { h.fw with clocks := h.fw.clocks.set m ws }

/-- PTP_SET_CLOCK (R497, R595). -/
def fwSetClock (h : Hw) : Hw :=
  h.command 0x20 (fun h c => if badAlm c then 3 else if h.clockReady c then 0 else 5)
    fun h c => (h.clockSet c 0).answer c 0 []

/-- An interval field lies outside its range (R497). -/
def badInterval (c : FwCmd) : Bool :=
  let out := fun (lo hi n : Int) => n < lo || hi < n
  let s := fun (i hiBit loBit : Nat) => signed 8 (fld (cmdWord c i) hiBit loBit)
  out 0 4 (s 2 15 8) || out (-7) 4 (s 2 7 0) || out (-7) 4 (s 3 15 8) || out (-7) 4 (s 3 7 0)
    || out 2 10 (fld (cmdWord c 4) 7 0)

/-- PTP_SET_INTERVALS (R497, R595). -/
def fwSetIntervals (h : Hw) : Hw :=
  h.command 0x21 (fun h c => if badAlm c || badInterval c then 3 else if h.clockReady c then 0 else 5)
    fun h c => (h.clockSet c 3).answer c 0 []

/-- The errors of PTP_STATUS and PTP_PARENT (R595). -/
def clockErr (h : Hw) (c : FwCmd) : Nat :=
  if badAlm c then 3 else if h.clockReady c && h.up .time && h.up .net then 0 else 5

/-- meanPathDelay in ns (R497): in P2P operation the mean link delay of the port on which the parent lies (which port that is,
and the measured path delay in E2E operation, are free; log entry 3). -/
def pathDelay (h : Hw) (m : Nat) : Nat :=
  if (h.ptpCfg m).getLsbD 14 then h.reg32 (R.MAC_LINKDLY_L (h.open' 26 % 2)) / 16 else h.open' 27 % 4294967296

/-- PTP_STATUS (R494): GOOD is the register's bit; what the algorithms of IEEE 1588 and the servo decide is free (log entry
3): the port state is one of the nine of that standard. -/
def fwStatus (h : Hw) : Hw :=
  h.command 0x22 clockErr fun h c =>
    let m := (cmdWord c 1).toNat % 4
    let d := h.pathDelay m
    let w := fun (i : Nat) => wd (h.open' i)
    h.answer c 0
      [wd (1 + h.open' 24 % 9 + h.open' 5 % 3 * 16 + onBit (h.b (R.ALM_SERVO m) 0) 8), w 28, w 29, wd (d / 65536), wd d, w 30,
       wd (h.open' 35 % 256)]

/-- PTP_PARENT (R494): the grandmaster data of the parent is free (log entry 3). -/
def fwParent (h : Hw) : Hw :=
  h.command 0x23 clockErr fun h c => h.answer c 0 ((List.range 7).map fun i => wd (h.open' (31 + i)))

/-- The firmware posts the reply that waits, when its mailbox is empty; it drops it when the core has become the receiver
(R492). -/
def replyPost (h : Hw) : Hw :=
  match h.fw.reply with
  | none => h
  | some (mb, ws) =>
    if !h.live .core then h
    else if h.receiver mb = 1 then h.rpLost.fwEnd
    else
      let r := h.boxCommit 3 mb ws.length ws
      if r.2 then h else r.1.fwEnd

/-- The reply could not be posted within 100 ms (R492). -/
def replyTimeout (h : Hw) : Hw := if h.fw.reply.isSome && h.live .core then h.rpLost.fwEnd else h

/-- A store write ends (R546); a command that handed it over is answered, with the sequence number of a saved image. -/
def nvsWriteDone (h : Hw) (fail : Option Nat) : Hw :=
  match h.nvs.job with
  | none => h
  | some j =>
    let g := h.storeDone fail
    match h.fw.cmd with
    | none => g
    | some c =>
      if !h.fw.handed then g
      else if (fail.filter (· < (h.jobSteps j).length)).isSome then g.answer c 6 []
      else
        match j with
        | .save q _ _ => g.answer c 0 [wd (q / 65536), wd q]
        | _ => g.answer c 0 []

end Hw
end Sys2Proof.Machine
end

