-- ==== Sys2Proof/Machine/Remote.lean ====
section
/-!
DEFINITION. Authenticated remote access (R416, R417) and what the PTP firmware sends and measures by itself (R404 to R407,
R497).
-/

namespace Sys2Proof.Machine

/-- One operation of a request (R416): kind code, words, address, data words; `bad` marks a malformed one. -/
structure RaOp where
  kind : Nat
  count : Nat
  addr : Nat
  data : List Word
  bad : Bool
  deriving DecidableEq, Repr

/-- The `k` operations of a request. A kind code 3, a post of more than 8 words and missing words are malformed (R417). -/
def raOps : Nat → List Word → List RaOp
  | 0, _ => []
  | k + 1, ws =>
    match ws with
    | op :: ad :: t =>
      let kind := fld op 15 14
      let n := fld op 12 8 + 1
      let used := if kind = 0 || kind = 3 then 0 else n
      { kind := kind, count := n, addr := ad.toNat, data := t.take used
        bad := kind = 3 || t.length < used || (kind = 2 && 8 < n) } :: raOps k (t.drop used)
    | [op] => { kind := fld op 15 14, count := 1, addr := 0, data := [], bad := true } :: raOps k []
    | [] => { kind := 3, count := 1, addr := 0, data := [], bad := true } :: raOps k []

/-- Words that an operation puts into the reply. -/
def RaOp.words (o : RaOp) : Nat := 1 + if o.kind = 0 && !o.bad then o.count else 0

namespace Hw

/-- A read burst of the core on behalf of remote access: the words, and how many ended in bus error. -/
def raRead : Nat → Nat → Hw → List Word × Nat × Hw
  | 0, _, h => ([], 0, h)
  | k + 1, a, h =>
    let r := h.readBus .remote a
    let t := raRead k (nextAddr false a) r.2
    (r.1.getD 0 :: t.1, t.2.1 + (if r.1.isNone then 1 else 0), t.2.2)

/-- A write burst; it ends at a reset that it causes (R61). -/
def raWrite : List Word → Nat → Hw → Nat × Hw
  | [], _, h => (0, h)
  | v :: t, a, h =>
    let r := h.writeReg .remote a v
    if !r.1.vigil then (0, r.1)
    else
      let u := raWrite t (nextAddr false a) r.1
      (u.1 + (if r.2 then 1 else 0), u.2)

/-- STATUS of an operation (R417). -/
def raStatus (errs result : Nat) : Word := wd (errs * 256 + result)

/-- One operation: its reply words (R417). A post that finds its mailbox full ends in one bus error. -/
def raOne (h : Hw) (o : RaOp) : List Word × Hw :=
  if o.bad then ([raStatus 0 3], h)
  else if o.kind = 0 then
    let r := raRead o.count o.addr h
    (raStatus r.2.1 (if r.2.1 = 0 then 0 else 1) :: r.1, r.2.2)
  else if o.kind = 1 then
    let r := raWrite o.data o.addr h
    ([raStatus r.1 (if r.1 = 0 then 0 else 1)], r.2)
  else
    let r := h.boxCommit 0x20 (o.addr % 8) o.count o.data
    ([if r.2 then raStatus 1 2 else raStatus 0 0], r.1)

/-- The operations in order. -/
def raAll : List RaOp → Hw → List Word × Hw
  | [], h => ([], h)
  | o :: t, h =>
    if !h.vigil then ([], h)
    else
      let r := h.raOne o
      let u := raAll t r.2
      (r.1 ++ u.1, u.2)

/-- The key of a slot, if it is usable (R550). -/
def slotKey (h : Hw) (k : Nat) : Option (List Word) :=
  if h.b R.KEYS_STAT 11 then none else (h.keySlot k).map Prod.snd

/-- RADROP counts a discarded request. -/
def raDrop (h : Hw) : Hw := h.count R.IPSVC_RADROP

/-- The reply leaves toward the request's source (R417). -/
def raAnswer (h : Hw) (q : RaRequest) (key : List Word) (ops : List Word) : Hw :=
  let body := [0x4D58, 0x0183] ++ serialWords ++ (q.body.drop 6).take 3 ++ ops
  let reply := body ++ icvOf key body
  let f := { h.udpOut q.srcMac q.srcIp q.srcPort.toNat with body := reply, len := 46 + 2 * reply.length }
  { h with net := { h.net with raReply := reply } }.enqueueMask (h.endpointMask q.srcMac 3) false f

/-- A remote-access request (R416, R417): the four checks in order, the length of the reply, the operations, the reply. -/
def raRequest (h : Hw) (q : RaRequest) : Hw :=
  if !h.live .net then h
  else if !h.b R.IPSVC_RACFG 15 || !h.up .core then h.raDrop
  else
    let slot := (q.body.getD 6 0).toNat / 256
    let nops := (q.body.getD 6 0).toNat % 256
    let rseq := (q.body.getD 7 0).toNat * 65536 + (q.body.getD 8 0).toNat
    if (q.body.drop 2).take 4 ≠ serialWords || 8 ≤ slot || !h.b R.IPSVC_RACFG slot then h
    else
      match (h.slotKey slot).filter fun k => q.icv == icvOf k q.body with
      | none => (h.count R.IPSVC_RAAUTH).raise 0x34 1
      | some key =>
        let s : Fin 8 := ⟨slot % 8, Nat.mod_lt _ (by decide)⟩
        if rseq ≤ h.net.rseq[s] then h.count R.IPSVC_RAREPLAY
        else
          let ops := raOps nops (q.body.drop 9)
          if 1472 < 2 * (9 + (ops.map RaOp.words).sum + 8) then h.raDrop
          else
            let h1 := { h with net := { h.net with rseq := h.net.rseq.set s rseq } }
            let r := raAll ops h1
            if !r.2.vigil then r.2 else r.2.raAnswer q key r.1

/-- The frame is a UDP datagram for the endpoint at the remote-access port (R411, R416). -/
def isRa (h : Hw) (n : Fin 2) (f : Frame) : Bool :=
  h.frameTaken n f && (h.route n f).1 && f.etype = 0x0800 && f.dstIp = h.ownIp && !f.opts && f.proto = 17
    && f.udp = (h.reg R.IPSVC_RAPORT).toNat

/-- The request of a remote-access datagram (R416): the last 16 bytes are the ICV. -/
def raOf (f : Frame) : RaRequest :=
  { srcMac := f.src, srcIp := f.srcIp, srcPort := f.udpSrc, body := f.body.take (f.body.length - 8)
    icv := f.body.drop (f.body.length - 8) }

/-- A port receives a frame (R392); a remote-access datagram among them goes on to the core (R416). -/
def frameIn (h : Hw) (n : Fin 2) (f : Frame) : Hw :=
  if h.isRa n f then (h.frameReceive n f).raRequest (raOf f) else h.frameReceive n f

/-! ### PTP -/

/-- The mean link delay of a port, in units of 1/16 ns (R404, R418). -/
def pdelayExchange (h : Hw) (n : Fin 2) (dly : BitVec 32) : Hw :=
  if h.up .core && h.up .net then
    ((h.setReg (R.MAC_LINKDLY_L n) (dly.setWidth 16)).setReg (R.MAC_LINKDLY_H n) ((dly >>> 16).setWidth 16)).setBits
      (R.MAC_STAT n) 16
  else h

/-- The clock quality that a clock announces (R497): class 255 while MASTER = 0. -/
def announceBody (h : Hw) (m : Nat) : List Word :=
  let ws := h.fw.clocks[m % 4]'(Nat.mod_lt _ (by decide))
  [ws[0], if (h.ptpCfg m).getLsbD 12 then ws[1] else setFld ws[1] 15 8 255, ws[2]]

/-- A message interval of an ordinary clock runs out (R397, R405, R406): its next Announce, Sync or Delay_Req. Only a
master-capable clock sends Sync, and only the end-to-end profile Delay_Req. -/
def ptpInterval (h : Hw) (m : Fin 4) (k : PtpTimer) : Hw :=
  if !h.clockRuns m || !h.up .core then h
  else
    let ports := fld (h.ptpCfg m) 9 8
    match k with
    | .announce => h.ptpSend m ports (h.ptpFrame m 11 (h.announceBody m) .none)
    | .sync => if (h.ptpCfg m).getLsbD 12 then h.ptpSend m ports (h.ptpFrame m 0 [] .origin) else h
    | .delayReq => if (h.ptpCfg m).getLsbD 14 then h else h.ptpSend m ports (h.ptpFrame m 1 [] .origin)

end Hw
end Sys2Proof.Machine
end

