-- ==== Sys2Proof/Machine/Tap.lean ====
section
/-!
DEFINITION. The test port (R559 to R563), the STOP_N pin (R40, R283, R562, R563), the pin interrupt lines (R534 to R536),
WAKE_N (R46) and the EPOCH edge (R256, R462).
-/

namespace Sys2Proof.Machine
namespace Hw

/-! ### Test port -/

def setTap (h : Hw) (t : Tap) : Hw := { h with tap := t }

/-- The instruction that an opcode selects: EXTEST and the instructions of the manufacturer act as BYPASS while SCANLOCK is set
(R549). -/
def tapLocked (h : Hw) (ir : TapIr) : TapIr :=
  if (ir = .extest || ir = .priv) && h.b R.KEYS_SCANLOCK 0 then .bypass else ir

/-- The instruction of an opcode (R559): every opcode not listed acts as BYPASS. -/
def tapOpcode (op : BitVec 5) : TapIr :=
  if op = 0x00 then .extest
  else if op = 0x01 then .idcode
  else if op = 0x02 then .sample
  else if 0x10 ≤ op.toNat && op.toNat ≤ 0x17 then .priv
  else .bypass

/-- What the instruction register captures (R559). -/
def irCapture : BitVec 5 := 0b00001

/-- An instruction becomes current (R559, R562, R563), also while a pin or command reset holds VIGIL. The pads return to their
functional values unless EXTEST stays; an instruction of the manufacturer that ends is followed by a pin reset. -/
def tapSelect (h : Hw) (ir0 : TapIr) : Hw :=
  if !h.pwr.running || !(h.pwr.vigilUp || h.pwr.held) then h
  else
    let was := h.tap.ir
    let ir := h.tapLocked ir0
    if was = ir then h
    else
      let h1 := h.setTap { h.tap with ir := ir, pads := false }
      let h2 := if was = .priv then h1.warmReset 3 else h1
      match ir with
      | .extest => h2.zeroizeStart
      | .priv =>
        let h3 := h2.zeroizeStart.dropAll false
        h3.setPwr { h3.pwr with held := true }
      | .bypass => h2
      | .idcode => h2
      | .sample => h2

/-- Five rising TCK edges with TMS high (R559): IDCODE is current. -/
def tapReset (h : Hw) : Hw := h.tapSelect .idcode

/-- SAMPLE/PRELOAD with the boundary values that its data scan loads (R559). -/
def tapPreload (h : Hw) (v : BitVec 174) : Hw :=
  let h1 := h.tapSelect .sample
  if h1.tap.ir = .sample && h1.pwr.running && (h1.pwr.vigilUp || h1.pwr.held) then h1.setTap { h1.tap with boundary := v } else h1

/-- A new boundary value under EXTEST (R562). -/
def boundaryUpdate (h : Hw) (v : BitVec 174) : Hw :=
  if h.tap.ir = .extest then h.setTap { h.tap with boundary := v } else h

/-- The device identification (R560). -/
def idcode : BitVec 32 := 0x248701D3

/-- The data register that the current instruction selects, as its length in bits (R559, R560, R561). -/
def tapLength (t : Tap) : Nat :=
  match t.ir with
  | .bypass => 1
  | .idcode => 32
  | .sample => 174
  | .extest => 174
  | .priv => 1

/-- What the selected data register captures (R559 to R561): the identification, or of the boundary register the input cells of
the ports A to C. The other cells hold the update values, and no command shows a capture. -/
def tapCapture (h : Hw) : BitVec 174 :=
  match h.tap.ir with
  | .idcode => idcode.setWidth 174
  | .sample | .extest => (List.range 24).foldl (fun w i =>
      let bit := 1#174 <<< (3 * (34 + i))
      if h.padLevel i then w ||| bit else w &&& ~~~bit) h.tap.boundary
  | .bypass | .priv => 0

/-! ### Pads under the test port and STOP_N -/

/-- STOP_N is driven low: the latch is set, VIN is absent so that VIO alone drives the pad, or EXTEST or an instruction of the
manufacturer is current (R40, R283, R562, R563). -/
def stopLow (h : Hw) : Bool := h.latch.set || !h.pwr.running || h.tap.ir = .extest || h.tap.ir = .priv

/-- What INTk drives (R39, R506, R509): none while its pad is high-impedance, or for a high level in open-drain mode. Under
EXTEST the pad follows the boundary register (R561, R562). -/
def intDrive (h : Hw) (k : Nat) : Option Bool :=
  let od := (h.intCfg k).testBit 5
  let pol := (h.intCfg k).testBit 6
  if h.tap.pads then h.landDrive (14 + k)
  else if !h.padsOn then none
  else if od then (if h.intActive k then some false else none)
  else some (h.intActive k == pol)

/-- EPOCH is pulled low on its pad: by the leader (R39, R461), or under EXTEST by the boundary register, whose output 1 releases
the open-drain land (R561, R562). -/
def epochLow (h : Hw) : Bool := if h.tap.pads then h.landDrive 12 == some false else h.padsOn && h.gang.epLow

/-! ### Pin interrupt lines -/

/-- `PINT.LCFGn`. -/
def lcfg (h : Hw) (n : Fin 8) : Word := h.reg (R.PINT_LCFG n.val)

/-- EDGE selects an edge to a level (R534). -/
def edgeSelected (c : Word) (lvl : Bool) : Bool := c.getLsbD (if lvl then 11 else 12)

def setLine (h : Hw) (n : Fin 8) (l : PinLine) : Hw := { h with pins := { h.pins with lines := h.pins.lines.set n l } }

/-- A level recognized in the V path (R535, R536): the flag, the wake source and EVn of a selected edge. -/
def lineRecognize (h : Hw) (n : Fin 8) (lvl lockout : Bool) : Hw :=
  let h1 := h.setLine n { level := lvl, lockout := lockout }
  if edgeSelected (h.lcfg n) lvl then
    let h2 := h1.raise 0x44 n.val
    let h3 := if h2.b R.PWR_WAKEEN n.val then h2.wake 2 n.val h2.wakeProfile else h2
    if fld (h.lcfg n) 10 9 = 0 then h3.eventDirect n.val else h3.event n.val
  else h1

/-- A line sees an edge of its inverted pad to `lvl` (R535, R536). `vpath` is false for a phase too short for the V path:
in direct mode it only pulses EVn. In debounce mode the edge starts a lockout. -/
def lineEdge (h : Hw) (n : Fin 8) (lvl vpath : Bool) : Hw :=
  if !h.padsOn || !(h.lcfg n).getLsbD 15 then h
  else
    let mode := fld (h.lcfg n) 10 9
    let l := h.pins.lines[n]
    if vpath then
      if l.lockout || l.level == lvl then h else h.lineRecognize n lvl (mode = 2)
    else if mode = 0 && edgeSelected (h.lcfg n) lvl then h.eventDirect n.val
    else h

/-- A debounce lockout ends with the synchronised level `lvl` (R535): a differing level is recognized at once, and starts a
lockout of its own. -/
def debounceEnd (h : Hw) (n : Fin 8) (lvl : Bool) : Hw :=
  let l := h.pins.lines[n]
  if !h.vigil || !l.lockout then h
  else if l.level == lvl then h.setLine n { l with lockout := false }
  else h.lineRecognize n lvl true

/-- WAKE_N falls and stays low for 16 V-cycles (R46). -/
def wakeN (h : Hw) : Hw := if h.vigil && h.b R.PWR_WAKEEN 8 then h.wake 1 0 h.wakeProfile else h

/-- An EPOCH falling edge (R256 to R258, R462): EV34, the gang's capture, the decimators; `since` is in S-cycles since the edge
before. -/
def epochEdge (h : Hw) (since : Nat) : Hw :=
  if !h.vigil then h else ((h.event 34).gangCapture).decEpoch (h.gang.st = .dissent) since

/-- An interrupt pulse reaches its width (R508). -/
def intPulseEnd (h : Hw) (k : Fin 2) : Hw :=
  if (h.intPin k.val).stop ≤ h.now then h.setIntPin k.val { h.intPin k.val with pulse := false } else h

end Hw
end Sys2Proof.Machine
end

