-- ==== Sys2Proof/Machine/Fabric.lean ====
section
/-!
DEFINITION. What follows a command in the same moment: the fabric pulses reach the bound counters, the reflex matrix, the
interrupt aggregator, the diary and the buffer (R19, R281, R310, R335, R346, R505, R510), requests cross to their blocks,
and the pins and interrupt lines settle. Then the V-cycle that passes on an empty queue.
-/

namespace Sys2Proof.Machine
namespace Hw

/-! ### Fabric -/

/-- The lowest event of a set of pulses. -/
def lowestEv (r : BitVec 64) : Nat := ((List.range 63).find? r.getLsbD).getD 63

/-- The instant of a firing (R289): that of the sample that is being evaluated, or the present time of the sample
almanac. -/
def fireInstant (h : Hw) : Nat := h.sampleT.getD (almNs (h.almOf h.sampAlm))

/-- The reflex matrix over the pulses of an E-cycle (R281). -/
def matrix (h : Hw) (r : BitVec 64) : Hw :=
  let m := r &&& h.reflexMask
  if h.pwr.draft || !h.enabled 0x15 || m = 0 then h else h.reflexFire 1 (lowestEv m) h.fireInstant

/-- A 64-bit mask in four registers from a key on. -/
def mask64 (h : Hw) (a : Nat) : BitVec 64 :=
  h.reg (a + 3) ++ h.reg (a + 2) ++ h.reg (a + 1) ++ h.reg a

/-- The interrupt aggregator (R505). -/
def irqEvents (h : Hw) (r : BitVec 64) : Hw :=
  let m := r &&& h.mask64 R.IRQ_EVEN0
  if m = 0 then h
  else
    ((List.range 4).foldl (fun g i => g.setBits (R.IRQ_EVF0 + i) (m.toNat / 65536 ^ i % 65536)) h).raise 4 0

/-- EVENT entries of the diary in ascending number (R510). -/
def diaryEvents (h : Hw) (r : BitVec 64) : Hw :=
  if !h.b R.DIARY_SRCEN 1 then h
  else
    ((List.range 63).filter (r &&& h.mask64 R.DIARY_EVMASK0).getLsbD).foldl (fun g e => g.diaryAdd 9 (wd e) 0) h

/-- The pulses raised so far become the pulses of an E-cycle: the consumers act, and an Etcher that has had an earlier pulse
of the same event can see the new one. The buffer writer writes one marker of its queue. -/
def fabricCycle (h : Hw) : Hw :=
  let r := h.raised
  if r = 0 && h.buf.marks.isEmpty then h
  else
    let h1 : Hw := { h with
      raised := 0, fabric := h.fabric ||| r, etch := h.etch.map fun e => { e with seen := e.seen &&& ~~~r } }
    ((((h1.countBound r).matrix r).irqEvents r).diaryEvents r).bufEvents r

/-- Several E-cycles: the pulses of one may raise those of the next. -/
def fabricRun : Nat → Hw → Hw
  | 0, h => h
  | k + 1, h => fabricRun k h.fabricCycle

/-! ### Requests that cross to another block -/

/-- An alarm request reaches NET (R289). -/
def sendAlarm (h : Hw) : Hw :=
  match h.alarmReq with
  | none => h
  | some t => { h with alarmReq := none }.alarmRequest t

/-- A wake request reaches the gang engine (R466). -/
def sendWake (h : Hw) : Hw := if h.wakeReq then { h with wakeReq := false }.gangWakeRequest else h

/-! ### Pins and pads -/

/-- Pins that enter conflict set CONFLICT (R527). -/
def settlePins (h : Hw) : Hw :=
  let c := if h.vigil then h.conflicts else 0
  { h.raiseIf (c &&& ~~~h.pins.conf != 0) 0x43 0 with pins := { h.pins with conf := c } }

/-- XOK falls when the oscillator stops (R70). -/
def settleXok (h : Hw) : Hw :=
  if h.clk.xok && !h.oscRuns then h.setClk { h.clk with xok := false } else h

/-- A recorded opposite sequence that a later request made unnecessary is cleared (R54). -/
def settleOpposite (h : Hw) : Hw :=
  if h.pwr.opposite.any fun d => !h.mustLower d && !h.mustRaise d then h.setPwr { h.pwr with opposite := none } else h

/-- WARMEND is set when the last group stops carrying WARM (R246). -/
def settleWarm (h : Hw) : Hw :=
  let w := if h.up .sense then h.warmBits else 0
  let g := { h with dec := { h.dec with warmWas := w } }
  if h.up .sense && h.dec.warmWas != 0 && w = 0 then g.decFlag 6 else g

/-- The command is over: its E-cycles are within its V-cycle (R335), and the free values of the next command are others. -/
def nextFree (h : Hw) : Hw :=
  { h with
    free := h.free + 1, sampleT := none
    buf := { h.buf with fresh := false, since := if h.sampleT.isSome then 0 else h.buf.since } }

/-- What follows every command. -/
def settle (h : Hw) : Hw :=
  ((((((((fabricRun 24 h.sendWake.proofCheck.strmCollect).sendAlarm).settlePins).settleXok).settleOpposite).settleWarm).settleInt
    0).settleInt 1).nextFree

/-! ### A V-cycle passes -/

/-- Almanac `n` counts the T edges of a V-cycle, unless it would wrap: its second tick is a command of its own. -/
def almTick (h : Hw) (n : Nat) : Hw :=
  if h.live .time && (h.almOf n).sub + h.almGain n h.tEdges < secUnits then h.almCount n h.tEdges else h

/-- E edges pass after the reference sample of the markers (R335). -/
def bufPass (h : Hw) (n : Nat) : Hw := { h with buf := { h.buf with since := min 0xFFFF (h.buf.since + n) } }

/-- The almanacs that reach their second within this V-cycle. -/
def wraps (h : Hw) : List (Fin 4) :=
  (List.finRange 4).filter fun n =>
    h.live .time && secUnits ≤ (h.almOf n.val).sub + h.almGain n.val h.tEdges

/-- One V-cycle with nothing commanded: V time, which counts while VIGIL is held in reset too (R62), the almanacs, the
interval timers, the VCO and the S-loop offset move, and the fabric pulses end. -/
def idle (h : Hw) : Hw :=
  let h1 := if h.pwr.running && (h.pwr.vigilUp || h.pwr.held) then h.vtimeTick else h
  let h2 := (List.range 4).foldl almTick h1
  let h3 := if h.live .sense then (h2.mapTimers (itRun · h.eEdges)).soffsStep.bufPass h.eEdges else h2
  let h4 := if h.live .time then h3.vcoTick else h3
  { h4.payAll with now := h.now + 1, fabric := 0, newSample := 0 }

end Hw
end Sys2Proof.Machine
end

