-- ==== Sys2Proof/Machine/Calls.lean ====
section
/-!
DEFINITION. What the commands share: a write and a read at the register arbiter by one party, CTRL writes with an action
bit, the Etcher instructions, and the conditions under which an input reaches its block.
-/

namespace Sys2Proof.Machine
namespace Hw

/-! ### Register commands -/

/-- A party writes a register (R14); a bus error is told to the host port (R12). A party whose logic does not run sends
nothing. -/
def writeRow (h : Hw) (p : Party) (a : Nat) (v : Word) : Hw :=
  if !h.partyUp p then h
  else
    let r := h.writeReg p a v
    if r.2 then r.1.busErrTo a p else r.1

/-- A party reads a register; an Etcher does not read its own pages (R315). -/
def readRow (h : Hw) (p : Party) (a : Nat) : Hw :=
  if !h.partyUp p then h
  else
    match etchBarred p a with
    | some n => h.accessError n 4
    | none =>
      let r := h.readBus p a
      if r.1.isNone then r.2.busErrTo a p else r.2

/-- A write to a page's CTRL that sets bits `m` beside those of `v`; it asks for no block reset. -/
def ctrlRow (h : Hw) (p : Party) (pg : Nat) (v m : Word) : Hw := h.writeRow p (pg * 256 + 2) ((v &&& 0x7FFF) ||| m)

/-- Writes of one V-cycle by distinct parties, at least one (R112). -/
def wellSent (ws : List (Party × Word)) : Bool := !ws.isEmpty && decide ((ws.map fun w => slot w.1).Nodup)

/-- The key address of a writable group. -/
def isKey (a : Nat) : Bool :=
  match groupAt a with
  | some (k, _, ro) => a = k && !ro
  | none => false

/-- A register of a writable group beside its key. -/
def isStaged (a : Nat) : Bool :=
  match groupAt a with
  | some (k, _, ro) => a ≠ k && !ro
  | none => false

/-- The key address of any group. -/
def isKeyRead (a : Nat) : Bool := (groupAt a).map Prod.fst == some a

/-- The alarm addressing registers whose accepted write rebuilds the headers (R421). -/
def alarmReg (a : Nat) : Bool :=
  [R.IPSVC_IP_L, R.IPSVC_MASK_L, R.IPSVC_GW_L, R.IPSVC_ALCFG, R.IPSVC_ALDST_L, R.IPSVC_ALPORT, R.IPSVC_ALDMAC_L].contains a

/-! ### Etcher instructions -/

/-- Etcher `n` executes the instruction at its PC if it is of the kind that `pick` takes; a fetch outside the region halts it
with code 3, whatever the command names (R317). -/
def etchDo (h : Hw) (n : Fin 8) (pick : EtchOp → Option Hw) : Hw :=
  if h.fetchFails n then (h.doIllegal n).etchPaid n
  else
    match h.etchFetch n with
    | none => h
    | some op => ((pick op).map fun g => g.etchPaid n).getD h

/-- The WAIT at the PC, if there is one. -/
def etchWait (h : Hw) (n : Fin 8) : Option (WaitCond × Option Bool) :=
  match h.etchFetch n with
  | some (.wait c t) => some (c, t)
  | _ => none

/-- A waiting Etcher's condition holds (R305). -/
def waitComplete (h : Hw) (n : Fin 8) : Hw :=
  match h.etchWait n with
  | some (c, t) => if (h.etcher n).st = .wait && h.waitHolds n c then (h.doWait n c t).etchPaid n else h
  | none => h

/-- A WAIT times out (R306). -/
def waitTimeout (h : Hw) (n : Fin 8) : Hw :=
  match h.etchWait n with
  | some (c, some sel) =>
    if !h.waitHolds n c && (h.itOf n sel).expired then (h.doWait n c (some sel)).etchPaid n else h
  | _ => h

/-- An illegal word, or a fetch outside the region (R323). -/
def etchIllegal (h : Hw) (n : Fin 8) : Hw :=
  if h.etchRuns n && (h.etchFetch n).isNone then (h.doIllegal n).etchPaid n else h

/-- The Etchers with AUTORUN start when that is due (R300). -/
def autorunDue (h : Hw) : Hw := if h.autoDue && h.live .sense then { h with autoDue := false }.autorun else h

/-! ### Inputs from pins -/

/-- An input function receives its pin (R525, R527): it owns the pin, and the pads are on. -/
def pinInput (h : Hw) (fn : PinFn) : Bool :=
  h.padsOn && (List.range 24).any fun i =>
    (pinFns i).any fun p => p.2 == fn && h.claim fn == some false && h.owner i == p.1

/-- A capture source of the TSU has its selected edge (R178): a fabric event, a capture pin or PPS_IN. -/
def tsuSource (h : Hw) (n : Nat) (rising : Bool) : Bool :=
  let c := h.reg (R.TSU_CCFG n)
  let s := fld c 7 0
  let edge := c.getLsbD (if rising then 13 else 14)
  if s < 0x40 then h.evEnabled s && ((8 ≤ s && s ≤ 33) || h.live .sense)
  else if s < 0x44 then edge && h.pinInput (.capin (s - 0x40))
  else s = 0x44 && edge

/-- A TSU channel captures (R179, R180). -/
def tsuEdge (h : Hw) (n : Fin 8) (rising : Bool) : Hw :=
  if h.live .time && h.b (R.TSU_CCFG n.val) 15 && h.tsuSource n.val rising then h.tsuCapture n.val else h

/-- A timer channel captures (R382): from its pin when it receives it. -/
def timEdge (h : Hw) (n : Fin 6) (x : Fin 2) (rising : Bool) : Hw :=
  if (h.timCfg n.val x.val).getLsbD 13 && !h.pinInput (.tm n.val x.val) then h else h.timCapture n.val x.val rising

/-- A CNT commit (R386) on a T edge with the given pulses, and with a source tick of the timer when `tick` says so: a T edge,
or the 1 MHz tick (R370). A commit that the page cannot take leaves the edge as it is. -/
def cntCommit (h : Hw) (p : Party) (n : Fin 6) (v : Word) (slaves : BitVec 6) (tick : Bool) : Hw :=
  let c := if h.partyUp p && h.pageUp (0x28 + n.val) then some n.val else none
  let h1 := if tick && !h.timOnT n.val then h.microTick slaves c
    else h.timEdges slaves (fun m => tick && m == n.val) c
  h1.writeRow p (R.TM_CNT_L n.val) v

/-! ### Time -/

/-- A slew reaches its amount (R159): the almanac counts to that T edge, unless a second tick comes first. -/
def slewEnd (h : Hw) (n : Nat) : Hw :=
  let a := h.almOf n
  let k := (a.slew.natAbs + h.slewRate n - 1) / h.slewRate n
  if h.live .time && a.slew ≠ 0 && a.sub + h.almGain n k < secUnits then h.almCount n k else h

/-- A second tick (R166, R170, R171, R177, R85, R186): the almanac counts to it, EV26 + n and SEC follow, and holdover and
free-run commit there. -/
def secondTick (h : Hw) (n : Nat) : Hw :=
  if !h.live .time then h
  else
    let h0 := h.almWrap n
    let h0 := if h0.tickAlm = n then { h0 with cal := { h0.cal with ticks := h0.cal.ticks - 1 } }.timMicro 0 none else h0
    ((((((h0.event (26 + n)).almFlag n 0).secondMean n).secondLadder n).ppsStart n).vFollow n).calSecond n

/-- The commit point of a switch (R170): of one to PTP, the first slew step of the servo's first correction; of one to holdover
or free-run, the almanac's next second tick. A switch to PPS_IN commits with a PPS_IN edge. -/
def commitPoint (h : Hw) (n : Nat) : Hw :=
  let a := h.almOf n
  if !h.live .time || !almSwitching a then h
  else
    match a.target with
    | .ptp => h.switchCommit n
    | .pps => h
    | .holdover => h.secondTick n
    | .freeRun => h.secondTick n

/-- GOOD was not refreshed in time (R168, R189). -/
def servoTimeout (h : Hw) (n : Nat) : Hw :=
  if h.live .time && h.b (R.ALM_SERVO n) 0 then (h.servoLost n).almFlag n 9 else h

/-- A rung has been good for QUAL seconds (R168, R169); the PPS_IN rung for QUAL consecutive good edges. -/
def rungReady (h : Hw) (n : Nat) (pps : Bool) : Hw :=
  let r := if pps then Rung.pps else .ptp
  if h.live .time && h.rungGood n r && (!pps || h.qualLen n ≤ (h.almOf n).ppsEdges) then h.rungQualified n r else h

/-- The seconds in holdover have reached HOLDMAX (R168), as it stands now. -/
def holdoverEnd (h : Hw) (n : Nat) : Hw :=
  if h.live .time && (h.almOf n).rung = .holdover && h.holdExpired n then h.rungLost n .holdover else h

/-- An edge of PPS_IN (R172, R176), active as INPOL says; `periods` is the time since the last active one on each almanac, in
ns. -/
def ppsInEdge (h : Hw) (rising : Bool) (periods : Vector Nat 4) : Hw :=
  if !h.live .time || rising == h.b R.TSU_PPSCFG 0 then h
  else ((List.finRange 4).foldl (fun g n => g.ppsEdge n.val periods[n]) h).event 35

/-- Two seconds without a good PPS_IN edge (R168). -/
def ppsSilent (h : Hw) (n : Nat) : Hw := if h.live .time then h.ppsLost n else h

/-! ### Sensing -/

/-- A new sample is valid in E (R262, R303): the channels' values, the fabric's range event, the recognizers, the buffer
and the interval timers that count samples. A value that is complete follows it into the S output register. -/
def sampleValid (h : Hw) : Hw :=
  match h.dec.sout with
  | none => h
  | some s =>
    if !h.live .sense then h
    else
      let has := fun (i : Nat) => s.groups.getLsbD (chGroup i)
      let fresh : BitVec 10 := (List.range 10).foldl (fun w i =>
        if s.groups.getLsbD (if i = 8 then 0 else if i = 9 then 1 else chGroup i) then w ||| (1#10 <<< i) else w) 0
      let h1 : Hw := { h with
        dec := { h.dec with
          sout := none
          vals := Vector.ofFn fun (i : Fin 8) => if has i.val then s.seen[i] else h.dec.vals[i]
          warmE := (h.dec.warmE &&& ~~~s.groups) ||| (s.warm &&& s.groups)
          accBlend := if s.groups.getLsbD 0 then s.blend else h.dec.accBlend }
        newSample := h.newSample ||| fresh, sampleT := some s.t
        etch := h.etch.map fun e => { e with seenSample := e.seenSample &&& ~~~fresh } }
      let h2 := if s.groups.getLsbD 0 then h1.mapTimers itSample else h1
      let h3 := if s.range then h2.event 49 else h2
      ((h3.recSample s).bufSample s).flightLoad

/-! ### Store and proof -/

/-- A key write ends (R548). -/
def keyDone (h : Hw) (fail : Option Nat) : Hw := if h.keyBusy then h.storeDone fail else h

/-- A write of another region ends (R546). -/
def imageDone (h : Hw) (fail : Option Nat) : Hw := if h.keyBusy then h else h.nvsWriteDone fail

end Hw
end Sys2Proof.Machine
end

