-- ==== Sys2Proof/WellFormed.lean ====
section
/-!
DEFINITION. Well-formed commands: those whose operands name something the sentinel has. Everything else about a command is
in its type.
-/

namespace Sys2Proof

open Sys2Proof.Machine

/-- The operands name what the row covers: distinct parties of one V-cycle, at least one (R112), and a register of the
row's kind (R103 to R105, R421). -/
def Instr.wellFormed : Instr → Bool
  | .powerOnReset => true
  | .uvloStop => true
  | .vinLow _ => true
  | .vinWarningRelease _ => true
  | .vinmonUpdate _ => true
  | .brownOut _ => true
  | .buckRestart => true
  | .buckGridEntry => true
  | .vioOutOfBand => true
  | .vioInBand _ => true
  | .vigilUp _ _ => true
  | .bootRecordLoaded => true
  | .storeLoadComplete => true
  | .pwrReqWrite _ _ => true
  | .powerSequenceStart => true
  | .onSequenceComplete => true
  | .offSequenceComplete => true
  | .coreForcedStop => true
  | .wakeN => true
  | .pinReset => true
  | .commandReset _ => true
  | .vinOvervoltageStop => true
  | .vinOvervoltageRestart => true
  | .blockReset _ _ => true
  | .blockEnableWrite _ _ _ => true
  | .blockStopComplete _ => true
  | .registerWrite _ ws _ => Hw.wellSent ws
  | .pageLock _ _ => true
  | .iforceWrite _ _ _ => true
  | .keyRead _ a => Hw.isKeyRead a.toNat
  | .stagingWrite _ a _ => Hw.isStaged a.toNat
  | .wideGroupCommit a ws => Hw.isKey a.toNat && Hw.wellSent ws
  | .synthCalComplete => true
  | .synthLock => true
  | .settledRise => true
  | .referenceLost => true
  | .referenceBack => true
  | .crystalLost => true
  | .nclkLost => true
  | .nclkBack => true
  | .sLoopUnlock => true
  | .sLoopLock => true
  | .tdead => true
  | .vcalUpdate _ => true
  | .vtimeCommit _ _ => true
  | .xok => true
  | .spiWriteFrame _ _ _ _ => true
  | .spiReadFrame _ _ _ _ => true
  | .writeQueueApply => true
  | .twi0WriteTransfer _ _ => true
  | .twi0ReadTransfer _ _ _ => true
  | .twiBusFree _ _ => true
  | .twiSclTimeout _ _ => true
  | .twiSdaTimeout _ _ _ => true
  | .twi1XferGo _ _ => true
  | .twi1ControllerStart => true
  | .arblost _ => true
  | .xdone _ => true
  | .almTimeCommit _ _ _ => true
  | .almStepCommit _ _ _ => true
  | .almSlewCommit _ _ _ => true
  | .almSlewEnd _ => true
  | .almAddCommit _ _ _ => true
  | .secondTick _ => true
  | .microsecondTick _ => true
  | .almBindWrite _ _ _ => true
  | .almTargetCommit _ _ _ => true
  | .almTargetMatch _ => true
  | .disarm _ _ => true
  | .servoGoodWrite _ _ _ => true
  | .servoto _ => true
  | .rungQualified _ _ => true
  | .switchCommitPoint _ => true
  | .holdoverExpired _ => true
  | .ppsInEdge _ _ => true
  | .ppsRungLost _ => true
  | .ppsOutEnd => true
  | .ppscfgWrite _ _ => true
  | .rolesWrite _ _ => true
  | .civilCommit _ _ => true
  | .leapWrite _ _ => true
  | .leapdone => true
  | .tsuCapture _ _ => true
  | .tsuCapKeyRead _ _ => true
  | .orientCommit _ _ => true
  | .arangeWrite _ _ => true
  | .grangeWrite _ _ => true
  | .chenWrite _ _ => true
  | .xbcfgWrite _ _ => true
  | .selfTestStart _ _ => true
  | .stdone => true
  | .gdrv => true
  | .gyroDriveUnlock => true
  | .xblost => true
  | .xbback => true
  | .xbstuck _ _ => true
  | .xbFreqMeasure _ => true
  | .outputInstant _ => true
  | .sampleValidInE => true
  | .odrWrite _ _ => true
  | .respWrite _ _ => true
  | .gridofsCommit _ _ => true
  | .resync _ _ => true
  | .gridMeasurement _ => true
  | .epoch _ => true
  | .thresholdCommit _ _ _ => true
  | .force _ _ => true
  | .release _ => true
  | .autorel => true
  | .halt _ => true
  | .waitEv _ => true
  | .waitState _ => true
  | .waitTimer _ => true
  | .waitSample _ => true
  | .waitCount _ => true
  | .waitComplete _ => true
  | .waitTimeout _ => true
  | .nop _ => true
  | .pulse _ => true
  | .set _ => true
  | .clr _ => true
  | .tgl _ => true
  | .actReg _ => true
  | .actMbx _ => true
  | .kickStart _ _ _ => true
  | .kickStop _ _ _ => true
  | .jmp _ => true
  | .branchEv _ => true
  | .branchState _ => true
  | .branchCnt _ => true
  | .branchTimer _ => true
  | .branchSample _ => true
  | .inc _ => true
  | .dec _ => true
  | .add _ => true
  | .bind _ => true
  | .ldi _ => true
  | .ldt0 _ => true
  | .ldt1 _ => true
  | .ldr _ => true
  | .lds _ => true
  | .illegalInstruction _ => true
  | .accessComplete _ _ => true
  | .intervalTimerExpire _ _ => true
  | .etchCmdStart _ _ => true
  | .etchCmdStop _ _ => true
  | .etchGoStart _ _ => true
  | .etchGoStop _ _ => true
  | .autorun => true
  | .eprogAddrWrite _ _ => true
  | .eprogStreamWrite _ _ => true
  | .eprogStreamRead _ => true
  | .bufEnable _ _ => true
  | .bufArm _ _ => true
  | .bufTrig _ _ => true
  | .adataRead _ => true
  | .acfgFlush _ _ => true
  | .bcfgFlush _ _ => true
  | .sinkWrite _ _ => true
  | .strmEnable _ _ => true
  | .strmFrame => true
  | .streamDatagram => true
  | .dgtmo => true
  | .timerCount _ => true
  | .timerSlaveReset _ => true
  | .timerSlaveGate _ => true
  | .timerSlaveTrigger _ => true
  | .timerSlaveClock _ => true
  | .timerCapture _ _ _ => true
  | .timerCapKeyRead _ _ _ => true
  | .timerEnable _ _ => true
  | .timerStop _ _ => true
  | .cntCommit _ _ _ _ _ => true
  | .chCommit _ _ _ _ => true
  | .topCommit _ _ _ => true
  | .frameReceive _ _ => true
  | .frameDepart _ => true
  | .linkPoll _ _ => true
  | .mdioCommand _ _ => true
  | .mdiodone _ => true
  | .learnAgeOut _ => true
  | .holdTimeout _ _ => true
  | .ptpLimitWindow => true
  | .arpRefresh => true
  | .arpfail => true
  | .alarmConfigCommit _ a _ => Hw.alarmReg a.toNat
  | .remoteAccessRequest _ => true
  | .pdelayExchange _ _ => true
  | .ptpMessageInterval _ _ => true
  | .gangBackoffEnd _ => true
  | .helloPeriod _ => true
  | .hello _ _ => true
  | .tchk _ _ _ => true
  | .propose _ _ _ _ _ => true
  | .veto _ _ => true
  | .wake _ _ => true
  | .relay _ _ _ _ => true
  | .msglost => true
  | .cwordRecompute => true
  | .epgo _ _ => true
  | .epdrv => true
  | .epochRelease => true
  | .solreq _ _ => true
  | .solcommit => true
  | .gangWake _ _ => true
  | .rlyctlGo _ _ => true
  | .rlydone _ => true
  | .mbxCommit _ ws => Hw.wellSent ws
  | .mbxRelease ws => Hw.wellSent ws
  | .rcvWrite _ _ => true
  | .commandTake => true
  | .ping => true
  | .nvsSave => true
  | .nvsConfirm => true
  | .nvsErase => true
  | .coreSleep => true
  | .ptpSetClock => true
  | .ptpSetIntervals => true
  | .ptpStatus => true
  | .ptpParent => true
  | .replyPost => true
  | .rplost => true
  | .nvsWriteDone _ => true
  | .eoi _ _ => true
  | .irqPulseEnd _ => true
  | .irqCfgWrite _ _ => true
  | .pop _ _ => true
  | .note _ _ => true
  | .portMaskedWrite _ _ ws => Hw.wellSent ws
  | .outset _ ws => Hw.wellSent ws
  | .outclr _ ws => Hw.wellSent ws
  | .outtgl _ ws => Hw.wellSent ws
  | .pinLineEdge _ _ _ => true
  | .debounceEnd _ _ => true
  | .lcfgWrite _ _ _ => true
  | .keyWrite _ => true
  | .keyErase _ => true
  | .zeroize _ => true
  | .kdone _ => true
  | .zeroizeComplete => true
  | .quickRunEnd => true
  | .proofGo _ _ => true
  | .sliceEnd _ => true
  | .overrun => true
  | .proofConditionMeasure _ _ => true
  | .tapReset => true
  | .extest => true
  | .idcode => true
  | .samplePreload _ => true
  | .bypass => true
  | .privateInstruction => true
  | .boundaryUpdate _ => true

end Sys2Proof
end

