-- ==== Sys2Proof/Machine/State.lean ====
section
/-!
DEFINITION. The state: the sentinel and the queue of commands that wait, first in, first out; the state after reset; the
reasons a step can stop. Nothing on the sentinel is memory in a processor's sense: the addressed stores are the register
cells, the program memory, the buffer and the store regions of `Hw`.
-/

namespace Sys2Proof.Machine

/-- The sentinel and the commands that wait. -/
structure State where
  hw : Hw
  pending : List Instr
  deriving DecidableEq, Repr

/-- Why a step can stop with a fault. -/
inductive Fault
  /-- The command is no command of the sentinel: a list of writers of one V-cycle that is empty or names one party twice
  (R112), or a register that the row does not cover. Raised by the rows that carry such operands. Safe: the model stops
  where no hardware behaviour is meant. -/
  | illFormed
  deriving DecidableEq, Repr

/-- Why a step can be refused. -/
inductive Refusal
  /-- The row has no meaning in the model. Raised by no arm of `exec`. Safe: the model stops. -/
  | notModelled (mnemonic : String)
  deriving DecidableEq, Repr

/-- The state after a command whose own effect leaves the sentinel at `g`: what follows the effect in the same moment
happens too, and the queue stays. -/
def State.after (s : State) (g : Hw) : State := { s with hw := g.settle }

/-- A command ends. -/
def done (s : State) (g : Hw) : Host.Outcome State Fault Refusal := .next (s.after g)

/-- The sentinel right after reset: a power-on reset has started it (R30) and VIGIL has just come up (R41), with the straps
low, ADDR0 low, VIO in the 3.3 V band and VIN at 34.0 V, and a store as the manufacturer ships it (log entries 1, 2). -/
def State.reset : State :=
  { hw := (((Hw.start Nvs.shipped .v33 34000 0 0).setReg R.PWR_LASTRST 1).vigilStart 0 false).settle, pending := [] }

end Sys2Proof.Machine
end

