-- ==== Sys2Proof/Machine/AlmanacCmd.lean ====
section
/-!
DEFINITION. The commands of the almanacs, the calendar and the capture unit: one meaning for each row, over the shared operations.
-/

namespace Sys2Proof.Machine

/-- ALM_TIME_COMMIT (R158): A commit of ALMn.TIME steps the almanac to the committed value. -/
def execAlmTimeCommit (p : Party) (n : Fin 4) (v : Word) (s : State) : Host.Outcome State Fault Refusal :=
  done s (s.hw.writeRow p (R.ALM_TIME_FRAC n.val) v)

/-- ALM_STEP_COMMIT (R158): A commit of ALMn.STEP adds a signed offset to the almanac, or is applied as a slew during
a revert. -/
def execAlmStepCommit (p : Party) (n : Fin 4) (v : Word) (s : State) : Host.Outcome State Fault Refusal :=
  done s (s.hw.writeRow p (R.ALM_STEP_NL n.val) v)

/-- ALM_SLEW_COMMIT (R159): A commit of ALMn.SLEW starts or replaces a slew of a signed amount. -/
def execAlmSlewCommit (p : Party) (n : Fin 4) (v : Word) (s : State) : Host.Outcome State Fault Refusal :=
  done s (s.hw.writeRow p (R.ALM_SLEW_L n.val) v)

/-- ALM_SLEW_END (R159): The slew reaches its committed amount: SLEWING falls, and a running revert ends. -/
def execAlmSlewEnd (n : Fin 4) (s : State) : Host.Outcome State Fault Refusal :=
  done s (s.hw.slewEnd n.val)

/-- ALM_ADD_COMMIT (R157): A commit of ALMn.ADD sets the addend, or is rejected with ADJREJ outside 7.75 ns to 8.25
ns. -/
def execAlmAddCommit (p : Party) (n : Fin 4) (v : Word) (s : State) : Host.Outcome State Fault Refusal :=
  done s (s.hw.writeRow p (R.ALM_ADD_L n.val) v)

/-- SECOND_TICK (R166): An almanac's nanoseconds wrap to 0 by counting: EV26 + n and SEC are raised, and PPS_OUT and
switch commits may follow. -/
def execSecondTick (n : Fin 4) (s : State) : Host.Outcome State Fault Refusal :=
  done s (s.hw.secondTick n.val)

/-- MICROSECOND_TICK (R165): The tick almanac enters a new whole microsecond and the 1 MHz tick pulses to the timers;
`slaves` names the timers whose slave event pulses on the same T edge (R370). -/
def execMicrosecondTick (s : State) (slaves : BitVec 6 := 0) : Host.Outcome State Fault Refusal :=
  done s (s.hw.microTick slaves none)

/-- ALM_BIND_WRITE (R167): A write to ALMn.BIND binds the almanac to a PTP domain, or is rejected with BINDREJ. -/
def execAlmBindWrite (p : Party) (n : Fin 4) (v : Word) (s : State) : Host.Outcome State Fault Refusal :=
  done s (s.hw.writeRow p (R.ALM_BIND n.val) v)

/-- ALM_TARGET_COMMIT (R182): A commit of ALMn.TGT arms a target time and period. -/
def execAlmTargetCommit (p : Party) (n : Fin 4) (v : Word) (s : State) : Host.Outcome State Fault Refusal :=
  done s (s.hw.writeRow p (R.ALM_TGT_NL n.val) v)

/-- ALM_TARGET_MATCH (R182): The almanac reaches its target time: EV30 + n pulses, TGT is set, and the target re-arms
or disarms. -/
def execAlmTargetMatch (n : Fin 4) (s : State) : Host.Outcome State Fault Refusal :=
  done s (if s.hw.live .time then s.hw.tgtCheck n.val false else s.hw)

/-- DISARM (R183): A write of 1 to ALMn.TGTCTL.DISARM disarms the target. -/
def execDisarm (p : Party) (n : Fin 4) (s : State) : Host.Outcome State Fault Refusal :=
  done s (s.hw.writeRow p (R.ALM_TGTCTL n.val) 1)

/-- SERVO_GOOD_WRITE (R168): A write to ALMn.SERVO.GOOD marks the PTP rung good or lost, and refreshes its timeout. -/
def execServoGoodWrite (p : Party) (n : Fin 4) (v : Word) (s : State) : Host.Outcome State Fault Refusal :=
  done s (s.hw.writeRow p (R.ALM_SERVO n.val) v)

/-- SERVOTO (R168): GOOD is not refreshed within SERVO.TO seconds: GOOD falls and the PTP rung is lost. -/
def execServoto (n : Fin 4) (s : State) : Host.Outcome State Fault Refusal :=
  done s (s.hw.servoTimeout n.val)

/-- RUNG_QUALIFIED (R169): A rung stays good for QUAL seconds or edges and becomes qualified, which may start a switch
up. -/
def execRungQualified (n : Fin 4) (pps : Bool) (s : State) : Host.Outcome State Fault Refusal :=
  done s (s.hw.rungReady n.val pps)

/-- SWITCH_COMMIT_POINT (R170): A rung switch reaches its commit point: the current rung and time quality change and
COMMITTED rises. -/
def execSwitchCommitPoint (n : Fin 4) (s : State) : Host.Outcome State Fault Refusal :=
  done s (s.hw.commitPoint n.val)

/-- HOLDOVER_EXPIRED (R168): HOLDMAX seconds have been spent in holdover and the holdover rung is lost. -/
def execHoldoverExpired (n : Fin 4) (s : State) : Host.Outcome State Fault Refusal :=
  done s (s.hw.holdoverEnd n.val)

/-- PPS_IN_EDGE (R172): An active PPS_IN edge runs the PPS loop of each enabled almanac and drives EV35. -/
def execPpsInEdge (periods : Vector Nat 4) (s : State) (rising : Bool := true) : Host.Outcome State Fault Refusal :=
  done s (s.hw.ppsInEdge rising periods)

/-- PPS_RUNG_LOST (R168): No good PPS_IN edge arrives for 2 consecutive seconds and the PPS_IN rung is lost. -/
def execPpsRungLost (n : Fin 4) (s : State) : Host.Outcome State Fault Refusal :=
  done s (s.hw.ppsSilent n.val)

/-- PPS_OUT_END (R177): The almanac reaches W ms into its second and PPS_OUT returns to inactive. -/
def execPpsOutEnd (s : State) : Host.Outcome State Fault Refusal :=
  done s s.hw.ppsEnd

/-- PPSCFG_WRITE (R177): A write to TSU.PPSCFG that clears OUTEN or changes OUTALM ends a running PPS_OUT pulse. -/
def execPpscfgWrite (p : Party) (v : Word) (s : State) : Host.Outcome State Fault Refusal :=
  done s (s.hw.writeRow p R.TSU_PPSCFG v)

/-- ROLES_WRITE (R164): A write to CAL.ROLES changes the almanac roles; a new sample almanac starts a re-anchor. -/
def execRolesWrite (p : Party) (v : Word) (s : State) : Host.Outcome State Fault Refusal :=
  done s (s.hw.writeRow p R.CAL_ROLES v)

/-- CIVIL_COMMIT (R187): A commit of CAL.CIVIL steps the calendar almanac to the committed civil time, or is rejected
with BADDATE. -/
def execCivilCommit (p : Party) (v : Word) (s : State) : Host.Outcome State Fault Refusal :=
  done s (s.hw.writeRow p R.CAL_CYEAR v)

/-- LEAP_WRITE (R186): A write to CAL.LEAP announces a leap second, or is rejected when both bits are set. -/
def execLeapWrite (p : Party) (v : Word) (s : State) : Host.Outcome State Fault Refusal :=
  done s (s.hw.writeRow p R.CAL_LEAP v)

/-- LEAPDONE (R186): A leap second completes: UTCOFS changes by 1, the leap bit clears and LEAPDONE is set. -/
def execLeapdone (s : State) : Host.Outcome State Fault Refusal :=
  done s s.hw.leapOver

/-- TSU_CAPTURE (R179): A capture source edge stores almanac time in a TSU channel, setting FULL, or OVR when the
channel is full. -/
def execTsuCapture (n : Fin 8) (rising : Bool) (s : State) : Host.Outcome State Fault Refusal :=
  done s (s.hw.tsuEdge n rising)

/-- TSU_CAP_KEY_READ (R180): A key read of a TSU capture group latches the group and clears FULL. -/
def execTsuCapKeyRead (p : Party) (n : Fin 8) (s : State) : Host.Outcome State Fault Refusal :=
  done s (s.hw.readRow p (R.TSU_CAP n.val))

end Sys2Proof.Machine
end

