-- ==== Sys2Proof/Machine/BufferCmd.lean ====
section
/-!
DEFINITION. The commands of the buffer and the stream: one meaning for each row, over the shared operations.
-/

namespace Sys2Proof.Machine

/-- BUF_ENABLE (R341): A write of 1 to BUF.CTRL.EN empties the buffer and starts the writer in the configured mode. -/
def execBufEnable (p : Party) (v : Word) (s : State) : Host.Outcome State Fault Refusal :=
  done s (s.hw.ctrlRow p 0x12 v 1)

/-- BUF_ARM (R345): A write of 1 to BUF.CTRL.ARM empties the buffer and enters ARMING. -/
def execBufArm (p : Party) (v : Word) (s : State) : Host.Outcome State Fault Refusal :=
  done s (s.hw.ctrlRow p 0x12 v 2)

/-- BUF_TRIG (R346): A write of 1 to BUF.CTRL.TRIG triggers the snapshot and places a trigger marker. -/
def execBufTrig (p : Party) (v : Word) (s : State) : Host.Outcome State Fault Refusal :=
  done s (s.hw.ctrlRow p 0x12 v 4)

/-- ADATA_READ (R349): A read of BUF.ADATA by port A's owner returns and counts the next word of port A. -/
def execAdataRead (p : Party) (s : State) : Host.Outcome State Fault Refusal :=
  done s (s.hw.readRow p R.BUF_ADATA)

/-- ACFG_FLUSH (R349): A write of 1 to BUF.ACFG.FLUSH moves port A's pointer to the end of the data. -/
def execAcfgFlush (p : Party) (v : Word) (s : State) : Host.Outcome State Fault Refusal :=
  done s (s.hw.writeRow p R.BUF_ACFG (v ||| 0x8000))

/-- BCFG_FLUSH (R351): A write of 1 to BUF.BCFG.FLUSH discards port B's unread words. -/
def execBcfgFlush (p : Party) (v : Word) (s : State) : Host.Outcome State Fault Refusal :=
  done s (s.hw.writeRow p R.BUF_BCFG (v ||| 0x8000))

/-- SINK_WRITE (R351): A write of BUF.BCFG.SINK connects port B to a sink and sets its level to 0. -/
def execSinkWrite (p : Party) (v : Word) (s : State) : Host.Outcome State Fault Refusal :=
  done s (s.hw.writeRow p R.BUF_BCFG (v &&& 0x7FFF))

/-- STRM_ENABLE (R357): A write of 1 to STRM.CTRL.EN starts STRM_CK and frame 0, with a gap record if port B restarts
inside a record. -/
def execStrmEnable (p : Party) (v : Word) (s : State) : Host.Outcome State Fault Refusal :=
  done s (s.hw.ctrlRow p 0x13 v 1)

/-- STRM_FRAME (R355): The stream port sends one 64-word frame of sync, header, payload and CRC. -/
def execStrmFrame (s : State) : Host.Outcome State Fault Refusal :=
  done s s.hw.strmFrame

/-- STREAM_DATAGRAM (R359): The core sends a UDP stream datagram when DGWORDS words are ready. -/
def execStreamDatagram (s : State) : Host.Outcome State Fault Refusal :=
  done s s.hw.strmDatagram

/-- DGTMO (R359): DGTMO ms after a datagram's first word, the core sends the datagram. -/
def execDgtmo (s : State) : Host.Outcome State Fault Refusal :=
  done s s.hw.strmTimeout

end Sys2Proof.Machine
end

