-- ==== Sys2Proof/Machine/ClockCmd.lean ====
section
/-!
DEFINITION. The commands of the clock islands: one meaning for each row, over the shared operations.
-/

namespace Sys2Proof.Machine

/-- SYNTH_CAL_COMPLETE (R76): The synthesizer calibration ends: it moves to LOCKED with a qualified reference, or to
FREE with RCREF set. -/
def execSynthCalComplete (s : State) : Host.Outcome State Fault Refusal :=
  done s s.hw.calComplete

/-- SYNTH_LOCK (R72): The phase error stays within ±1 ns for 256 reference cycles: the synthesizer enters LOCKED. -/
def execSynthLock (s : State) : Host.Outcome State Fault Refusal :=
  done s s.hw.synthLock

/-- SETTLED_RISE (R72): 6,250 T-cycles after LOCKED, SETTLED rises and frames that wait under the hold rule leave. -/
def execSettledRise (s : State) : Host.Outcome State Fault Refusal :=
  done s s.hw.settledRise

/-- REFERENCE_LOST (R91): The reference shows no edge for 4 V-cycles or a wrong frequency: the synthesizer enters HOLD
and REFLOST is set. -/
def execReferenceLost (s : State) : Host.Outcome State Fault Refusal :=
  done s s.hw.refLost

/-- REFERENCE_BACK (R91): The reference shows 4,096 qualified cycles without a gap: REFBACK is set and the synthesizer
enters ACQ. -/
def execReferenceBack (s : State) : Host.Outcome State Fault Refusal :=
  done s s.hw.refBack

/-- CRYSTAL_LOST (R91): The crystal stops while REFCLKOUT = 1: XOK falls and REFCLK is driven low. -/
def execCrystalLost (s : State) : Host.Outcome State Fault Refusal :=
  done s s.hw.crystalLost

/-- NCLK_LOST (R91): REFCLK shows no edge: the N island switches to VCO/120 and both ports report link down. -/
def execNclkLost (s : State) : Host.Outcome State Fault Refusal :=
  done s s.hw.nclkLost

/-- NCLK_BACK (R91): REFCLK shows 1,024 edges without a gap: the N island switches back and the links restart. -/
def execNclkBack (s : State) : Host.Outcome State Fault Refusal :=
  done s s.hw.nclkBack

/-- S_LOOP_UNLOCK (R91): The S loop loses lock: SUNLOCK is set and no output instants are produced. -/
def execSLoopUnlock (s : State) : Host.Outcome State Fault Refusal :=
  done s s.hw.sUnlock

/-- S_LOOP_LOCK (R80): The S loop locks or regains lock, and output instants resume after a gap record. -/
def execSLoopLock (s : State) : Host.Outcome State Fault Refusal :=
  done s s.hw.sLock

/-- TDEAD (R91): The VCO stops while TIME is powered: the STOP_N latch is set and the dependent domains lose power and
restart. -/
def execTdead (s : State) : Host.Outcome State Fault Refusal :=
  done s s.hw.tdead

/-- VCAL_UPDATE (R84): Once per second while LOCKED, the V clock is measured against T into CLK.VCAL. -/
def execVcalUpdate (v : Word) (s : State) : Host.Outcome State Fault Refusal :=
  done s (s.hw.vcalUpdate v)

/-- VTIME_COMMIT (R86): A commit of the CLK.VTIME group sets the coarse second counter. -/
def execVtimeCommit (p : Party) (v : Word) (s : State) : Host.Outcome State Fault Refusal :=
  done s (s.hw.writeRow p R.CLK_VTIME_MS v)

/-- XOK (R70): Crystal edges return after a loss: XOK reads 1 again and, with REFCLKOUT = 1, REFCLK is driven from the
crystal again. -/
def execXok (s : State) : Host.Outcome State Fault Refusal :=
  done s s.hw.crystalBack

end Sys2Proof.Machine
end

