-- ==== Sys2Proof/Machine/EtchCmd.lean ====
section
/-!
DEFINITION. The commands of the Etchers: one meaning for each row, over the shared operations.
-/

namespace Sys2Proof.Machine

/-- HALT (R312): Etcher HALT makes the Etcher IDLE, and with CLR also clears its level. -/
def execHalt (n : Fin 8) (s : State) : Host.Outcome State Fault Refusal :=
  done s (s.hw.etchDo n fun op => match op with | .halt clr => some (s.hw.doHalt n clr) | _ => none)

/-- WAIT_EV (R305): Etcher WAIT EV holds the Etcher until EVA or EVB pulses. -/
def execWaitEv (n : Fin 8) (s : State) : Host.Outcome State Fault Refusal :=
  done s (s.hw.etchDo n fun op => match op with | .wait (.ev a b) t => some (s.hw.doWait n (.ev a b) t) | _ => none)

/-- WAIT_STATE (R305): Etcher WAIT STATE holds the Etcher until a state condition equals POL. -/
def execWaitState (n : Fin 8) (s : State) : Host.Outcome State Fault Refusal :=
  done s
    (s.hw.etchDo n fun op => match op with | .wait (.state b x) t => some (s.hw.doWait n (.state b x) t) | _ => none)

/-- WAIT_TIMER (R305): Etcher WAIT TIMER holds the Etcher until an interval timer expires. -/
def execWaitTimer (n : Fin 8) (s : State) : Host.Outcome State Fault Refusal :=
  done s (s.hw.etchDo n fun op => match op with | .wait (.timer x) t => some (s.hw.doWait n (.timer x) t) | _ => none)

/-- WAIT_SAMPLE (R305): Etcher WAIT SAMPLE holds the Etcher until a new sample of a channel meets a comparison. -/
def execWaitSample (n : Fin 8) (s : State) : Host.Outcome State Fault Refusal :=
  done s
    (s.hw.etchDo n fun op => match op with | .wait (.sample a b c d) t => some (s.hw.doWait n (.sample a b c d) t) | _ => none)

/-- WAIT_COUNT (R305): Etcher WAIT COUNT holds the Etcher until a counter reaches an immediate value. -/
def execWaitCount (n : Fin 8) (s : State) : Host.Outcome State Fault Refusal :=
  done s
    (s.hw.etchDo n fun op => match op with | .wait (.count a x) t => some (s.hw.doWait n (.count a x) t) | _ => none)

/-- WAIT_COMPLETE (R305): The condition of a waiting Etcher holds in an executing cycle, and execution continues at PC
+ 1. -/
def execWaitComplete (n : Fin 8) (s : State) : Host.Outcome State Fault Refusal :=
  done s (s.hw.waitComplete n)

/-- WAIT_TIMEOUT (R306): A WAIT with TOEN finds its timer expired and its condition false, and continues at PC + 2. -/
def execWaitTimeout (n : Fin 8) (s : State) : Host.Outcome State Fault Refusal :=
  done s (s.hw.waitTimeout n)

/-- NOP (R307): Etcher ACT SIG with OP 0 does nothing for one E-cycle. -/
def execNop (n : Fin 8) (s : State) : Host.Outcome State Fault Refusal :=
  done s (s.hw.etchDo n fun op => if op = .sig .nop then some (s.hw.doSig n .nop) else none)

/-- PULSE (R307): Etcher ACT SIG PULSE pulses EV52 + n without changing the level. -/
def execPulse (n : Fin 8) (s : State) : Host.Outcome State Fault Refusal :=
  done s (s.hw.etchDo n fun op => if op = .sig .pulse then some (s.hw.doSig n .pulse) else none)

/-- SET (R307): Etcher ACT SIG SET sets the level to 1 and pulses EV52 + n. -/
def execSet (n : Fin 8) (s : State) : Host.Outcome State Fault Refusal :=
  done s (s.hw.etchDo n fun op => if op = .sig .set then some (s.hw.doSig n .set) else none)

/-- CLR (R307): Etcher ACT SIG CLR sets the level to 0 without a pulse. -/
def execClr (n : Fin 8) (s : State) : Host.Outcome State Fault Refusal :=
  done s (s.hw.etchDo n fun op => if op = .sig .clr then some (s.hw.doSig n .clr) else none)

/-- TGL (R307): Etcher ACT SIG TGL inverts the level and pulses when the level becomes 1. -/
def execTgl (n : Fin 8) (s : State) : Host.Outcome State Fault Refusal :=
  done s (s.hw.etchDo n fun op => if op = .sig .tgl then some (s.hw.doSig n .tgl) else none)

/-- ACT_REG (R315): Etcher ACT REG writes a counter to a register through the arbiter, stalling until the access
completes. -/
def execActReg (n : Fin 8) (s : State) : Host.Outcome State Fault Refusal :=
  done s (s.hw.etchDo n fun op => match op with | .actReg c a => some (s.hw.doActReg n c a) | _ => none)

/-- ACT_MBX (R316): Etcher ACT MBX posts a message of LEN counter words to a mailbox. -/
def execActMbx (n : Fin 8) (s : State) : Host.Outcome State Fault Refusal :=
  done s (s.hw.etchDo n fun op => match op with | .actMbx mb len => some (s.hw.doActMbx n mb len) | _ => none)

/-- KICK_START (R307): Etcher ACT KICK with OP 0 starts another Etcher at an address. -/
def execKickStart (n : Fin 8) (page : Bool) (s : State) (kicks : BitVec 8 := 0) : Host.Outcome State Fault Refusal :=
  done s (s.hw.etchDo n fun op => match op with | .kick a false t => some (s.hw.doKick n a false t page kicks) | _ => none)

/-- KICK_STOP (R307): Etcher ACT KICK with OP 1 stops another Etcher. -/
def execKickStop (n : Fin 8) (page : Bool) (s : State) (kicks : BitVec 8 := 0) : Host.Outcome State Fault Refusal :=
  done s (s.hw.etchDo n fun op => match op with | .kick a true t => some (s.hw.doKick n a true t page kicks) | _ => none)

/-- JMP (R308): Etcher BRANCH JMP sets PC to TARGET. -/
def execJmp (n : Fin 8) (s : State) : Host.Outcome State Fault Refusal :=
  done s (s.hw.etchDo n fun op => match op with | .branch .always t => some (s.hw.doBranch n .always t) | _ => none)

/-- BRANCH_EV (R308): Etcher BRANCH EV jumps when an event pulses in this cycle. -/
def execBranchEv (n : Fin 8) (s : State) : Host.Outcome State Fault Refusal :=
  done s (s.hw.etchDo n fun op => match op with | .branch (.ev x) t => some (s.hw.doBranch n (.ev x) t) | _ => none)

/-- BRANCH_STATE (R308): Etcher BRANCH STATE jumps when a state condition equals POL. -/
def execBranchState (n : Fin 8) (s : State) : Host.Outcome State Fault Refusal :=
  done s
    (s.hw.etchDo n fun op => match op with | .branch (.state b x) t => some (s.hw.doBranch n (.state b x) t) | _ => none)

/-- BRANCH_CNT (R308): Etcher BRANCH CNT jumps on a counter comparison. -/
def execBranchCnt (n : Fin 8) (s : State) : Host.Outcome State Fault Refusal :=
  done s
    (s.hw.etchDo n fun op => match op with | .branch (.cnt r x y) t => some (s.hw.doBranch n (.cnt r x y) t) | _ => none)

/-- BRANCH_TIMER (R308): Etcher BRANCH TIMER jumps on an interval timer's expired state. -/
def execBranchTimer (n : Fin 8) (s : State) : Host.Outcome State Fault Refusal :=
  done s
    (s.hw.etchDo n fun op => match op with | .branch (.timer b x) t => some (s.hw.doBranch n (.timer b x) t) | _ => none)

/-- BRANCH_SAMPLE (R308): Etcher BRANCH SAMPLE jumps on a comparison of a channel value with a counter. -/
def execBranchSample (n : Fin 8) (s : State) : Host.Outcome State Fault Refusal :=
  done s
    (s.hw.etchDo n fun op => match op with | .branch (.sample c b x) t => some (s.hw.doBranch n (.sample c b x) t) | _ => none)

/-- INC (R309): Etcher COUNT INC adds 1 to a counter modulo 2^16. -/
def execInc (n : Fin 8) (s : State) : Host.Outcome State Fault Refusal :=
  done s (s.hw.etchDo n fun op => match op with | .count .inc c => some (s.hw.doCount n .inc c) | _ => none)

/-- DEC (R309): Etcher COUNT DEC subtracts 1 from a counter, stopping at 0. -/
def execDec (n : Fin 8) (s : State) : Host.Outcome State Fault Refusal :=
  done s (s.hw.etchDo n fun op => match op with | .count .dec c => some (s.hw.doCount n .dec c) | _ => none)

/-- ADD (R309): Etcher COUNT ADD adds a signed immediate to a counter. -/
def execAdd (n : Fin 8) (s : State) : Host.Outcome State Fault Refusal :=
  done s (s.hw.etchDo n fun op => match op with | .count (.add x) c => some (s.hw.doCount n (.add x) c) | _ => none)

/-- BIND (R310): Etcher COUNT BIND binds a counter to a fabric event, or removes the binding. -/
def execBind (n : Fin 8) (s : State) : Host.Outcome State Fault Refusal :=
  done s (s.hw.etchDo n fun op => match op with | .count (.bind x) c => some (s.hw.doCount n (.bind x) c) | _ => none)

/-- LDI (R311): Etcher LDI loads an immediate into a counter. -/
def execLdi (n : Fin 8) (s : State) : Host.Outcome State Fault Refusal :=
  done s (s.hw.etchDo n fun op => match op with | .ldi c x => some (s.hw.doLdi n c x) | _ => none)

/-- LDT0 (R313): Etcher LDT0 loads interval timer IT0 with a value and unit. -/
def execLdt0 (n : Fin 8) (s : State) : Host.Outcome State Fault Refusal :=
  done s (s.hw.etchDo n fun op => match op with | .ldt false u x => some (s.hw.doLdt n false u x) | _ => none)

/-- LDT1 (R313): Etcher LDT1 loads interval timer IT1 with a value and unit. -/
def execLdt1 (n : Fin 8) (s : State) : Host.Outcome State Fault Refusal :=
  done s (s.hw.etchDo n fun op => match op with | .ldt true u x => some (s.hw.doLdt n true u x) | _ => none)

/-- LDR (R315): Etcher LDR reads a register into a counter through the arbiter. -/
def execLdr (n : Fin 8) (s : State) : Host.Outcome State Fault Refusal :=
  done s (s.hw.etchDo n fun op => match op with | .ldr c a => some (s.hw.doLdr n c a) | _ => none)

/-- LDS (R311): Etcher LDS loads bits 23:8 of a channel value into a counter. -/
def execLds (n : Fin 8) (s : State) : Host.Outcome State Fault Refusal :=
  done s (s.hw.etchDo n fun op => match op with | .lds ch c => some (s.hw.doLds n ch c) | _ => none)

/-- ILLEGAL_INSTRUCTION (R323): An illegal instruction halts the Etcher with error code 2. -/
def execIllegalInstruction (n : Fin 8) (s : State) : Host.Outcome State Fault Refusal :=
  done s (s.hw.etchIllegal n)

/-- ACCESS_COMPLETE (R315): A stalled Etcher's register or mailbox access completes, and a latched start or stop is
applied. -/
def execAccessComplete (n : Fin 8) (rival : Option Party) (s : State) : Host.Outcome State Fault Refusal :=
  done s (s.hw.accessComplete n rival)

/-- INTERVAL_TIMER_EXPIRE (R313): An Etcher interval timer reaches 0 and becomes expired. -/
def execIntervalTimerExpire (n : Fin 8) (sel : Bool) (s : State) : Host.Outcome State Fault Refusal :=
  done s (s.hw.itExpire n sel)

/-- ETCH_CMD_START (R297): A write of START to ETCH.CMDn starts the Etcher at ENTRY, or is rejected with REJ. -/
def execEtchCmdStart (p : Party) (n : Fin 8) (s : State) : Host.Outcome State Fault Refusal :=
  done s (s.hw.writeRow p (R.ETCH_R n.val 3) 1)

/-- ETCH_CMD_STOP (R299): A write of STOP to ETCH.CMDn stops the Etcher. -/
def execEtchCmdStop (p : Party) (n : Fin 8) (s : State) : Host.Outcome State Fault Refusal :=
  done s (s.hw.writeRow p (R.ETCH_R n.val 3) 2)

/-- ETCH_GO_START (R297): A write to ETCH.GO bits 7:0 starts the named Etchers in one E-cycle. -/
def execEtchGoStart (p : Party) (m : BitVec 8) (s : State) : Host.Outcome State Fault Refusal :=
  done s (s.hw.writeRow p R.ETCH_GO (m.setWidth 16))

/-- ETCH_GO_STOP (R299): A write to ETCH.GO bits 15:8 stops the named Etchers in one E-cycle. -/
def execEtchGoStop (p : Party) (m : BitVec 8) (s : State) : Host.Outcome State Fault Refusal :=
  done s (s.hw.writeRow p R.ETCH_GO (m.setWidth 16 <<< 8))

/-- AUTORUN (R300): When draft ends or a SENSE on-sequence completes, Etchers with AUTORUN start at ENTRY. -/
def execAutorun (s : State) : Host.Outcome State Fault Refusal :=
  done s s.hw.autorunDue

/-- EPROG_ADDR_WRITE (R319): A write to EPROG.ADDR sets the party's program word address and empties its half state.
-/
def execEprogAddrWrite (p : Party) (v : Word) (s : State) : Host.Outcome State Fault Refusal :=
  done s (s.hw.writeRow p R.EPROG_ADDR v)

/-- EPROG_STREAM_WRITE (R320): A write to EPROG.STREAM stores a half word and, on the second half, writes the program
word or rejects it with WREJ. -/
def execEprogStreamWrite (p : Party) (v : Word) (s : State) : Host.Outcome State Fault Refusal :=
  done s (s.hw.writeRow p R.EPROG_STREAM v)

/-- EPROG_STREAM_READ (R319): A read of EPROG.STREAM returns the high or the low half of the program word and advances
the address after the low half. -/
def execEprogStreamRead (p : Party) (s : State) : Host.Outcome State Fault Refusal :=
  done s (s.hw.readRow p R.EPROG_STREAM)

end Sys2Proof.Machine
end

