-- ==== Sys2Proof/Machine/GangCmd.lean ====
section
/-!
DEFINITION. The commands of the gang: one meaning for each row, over the shared operations.
-/

namespace Sys2Proof.Machine

/-- GANG_BACKOFF_END (R451): The gang backoff of GID + B ms ends: the engine probes and starts its HELLO period. -/
def execGangBackoffEnd (acks : BitVec 16) (s : State) : Host.Outcome State Fault Refusal :=
  done s (s.hw.backoffEnd acks)

/-- HELLO_PERIOD (R452): Each 50 ms HELLO period, the member probes, sends HELLO, checks its timeouts and re-evaluates
its state. -/
def execHelloPeriod (acks : BitVec 16) (s : State) : Host.Outcome State Fault Refusal :=
  done s (s.hw.helloPeriod acks)

/-- HELLO (R453): A received HELLO updates the leader, roster, DUPGID and state. -/
def execHello (rx : RxMsg) (m : Hello) (s : State) : Host.Outcome State Fault Refusal :=
  done s (s.hw.gangReceive rx fun g => g.helloReceive m)

/-- TCHK (R463): A received TCHK forms d from the member's EPOCH capture and sets or clears TDISS. -/
def execTchk (rx : RxMsg) (sec : BitVec 48) (ns : BitVec 32) (s : State) : Host.Outcome State Fault Refusal :=
  done s (s.hw.gangReceive rx fun g => g.tchkReceive sec.toNat ns.toNat)

/-- PROPOSE (R465): A received PROPOSE from the leader is accepted or answered with VETO. -/
def execPropose (rx : RxMsg) (snd : Fin 16) (id : Byte) (sec : BitVec 48) (ns : BitVec 32) (s : State) : Host.Outcome State Fault Refusal :=
  done s (s.hw.gangReceive rx fun g => g.proposeReceive snd.val id.toNat sec.toNat ns.toNat)

/-- VETO (R467): A received VETO cancels the pending solstice, or wakes a committed member. -/
def execVeto (rx : RxMsg) (id : Byte) (s : State) : Host.Outcome State Fault Refusal :=
  done s (s.hw.gangReceive rx fun g => g.vetoReceive id.toNat)

/-- WAKE (R469): A received WAKE acts as the gang WAKE message and ends the solstice. -/
def execWake (rx : RxMsg) (id : Byte) (s : State) : Host.Outcome State Fault Refusal :=
  done s (s.hw.gangReceive rx fun g => g.wakeReceive id.toNat)

/-- RELAY (R472): A received RELAY is written into the named mailbox. -/
def execRelay (rx : RxMsg) (snd : Fin 16) (mb : Fin 8) (data : List Word) (s : State) : Host.Outcome State Fault Refusal :=
  done s (s.hw.relayReceive rx snd mb data)

/-- MSGLOST (R449): The VETO or WAKE retry period of 50 ms ends without delivery and the message is dropped. -/
def execMsglost (s : State) : Host.Outcome State Fault Refusal :=
  done s s.hw.msgLost

/-- CWORD_RECOMPUTE (R456): Within 1 ms after a listed register changes, the consistency word is recomputed. -/
def execCwordRecompute (s : State) : Host.Outcome State Fault Refusal :=
  done s s.hw.cwordRecompute

/-- EPGO (R461): A write of 1 to GANG.CTRL.EPGO schedules an EPOCH drive, or is rejected with EPREJ. -/
def execEpgo (p : Party) (v : Word) (s : State) : Host.Outcome State Fault Refusal :=
  done s (s.hw.ctrlRow p 0x3A v 4)

/-- EPDRV (R461): The leader's sample almanac reaches a drive instant and the leader pulls EPOCH low. -/
def execEpdrv (s : State) : Host.Outcome State Fault Refusal :=
  done s s.hw.epochDrive

/-- EPOCH_RELEASE (R461): 10 µs after driving EPOCH, the leader releases it and sends TCHK. -/
def execEpochRelease (s : State) : Host.Outcome State Fault Refusal :=
  done s s.hw.epochRelease

/-- SOLREQ (R464): A write of 1 to GANG.CTRL.SOLREQ proposes a solstice, or is rejected with WHY. -/
def execSolreq (p : Party) (v : Word) (s : State) : Host.Outcome State Fault Refusal :=
  done s (s.hw.ctrlRow p 0x3A v 8)

/-- SOLCOMMIT (R468): A member's almanac reaches C and the member commits to the solstice with TIME only requested. -/
def execSolcommit (s : State) : Host.Outcome State Fault Refusal :=
  done s s.hw.solCommit

/-- GANG_WAKE (R466): A write of 1 to GANG.CTRL.WAKE sets the wake profile in PWR.REQ and acts as a wake request. -/
def execGangWake (p : Party) (v : Word) (s : State) : Host.Outcome State Fault Refusal :=
  done s (s.hw.ctrlRow p 0x3A v 16)

/-- RLYCTL_GO (R471): A write of GO to GANG.RLYCTL sends a RELAY, or is rejected with CFGREJ. -/
def execRlyctlGo (p : Party) (v : Word) (s : State) : Host.Outcome State Fault Refusal :=
  done s (s.hw.writeRow p R.GANG_RLYCTL (v ||| 0x8000))

/-- RLYDONE (R473): A relay ends with its result and RLYDONE is set. -/
def execRlydone (e : GangEnd) (s : State) : Host.Outcome State Fault Refusal :=
  done s (s.hw.relayDone e)

end Sys2Proof.Machine
end

