-- ==== Sys2Proof/Machine/HostCmd.lean ====
section
/-!
DEFINITION. The commands of the host port: one meaning for each row, over the shared operations.
-/

namespace Sys2Proof.Machine

/-- SPI_WRITE_FRAME (R131): An SPI write frame is taken whole: its data words enter the write queue, subject to the
CRC, CRCREQ, bus-error and QFULL checks. -/
def execSpiWriteFrame (mode3 : Bool) (ws : List Word) (drains : List Nat) (extra : Bool) (s : State) : Host.Outcome State Fault Refusal :=
  done s (s.hw.spiWrite mode3 ws drains extra)

/-- SPI_READ_FRAME (R126): An SPI read frame returns STATUS, SUMMARY and read words fixed at their fork instants, or
fetched in the draft format. -/
def execSpiReadFrame (mode3 : Bool) (ws : List Word) (late : Option Nat) (extra : Bool) (s : State) : Host.Outcome State Fault Refusal :=
  done s (s.hw.spiRead mode3 ws late extra)

/-- WRITE_QUEUE_APPLY (R132): A queued host word is applied in its target block, or is discarded with LATEBUS if its
target became unavailable. -/
def execWriteQueueApply (s : State) : Host.Outcome State Fault Refusal :=
  done s s.hw.queueApply

/-- TWI0_WRITE_TRANSFER (R146): A TWI0 write transfer sets the pointer and writes each 16-bit word before
acknowledging it. -/
def execTwi0WriteTransfer (addr : BitVec 7) (bytes : List Byte) (s : State) : Host.Outcome State Fault Refusal :=
  done s (s.hw.twi0Write addr bytes)

/-- TWI0_READ_TRANSFER (R147): A TWI0 read transfer sends words from the pointer while the controller acknowledges
them. -/
def execTwi0ReadTransfer (addr : BitVec 7) (n : Nat) (half : Bool) (s : State) : Host.Outcome State Fault Refusal :=
  done s (s.hw.twi0Read addr n half)

end Sys2Proof.Machine
end

