-- ==== Sys2Proof/Machine/IrqCmd.lean ====
section
/-!
DEFINITION. The commands of the interrupts and the diary: one meaning for each row, over the shared operations.
-/

namespace Sys2Proof.Machine

/-- EOI (R508): A write of 1 to IRQ.CTRL.EOIk starts a new pulse while the pin's aggregate is 1. -/
def execEoi (p : Party) (k : Fin 2) (s : State) : Host.Outcome State Fault Refusal :=
  done s (s.hw.ctrlRow p 0x04 0 (if k = 0 then 2 else 4))

/-- IRQ_PULSE_END (R508): An interrupt pulse reaches its width PW and ends. -/
def execIrqPulseEnd (k : Fin 2) (s : State) : Host.Outcome State Fault Refusal :=
  done s (s.hw.intPulseEnd k)

/-- IRQ_CFG_WRITE (R508): A write to IRQ.CFG reconfigures the pins, and counts as a rise when it puts a pending pin
into pulse mode. -/
def execIrqCfgWrite (p : Party) (v : Word) (s : State) : Host.Outcome State Fault Refusal :=
  done s (s.hw.writeRow p R.IRQ_CFG v)

/-- POP (R514): A write to DIARY.POP removes the oldest entry when the value matches its NUM, or is rejected with
POPREJ. -/
def execPop (p : Party) (v : Word) (s : State) : Host.Outcome State Fault Refusal :=
  done s (s.hw.writeRow p R.DIARY_POP v)

/-- NOTE (R510): A write to DIARY.NOTE writes a NOTE entry. -/
def execNote (p : Party) (v : Word) (s : State) : Host.Outcome State Fault Refusal :=
  done s (s.hw.writeRow p R.DIARY_NOTE v)

end Sys2Proof.Machine
end

