-- ==== Sys2Proof/Machine/MailboxCmd.lean ====
section
/-!
DEFINITION. The commands of the mailboxes and the firmware: one meaning for each row, over the shared operations.
-/

namespace Sys2Proof.Machine

/-- MBX_COMMIT (R479): A write of MBX.MSGn commits a message, or ends in bus error when the mailbox is full or closed.
-/
def execMbxCommit (n : Fin 8) (ws : List (Party × Word)) (s : State) : Host.Outcome State Fault Refusal :=
  if Hw.wellSent ws then done s (s.hw.arbitrate (R.MBX_MSG n.val) ws) else .fault .illFormed

/-- MBX_RELEASE (R484): A write to MBX.REL releases mailboxes, or is rejected with RELREJ. -/
def execMbxRelease (ws : List (Party × Word)) (s : State) : Host.Outcome State Fault Refusal :=
  if Hw.wellSent ws then done s (s.hw.arbitrate R.MBX_REL ws) else .fault .illFormed

/-- RCV_WRITE (R477): A write to MBX.RCV sets the mailbox receivers, or is rejected whole with CFGREJ. -/
def execRcvWrite (p : Party) (v : Word) (s : State) : Host.Outcome State Fault Refusal :=
  done s (s.hw.writeRow p R.MBX_RCV v)

/-- COMMAND_TAKE (R490): The firmware takes the next command from a core mailbox and releases that mailbox. -/
def execCommandTake (s : State) : Host.Outcome State Fault Refusal :=
  done s s.hw.commandTake

/-- PING (R494): PING returns the firmware version and the seconds since CORE came up. -/
def execPing (s : State) : Host.Outcome State Fault Refusal :=
  done s s.hw.fwPing

/-- NVS_SAVE (R495): NVS_SAVE hands a new configuration image to the store controller. -/
def execNvsSave (s : State) : Host.Outcome State Fault Refusal :=
  done s s.hw.fwSave

/-- NVS_CONFIRM (R494): NVS_CONFIRM rewrites the CRCs of suspect regions. -/
def execNvsConfirm (s : State) : Host.Outcome State Fault Refusal :=
  done s s.hw.fwConfirm

/-- NVS_ERASE (R495): NVS_ERASE erases both copies of the body and the boot region. -/
def execNvsErase (s : State) : Host.Outcome State Fault Refusal :=
  done s s.hw.fwErase

/-- CORE_SLEEP (R496): CORE_SLEEP posts its reply and then clears PWR.REQ.CORE. -/
def execCoreSleep (s : State) : Host.Outcome State Fault Refusal :=
  done s s.hw.fwSleep

/-- PTP_SET_CLOCK (R497): PTP_SET_CLOCK sets the priorities and clock quality of an ordinary clock. -/
def execPtpSetClock (s : State) : Host.Outcome State Fault Refusal :=
  done s s.hw.fwSetClock

/-- PTP_SET_INTERVALS (R497): PTP_SET_INTERVALS sets the message intervals of an ordinary clock. -/
def execPtpSetIntervals (s : State) : Host.Outcome State Fault Refusal :=
  done s s.hw.fwSetIntervals

/-- PTP_STATUS (R494): PTP_STATUS returns the port state, servo state and offsets of an ordinary clock. -/
def execPtpStatus (s : State) : Host.Outcome State Fault Refusal :=
  done s s.hw.fwStatus

/-- PTP_PARENT (R494): PTP_PARENT returns the grandmaster data of an ordinary clock. -/
def execPtpParent (s : State) : Host.Outcome State Fault Refusal :=
  done s s.hw.fwParent

/-- REPLY_POST (R492): The firmware posts a reply when its reply mailbox is empty. -/
def execReplyPost (s : State) : Host.Outcome State Fault Refusal :=
  done s s.hw.replyPost

/-- RPLOST (R492): A reply cannot be posted within 100 ms and is dropped. -/
def execRplost (s : State) : Host.Outcome State Fault Refusal :=
  done s s.hw.replyTimeout

/-- NVS_WRITE_DONE (R546): A store write completes its copies in order, setting WRDONE, or ends with WRFAIL. -/
def execNvsWriteDone (fail : Option Nat) (s : State) : Host.Outcome State Fault Refusal :=
  done s (s.hw.imageDone fail)

end Sys2Proof.Machine
end

