-- ==== Sys2Proof/Machine/NetCmd.lean ====
section
/-!
DEFINITION. The commands of the network: one meaning for each row, over the shared operations.
-/

namespace Sys2Proof.Machine

/-- FRAME_RECEIVE (R392): A port receives a frame whole, and the switch delivers it to the endpoint, forwards it, or
discards it. -/
def execFrameReceive (n : Fin 2) (f : Frame) (s : State) : Host.Outcome State Fault Refusal :=
  done s (s.hw.frameIn n f)

/-- FRAME_DEPART (R398): A frame leaves a port and the TSI writes its insertion fields, recomputing the FCS. -/
def execFrameDepart (n : Fin 2) (s : State) : Host.Outcome State Fault Refusal :=
  done s (s.hw.frameDepart n)

/-- LINK_POLL (R390): Every 1 ms, the sentinel reads PHY register 1 and takes the link state, pulsing EV62 on a
change. -/
def execLinkPoll (n : Fin 2) (up : Bool) (s : State) : Host.Outcome State Fault Refusal :=
  done s (s.hw.linkPoll n up)

/-- MDIO_COMMAND (R390): A write of GO to SWITCH.MDIOCMD starts a Clause 22 access. -/
def execMdioCommand (p : Party) (v : Word) (s : State) : Host.Outcome State Fault Refusal :=
  done s (s.hw.writeRow p R.SWITCH_MDIOCMD (v ||| 0x8000))

/-- MDIODONE (R390): An MDIO access ends and MDIODONE is set. -/
def execMdiodone (data : Word) (s : State) : Host.Outcome State Fault Refusal :=
  done s (s.hw.mdioDone data)

/-- LEARN_AGE_OUT (R393): A learned address ages out after AGE seconds without a frame. -/
def execLearnAgeOut (mac : BitVec 48) (s : State) : Host.Outcome State Fault Refusal :=
  done s (s.hw.ageOut mac)

/-- HOLD_TIMEOUT (R410): A held event frame reaches 2 ms: a PTP message is discarded and a datagram leaves with
unknown time. -/
def execHoldTimeout (n : Fin 2) (alarmQ : Bool) (s : State) : Host.Outcome State Fault Refusal :=
  done s (s.hw.holdTimeout n alarmQ)

/-- PTP_LIMIT_WINDOW (R408): A 1 s window of the inbound PTP rate limit ends and the count restarts. -/
def execPtpLimitWindow (s : State) : Host.Outcome State Fault Refusal :=
  done s s.hw.ptpWindow

/-- ARP_REFRESH (R412): At a destination commit and every 60 s, the engine sends an ARP request. -/
def execArpRefresh (s : State) : Host.Outcome State Fault Refusal :=
  done s s.hw.arpRefresh

/-- ARPFAIL (R412): No ARP reply arrives within 1 s and ARPFAIL is set. -/
def execArpfail (s : State) : Host.Outcome State Fault Refusal :=
  done s s.hw.arpFail

/-- ALARM_CONFIG_COMMIT (R421): An accepted commit of the alarm addressing registers rebuilds the alarm headers. -/
def execAlarmConfigCommit (p : Party) (a : Word) (v : Word) (s : State) : Host.Outcome State Fault Refusal :=
  if Hw.alarmReg a.toNat then done s (s.hw.writeRow p a.toNat v) else .fault .illFormed

/-- REMOTE_ACCESS_REQUEST (R416): A remote-access datagram is checked by the firmware, carried out, and answered. -/
def execRemoteAccessRequest (q : RaRequest) (s : State) : Host.Outcome State Fault Refusal :=
  done s (s.hw.raRequest q)

/-- PDELAY_EXCHANGE (R404): Once per second, the firmware measures each port's link delay into MACn.LINKDLY. -/
def execPdelayExchange (n : Fin 2) (dly : BitVec 32) (s : State) : Host.Outcome State Fault Refusal :=
  done s (s.hw.pdelayExchange n dly)

/-- PTP_MESSAGE_INTERVAL (R406): An ordinary clock's message interval runs out, and the firmware sends its next
Announce, Sync or Delay_Req. -/
def execPtpMessageInterval (m : Fin 4) (k : PtpTimer) (s : State) : Host.Outcome State Fault Refusal :=
  done s (s.hw.ptpInterval m k)

end Sys2Proof.Machine
end

