-- ==== Sys2Proof/Machine/PinCmd.lean ====
section
/-!
DEFINITION. The commands of the pins: one meaning for each row, over the shared operations.
-/

namespace Sys2Proof.Machine

/-- PORT_MASKED_WRITE (R530): A masked write to PORTx.OUT, DIR or INV changes the selected pins. -/
def execPortMaskedWrite (port : Fin 3) (which : Fin 3) (ws : List (Party × Word)) (s : State) : Host.Outcome State Fault Refusal :=
  if Hw.wellSent ws then done s (s.hw.arbitrate (R.PORT_OUT port.val + ([0, 4, 6].getD which.val 0)) ws) else .fault .illFormed

/-- OUTSET (R531): A write to PORTx.OUTSET sets OUT bits. -/
def execOutset (port : Fin 3) (ws : List (Party × Word)) (s : State) : Host.Outcome State Fault Refusal :=
  if Hw.wellSent ws then done s (s.hw.arbitrate (R.PORT_OUTSET port.val) ws) else .fault .illFormed

/-- OUTCLR (R531): A write to PORTx.OUTCLR clears OUT bits. -/
def execOutclr (port : Fin 3) (ws : List (Party × Word)) (s : State) : Host.Outcome State Fault Refusal :=
  if Hw.wellSent ws then done s (s.hw.arbitrate (R.PORT_OUTCLR port.val) ws) else .fault .illFormed

/-- OUTTGL (R531): A write to PORTx.OUTTGL inverts OUT bits. -/
def execOuttgl (port : Fin 3) (ws : List (Party × Word)) (s : State) : Host.Outcome State Fault Refusal :=
  if Hw.wellSent ws then done s (s.hw.arbitrate (R.PORT_OUTTGL port.val) ws) else .fault .illFormed

/-- PIN_LINE_EDGE (R536): A pin interrupt line recognizes a selected edge: PLn is set, EVn pulses and the wake source
acts. -/
def execPinLineEdge (n : Fin 8) (lvl : Bool) (vpath : Bool) (s : State) : Host.Outcome State Fault Refusal :=
  done s (s.hw.lineEdge n lvl vpath)

/-- DEBOUNCE_END (R535): A debounce lockout ends and a differing pad level is recognized at once. -/
def execDebounceEnd (n : Fin 8) (lvl : Bool) (s : State) : Host.Outcome State Fault Refusal :=
  done s (s.hw.debounceEnd n lvl)

/-- LCFG_WRITE (R534): A write to PINT.LCFGn reconfigures a line, ending its lockout, or is rejected with CFGREJ. -/
def execLcfgWrite (p : Party) (n : Fin 8) (v : Word) (s : State) : Host.Outcome State Fault Refusal :=
  done s (s.hw.writeRow p (R.PINT_LCFG n.val) v)

end Sys2Proof.Machine
end

