-- ==== Sys2Proof/Machine/PowerCmd.lean ====
section
/-!
DEFINITION. The commands of power, resets and draft: one meaning for each row, over the shared operations.
-/

namespace Sys2Proof.Machine

/-- POWER_ON_RESET (R30): VIN rises through 34.0 V after a stop: the buck starts, VIGIL comes up and the STOP_N latch
is set. -/
def execPowerOnReset (s : State) : Host.Outcome State Fault Refusal :=
  done s s.hw.powerOn

/-- UVLO_STOP (R31): VIN falls through 31.5 V: the buck stops and every domain, VIGIL included, loses power without an
off-sequence. -/
def execUvloStop (s : State) : Host.Outcome State Fault Refusal :=
  done s s.hw.uvloStop

/-- VIN_LOW (R32): The VIN warning comparator asserts: VINLOW is set and a VIN_LOW diary entry is written. -/
def execVinLow (mv : Nat) (s : State) : Host.Outcome State Fault Refusal :=
  done s (s.hw.vinLevel mv)

/-- VIN_WARNING_RELEASE (R32): VIN rises above the warning threshold plus 0.5 V and the comparator releases. -/
def execVinWarningRelease (mv : Nat) (s : State) : Host.Outcome State Fault Refusal :=
  done s (s.hw.vinLevel mv)

/-- VINMON_UPDATE (R33): Every 8,000 V-cycles, PWR.VINMON is updated with the measured VIN. -/
def execVinmonUpdate (v : Word) (s : State) : Host.Outcome State Fault Refusal :=
  done s (s.hw.vinmonUpdate v)

/-- BROWN_OUT (R35): VAUX stays below 3.0 V for 10 µs, or VDDC leaves regulation: the sentinel performs a power-on
reset with cause brown-out. -/
def execBrownOut (vaux : Bool) (s : State) : Host.Outcome State Fault Refusal :=
  done s (s.hw.brownOut vaux)

/-- BUCK_RESTART (R35): 10 ms after a VAUX fault, the buck restarts; this repeats while the fault lasts. -/
def execBuckRestart (s : State) : Host.Outcome State Fault Refusal :=
  done s s.hw.buckRestart

/-- BUCK_GRID_ENTRY (R37): Within 64 S-cycles of SENSE up, the buck enters grid mode at a switching-period boundary.
-/
def execBuckGridEntry (s : State) : Host.Outcome State Fault Refusal :=
  done s s.hw.buckGridEntry

/-- VIO_OUT_OF_BAND (R39): VIO leaves its band: every output pad except STOP_N goes to high impedance. -/
def execVioOutOfBand (s : State) : Host.Outcome State Fault Refusal :=
  done s s.hw.vioOut

/-- VIO_IN_BAND (R39): VIO returns into its band: the output pads are driven again. -/
def execVioInBand (v33 : Bool) (s : State) : Host.Outcome State Fault Refusal :=
  done s (s.hw.vioIn v33)

/-- VIGIL_UP (R56): VIGIL comes out of reset: the straps are sampled, the store load starts, the gang backoff starts
and a RESET diary entry is written. -/
def execVigilUp (straps : BitVec 4) (addr0 : Bool) (s : State) : Host.Outcome State Fault Refusal :=
  done s (s.hw.vigilStart straps addr0)

/-- BOOT_RECORD_LOADED (R56): The boot record finishes loading: the power, wake and draft reflex settings take their
stored values and the first on-sequence starts. -/
def execBootRecordLoaded (s : State) : Host.Outcome State Fault Refusal :=
  done s s.hw.bootComplete

/-- STORE_LOAD_COMPLETE (R545): The configuration store load completes: the NV fields hold their stored values, LOADED
and LOADDONE are set, and the quick proof run starts. -/
def execStoreLoadComplete (s : State) : Host.Outcome State Fault Refusal :=
  done s s.hw.loadComplete

/-- PWR_REQ_WRITE (R45): A write to PWR.REQ changes the requested domains; the power controller drives each domain
toward its effective request. -/
def execPwrReqWrite (p : Party) (v : Word) (s : State) : Host.Outcome State Fault Refusal :=
  done s (s.hw.writeRow p R.PWR_REQ v)

/-- POWER_SEQUENCE_START (R44): While no sequence runs, the power controller chooses and starts the next on-sequence
or off-sequence. -/
def execPowerSequenceStart (s : State) : Host.Outcome State Fault Refusal :=
  done s s.hw.seqStart

/-- ON_SEQUENCE_COMPLETE (R49): A domain's on-sequence completes: NV fields are applied, DOMUP is set, and the
domain's DUP flag is set. -/
def execOnSequenceComplete (s : State) : Host.Outcome State Fault Refusal :=
  done s s.hw.onComplete

/-- OFF_SEQUENCE_COMPLETE (R52): A domain's off-sequence completes: the switch opens and the domain's DDN flag is set.
-/
def execOffSequenceComplete (s : State) : Host.Outcome State Fault Refusal :=
  done s s.hw.offComplete

/-- CORE_FORCED_STOP (R50): The firmware has not acknowledged the stop within 2 ms: the power controller forces the
CORE stop and sets FORCED. -/
def execCoreForcedStop (s : State) : Host.Outcome State Fault Refusal :=
  done s s.hw.forcedStop

/-- WAKE_N (R46): A falling edge on WAKE_N, held low for at least 16 V-cycles, sets the bits of PWR.WAKEPROF in
PWR.REQ. -/
def execWakeN (s : State) : Host.Outcome State Fault Refusal :=
  done s s.hw.wakeN

/-- PIN_RESET (R60): The RST_N filter recognizes a low level: TIME, SENSE, NET and CORE lose power at once, and VIGIL
is held in reset. -/
def execPinReset (s : State) : Host.Outcome State Fault Refusal :=
  done s s.hw.pinReset

/-- COMMAND_RESET (R61): A write of 0xD1A5 to IDENT.RESET causes a command reset, and the later words of the same
burst are discarded. -/
def execCommandReset (p : Party) (s : State) : Host.Outcome State Fault Refusal :=
  done s (s.hw.writeRow p R.IDENT_RESET 0xD1A5)

/-- VIN_OVERVOLTAGE_STOP (R576): VIN rises above the overvoltage stop threshold (92 V typical) and the buck stops
switching. -/
def execVinOvervoltageStop (s : State) : Host.Outcome State Fault Refusal :=
  done s s.hw.overStop

/-- VIN_OVERVOLTAGE_RESTART (R576): VIN falls below the overvoltage restart threshold (88 V typical) and the buck
switches again. -/
def execVinOvervoltageRestart (s : State) : Host.Outcome State Fault Refusal :=
  done s s.hw.overRestart

end Sys2Proof.Machine
end

