-- ==== Sys2Proof/Machine/ProofCmd.lean ====
section
/-!
DEFINITION. The commands of the keys, the proof controller and the test port: one meaning for each row, over the shared operations.
-/

namespace Sys2Proof.Machine

/-- KEY_WRITE (R548): KCMD WRITE stores the party's key staging into a slot, or is rejected with KREJ. -/
def execKeyWrite (p : Party) (s : State) : Host.Outcome State Fault Refusal :=
  done s (s.hw.writeRow p R.KEYS_KCMD 1)

/-- KEY_ERASE (R548): KCMD ERASE erases a key slot, or is rejected with KREJ. -/
def execKeyErase (p : Party) (s : State) : Host.Outcome State Fault Refusal :=
  done s (s.hw.writeRow p R.KEYS_KCMD 2)

/-- ZEROIZE (R551): KCMD ZEROIZE overwrites every key copy and gates the key region. -/
def execZeroize (p : Party) (s : State) : Host.Outcome State Fault Refusal :=
  done s (s.hw.writeRow p R.KEYS_KCMD 3)

/-- KDONE (R548): A key write to the store completes, updating the volatile copy, or sets KFAIL. -/
def execKdone (fail : Option Nat) (s : State) : Host.Outcome State Fault Refusal :=
  done s (s.hw.keyDone fail)

/-- ZEROIZE_COMPLETE (R551): Zeroizing completes within 64 µs, ZEROED is set, and EXTEST pads take their boundary
values. -/
def execZeroizeComplete (s : State) : Host.Outcome State Fault Refusal :=
  done s s.hw.zeroizeDone

/-- QUICK_RUN_END (R556): The quick proof run ends after its slices or at 28 ms, sets DONE, and draft ends. -/
def execQuickRunEnd (s : State) : Host.Outcome State Fault Refusal :=
  done s s.hw.quickEnd

/-- PROOF_GO (R557): A write of 1 to PROOF.CTRL.GO starts a proof run, or is rejected with REJ. -/
def execProofGo (p : Party) (v : Word) (s : State) : Host.Outcome State Fault Refusal :=
  done s (s.hw.ctrlRow p 0x07 v 2)

/-- SLICE_END (R555): A proof slice ends with PASS, FAIL or a skip, and the next slice starts or the run ends. -/
def execSliceEnd (r : SliceResult) (s : State) : Host.Outcome State Fault Refusal :=
  done s (s.hw.sliceEnd r)

/-- OVERRUN (R554): A slice's budget expires while it still runs and it ends with OVERRUN. -/
def execOverrun (s : State) : Host.Outcome State Fault Refusal :=
  done s s.hw.sliceOverrun

/-- PROOF_CONDITION_MEASURE (R554): VDDC is measured every 100 µs and T every 1 ms, and a failing condition ends the
running slice. -/
def execProofConditionMeasure (mv : Word) (ppm : Int) (s : State) : Host.Outcome State Fault Refusal :=
  done s (if s.hw.vigil then s.hw.proofMeasure mv ppm else s.hw)

/-- TAP_RESET (R559): TMS held high on five rising TCK edges resets the TAP controller, and IDCODE becomes current. -/
def execTapReset (s : State) : Host.Outcome State Fault Refusal :=
  done s s.hw.tapReset

/-- EXTEST (R562): EXTEST becomes current at Update-IR: zeroize, then the pads follow the boundary register with
STOP_N low. -/
def execExtest (s : State) : Host.Outcome State Fault Refusal :=
  done s (s.hw.tapSelect .extest)

/-- IDCODE (R560): IDCODE becomes current and selects the 32-bit identification register. -/
def execIdcode (s : State) : Host.Outcome State Fault Refusal :=
  done s (s.hw.tapSelect .idcode)

/-- SAMPLE_PRELOAD (R559): SAMPLE/PRELOAD becomes current and selects the boundary register without acting on the
pads. -/
def execSamplePreload (v : BitVec 174) (s : State) : Host.Outcome State Fault Refusal :=
  done s (s.hw.tapPreload v)

/-- BYPASS (R559): BYPASS, or any unlisted opcode, becomes current and selects the 1-bit bypass register. -/
def execBypass (s : State) : Host.Outcome State Fault Refusal :=
  done s (s.hw.tapSelect .bypass)

/-- PRIVATE_INSTRUCTION (R563): A manufacturer-only instruction becomes current: zeroize, the other domains held in
reset, and a pin reset when it ends. -/
def execPrivateInstruction (s : State) : Host.Outcome State Fault Refusal :=
  done s (s.hw.tapSelect .priv)

/-- BOUNDARY_UPDATE (R562): While EXTEST is current, a new value in the boundary register is updated from a TCK-driven
data scan, and the pads follow it. -/
def execBoundaryUpdate (v : BitVec 174) (s : State) : Host.Outcome State Fault Refusal :=
  done s (s.hw.boundaryUpdate v)

end Sys2Proof.Machine
end

