-- ==== Sys2Proof/Machine/ReflexCmd.lean ====
section
/-!
DEFINITION. The commands of the recognizers and the STOP_N latch: one meaning for each row, over the shared operations.
-/

namespace Sys2Proof.Machine

/-- THRESHOLD_COMMIT (R268): A commit of REC.WnTHR sets a window's thresholds, or is rejected whole when LO > HI. -/
def execThresholdCommit (p : Party) (n : Fin 8) (v : Word) (s : State) : Host.Outcome State Fault Refusal :=
  done s (s.hw.writeRow p (R.REC_WTHR n.val) v)

/-- FORCE (R284): A write of 1 to REFLEX.CTRL.FORCE sets the STOP_N latch with TYPE 6. -/
def execForce (p : Party) (v : Word) (s : State) : Host.Outcome State Fault Refusal :=
  done s (s.hw.ctrlRow p 0x15 v 2)

/-- RELEASE (R285): A write of 0xC1EA to REFLEX.RELEASE releases the STOP_N latch, or is rejected with RELWHY. -/
def execRelease (p : Party) (s : State) : Host.Outcome State Fault Refusal :=
  done s (s.hw.writeRow p R.REFLEX_RELEASE 0xC1EA)

/-- AUTOREL (R287): With AUTOREL = 1, the latch releases itself at the first V-cycle in which a release would be
accepted. -/
def execAutorel (s : State) : Host.Outcome State Fault Refusal :=
  done s s.hw.autoRelease

end Sys2Proof.Machine
end

