-- ==== Sys2Proof/Machine/RegCmd.lean ====
section
/-!
DEFINITION. The commands of the register arbiter: one meaning for each row, over the shared operations.
-/

namespace Sys2Proof.Machine

/-- BLOCK_RESET (R100): A write of 1 to a page's CTRL.SRST resets the page as its row of R62 states. -/
def execBlockReset (p : Party) (pg : BitVec 8) (s : State) : Host.Outcome State Fault Refusal :=
  done s (s.hw.writeRow p (pg.toNat * 256 + 2) 0x8000)

/-- BLOCK_ENABLE_WRITE (R99): A write to CTRL.EN starts a block's stop, or enables the block or latches the enable
while the block is stopping. -/
def execBlockEnableWrite (p : Party) (pg : BitVec 8) (on : Bool) (s : State) : Host.Outcome State Fault Refusal :=
  done s (s.hw.writeRow p (pg.toNat * 256 + 2) (if on then 1 else 0))

/-- BLOCK_STOP_COMPLETE (R99): A block's stop work completes: STOPPING falls, and a latched enable starts the block.
-/
def execBlockStopComplete (pg : BitVec 8) (s : State) : Host.Outcome State Fault Refusal :=
  done s (s.hw.stopComplete pg.toNat)

/-- REGISTER_WRITE (R6, R114): A write to a register with no row of its own is applied under its access codes, the lock
rules and the collision rules, together with what the block does to the register in the same cycle. -/
def execRegisterWrite (a : Word) (ws : List (Party × Word)) (s : State) (t : Tie := Tie.none) :
    Host.Outcome State Fault Refusal :=
  if Hw.wellSent ws then done s (s.hw.arbitrateTie a.toNat ws t) else .fault .illFormed

/-- PAGE_LOCK (R108): A write of 0x4C4B to a page's LOCK register locks the page's RWL fields. -/
def execPageLock (p : Party) (pg : BitVec 8) (s : State) : Host.Outcome State Fault Refusal :=
  done s (s.hw.writeRow p (pg.toNat * 256 + 8) 0x4C4B)

/-- IFORCE_WRITE (R96): A write of 1 to an IFORCE bit sets the matching IFLAG bit for the interrupt path only. -/
def execIforceWrite (p : Party) (pg : BitVec 8) (v : Word) (s : State) : Host.Outcome State Fault Refusal :=
  done s (s.hw.writeRow p (pg.toNat * 256 + 7) v)

/-- KEY_READ (R104): A read of a wide group's key register latches the whole group into the reading party's shadow. -/
def execKeyRead (p : Party) (a : Word) (s : State) : Host.Outcome State Fault Refusal :=
  if Hw.isKeyRead a.toNat then done s (s.hw.readRow p a.toNat) else .fault .illFormed

/-- STAGING_WRITE (R105): A write to a non-key register of a wide group is stored in the writing party's staging copy.
-/
def execStagingWrite (p : Party) (a : Word) (v : Word) (s : State) : Host.Outcome State Fault Refusal :=
  if Hw.isStaged a.toNat then done s (s.hw.writeRow p a.toNat v) else .fault .illFormed

/-- WIDE_GROUP_COMMIT (R105): A write to a wide group's key register commits the key value and the party's staged
values in one V-cycle. -/
def execWideGroupCommit (a : Word) (ws : List (Party × Word)) (s : State) : Host.Outcome State Fault Refusal :=
  if Hw.isKey a.toNat && Hw.wellSent ws then done s (s.hw.arbitrate a.toNat ws) else .fault .illFormed

end Sys2Proof.Machine
end

