-- ==== Sys2Proof/Machine/SenseCmd.lean ====
section
/-!
DEFINITION. The commands of the front end and the decimation chain: one meaning for each row, over the shared operations.
-/

namespace Sys2Proof.Machine

/-- ORIENT_COMMIT (R194): A commit of AFE.ORIENT sets the output-axis map, or is rejected with CFGREJ if it is not a
proper rotation. -/
def execOrientCommit (p : Party) (v : Word) (s : State) : Host.Outcome State Fault Refusal :=
  done s (s.hw.writeRow p R.AFE_ORIENT v)

/-- ARANGE_WRITE (R200): A write to AFE.ARANGE changes the range mode at the next output-sample boundary. -/
def execArangeWrite (p : Party) (v : Word) (s : State) : Host.Outcome State Fault Refusal :=
  done s (s.hw.writeRow p R.AFE_ARANGE v)

/-- GRANGE_WRITE (R208): A write to AFE.GRANGE changes the gyroscope range, empties its histories and starts WARM. -/
def execGrangeWrite (p : Party) (v : Word) (s : State) : Host.Outcome State Fault Refusal :=
  done s (s.hw.writeRow p R.AFE_GRANGE v)

/-- CHEN_WRITE (R210): A write to AFE.CHEN enables or disables channel groups at the next output-sample boundary. -/
def execChenWrite (p : Party) (v : Word) (s : State) : Host.Outcome State Fault Refusal :=
  done s (s.hw.writeRow p R.AFE_CHEN v)

/-- XBCFG_WRITE (R223): A write to AFE.XBCFG changes the XB configuration and empties the XB histories. -/
def execXbcfgWrite (p : Party) (v : Word) (s : State) : Host.Outcome State Fault Refusal :=
  done s (s.hw.writeRow p R.AFE_XBCFG v)

/-- SELF_TEST_START (R212): A write of 1 to AFE.STCTL.GO starts a self-test run, or is rejected with STREJ. -/
def execSelfTestStart (p : Party) (v : Word) (s : State) : Host.Outcome State Fault Refusal :=
  done s (s.hw.writeRow p R.AFE_STCTL (v ||| 0x8000))

/-- STDONE (R214): A self-test run ends: its results are stored and PASS or FAIL is set. -/
def execStdone (s : State) : Host.Outcome State Fault Refusal :=
  done s (if s.hw.live .sense then s.hw.stDone else s.hw)

/-- GDRV (R209): The gyroscope drive loop locks and GDRV rises. -/
def execGdrv (s : State) : Host.Outcome State Fault Refusal :=
  done s s.hw.gdrvLock

/-- GYRO_DRIVE_UNLOCK (R209): The gyroscope drive loop loses lock, GDRV falls, and the gyroscope samples carry WARM.
-/
def execGyroDriveUnlock (s : State) : Host.Outcome State Fault Refusal :=
  done s s.hw.gdrvUnlock

/-- XBLOST (R221): XBCLK shows no edge for 4 V-cycles, or a measurement falls out of range: the XB channels output
−2^23 with WARM. -/
def execXblost (s : State) : Host.Outcome State Fault Refusal :=
  done s s.hw.xbLoss

/-- XBBACK (R221): XBCLK measures within range again: the XB channels restart with empty histories. -/
def execXbback (s : State) : Host.Outcome State Fault Refusal :=
  done s s.hw.xbReturn

/-- XBSTUCK (R222): An XB data line holds one level for 256 bit periods and XBSTUCK is set. -/
def execXbstuck (k : Fin 2) (held : Bool) (s : State) : Host.Outcome State Fault Refusal :=
  done s (s.hw.xbStuck k held)

/-- XB_FREQ_MEASURE (R219): Every 1 ms in received mode, XBCLK is measured against T into AFE.XBFREQ. -/
def execXbFreqMeasure (khz : Word) (s : State) : Host.Outcome State Fault Refusal :=
  done s (s.hw.xbMeasure khz)

/-- OUTPUT_INSTANT (R235): The value for a grid instant, after blend, FIR, trims and clamp, is loaded into the S
output register. -/
def execOutputInstant (x : InstantIn) (s : State) : Host.Outcome State Fault Refusal :=
  done s (s.hw.outputInstant x)

/-- SAMPLE_VALID_IN_E (R262): An output sample crosses S→E: windows and recognizers evaluate it, and the buffer writer
forms its records. -/
def execSampleValidInE (s : State) : Host.Outcome State Fault Refusal :=
  done s s.hw.sampleValid

/-- ODR_WRITE (R232): A write to DEC.ODR sets the rate codes, which take effect at a common instant, or is rejected
whole with CFGREJ. -/
def execOdrWrite (p : Party) (v : Word) (s : State) : Host.Outcome State Fault Refusal :=
  done s (s.hw.writeRow p R.DEC_ODR v)

/-- RESP_WRITE (R237): A write to DEC.RESP switches a group's response at its next output instant. -/
def execRespWrite (p : Party) (v : Word) (s : State) : Host.Outcome State Fault Refusal :=
  done s (s.hw.writeRow p R.DEC_RESP v)

/-- GRIDOFS_COMMIT (R249): A commit of DEC.GRIDOFS sets the grid offset and starts a re-anchor, or waits for EPOCH
when ANCHOR = 1. -/
def execGridofsCommit (p : Party) (v : Word) (s : State) : Host.Outcome State Fault Refusal :=
  done s (s.hw.writeRow p R.DEC_GRIDOFS_L v)

/-- RESYNC (R254): A write of 1 to DEC.CTRL.RESYNC starts a re-anchor. -/
def execResync (p : Party) (v : Word) (s : State) : Host.Outcome State Fault Refusal :=
  done s (s.hw.ctrlRow p 0x11 v 2)

/-- GRID_MEASUREMENT (R250): At each 125 Hz subgrid instant, the discipliner measures e and updates the S-loop offset
and GLOCK. -/
def execGridMeasurement (k : Nat) (s : State) : Host.Outcome State Fault Refusal :=
  done s (s.hw.gridMeasure k)

/-- EPOCH (R256): An EPOCH falling edge resets the decimators, captures the gang time and pulses EV34. -/
def execEpoch (s : State) (since : Nat := 4) : Host.Outcome State Fault Refusal :=
  done s (s.hw.epochEdge since)

end Sys2Proof.Machine
end

