-- ==== Sys2Proof/Machine/TimerCmd.lean ====
section
/-!
DEFINITION. The commands of the timers: one meaning for each row, over the shared operations.
-/

namespace Sys2Proof.Machine

/-- TIMER_COUNT (R370): On a counted edge, a timer counts, wraps, copies preloads, matches and sets its outputs. The command
is one T edge of a timer with CLK = 0, whose prescaler decides whether it is counted (log entry 60). -/
def execTimerCount (n : Fin 6) (s : State) : Host.Outcome State Fault Refusal :=
  done s (s.hw.timTEdge n.val)

/-- TIMER_SLAVE_RESET (R374): A slave-reset event sets the count to 0, the direction to up, and copies the preloads.
-/
def execTimerSlaveReset (n : Fin 6) (s : State) : Host.Outcome State Fault Refusal :=
  done s (s.hw.timPulse n.val 1)

/-- TIMER_SLAVE_GATE (R374): A slave-gate event toggles the timer's gate. -/
def execTimerSlaveGate (n : Fin 6) (s : State) : Host.Outcome State Fault Refusal :=
  done s (s.hw.timPulse n.val 2)

/-- TIMER_SLAVE_TRIGGER (R374): The first slave-trigger event after enable starts counting. -/
def execTimerSlaveTrigger (n : Fin 6) (s : State) : Host.Outcome State Fault Refusal :=
  done s (s.hw.timPulse n.val 3)

/-- TIMER_SLAVE_CLOCK (R374): A slave-clock event gives one source tick to the timer. -/
def execTimerSlaveClock (n : Fin 6) (s : State) : Host.Outcome State Fault Refusal :=
  done s (s.hw.timPulse n.val 4)

/-- TIMER_CAPTURE (R382): A pin edge or event captures the timer count into a capture channel. -/
def execTimerCapture (n : Fin 6) (x : Fin 2) (rising : Bool) (s : State) : Host.Outcome State Fault Refusal :=
  done s (s.hw.timEdge n x rising)

/-- TIMER_CAP_KEY_READ (R383): A key read of a timer capture group latches the group and clears FULLx. -/
def execTimerCapKeyRead (p : Party) (n : Fin 6) (x : Fin 2) (s : State) : Host.Outcome State Fault Refusal :=
  done s (s.hw.readRow p (R.TM_CH0_L n.val + 2 * x.val))

/-- TIMER_ENABLE (R371): A write of 1 to TMn.CTRL.EN starts the timer, or makes it wait for its trigger. -/
def execTimerEnable (p : Party) (n : Fin 6) (s : State) : Host.Outcome State Fault Refusal :=
  done s (s.hw.writeRow p (R.TM_CTRL n.val) 1)

/-- TIMER_STOP (R372): A write of 0 to TMn.CTRL.EN stops the timer at once or at the end of the lap. -/
def execTimerStop (p : Party) (n : Fin 6) (s : State) : Host.Outcome State Fault Refusal :=
  done s (s.hw.writeRow p (R.TM_CTRL n.val) 0)

/-- CNT_COMMIT (R386): A commit of TMn.CNT sets the count 2 to 3 T-cycles later: `slaves` names the timers whose slave event
pulses on the T edge on which it applies, and `tick` says that TMn has a source tick there (R370). -/
def execCntCommit (p : Party) (n : Fin 6) (v : Word) (s : State) (slaves : BitVec 6 := 0) (tick : Bool := false) :
    Host.Outcome State Fault Refusal :=
  done s (s.hw.cntCommit p n v slaves tick)

/-- CH_COMMIT (R379): A commit of a compare channel sets its preload or its lap-wait active value. -/
def execChCommit (p : Party) (n : Fin 6) (x : Fin 2) (v : Word) (s : State) : Host.Outcome State Fault Refusal :=
  done s (s.hw.writeRow p (R.TM_CH0_L n.val + 2 * x.val) v)

/-- TOP_COMMIT (R381): A commit of TMn.TOP sets TOP at once or holds it for the next wrap. -/
def execTopCommit (p : Party) (n : Fin 6) (v : Word) (s : State) : Host.Outcome State Fault Refusal :=
  done s (s.hw.writeRow p (R.TM_TOP_L n.val) v)

end Sys2Proof.Machine
end

