-- ==== Sys2Proof/Machine/TwiCmd.lean ====
section
/-!
DEFINITION. The commands of the two-wire buses: one meaning for each row, over the shared operations.
-/

namespace Sys2Proof.Machine

/-- TWI_BUS_FREE (R427): Both lines stay high for the bus-free time and the bus becomes free. -/
def execTwiBusFree (k : Fin 2) (e : GangEnd) (s : State) : Host.Outcome State Fault Refusal :=
  done s (s.hw.busFree k e)

/-- TWI_SCL_TIMEOUT (R432): SCL stays low for SCLTO units: the block releases both lines and abandons its transfer. -/
def execTwiSclTimeout (k : Fin 2) (bytes : Nat) (s : State) : Host.Outcome State Fault Refusal :=
  done s (s.hw.sclTimeout k bytes)

/-- TWI_SDA_TIMEOUT (R432): SDA stays low for SDATO units: the block releases both lines and abandons its transfer. -/
def execTwiSdaTimeout (k : Fin 2) (bytes : Nat) (high : Bool) (s : State) : Host.Outcome State Fault Refusal :=
  done s (s.hw.sdaTimeout k bytes high)

/-- TWI1_XFER_GO (R437): A write of GO to TWI1.XCMD starts a transfer-engine transfer, or is rejected with CFGREJ. -/
def execTwi1XferGo (p : Party) (v : Word) (s : State) : Host.Outcome State Fault Refusal :=
  done s (s.hw.writeRow p R.TWI1_XCMD (v ||| 0x8000))

/-- TWI1_CONTROLLER_START (R434): When the bus becomes free, the TWI1 controller starts the waiting transfer of the
gang engine or of the transfer engine. -/
def execTwi1ControllerStart (s : State) : Host.Outcome State Fault Refusal :=
  done s s.hw.controllerStart

/-- ARBLOST (R436): The TWI1 controller sees SDA low while it sends a 1: it withdraws and sets ARBLOST. -/
def execArblost (bytes : Nat) (s : State) : Host.Outcome State Fault Refusal :=
  done s (s.hw.arbLost bytes)

/-- XDONE (R440): A transfer-engine transfer ends with its result in XSTAT, and XDONE is set. -/
def execXdone (e : XEnd) (s : State) : Host.Outcome State Fault Refusal :=
  done s (s.hw.xferDone e)

end Sys2Proof.Machine
end

