-- ==== Sys2Proof/Machine/Dispatch.lean ====
section
/-!
DEFINITION. Dispatch: one arm per command, each a call of its own meaning.
-/

namespace Sys2Proof.Machine

def exec (i : Instr) (s : State) : Host.Outcome State Fault Refusal :=
  match i with
  | .powerOnReset => Sys2Proof.Machine.execPowerOnReset s
  | .uvloStop => Sys2Proof.Machine.execUvloStop s
  | .vinLow mv => Sys2Proof.Machine.execVinLow mv s
  | .vinWarningRelease mv => Sys2Proof.Machine.execVinWarningRelease mv s
  | .vinmonUpdate v => Sys2Proof.Machine.execVinmonUpdate v s
  | .brownOut vaux => Sys2Proof.Machine.execBrownOut vaux s
  | .buckRestart => Sys2Proof.Machine.execBuckRestart s
  | .buckGridEntry => Sys2Proof.Machine.execBuckGridEntry s
  | .vioOutOfBand => Sys2Proof.Machine.execVioOutOfBand s
  | .vioInBand v33 => Sys2Proof.Machine.execVioInBand v33 s
  | .vigilUp straps addr0 => Sys2Proof.Machine.execVigilUp straps addr0 s
  | .bootRecordLoaded => Sys2Proof.Machine.execBootRecordLoaded s
  | .storeLoadComplete => Sys2Proof.Machine.execStoreLoadComplete s
  | .pwrReqWrite p v => Sys2Proof.Machine.execPwrReqWrite p v s
  | .powerSequenceStart => Sys2Proof.Machine.execPowerSequenceStart s
  | .onSequenceComplete => Sys2Proof.Machine.execOnSequenceComplete s
  | .offSequenceComplete => Sys2Proof.Machine.execOffSequenceComplete s
  | .coreForcedStop => Sys2Proof.Machine.execCoreForcedStop s
  | .wakeN => Sys2Proof.Machine.execWakeN s
  | .pinReset => Sys2Proof.Machine.execPinReset s
  | .commandReset p => Sys2Proof.Machine.execCommandReset p s
  | .vinOvervoltageStop => Sys2Proof.Machine.execVinOvervoltageStop s
  | .vinOvervoltageRestart => Sys2Proof.Machine.execVinOvervoltageRestart s
  | .blockReset p pg => Sys2Proof.Machine.execBlockReset p pg s
  | .blockEnableWrite p pg on => Sys2Proof.Machine.execBlockEnableWrite p pg on s
  | .blockStopComplete pg => Sys2Proof.Machine.execBlockStopComplete pg s
  | .registerWrite a ws t => Sys2Proof.Machine.execRegisterWrite a ws s t
  | .pageLock p pg => Sys2Proof.Machine.execPageLock p pg s
  | .iforceWrite p pg v => Sys2Proof.Machine.execIforceWrite p pg v s
  | .keyRead p a => Sys2Proof.Machine.execKeyRead p a s
  | .stagingWrite p a v => Sys2Proof.Machine.execStagingWrite p a v s
  | .wideGroupCommit a ws => Sys2Proof.Machine.execWideGroupCommit a ws s
  | .synthCalComplete => Sys2Proof.Machine.execSynthCalComplete s
  | .synthLock => Sys2Proof.Machine.execSynthLock s
  | .settledRise => Sys2Proof.Machine.execSettledRise s
  | .referenceLost => Sys2Proof.Machine.execReferenceLost s
  | .referenceBack => Sys2Proof.Machine.execReferenceBack s
  | .crystalLost => Sys2Proof.Machine.execCrystalLost s
  | .nclkLost => Sys2Proof.Machine.execNclkLost s
  | .nclkBack => Sys2Proof.Machine.execNclkBack s
  | .sLoopUnlock => Sys2Proof.Machine.execSLoopUnlock s
  | .sLoopLock => Sys2Proof.Machine.execSLoopLock s
  | .tdead => Sys2Proof.Machine.execTdead s
  | .vcalUpdate v => Sys2Proof.Machine.execVcalUpdate v s
  | .vtimeCommit p v => Sys2Proof.Machine.execVtimeCommit p v s
  | .xok => Sys2Proof.Machine.execXok s
  | .spiWriteFrame mode3 ws drains extra => Sys2Proof.Machine.execSpiWriteFrame mode3 ws drains extra s
  | .spiReadFrame mode3 ws late extra => Sys2Proof.Machine.execSpiReadFrame mode3 ws late extra s
  | .writeQueueApply => Sys2Proof.Machine.execWriteQueueApply s
  | .twi0WriteTransfer addr bytes => Sys2Proof.Machine.execTwi0WriteTransfer addr bytes s
  | .twi0ReadTransfer addr n half => Sys2Proof.Machine.execTwi0ReadTransfer addr n half s
  | .twiBusFree k e => Sys2Proof.Machine.execTwiBusFree k e s
  | .twiSclTimeout k bytes => Sys2Proof.Machine.execTwiSclTimeout k bytes s
  | .twiSdaTimeout k bytes high => Sys2Proof.Machine.execTwiSdaTimeout k bytes high s
  | .twi1XferGo p v => Sys2Proof.Machine.execTwi1XferGo p v s
  | .twi1ControllerStart => Sys2Proof.Machine.execTwi1ControllerStart s
  | .arblost bytes => Sys2Proof.Machine.execArblost bytes s
  | .xdone e => Sys2Proof.Machine.execXdone e s
  | .almTimeCommit p n v => Sys2Proof.Machine.execAlmTimeCommit p n v s
  | .almStepCommit p n v => Sys2Proof.Machine.execAlmStepCommit p n v s
  | .almSlewCommit p n v => Sys2Proof.Machine.execAlmSlewCommit p n v s
  | .almSlewEnd n => Sys2Proof.Machine.execAlmSlewEnd n s
  | .almAddCommit p n v => Sys2Proof.Machine.execAlmAddCommit p n v s
  | .secondTick n => Sys2Proof.Machine.execSecondTick n s
  | .microsecondTick slaves => Sys2Proof.Machine.execMicrosecondTick s slaves
  | .almBindWrite p n v => Sys2Proof.Machine.execAlmBindWrite p n v s
  | .almTargetCommit p n v => Sys2Proof.Machine.execAlmTargetCommit p n v s
  | .almTargetMatch n => Sys2Proof.Machine.execAlmTargetMatch n s
  | .disarm p n => Sys2Proof.Machine.execDisarm p n s
  | .servoGoodWrite p n v => Sys2Proof.Machine.execServoGoodWrite p n v s
  | .servoto n => Sys2Proof.Machine.execServoto n s
  | .rungQualified n pps => Sys2Proof.Machine.execRungQualified n pps s
  | .switchCommitPoint n => Sys2Proof.Machine.execSwitchCommitPoint n s
  | .holdoverExpired n => Sys2Proof.Machine.execHoldoverExpired n s
  | .ppsInEdge periods rising => Sys2Proof.Machine.execPpsInEdge periods s rising
  | .ppsRungLost n => Sys2Proof.Machine.execPpsRungLost n s
  | .ppsOutEnd => Sys2Proof.Machine.execPpsOutEnd s
  | .ppscfgWrite p v => Sys2Proof.Machine.execPpscfgWrite p v s
  | .rolesWrite p v => Sys2Proof.Machine.execRolesWrite p v s
  | .civilCommit p v => Sys2Proof.Machine.execCivilCommit p v s
  | .leapWrite p v => Sys2Proof.Machine.execLeapWrite p v s
  | .leapdone => Sys2Proof.Machine.execLeapdone s
  | .tsuCapture n rising => Sys2Proof.Machine.execTsuCapture n rising s
  | .tsuCapKeyRead p n => Sys2Proof.Machine.execTsuCapKeyRead p n s
  | .orientCommit p v => Sys2Proof.Machine.execOrientCommit p v s
  | .arangeWrite p v => Sys2Proof.Machine.execArangeWrite p v s
  | .grangeWrite p v => Sys2Proof.Machine.execGrangeWrite p v s
  | .chenWrite p v => Sys2Proof.Machine.execChenWrite p v s
  | .xbcfgWrite p v => Sys2Proof.Machine.execXbcfgWrite p v s
  | .selfTestStart p v => Sys2Proof.Machine.execSelfTestStart p v s
  | .stdone => Sys2Proof.Machine.execStdone s
  | .gdrv => Sys2Proof.Machine.execGdrv s
  | .gyroDriveUnlock => Sys2Proof.Machine.execGyroDriveUnlock s
  | .xblost => Sys2Proof.Machine.execXblost s
  | .xbback => Sys2Proof.Machine.execXbback s
  | .xbstuck k held => Sys2Proof.Machine.execXbstuck k held s
  | .xbFreqMeasure khz => Sys2Proof.Machine.execXbFreqMeasure khz s
  | .outputInstant x => Sys2Proof.Machine.execOutputInstant x s
  | .sampleValidInE => Sys2Proof.Machine.execSampleValidInE s
  | .odrWrite p v => Sys2Proof.Machine.execOdrWrite p v s
  | .respWrite p v => Sys2Proof.Machine.execRespWrite p v s
  | .gridofsCommit p v => Sys2Proof.Machine.execGridofsCommit p v s
  | .resync p v => Sys2Proof.Machine.execResync p v s
  | .gridMeasurement k => Sys2Proof.Machine.execGridMeasurement k s
  | .epoch since => Sys2Proof.Machine.execEpoch s since
  | .thresholdCommit p n v => Sys2Proof.Machine.execThresholdCommit p n v s
  | .force p v => Sys2Proof.Machine.execForce p v s
  | .release p => Sys2Proof.Machine.execRelease p s
  | .autorel => Sys2Proof.Machine.execAutorel s
  | .halt n => Sys2Proof.Machine.execHalt n s
  | .waitEv n => Sys2Proof.Machine.execWaitEv n s
  | .waitState n => Sys2Proof.Machine.execWaitState n s
  | .waitTimer n => Sys2Proof.Machine.execWaitTimer n s
  | .waitSample n => Sys2Proof.Machine.execWaitSample n s
  | .waitCount n => Sys2Proof.Machine.execWaitCount n s
  | .waitComplete n => Sys2Proof.Machine.execWaitComplete n s
  | .waitTimeout n => Sys2Proof.Machine.execWaitTimeout n s
  | .nop n => Sys2Proof.Machine.execNop n s
  | .pulse n => Sys2Proof.Machine.execPulse n s
  | .set n => Sys2Proof.Machine.execSet n s
  | .clr n => Sys2Proof.Machine.execClr n s
  | .tgl n => Sys2Proof.Machine.execTgl n s
  | .actReg n => Sys2Proof.Machine.execActReg n s
  | .actMbx n => Sys2Proof.Machine.execActMbx n s
  | .kickStart n page kicks => Sys2Proof.Machine.execKickStart n page s kicks
  | .kickStop n page kicks => Sys2Proof.Machine.execKickStop n page s kicks
  | .jmp n => Sys2Proof.Machine.execJmp n s
  | .branchEv n => Sys2Proof.Machine.execBranchEv n s
  | .branchState n => Sys2Proof.Machine.execBranchState n s
  | .branchCnt n => Sys2Proof.Machine.execBranchCnt n s
  | .branchTimer n => Sys2Proof.Machine.execBranchTimer n s
  | .branchSample n => Sys2Proof.Machine.execBranchSample n s
  | .inc n => Sys2Proof.Machine.execInc n s
  | .dec n => Sys2Proof.Machine.execDec n s
  | .add n => Sys2Proof.Machine.execAdd n s
  | .bind n => Sys2Proof.Machine.execBind n s
  | .ldi n => Sys2Proof.Machine.execLdi n s
  | .ldt0 n => Sys2Proof.Machine.execLdt0 n s
  | .ldt1 n => Sys2Proof.Machine.execLdt1 n s
  | .ldr n => Sys2Proof.Machine.execLdr n s
  | .lds n => Sys2Proof.Machine.execLds n s
  | .illegalInstruction n => Sys2Proof.Machine.execIllegalInstruction n s
  | .accessComplete n rival => Sys2Proof.Machine.execAccessComplete n rival s
  | .intervalTimerExpire n sel => Sys2Proof.Machine.execIntervalTimerExpire n sel s
  | .etchCmdStart p n => Sys2Proof.Machine.execEtchCmdStart p n s
  | .etchCmdStop p n => Sys2Proof.Machine.execEtchCmdStop p n s
  | .etchGoStart p m => Sys2Proof.Machine.execEtchGoStart p m s
  | .etchGoStop p m => Sys2Proof.Machine.execEtchGoStop p m s
  | .autorun => Sys2Proof.Machine.execAutorun s
  | .eprogAddrWrite p v => Sys2Proof.Machine.execEprogAddrWrite p v s
  | .eprogStreamWrite p v => Sys2Proof.Machine.execEprogStreamWrite p v s
  | .eprogStreamRead p => Sys2Proof.Machine.execEprogStreamRead p s
  | .bufEnable p v => Sys2Proof.Machine.execBufEnable p v s
  | .bufArm p v => Sys2Proof.Machine.execBufArm p v s
  | .bufTrig p v => Sys2Proof.Machine.execBufTrig p v s
  | .adataRead p => Sys2Proof.Machine.execAdataRead p s
  | .acfgFlush p v => Sys2Proof.Machine.execAcfgFlush p v s
  | .bcfgFlush p v => Sys2Proof.Machine.execBcfgFlush p v s
  | .sinkWrite p v => Sys2Proof.Machine.execSinkWrite p v s
  | .strmEnable p v => Sys2Proof.Machine.execStrmEnable p v s
  | .strmFrame => Sys2Proof.Machine.execStrmFrame s
  | .streamDatagram => Sys2Proof.Machine.execStreamDatagram s
  | .dgtmo => Sys2Proof.Machine.execDgtmo s
  | .timerCount n => Sys2Proof.Machine.execTimerCount n s
  | .timerSlaveReset n => Sys2Proof.Machine.execTimerSlaveReset n s
  | .timerSlaveGate n => Sys2Proof.Machine.execTimerSlaveGate n s
  | .timerSlaveTrigger n => Sys2Proof.Machine.execTimerSlaveTrigger n s
  | .timerSlaveClock n => Sys2Proof.Machine.execTimerSlaveClock n s
  | .timerCapture n x rising => Sys2Proof.Machine.execTimerCapture n x rising s
  | .timerCapKeyRead p n x => Sys2Proof.Machine.execTimerCapKeyRead p n x s
  | .timerEnable p n => Sys2Proof.Machine.execTimerEnable p n s
  | .timerStop p n => Sys2Proof.Machine.execTimerStop p n s
  | .cntCommit p n v slaves tick => Sys2Proof.Machine.execCntCommit p n v s slaves tick
  | .chCommit p n x v => Sys2Proof.Machine.execChCommit p n x v s
  | .topCommit p n v => Sys2Proof.Machine.execTopCommit p n v s
  | .frameReceive n f => Sys2Proof.Machine.execFrameReceive n f s
  | .frameDepart n => Sys2Proof.Machine.execFrameDepart n s
  | .linkPoll n up => Sys2Proof.Machine.execLinkPoll n up s
  | .mdioCommand p v => Sys2Proof.Machine.execMdioCommand p v s
  | .mdiodone data => Sys2Proof.Machine.execMdiodone data s
  | .learnAgeOut mac => Sys2Proof.Machine.execLearnAgeOut mac s
  | .holdTimeout n alarmQ => Sys2Proof.Machine.execHoldTimeout n alarmQ s
  | .ptpLimitWindow => Sys2Proof.Machine.execPtpLimitWindow s
  | .arpRefresh => Sys2Proof.Machine.execArpRefresh s
  | .arpfail => Sys2Proof.Machine.execArpfail s
  | .alarmConfigCommit p a v => Sys2Proof.Machine.execAlarmConfigCommit p a v s
  | .remoteAccessRequest q => Sys2Proof.Machine.execRemoteAccessRequest q s
  | .pdelayExchange n dly => Sys2Proof.Machine.execPdelayExchange n dly s
  | .ptpMessageInterval m k => Sys2Proof.Machine.execPtpMessageInterval m k s
  | .gangBackoffEnd acks => Sys2Proof.Machine.execGangBackoffEnd acks s
  | .helloPeriod acks => Sys2Proof.Machine.execHelloPeriod acks s
  | .hello rx m => Sys2Proof.Machine.execHello rx m s
  | .tchk rx sec ns => Sys2Proof.Machine.execTchk rx sec ns s
  | .propose rx snd id sec ns => Sys2Proof.Machine.execPropose rx snd id sec ns s
  | .veto rx id => Sys2Proof.Machine.execVeto rx id s
  | .wake rx id => Sys2Proof.Machine.execWake rx id s
  | .relay rx snd mb data => Sys2Proof.Machine.execRelay rx snd mb data s
  | .msglost => Sys2Proof.Machine.execMsglost s
  | .cwordRecompute => Sys2Proof.Machine.execCwordRecompute s
  | .epgo p v => Sys2Proof.Machine.execEpgo p v s
  | .epdrv => Sys2Proof.Machine.execEpdrv s
  | .epochRelease => Sys2Proof.Machine.execEpochRelease s
  | .solreq p v => Sys2Proof.Machine.execSolreq p v s
  | .solcommit => Sys2Proof.Machine.execSolcommit s
  | .gangWake p v => Sys2Proof.Machine.execGangWake p v s
  | .rlyctlGo p v => Sys2Proof.Machine.execRlyctlGo p v s
  | .rlydone e => Sys2Proof.Machine.execRlydone e s
  | .mbxCommit n ws => Sys2Proof.Machine.execMbxCommit n ws s
  | .mbxRelease ws => Sys2Proof.Machine.execMbxRelease ws s
  | .rcvWrite p v => Sys2Proof.Machine.execRcvWrite p v s
  | .commandTake => Sys2Proof.Machine.execCommandTake s
  | .ping => Sys2Proof.Machine.execPing s
  | .nvsSave => Sys2Proof.Machine.execNvsSave s
  | .nvsConfirm => Sys2Proof.Machine.execNvsConfirm s
  | .nvsErase => Sys2Proof.Machine.execNvsErase s
  | .coreSleep => Sys2Proof.Machine.execCoreSleep s
  | .ptpSetClock => Sys2Proof.Machine.execPtpSetClock s
  | .ptpSetIntervals => Sys2Proof.Machine.execPtpSetIntervals s
  | .ptpStatus => Sys2Proof.Machine.execPtpStatus s
  | .ptpParent => Sys2Proof.Machine.execPtpParent s
  | .replyPost => Sys2Proof.Machine.execReplyPost s
  | .rplost => Sys2Proof.Machine.execRplost s
  | .nvsWriteDone fail => Sys2Proof.Machine.execNvsWriteDone fail s
  | .eoi p k => Sys2Proof.Machine.execEoi p k s
  | .irqPulseEnd k => Sys2Proof.Machine.execIrqPulseEnd k s
  | .irqCfgWrite p v => Sys2Proof.Machine.execIrqCfgWrite p v s
  | .pop p v => Sys2Proof.Machine.execPop p v s
  | .note p v => Sys2Proof.Machine.execNote p v s
  | .portMaskedWrite port which ws => Sys2Proof.Machine.execPortMaskedWrite port which ws s
  | .outset port ws => Sys2Proof.Machine.execOutset port ws s
  | .outclr port ws => Sys2Proof.Machine.execOutclr port ws s
  | .outtgl port ws => Sys2Proof.Machine.execOuttgl port ws s
  | .pinLineEdge n lvl vpath => Sys2Proof.Machine.execPinLineEdge n lvl vpath s
  | .debounceEnd n lvl => Sys2Proof.Machine.execDebounceEnd n lvl s
  | .lcfgWrite p n v => Sys2Proof.Machine.execLcfgWrite p n v s
  | .keyWrite p => Sys2Proof.Machine.execKeyWrite p s
  | .keyErase p => Sys2Proof.Machine.execKeyErase p s
  | .zeroize p => Sys2Proof.Machine.execZeroize p s
  | .kdone fail => Sys2Proof.Machine.execKdone fail s
  | .zeroizeComplete => Sys2Proof.Machine.execZeroizeComplete s
  | .quickRunEnd => Sys2Proof.Machine.execQuickRunEnd s
  | .proofGo p v => Sys2Proof.Machine.execProofGo p v s
  | .sliceEnd r => Sys2Proof.Machine.execSliceEnd r s
  | .overrun => Sys2Proof.Machine.execOverrun s
  | .proofConditionMeasure mv ppm => Sys2Proof.Machine.execProofConditionMeasure mv ppm s
  | .tapReset => Sys2Proof.Machine.execTapReset s
  | .extest => Sys2Proof.Machine.execExtest s
  | .idcode => Sys2Proof.Machine.execIdcode s
  | .samplePreload v => Sys2Proof.Machine.execSamplePreload v s
  | .bypass => Sys2Proof.Machine.execBypass s
  | .privateInstruction => Sys2Proof.Machine.execPrivateInstruction s
  | .boundaryUpdate v => Sys2Proof.Machine.execBoundaryUpdate v s

end Sys2Proof.Machine
end

