-- ==== Sys2Proof/Machine/Step.lean ====
section
/-!
DEFINITION. The step: the command in front of the queue acts on the sentinel; on an empty queue one V-cycle passes.
-/

namespace Sys2Proof.Machine

/-- A V-cycle with nothing commanded (log entry 10): a 1 MHz tick that it reaches and the second ticks that it comes to wait
as commands. -/
def idleStep (s : State) : State :=
  { hw := s.hw.idle
    pending := (if s.hw.live .time && s.hw.idle.cal.ticks != 0 then [.microsecondTick 0] else []) ++ s.hw.wraps.map .secondTick }

/-- One step: the first waiting command runs with the rest of the queue; an empty queue lets a V-cycle pass. -/
def step (s : State) : Host.Outcome State Fault Refusal :=
  match s.pending with
  | [] => .next (idleStep s)
  | c :: rest => exec c { s with pending := rest }

/-- A command in front of the queue where a word spells one. The table gives its rows no bits, so no word does. -/
def State.withFetchWord (s : State) (nbits w : Nat) : State :=
  match decodeTableWord nbits w with
  | some c => { s with pending := c :: s.pending }
  | none => s

end Sys2Proof.Machine
end

