-- ==== Sys2Proof/Safety.lean ====
section
/-!
DEFINITION. The terms that the claims use: what lets a register write through, what the state keeps between commands, and
what a safe run is.
-/

namespace Sys2Proof.Machine
namespace Hw

/-- A write of `v` by `p` reaches the register at `a`: the party's logic runs, the page is powered (R11), the write changes no
field that a lock covers (R7, R109), and it is no access of an Etcher to its own pages (R315). -/
def accepts (h : Hw) (p : Party) (a : Nat) (v : Word) : Prop :=
  h.partyUp p = true ∧ h.pageUp (a / 256) = true ∧ (h.locked (a / 256) = true → (h.reg a ^^^ v) &&& rwlMask a = 0) ∧
    etchBarred p a = none

/-- The length of the wide group with a key. -/
def groupLenOf (key : Nat) : Nat := ((groupAt key).map fun g => g.2.1).getD 0

/-- The words that a commit by `p` with key word `v` applies (R105). -/
def groupWords (h : Hw) (p : Party) (key : Nat) (v : Word) : List Word := h.commitWords p key (groupLenOf key) v

/-- The party's staging copy of the group is empty again (R105). -/
def groupDone (h : Hw) (p : Party) (key : Nat) : Hw := h.unstage p key (groupLenOf key)

/-- A commit of `v` by `p` with the key `key` is applied: the party's logic runs, the page is powered, no field that a lock
covers changes (R106), it is no access of an Etcher to its own pages (R315), and the register is none of a capture channel,
whose writes are ignored (R383). -/
def acceptsKey (h : Hw) (p : Party) (key : Nat) (v : Word) : Prop :=
  h.partyUp p = true ∧ h.pageUp (key / 256) = true ∧ h.commitLocked key (h.groupWords p key v) = false ∧
    etchBarred p key = none ∧ h.captureReg key = false

/-- What holds between commands: each interrupt pin knows its aggregate (R502), the pins in conflict are those of R527, a
stopped crystal is not seen (R70), and no request waits to cross to the gang engine or to NET (R466, R289). -/
def Settled (h : Hw) : Prop :=
  h.int0.agg = h.aggregate 0 ∧ h.int1.agg = h.aggregate 1 ∧
  h.pins.conf = (if h.vigil = true then h.conflicts else 0) ∧ (h.clk.xok = true → h.oscRuns = true) ∧
  h.wakeReq = false ∧ h.alarmReq = none

/-! ### Kinds of addresses -/

/-- A register of a block of kind `k` outside the common layout, the wide groups and the port rules. -/
def blockReg (a : Nat) (k : Kind) : Bool :=
  kindOf (a / 256) == some k && (k.desc (a % 256)).isSome && decide (0x10 ≤ a % 256) && (groupAt a).isNone
    && !portMaskedReg a && !portSetReg a

/-- A key of a writable group of `len` registers outside the mailboxes. -/
def groupKey (a : Nat) (len : Nat) : Bool :=
  groupAt a == some (a, len, false) && (kindOf (a / 256)).isSome && decide (0x10 ≤ a % 256) && decide (a / 256 ≠ 6)
    && !portMaskedReg a && !portSetReg a

/-- Registers that only hold what is written to them: the flag, enable, status and event registers of every page, and
these of the blocks. -/
def storesOnly (a : Nat) : Bool :=
  [3, 4, 5, 6, 9].contains (a % 256) || [R.IDENT_SCRATCH, R.PWR_CFG, R.PWR_WAKEEN, R.PWR_WAKEPROF, R.CLK_CFG, R.CLK_VSRC,
    R.HOST_CFG, R.DIARY_CFG, R.DIARY_SRCEN, R.DIARY_WM, R.PROOF_QUICK, R.DEC_GERR, R.BUF_TRIG, R.BUF_AWM, R.STRM_DGTMO,
    R.REC_TAPCFG, R.REC_FALLTHR, R.REFLEX_CFG, R.REFLEX_DRAFTTHR, R.ALM_QUAL 0, R.ALM_HOLDMAX 3, R.CAL_UTCOFS, R.TSU_PPSW,
    R.MAC_TXLAT 0, R.MAC_ASYM 1, R.SWITCH_FWD, R.SWITCH_AGE, R.TSI_TCCFG, R.GANG_TTOL, R.GANG_SOLCFG, R.TWI1_TADDR,
    R.PORT_PULL 0, R.PORT_DRV 1, R.PORT_OFFHOLD 2].contains a

/-! ### Etcher instruction words (R302 to R313) -/

/-- Etcher `n` holds `e` and continues at PC + 1; it has seen the pulses and samples of this cycle, and its bound counters
have counted (R310). -/
def moved (h : Hw) (n : Fin 8) (e : Etcher) : Hw :=
  h.setEtcher n { e.paid with
    pc := BitVec.ofNat 10 (h.etchPc n + 1), st := .run, seen := h.fabric, seenSample := h.newSample }

end Hw

/-- The timeout bits of a WAIT word (R306): TOEN 25 and TSEL 24. -/
def timeoutBits : Option Bool → Nat
  | none => 0
  | some false => 2 ^ 25
  | some true => 2 ^ 25 + 2 ^ 24

/-- A number of 0 or 1. -/
def bitOf (b : Bool) : Nat := if b then 1 else 0

/-- Bits 28:0 of a WAIT word (R305). -/
def waitBits : WaitCond → Nat
  | .ev a b => b * 2 ^ 8 + a
  | .state pol st => 1 * 2 ^ 26 + bitOf pol * 2 ^ 8 + st
  | .timer sel => 2 * 2 ^ 26 + bitOf sel
  | .sample ch less skip imm => 3 * 2 ^ 26 + ch * 2 ^ 20 + bitOf less * 2 ^ 19 + bitOf skip * 2 ^ 18 + imm.toNat
  | .count cn imm => 4 * 2 ^ 26 + cn.val * 2 ^ 16 + imm.toNat

/-- The SIG code (R307). -/
def SigOp.code : SigOp → Nat
  | .nop => 0
  | .pulse => 1
  | .set => 2
  | .clr => 3
  | .tgl => 4

/-- Bits 28:10 of a BRANCH word (R308). -/
def branchBits : BrCond → Nat
  | .always => 0
  | .ev e => 1 * 2 ^ 26 + e * 2 ^ 16
  | .state pol st => 2 * 2 ^ 26 + bitOf pol * 2 ^ 22 + st * 2 ^ 16
  | .cnt rel cn cm => 3 * 2 ^ 26 + rel * 2 ^ 24 + cn.val * 2 ^ 22 + cm.val * 2 ^ 20
  | .timer notExpired sel => 4 * 2 ^ 26 + bitOf notExpired * 2 ^ 17 + bitOf sel * 2 ^ 16
  | .sample ch less cn => 5 * 2 ^ 26 + ch * 2 ^ 22 + bitOf less * 2 ^ 21 + cn.val * 2 ^ 19

/-- Bits 28:0 of a COUNT word without the counter (R309). -/
def countBits : CntOp → Nat
  | .inc => 0
  | .dec => 1 * 2 ^ 26
  | .add imm => 2 * 2 ^ 26 + imm.toNat
  | .bind ev => 3 * 2 ^ 26 + ev

/-- The word of an Etcher instruction, its unused bits 0. -/
def encodeEtch : EtchOp → BitVec 32
  | .halt clr => BitVec.ofNat 32 (bitOf clr)
  | .wait c t => BitVec.ofNat 32 (1 * 2 ^ 29 + waitBits c + timeoutBits t)
  | .sig op => BitVec.ofNat 32 (2 * 2 ^ 29 + op.code)
  | .actReg cn a => BitVec.ofNat 32 (2 * 2 ^ 29 + 1 * 2 ^ 26 + cn.val * 2 ^ 16 + a)
  | .actMbx mb len => BitVec.ofNat 32 (2 * 2 ^ 29 + 2 * 2 ^ 26 + mb * 2 ^ 16 + len * 2 ^ 8)
  | .kick a stop t => BitVec.ofNat 32 (2 * 2 ^ 29 + 3 * 2 ^ 26 + a.toNat * 2 ^ 16 + bitOf stop * 2 ^ 4 + t.val)
  | .branch c t => BitVec.ofNat 32 (3 * 2 ^ 29 + branchBits c + t.toNat)
  | .count op cn => BitVec.ofNat 32 (4 * 2 ^ 29 + countBits op + cn.val * 2 ^ 16)
  | .ldi cn imm => BitVec.ofNat 32 (5 * 2 ^ 29 + cn.val * 2 ^ 16 + imm.toNat)
  | .ldt it unit val => BitVec.ofNat 32 (5 * 2 ^ 29 + (1 + bitOf it) * 2 ^ 26 + unit * 2 ^ 24 + val)
  | .ldr cn a => BitVec.ofNat 32 (5 * 2 ^ 29 + 3 * 2 ^ 26 + cn.val * 2 ^ 16 + a)
  | .lds ch cn => BitVec.ofNat 32 (5 * 2 ^ 29 + 4 * 2 ^ 26 + ch * 2 ^ 20 + cn.val * 2 ^ 16)

/-- The operands lie within their fields and are no reserved codes (R303 to R313). -/
def EtchOp.wf : EtchOp → Prop
  | .halt _ => True
  | .wait (.ev a b) _ => a < 64 ∧ b < 64
  | .wait (.state _ st) _ => st < 24
  | .wait (.timer _) t => t = none
  | .wait (.sample ch _ _ _) _ => ch < 10
  | .wait (.count _ _) _ => True
  | .sig _ => True
  | .actReg _ a => a < 65536
  | .actMbx mb len => mb < 8 ∧ len ≤ 4
  | .kick _ _ _ => True
  | .branch .always _ => True
  | .branch (.ev e) _ => e < 64
  | .branch (.state _ st) _ => st < 24
  | .branch (.cnt rel _ _) _ => rel < 4
  | .branch (.timer _ _) _ => True
  | .branch (.sample ch _ _) _ => ch < 10
  | .count (.bind ev) _ => ev < 64
  | .count .inc _ => True
  | .count .dec _ => True
  | .count (.add _) _ => True
  | .ldi _ _ => True
  | .ldt _ unit val => unit < 4 ∧ val < 2 ^ 24
  | .ldr _ a => a < 65536
  | .lds ch _ => ch < 10

/-- A timer's count and direction after `k` counted edges with nothing commanded (R367, R368). -/
def timLap (sym : Bool) : Nat → Timer → Timer
  | 0, t => t
  | k + 1, t =>
    let u := timLap sym k t
    { u with cnt := (Hw.timNext u sym).1, down := (Hw.timNext u sym).2.1 }

/-- A run of `k` steps meets no stop. -/
def Safe : Nat → State → Prop
  | 0, _ => True
  | k + 1, s => ∃ t, step s = .next t ∧ Safe k t

end Sys2Proof.Machine
end

