-- ==== Sys2Proof/Certificates/Slice0/Obligations.lean ====
section
/-!
DEFINITION. The statements for the provers.
-/

open Sys2Proof Sys2Proof.Machine Sys2Proof.Machine.Hw

/-! ### The queue, reset, and what follows every command -/

/-- A step with a command in front runs that command with the rest of the queue. -/
def Obligations.FrontCommandRunsWithRestOfQueue : Prop :=
  ∀ (c : Instr) (rest : List Instr) (s : State),
    step { s with pending := c :: rest } = exec c { s with pending := rest }

/-- On an empty queue one V-cycle passes (log entry 10): the fabric pulses end, the registers, the power state, the latch,
the buffer's records, the mailboxes and the store stay, the S-loop offset moves by at most one unit toward what is asked,
and what then waits are 1 MHz ticks and second ticks of almanacs that run. Where the rules leave a reading open, it
follows the model's (log entries 10, 54, 87). -/
def Obligations.EmptyQueueLetsOneVCyclePass : Prop :=
  ∀ s : State, s.pending = [] →
    ∃ t, step s = .next t ∧ t.hw.now = s.hw.now + 1 ∧ t.hw.fabric = 0 ∧ t.hw.newSample = 0 ∧
      t.hw.regs = s.hw.regs ∧ t.hw.pwr = s.hw.pwr ∧ t.hw.latch = s.hw.latch ∧
      t.hw.buf = { s.hw.buf with since := t.hw.buf.since } ∧
      t.hw.mbx = s.hw.mbx ∧ t.hw.nvs = s.hw.nvs ∧ (t.hw.clk.soffs - s.hw.clk.soffs).natAbs ≤ 1 ∧
      (s.hw.live .sense = true → s.hw.clk.soffs < s.hw.clk.soffsTo → t.hw.clk.soffs = s.hw.clk.soffs + 1) ∧
      (s.hw.live .sense = true → s.hw.clk.soffsTo < s.hw.clk.soffs → t.hw.clk.soffs = s.hw.clk.soffs - 1) ∧
      ∀ c ∈ t.pending, s.hw.live .time = true ∧ (c = .microsecondTick 0 ∨ ∃ n, c = .secondTick n)

/-- A command stops the machine exactly when it is ill-formed; every other command answers a next state with the queue
unchanged, and none is refused. -/
def Obligations.StopsExactlyOnIllFormedCommands : Prop :=
  ∀ (c : Instr) (s : State),
    (c.wellFormed = false → exec c s = .fault .illFormed) ∧
    (c.wellFormed = true → ∃ g : Hw, exec c s = .next (s.after g) ∧ (s.after g).pending = s.pending)

/-- After reset (power-on, VIGIL just up): LASTRST names the power-on reset, the latch is set with cause 4, draft holds,
the four switched domains are off, the diary holds RESET and STOP_SET, and every register that the start does not write
has its reset value. The straps, ADDR0, VIO and VIN are the model's choice (log entry 1). -/
def Obligations.ResetIsPowerOnWithLatchSet : Prop :=
  State.reset.pending = [] ∧ State.reset.hw.vigil = true ∧ State.reset.hw.reg R.PWR_LASTRST = 1 ∧
  State.reset.hw.latch.set = true ∧ State.reset.hw.latch.typ = 4 ∧ State.reset.hw.pwr.draft = true ∧
  State.reset.hw.domState .time = .off ∧ State.reset.hw.domState .sense = .off ∧ State.reset.hw.domState .net = .off ∧
  State.reset.hw.domState .core = .off ∧ State.reset.hw.diary.entries.map (·.src) = [1, 6] ∧
  State.reset.hw.host.queue = [] ∧ State.reset.hw.buf = Buf.init ∧ State.reset.hw.mbx = Vector.replicate 8 Box.init ∧
  ∀ a, a ≠ R.PWR_LASTRST → a ≠ R.DIARY_IFLAG → State.reset.hw.reg a = resetOf a

/-- The state after reset is settled. -/
def Obligations.ResetIsSettled : Prop :=
  State.reset.hw.Settled

/-- Every step from a settled state leaves a settled one: the interrupt pins know their aggregates, the pins in conflict
are those of R527, a stopped crystal is not seen, no request is left between the blocks. -/
def Obligations.EveryStepKeepsSettled : Prop :=
  ∀ s t : State, s.hw.Settled → step s = .next t → t.hw.Settled

/-- What follows a command's own effect in the same moment reaches neither time, nor the buses, the mailboxes, the
firmware, the store, the keys, the test port, the programs, the staging copies nor the held pins; of the power state only
the end of draft and the end of a recorded opposite sequence (R54) can follow, of the clocks only XOK. What follows a
command never releases the STOP_N latch, and a set latch keeps its cause record. -/
def Obligations.FollowUpTouchesOnlyConsumers : Prop :=
  (∀ h : Hw,
    h.settle.now = h.now ∧ h.settle.alm = h.alm ∧ h.settle.cal = h.cal ∧ h.settle.pps = h.pps ∧ h.settle.tim = h.tim ∧
    h.settle.host = h.host ∧ h.settle.twi = h.twi ∧ h.settle.xfer = h.xfer ∧ h.settle.mbx = h.mbx ∧ h.settle.fw = h.fw ∧
    h.settle.nvs = h.nvs ∧ h.settle.keys = h.keys ∧ h.settle.tap = h.tap ∧ h.settle.prog = h.prog ∧
    h.settle.eprog = h.eprog ∧ h.settle.shadows = h.shadows ∧ h.settle.staging = h.staging ∧
    h.settle.pins = { h.pins with conf := h.settle.pins.conf } ∧
    h.settle.pwr = { h.pwr with draft := h.settle.pwr.draft, opposite := h.settle.pwr.opposite } ∧
    (h.settle.pwr.draft = true → h.pwr.draft = true) ∧
    (h.settle.pwr.opposite = h.pwr.opposite ∨ h.settle.pwr.opposite = none) ∧
    h.settle.clk = { h.clk with xok := h.settle.clk.xok } ∧ (h.settle.clk.xok = true → h.clk.xok = true) ∧
    h.settle.free = h.free + 1) ∧
  (∀ h : Hw, h.latch.set = true → h.settle.latch = h.latch)

/-! ### Power -/

/-- The supply events (R30, R31, R35, R36, R39, R59, R576): a start is a power-on reset, a stop takes every domain's
power, the buck and VIO follow what is told. The VIN comparator (R32, R33): it sets VINWARN, the flag and a VIN_LOW entry
below the threshold, and releases above the threshold plus 0.5 V; between them it keeps its state. A measurement is
stored. Where the rules leave a reading open, it follows the model's (log entries 11, 23). Under the conditions of its
clauses each of these commands completes: POWER_ON_RESET, UVLO_STOP, VIN_LOW, VIN_WARNING_RELEASE, VINMON_UPDATE,
BROWN_OUT, BUCK_RESTART, BUCK_GRID_ENTRY, VIO_OUT_OF_BAND, VIO_IN_BAND, VIN_OVERVOLTAGE_STOP, VIN_OVERVOLTAGE_RESTART. -/
def Obligations.SupplyEventsAndVinWarning : Prop :=
  (∀ s : State,
    (s.hw.pwr.running = false → exec .powerOnReset s = .next (s.after
      ((s.hw.setPwr { s.hw.pwr with vin := 34000, buckFault := false, buckOv := false }).powerReset 1))) ∧
    (s.hw.pwr.running = true → exec .uvloStop s = .next (s.after (s.hw.storePowerLoss.setPwr { s.hw.pwr with
      running := false, vigilUp := false, vin := 31500, buckGrid := false, vinWarn := false
      time := .off, sense := .off, net := .off, core := .off, opposite := none }))) ∧
    (∀ vaux, s.hw.pwr.running = true → exec (.brownOut vaux) s = .next (s.after ((s.hw.powerReset 2).setPwr
      { (s.hw.powerReset 2).pwr with buckFault := vaux || s.hw.pwr.buckFault }))) ∧
    (s.hw.pwr.running = true → s.hw.pwr.buckFault = true →
      exec .buckRestart s = .next (s.after (s.hw.setPwr { s.hw.pwr with buckFault := false }))) ∧
    (s.hw.up .sense = true →
      exec .buckGridEntry s = .next (s.after (s.hw.setPwr { s.hw.pwr with buckGrid := true }))) ∧
    (s.hw.pwr.running = true →
      exec .vinOvervoltageStop s = .next (s.after (s.hw.setPwr { s.hw.pwr with buckOv := true })) ∧
      exec .vinOvervoltageRestart s = .next (s.after (s.hw.setPwr { s.hw.pwr with buckOv := false }))) ∧
    exec .vioOutOfBand s = .next (s.after (s.hw.setPwr { s.hw.pwr with vio := .out })) ∧
    exec (.vioInBand true) s = .next (s.after (s.hw.setPwr { s.hw.pwr with vio := .v33 })) ∧
    exec (.vioInBand false) s = .next (s.after (s.hw.setPwr { s.hw.pwr with vio := .v18 }))) ∧
  (∀ (s : State) (mv : Nat) (c : Instr), s.hw.vigil = true → c = .vinLow mv ∨ c = .vinWarningRelease mv →
    (s.hw.pwr.vinWarn = false → mv < s.hw.vinThreshold → exec c s = .next (s.after
      (((s.hw.setPwr { s.hw.pwr with vin := mv, vinWarn := true }).raise 1 8).diaryAdd 2 (s.hw.reg R.PWR_VINMON) 0))) ∧
    (s.hw.pwr.vinWarn = true → s.hw.vinThreshold + 500 < mv → exec c s = .next (s.after
      (s.hw.setPwr { s.hw.pwr with vin := mv, vinWarn := false }))) ∧
    ((s.hw.pwr.vinWarn = false ∧ s.hw.vinThreshold ≤ mv) ∨ (s.hw.pwr.vinWarn = true ∧ mv ≤ s.hw.vinThreshold + 500) →
      exec c s = .next (s.after (s.hw.setPwr { s.hw.pwr with vin := mv }))) ∧
    ∀ v, exec (.vinmonUpdate v) s = .next (s.after (s.hw.setReg R.PWR_VINMON v)))

/-- A power-on reset or brown-out starts everything anew but the store (R59, R62, R283): every register but LASTRST has
its reset value, the latch is set with cause 4, the diary is empty, draft holds, no domain has power. Pin and command
reset (R60 to R63, R118): the diary, V time, the latch with its cause, the write-once fields and LOST stay; every other
register has its reset value, no domain has power, and VIGIL is held. A word other than 0xD1A5 resets nothing. Where the
rules leave a reading open, it follows the model's (log entries 24, 28). Under the conditions of its clauses each of these
commands completes: PIN_RESET, COMMAND_RESET, REGISTER_WRITE. -/
def Obligations.ResetsKeepWhatSurvives : Prop :=
  (∀ (h : Hw) (code : Nat),
    (h.powerReset code).reg R.PWR_LASTRST = wd code ∧
    (∀ a, a ≠ R.PWR_LASTRST → (h.powerReset code).reg a = resetOf a) ∧
    (h.powerReset code).latch = { set := true, typ := 4, ev := 0, why := 0, setAt := h.now } ∧
    (h.powerReset code).diary.entries = [] ∧ (h.powerReset code).pwr.draft = true ∧
    (h.powerReset code).vigil = false ∧ (h.powerReset code).shadows = [] ∧ (h.powerReset code).staging = [] ∧
    (∀ d, d ≠ Dom.vigil → (h.powerReset code).domState d = .off) ∧
    (h.nvs.job = none → (h.powerReset code).nvs.boot = h.nvs.boot ∧ (h.powerReset code).nvs.body = h.nvs.body ∧
      (h.powerReset code).nvs.factory = h.nvs.factory ∧ (h.powerReset code).nvs.keys = h.nvs.keys)) ∧
  (∀ s : State,
    (s.hw.pwr.running = true → s.hw.pwr.vigilUp = true ∨ s.hw.pwr.held = true → exec .pinReset s = .next (s.after (s.hw.warmReset 3))) ∧
    (∀ p, s.hw.accepts p R.IDENT_RESET 0xD1A5 → exec (.commandReset p) s = .next (s.after (s.hw.warmReset 4))) ∧
    (∀ p v, v ≠ 0xD1A5 → s.hw.accepts p R.IDENT_RESET v →
      exec (.registerWrite (BitVec.ofNat 16 R.IDENT_RESET) [(p, v)] Tie.none) s = .next (s.after s.hw)) ∧
    ∀ code,
      (s.hw.warmReset code).diary = s.hw.diary ∧ (s.hw.warmReset code).clk.vsec = s.hw.clk.vsec ∧
      (s.hw.warmReset code).latch = { s.hw.latch with why := 0 } ∧ (s.hw.warmReset code).vigil = false ∧
      (∀ d, d ≠ Dom.vigil → (s.hw.warmReset code).domState d = .off) ∧
      (∀ a ∈ [R.KEYS_KLOCK, R.KEYS_SCANLOCK, R.DIARY_LOST], (s.hw.warmReset code).reg a = s.hw.reg a) ∧
      (s.hw.warmReset code).reg R.PWR_LASTRST = wd code ∧
      ∀ a, a ∉ [R.KEYS_KLOCK, R.KEYS_SCANLOCK, R.DIARY_LOST, R.PWR_LASTRST, R.KEYS_STAT] →
        (s.hw.warmReset code).reg a = resetOf a)

/-- VIGIL's start and the two loads (R39, R41, R56, R445, R510, R543 to R545): the straps and ADDR0 are sampled, a RESET
entry is written, the boot record is held and BOOTDEF tells a missing one, which leaves its registers as they are (R8),
the load ends with LOADED and LOADDONE, and the quick run starts. Where the rules leave a reading open, it follows the
model's (log entries 11, 24, 30). Under the conditions of its clauses each of these commands completes: VIGIL_UP,
BOOT_RECORD_LOADED, STORE_LOAD_COMPLETE. -/
def Obligations.VigilStartsAndLoadsStore : Prop :=
  ∀ s : State,
    (∀ straps addr0, s.hw.pwr.running = true → (s.hw.pwr.vigilUp = false ∨ s.hw.pwr.held = true) → s.hw.pwr.vio ≠ .out →
      s.hw.pwr.buckFault = false → s.hw.tap.ir ≠ .priv →
      exec (.vigilUp straps addr0) s = .next (s.after (s.hw.vigilStart straps addr0)) ∧
      (s.hw.vigilStart straps addr0).vigil = true ∧ (s.hw.vigilStart straps addr0).pins.straps = straps ∧
      (s.hw.vigilStart straps addr0).gang.gid = straps ∧ (s.hw.vigilStart straps addr0).host.addr0 = addr0 ∧
      (s.hw.vigilStart straps addr0).pwr.vio33 = (s.hw.pwr.vio == .v33) ∧
      (s.hw.vigilStart straps addr0).pwr.held = false) ∧
    (s.hw.vigil = true → s.hw.pwr.bootLoaded = false →
      exec .bootRecordLoaded s = .next (s.after s.hw.bootComplete) ∧ s.hw.bootComplete.pwr.bootLoaded = true ∧
      s.hw.bootComplete.pwr.bootDef = (pickCopy s.hw.nvs.boot).isNone ∧
      (pickCopy s.hw.nvs.boot = none → ∀ a ∈ bootRegs, s.hw.bootComplete.reg a = s.hw.reg a) ∧
      s.hw.bootComplete.nvs.bootIn = (pickCopy s.hw.nvs.boot).map (·.data)) ∧
    (s.hw.vigil = true → s.hw.pwr.bootLoaded = true → s.hw.nvs.loaded = false → s.hw.nvs.job = none →
      exec .storeLoadComplete s = .next (s.after s.hw.loadComplete) ∧ s.hw.loadComplete.nvs.loaded = true ∧
      s.hw.loadComplete.nvs.image = (pickCopy s.hw.nvs.body).map (·.data) ∧
      s.hw.loadComplete.b R.NVS_IFLAG 0 = true ∧
      (s.hw.loadComplete.proof.active = true ∨ s.hw.loadComplete.pwr.draft = false))

/-- The order of the power sequences (R44): a recorded opposite comes first; else CORE, NET, SENSE, TIME are lowered in
this order before any domain is raised, and TIME, SENSE, NET, CORE are raised in this order. Requests and sequences (R44,
R45, R49 to R53, R64): a write to REQ stores the requests and is a wake request when it sets SENSE, NET or CORE; a
sequence starts as R44 orders, ends with its domain on or off and its flag set; a domain that is off has its registers at
reset values. WAKE_N (R46): with its WAKEEN bit set it requests the wake profile, sets the flag and writes a WAKE entry;
without it nothing happens. Where the rules leave a reading open, it follows the model's (log entries 11, 26). Under the
conditions of its clauses each of these commands completes: PWR_REQ_WRITE, POWER_SEQUENCE_START, ON_SEQUENCE_COMPLETE,
OFF_SEQUENCE_COMPLETE, CORE_FORCED_STOP, WAKE_N. -/
def Obligations.PowerSequencesRunInOrder : Prop :=
  (∀ (h : Hw) (d : Dom) (up : Bool), h.nextSeq = some (d, up) →
    h.vigil = true ∧ h.pwr.bootLoaded = true ∧ h.seqRuns = false ∧
    (up = true → h.mustRaise d = true) ∧ (up = false → h.mustLower d = true) ∧
    (h.pwr.opposite = none → up = true →
      (∀ e ∈ switched, h.mustLower e = false) ∧
      ∀ e ∈ switched, Hw.domBit e < Hw.domBit d → h.mustRaise e = false) ∧
    (h.pwr.opposite = none → up = false → ∀ e ∈ switched, Hw.domBit d < Hw.domBit e → h.mustLower e = false)) ∧
  (∀ s : State,
    (∀ p v, s.hw.accepts p R.PWR_REQ v → exec (.pwrReqWrite p v) s = .next (s.after
      { s.hw.setReg R.PWR_REQ (v &&& 0x000F) with wakeReq := s.hw.wakeReq || (v &&& 0x000E) != 0 })) ∧
    (∀ d, s.hw.nextSeq = some (d, true) → ∃ g : Hw, exec .powerSequenceStart s = .next (s.after g) ∧
      g = (s.hw.setPwr { s.hw.pwr with pstate := BitVec.ofNat 3 s.hw.pstateNow, opposite := none }).onStart d ∧
      g.domState d = .rising ∧ (∀ e, e ≠ d → g.domState e = s.hw.domState e) ∧ g.pwr.opposite = none) ∧
    (∀ d, s.hw.nextSeq = some (d, false) → ∃ g : Hw, exec .powerSequenceStart s = .next (s.after g) ∧
      g = (s.hw.setPwr { s.hw.pwr with pstate := BitVec.ofNat 3 s.hw.pstateNow, opposite := none }).offStart d ∧
      g.domState d = .falling ∧ (∀ e, e ≠ d → g.domState e = s.hw.domState e) ∧ g.pwr.opposite = none) ∧
    (s.hw.nextSeq = none → exec .powerSequenceStart s = .next (s.after s.hw)) ∧
    (∀ d, s.hw.vigil = true → s.hw.risingDom = some d → exec .onSequenceComplete s = .next (s.after s.hw.onComplete) ∧
      s.hw.onComplete.domState d = .on ∧ s.hw.onComplete.b R.PWR_IFLAG (Hw.domBit d) = true) ∧
    (∀ d, s.hw.vigil = true → s.hw.fallingDom = some d → exec .offSequenceComplete s = .next (s.after s.hw.offComplete) ∧
      s.hw.offComplete.domState d = .off ∧ s.hw.offComplete.b R.PWR_IFLAG (4 + Hw.domBit d) = true ∧
      ∀ a, Hw.inDom d (a / 256) = true → s.hw.offComplete.reg a = resetOf a) ∧
    (s.hw.vigil = true → s.hw.pwr.core = .falling → s.hw.pwr.forced = false →
      exec .coreForcedStop s = .next (s.after { (s.hw.setPwr { s.hw.pwr with forced := true }).raise 1 11 with
        diary := { s.hw.diary with entries := Hw.markForced s.hw.diary.entries } }))) ∧
  (∀ s : State, s.hw.vigil = true →
    (s.hw.b R.PWR_WAKEEN 8 = true → exec .wakeN s = .next (s.after
      { ((s.hw.setReg R.PWR_REQ (s.hw.reg R.PWR_REQ ||| wd (s.hw.f R.PWR_WAKEPROF 3 0))).raise 1 10).diaryAdd 3 1 0 with
        wakeReq := true })) ∧
    (s.hw.b R.PWR_WAKEEN 8 = false → exec .wakeN s = .next (s.after s.hw)))

/-! ### The register arbiter -/

/-- The access codes (R6) on the flag, enable, status and event registers of every page and on the registers of
`storesOnly`: an accepted write stores RW and RWL bits, clears the W1C bits written with 1, leaves every other bit, every
other register and all else. Under the conditions of its clauses each of these commands completes: REGISTER_WRITE. -/
def Obligations.WritesFollowAccessCodes : Prop :=
  ∀ (s : State) (p : Party) (a v : Word) (d : RegDesc), descOf a.toNat = some d → storesOnly a.toNat = true →
    s.hw.accepts p a.toNat v →
    ∃ w, exec (.registerWrite a [(p, v)] Tie.none) s = .next (s.after (s.hw.setReg a.toNat w)) ∧
      ∀ i, i < 16 → w.getLsbD i =
        if (d.rw ||| d.rwl).testBit i then v.getLsbD i
        else if d.w1c.testBit i then (s.hw.reg a.toNat).getLsbD i && !v.getLsbD i
        else (s.hw.reg a.toNat).getLsbD i

/-- A locked write (R7, R109, R111): each RWL field keeps its value, RW fields of the register are still written, LKV is
set in `IDENT.STAT`, `IDENT.IFLAG` and the page's STAT, LKVADDR takes the address, and nothing else changes. LOCK and
IFORCE (R96, R108): the key locks a page that then reads 1 until a reset, any other value does nothing; a 1 in IFORCE sets
the flag of the page and nothing else. Under the conditions of its clauses each of these commands completes:
REGISTER_WRITE, PAGE_LOCK, IFORCE_WRITE. -/
def Obligations.LocksHoldFieldsAndForcedFlagsSet : Prop :=
  (∀ (s : State) (p : Party) (a v : Word) (k : Kind) (d : RegDesc), blockReg a.toNat k = true → d.woo = 0 →
    k.desc (a.toNat % 256) = some d → s.hw.partyUp p = true → s.hw.pageUp (a.toNat / 256) = true →
    etchBarred p a.toNat = none → s.hw.locked (a.toNat / 256) = true → (s.hw.reg a.toNat ^^^ v) &&& wd d.rwl ≠ 0 →
    ∃ g : Hw, exec (.registerWrite a [(p, v)] Tie.none) s = .next (s.after g) ∧
      g.b R.IDENT_STAT 13 = true ∧ g.b R.IDENT_IFLAG 0 = true ∧ g.b (a.toNat / 256 * 256 + 3) 13 = true ∧
      g.reg R.IDENT_LKVADDR = a ∧
      g.reg a.toNat &&& wd d.rwl = s.hw.reg a.toNat &&& wd d.rwl ∧
      g.reg a.toNat &&& (wd d.rw &&& ~~~wd d.rwl) = v &&& (wd d.rw &&& ~~~wd d.rwl) ∧
      (∀ b, b ∉ [R.IDENT_STAT, R.IDENT_IFLAG, R.IDENT_LKVADDR, a.toNat / 256 * 256 + 3, a.toNat] → g.reg b = s.hw.reg b) ∧
      g = { s.hw with regs := g.regs }) ∧
  (∀ (s : State) (p : Party) (pg : BitVec 8) (k : Kind), kindOf pg.toNat = some k → s.hw.partyUp p = true →
    s.hw.pageUp pg.toNat = true → etchBarred p (pg.toNat * 256) = none →
    exec (.pageLock p pg) s = .next (s.after (s.hw.setReg (pg.toNat * 256 + 8) 1)) ∧
    (∀ v : Word, v ≠ 0x4C4B → exec (.registerWrite (BitVec.ofNat 16 (pg.toNat * 256 + 8)) [(p, v)] Tie.none) s = .next (s.after s.hw)) ∧
    ∀ v : Word, exec (.iforceWrite p pg v) s = .next (s.after
      (s.hw.setReg (pg.toNat * 256 + 4) (s.hw.reg (pg.toNat * 256 + 4) ||| (v &&& wd k.ifMask)))))

/-- A write to a page whose domain has no power is a bus error, before every other rule (R11, R12, R14): it changes no
register of the page and no lock flag; the host port counts it and keeps its address, and over SPI the next STATUS shows
it; an Etcher records error 1. A party whose logic does not run writes nothing. Two parties at one register in one V-cycle
(R112), with writes that reach the arbiter (R97, R315): the write of the party ranked higher is applied as if it came
alone, the other is dropped, and COLLIDE, the address and both parties are recorded, at reserved and read-only registers
too (the model's choice, log entry 33). A block changes a register in the cycle in which a party writes it (R114), at a
register that only holds what is written to it and none of whose fields a lock covers: RW and RWL fields take the party's
value whatever the block gave them, a W1C flag that the block sets stays set although the party clears it, and RECAL,
which the block clears, ends set when the party sets it. Where the rules leave a reading open, it follows the model's (log
entries 33, 42, 92). Under the conditions of its clauses each of these commands completes: REGISTER_WRITE. -/
def Obligations.ArbiterRejectsUnpoweredAndLosingWrites : Prop :=
  (∀ (s : State) (a v : Word), (kindOf (a.toNat / 256)).isSome = true → s.hw.pageUp (a.toNat / 256) = false →
    (s.hw.vigil = true → exec (.registerWrite a [(.spi, v)] Tie.none) s = .next (s.after
      { ((s.hw.raise 3 1).count R.HOST_BECNT).setReg R.HOST_ERRADDR a with host := { s.hw.host with prevBus := true } })) ∧
    (s.hw.vigil = true → a.toNat % 256 ≠ 15 → exec (.registerWrite a [(.twi0, v)] Tie.none) s = .next (s.after
      (((s.hw.raise 3 1).count R.HOST_BECNT).setReg R.HOST_ERRADDR a))) ∧
    (∀ p, p = .core ∨ p = .remote → exec (.registerWrite a [(p, v)] Tie.none) s = .next (s.after s.hw)) ∧
    (∀ n, s.hw.live .sense = true → etchBarred (.etch n) a.toNat = none →
      exec (.registerWrite a [(.etch n, v)] Tie.none) s = .next (s.after (s.hw.accessError n 1))) ∧
    (∀ p, s.hw.partyUp p = false → exec (.registerWrite a [(p, v)] Tie.none) s = .next (s.after s.hw)) ∧
    ∀ p, p ≠ .twi0 ∨ a.toNat % 256 ≠ 15 → s.hw.readBus p a.toNat = (none, s.hw)) ∧
  (∀ (s : State) (p q : Party) (a v w : Word), slot p < slot q → s.hw.partyUp p = true → s.hw.partyUp q = true →
    aside a.toNat p = false → aside a.toNat q = false → (kindOf (a.toNat / 256)).isSome = true → s.hw.pageUp (a.toNat / 256) = true → a.toNat ≠ R.MBX_REL →
    portMaskedReg a.toNat = false → portSetReg a.toNat = false → orReg a.toNat = false → a.toNat / 256 ≠ 6 →
    exec (.registerWrite a [(q, w), (p, v)] Tie.none) s =
      exec (.registerWrite a [(p, v)] Tie.none) { s with hw := s.hw.collide a.toNat p q } ∧
    (s.hw.collide a.toNat p q).b R.IDENT_STAT 11 = true ∧ (s.hw.collide a.toNat p q).b R.IDENT_IFLAG 1 = true ∧
    (s.hw.collide a.toNat p q).reg R.IDENT_COLLADDR = a ∧
    (s.hw.collide a.toNat p q).reg R.IDENT_COLLWHO = wd (q.code * 256 + p.code) ∧
    ∀ b, b ∉ [R.IDENT_STAT, R.IDENT_IFLAG, R.IDENT_COLLADDR, R.IDENT_COLLWHO] →
      (s.hw.collide a.toNat p q).reg b = s.hw.reg b) ∧
  (∀ (s : State) (p : Party) (v : Word) (t : Tie),
    (∀ (a : Word) (d : RegDesc), descOf a.toNat = some d → storesOnly a.toNat = true → s.hw.accepts p a.toNat v →
      s.hw.locked (a.toNat / 256) = false ∨ d.rwl = 0 →
      ∃ g : Hw, exec (.registerWrite a [(p, v)] t) s = .next (s.after g) ∧ g = { s.hw with regs := g.regs } ∧
        (∀ b, b ≠ a.toNat → g.reg b = s.hw.reg b) ∧
        ∀ i, i < 16 → (g.reg a.toNat).getLsbD i =
          if (d.rw ||| d.rwl).testBit i then v.getLsbD i
          else if d.w1c.testBit i then ((s.hw.reg a.toNat).getLsbD i && !v.getLsbD i) || t.sets.getLsbD i
          else (s.hw.reg a.toNat).getLsbD i) ∧
    (s.hw.accepts p R.CLK_CTRL v → v.getLsbD 1 = true → v.getLsbD 15 = false →
      ∃ g : Hw, exec (.registerWrite (BitVec.ofNat 16 R.CLK_CTRL) [(p, v)] t) s = .next (s.after g) ∧
        g.b R.CLK_CTRL 1 = true))

/-- Several parties at a register whose every written field is W1C or W1S (R113), each party once, with writes that reach
the arbiter (an Etcher's to its own pages never does, R315): the OR of the written values is applied as one write, and
COLLIDE is not set. Under the conditions of its clauses each of these commands completes: REGISTER_WRITE. -/
def Obligations.FlagWritesApplyTheOr : Prop :=
  ∀ (s : State) (a : Word) (ws : List (Party × Word)), wellSent ws = true → (∀ w ∈ ws, s.hw.partyUp w.1 = true) →
    (∀ w ∈ ws, aside a.toNat w.1 = false) → orReg a.toNat = true → s.hw.pageUp (a.toNat / 256) = true →
    ∃ p ∈ ws.map Prod.fst, ∃ g : Hw, exec (.registerWrite a ws Tie.none) s = .next (s.after g) ∧
      exec (.registerWrite a [(p, ws.foldl (fun m w => m ||| w.2) 0)] Tie.none) s = .next (s.after g) ∧
      (g.b R.IDENT_STAT 11 = true → s.hw.b R.IDENT_STAT 11 = true)

/-- Shadows and staging copies belong to one party each (R103): a key read, a staging write and a commit by one party
leave the shadows and the staging copies of every other party. Under the conditions of its clauses each of these commands
completes: KEY_READ, STAGING_WRITE, WIDE_GROUP_COMMIT. -/
def Obligations.PartiesDoNotShareCopies : Prop :=
  ∀ (s t : State) (p q : Party) (a v : Word) (b : Nat), slot p ≠ slot q → b < 65536 →
    exec (.keyRead p a) s = .next t ∨ exec (.stagingWrite p a v) s = .next t ∨
      exec (.wideGroupCommit a [(p, v)]) s = .next t →
    Cells.get (fun _ => none) t.hw.shadows (copyKey q b) = Cells.get (fun _ => none) s.hw.shadows (copyKey q b) ∧
    Cells.get (fun _ => none) t.hw.staging (copyKey q b) = Cells.get (fun _ => none) s.hw.staging (copyKey q b)

/-- Wide groups (R104 to R106): a key read latches the live group into the party's shadow, from which the other registers
read; a staging write only stores; a commit applies the key value, the staged values and live values for the rest, and
empties the staging copy; a commit into a locked field is a locked write of the whole group. Writes to the group of a
capture channel are ignored (R383). Where the rules leave a reading open, it follows the model's (log entry 29). Under the
conditions of its clauses each of these commands completes: KEY_READ, STAGING_WRITE, WIDE_GROUP_COMMIT. -/
def Obligations.WideGroupsReadAndCommitWhole : Prop :=
  ∀ (s : State) (p : Party) (a v : Word), s.hw.partyUp p = true → s.hw.pageUp (a.toNat / 256) = true →
    etchBarred p a.toNat = none →
    (∀ len ro, groupAt a.toNat = some (a.toNat, len, ro) →
      exec (.keyRead p a) s = .next (s.after ((s.hw.latchGroup p a.toNat len).capRead a.toNat)) ∧
      (∀ i, i < len → Cells.get (fun _ => none) (s.hw.latchGroup p a.toNat len).shadows (copyKey p (a.toNat + i)) =
        some (s.hw.live' p (a.toNat + i))) ∧
      ∀ (h : Hw) (i : Nat) (w : Word), 0 < i → i < len → h.pageUp (a.toNat / 256) = true →
        Cells.get (fun _ => none) h.shadows (copyKey p (a.toNat + i)) = some w →
        h.readBus p (a.toNat + i) = (some w, h)) ∧
    (isStaged a.toNat = true → s.hw.captureReg a.toNat = false → exec (.stagingWrite p a v) s = .next (s.after { s.hw with
      staging := Cells.put (fun _ => none) s.hw.staging (copyKey p a.toNat) (some v) })) ∧
    (∀ len, groupKey a.toNat len = true → s.hw.captureReg a.toNat = true →
      exec (.wideGroupCommit a [(p, v)]) s = .next (s.after s.hw)) ∧
    (isStaged a.toNat = true → s.hw.captureReg a.toNat = true → exec (.stagingWrite p a v) s = .next (s.after s.hw)) ∧
    ∀ len, groupKey a.toNat len = true → s.hw.captureReg a.toNat = false →
      (s.hw.commitLocked a.toNat (s.hw.groupWords p a.toNat v) = false →
        exec (.wideGroupCommit a [(p, v)]) s =
          .next (s.after ((s.hw.commitApply a.toNat (s.hw.groupWords p a.toNat v)).groupDone p a.toNat))) ∧
      (s.hw.commitLocked a.toNat (s.hw.groupWords p a.toNat v) = true →
        exec (.wideGroupCommit a [(p, v)]) s = .next (s.after ((s.hw.lockHit a.toNat).groupDone p a.toNat))) ∧
      (s.hw.groupWords p a.toNat v).length = len ∧ wordOf (s.hw.groupWords p a.toNat v) 0 = v ∧
      (∀ i, 0 < i → i < len → wordOf (s.hw.groupWords p a.toNat v) i =
        (Cells.get (fun _ => none) s.hw.staging (copyKey p (a.toNat + i))).getD (s.hw.live' p (a.toNat + i))) ∧
      ∀ (h : Hw) (i : Nat), i < len →
        Cells.get (fun _ => none) (h.groupDone p a.toNat).staging (copyKey p (a.toNat + i)) = none

/-- Enable and stop (R98, R99): EN reads what was written last; an enable during a stop is latched, a disable cancels it;
a block that has no stop work is stopped at once; a stop ends without a latched enable, or starts the block again. Block
reset (R62, R100): a stop in progress and a latched enable are discarded; the registers of the page take their reset
values, but LOCK and locked RWL fields keep theirs; other pages keep theirs. PWR, KEYS and NVS ignore it. Where the rules
leave a reading open, it follows the model's (log entries 31, 34, 37). Under the conditions of its clauses each of these
commands completes: BLOCK_RESET, BLOCK_ENABLE_WRITE, BLOCK_STOP_COMPLETE. -/
def Obligations.EnableStopAndBlockReset : Prop :=
  (∀ (s : State) (pg : BitVec 8) (k : Kind), kindOf pg.toNat = some k → hasEnable k = true →
    (∀ p on, s.hw.accepts p (pg.toNat * 256 + 2) (if on = true then 1 else 0) →
      ∃ g : Hw, exec (.blockEnableWrite p pg on) s = .next (s.after g) ∧ g.enabled pg.toNat = on ∧
        (s.hw.isStopping pg.toNat = true → g.isStopping pg.toNat = true ∧ g.pendEn.contains pg.toNat = on ∧
          g = { s.hw with regs := g.regs, pendEn := g.pendEn }) ∧
        (k ≠ .tm → s.hw.isStopping pg.toNat = false → s.hw.enabled pg.toNat = on →
          g = { s.hw with regs := g.regs, pendEn := g.pendEn }) ∧
        (s.hw.isStopping pg.toNat = false → s.hw.enabled pg.toNat = true → on = false → k = .afe ∨ k = .buf →
          g.isStopping pg.toNat = true) ∧
        (s.hw.isStopping pg.toNat = false → on = false → k = .recog ∨ k = .reflex ∨ k = .mac ∨ k = .cal ∨ k = .tsu →
          g.isStopping pg.toNat = false)) ∧
    (s.hw.isStopping pg.toNat = true → s.hw.pageUp pg.toNat = true →
      exec (.blockStopComplete pg) s = .next (s.after (s.hw.stopComplete pg.toNat)) ∧
      (∀ g, s.hw.stopWork pg.toNat = some g → (s.hw.stopComplete pg.toNat).isStopping pg.toNat = false) ∧
      (s.hw.stopWork pg.toNat = none → s.hw.stopComplete pg.toNat = s.hw))) ∧
  (∀ (s : State) (p : Party) (pg : BitVec 8) (k : Kind), kindOf pg.toNat = some k → s.hw.partyUp p = true →
    s.hw.pageUp pg.toNat = true → etchBarred p (pg.toNat * 256) = none →
    (k = .pwr ∨ k = .keys ∨ k = .nvs → exec (.blockReset p pg) s = .next (s.after s.hw)) ∧
    (¬ (k = .pwr ∨ k = .keys ∨ k = .nvs) → exec (.blockReset p pg) s = .next (s.after (s.hw.blockReset pg.toNat))) ∧
    (k ∈ [Kind.clk, .mbx, .reflex, .tsi, .switch, .port, .pmux, .tsu, .tm] →
      (s.hw.blockReset pg.toNat).isStopping pg.toNat = false ∧
      (s.hw.blockReset pg.toNat).pendEn.contains pg.toNat = false ∧
      (∀ a d, a / 256 = pg.toNat → descOf a = some d → d.nv = 0 → d.rwl = 0 ∨ s.hw.locked pg.toNat = false →
        a % 256 ≠ 8 → (s.hw.blockReset pg.toNat).reg a = resetOf a) ∧
      (s.hw.locked pg.toNat = true → (s.hw.blockReset pg.toNat).locked pg.toNat = true ∧
        ∀ a d, a / 256 = pg.toNat → 0x10 ≤ a % 256 → descOf a = some d →
          (s.hw.blockReset pg.toNat).reg a &&& wd d.rwl = s.hw.reg a &&& wd d.rwl) ∧
      ∀ a, a / 256 ≠ pg.toNat → (s.hw.blockReset pg.toNat).reg a = s.hw.reg a) ∧
    (k = .mbx → (s.hw.blockReset pg.toNat).mbx = Vector.replicate 8 Box.init) ∧
    (k = .diary → (s.hw.blockReset pg.toNat).diary.entries = [] ∧
      (s.hw.blockReset pg.toNat).reg R.DIARY_LOST = s.hw.reg R.DIARY_LOST) ∧
    (k = .reflex → (s.hw.blockReset pg.toNat).latch.set = s.hw.latch.set) ∧
    (k = .host → (s.hw.blockReset pg.toNat).host = s.hw.host ∧
      (s.hw.blockReset pg.toNat).reg R.HOST_CFG = s.hw.reg R.HOST_CFG &&& 0xFFFE))

/-! ### Clocks -/

/-- The synthesizer (R71 to R73, R76): a calibration ends in LOCKED with a qualified reference and else in FREE with
RCREF; ACQ locks; SETTLED rises once in LOCKED; every other state of the sentinel stays. An acquisition that a TIME
on-sequence completes without a qualified reference ends in HOLD with REFLOST or, after a calibration without one, in FREE
with RCREF. T and E are VCO / 48 and VCO / 125 (R77), within the limits of V against the VCO. A commit of VTIME (R86) sets
seconds and milliseconds, milliseconds above 999 acting as 999, and restarts the millisecond; no almanac moves. Where the
rules leave a reading open, it follows the model's (log entries 5, 25, 86). Under the conditions of its clauses each of
these commands completes: SYNTH_CAL_COMPLETE, SYNTH_LOCK, SETTLED_RISE, VCAL_UPDATE, VTIME_COMMIT. -/
def Obligations.SynthesizerAndCoarseTime : Prop :=
  (∀ s : State, s.hw.vigil = true →
    (s.hw.clk.synst = .cal → s.hw.clk.refOk = true → exec .synthCalComplete s = .next (s.after
      ((s.hw.setReg R.CLK_CTRL (s.hw.reg R.CLK_CTRL &&& ~~~2)).setClk { s.hw.clk with
        needCal := false, calFree := false, synst := .locked, lockedOnce := true }))) ∧
    (s.hw.clk.synst = .cal → s.hw.clk.refOk = false → exec .synthCalComplete s = .next (s.after
      (((s.hw.setReg R.CLK_CTRL (s.hw.reg R.CLK_CTRL &&& ~~~2)).setClk { s.hw.clk with
        needCal := false, calFree := true, synst := .free, settled := false, lockedOnce := false }).raise 2 3))) ∧
    (s.hw.clk.synst = .acq → s.hw.clk.refOk = true → exec .synthLock s = .next (s.after
      (s.hw.setClk { s.hw.clk with synst := .locked, lockedOnce := true }))) ∧
    (s.hw.clk.synst = .locked → s.hw.clk.settled = false → exec .settledRise s = .next (s.after
      ((s.hw.setClk { s.hw.clk with settled := true }).raise 2 8))) ∧
    (∀ v, s.hw.clk.synst = .locked → exec (.vcalUpdate v) s = .next (s.after (s.hw.setReg R.CLK_VCAL v))) ∧
    (s.hw.clk.synst = .acq →
      (s.hw.clk.refOk = true → s.hw.synthOnComplete.clk.synst = .locked) ∧
      (s.hw.clk.refOk = false → s.hw.clk.lockedOnce = false → s.hw.clk.calFree = true →
        s.hw.synthOnComplete.clk.synst = .free ∧ s.hw.synthOnComplete.b R.CLK_IFLAG 3 = true) ∧
      (s.hw.clk.refOk = false → s.hw.clk.lockedOnce = true ∨ s.hw.clk.calFree = false →
        s.hw.synthOnComplete.clk.synst = .hold ∧ s.hw.synthOnComplete.b R.CLK_IFLAG 1 = true)) ∧
    (s.hw.clk.synst = .locked → 742 ≤ s.hw.vcoPeriods ∧ s.hw.vcoPeriods ≤ 758) ∧
    s.hw.tEdges = (s.hw.clk.vco + s.hw.vcoPeriods) / 48 - s.hw.clk.vco / 48 ∧
    s.hw.eEdges = (s.hw.clk.vco + s.hw.vcoPeriods) / 125 - s.hw.clk.vco / 125 ∧
    15 ≤ s.hw.tEdges ∧ s.hw.tEdges ≤ 16 ∧ 5 ≤ s.hw.eEdges ∧ s.hw.eEdges ≤ 7) ∧
  (∀ (s : State) (p : Party) (v : Word), s.hw.acceptsKey p R.CLK_VTIME_MS v →
    ∀ vs, vs = s.hw.groupWords p R.CLK_VTIME_MS v →
    exec (.vtimeCommit p v) s = .next (s.after ((s.hw.setClk { s.hw.clk with
      vms := min 999 (v.toNat % 1024), vcyc := 0
      vsec := BitVec.ofNat 32 ((wordOf vs 1).toNat + 65536 * (wordOf vs 2).toNat) }).groupDone p R.CLK_VTIME_MS)))

/-- The references and monitors (R70, R81, R91, R593): a lost reference puts LOCKED and ACQ into HOLD with REFLOST, but
the acquisition of a running TIME on-sequence waits for its completion; REFCLK, when it is driven, is low while no crystal
edges are seen; its return takes HOLD and FREE to ACQ with REFBACK; XOK, the N backup and the S loop follow what is told,
with their flags; the ports' links fall with NCLKLOST. TDEAD (R91, R594): the latch is set with cause 5, every switched
domain loses power at once, the synthesizer is off and needs a full calibration, and the requests stay. Where the rules
leave a reading open, it follows the model's (log entries 11, 25, 81, 88, 90). Under the conditions of its clauses each of
these commands completes: REFERENCE_LOST, REFERENCE_BACK, CRYSTAL_LOST, NCLK_LOST, NCLK_BACK, S_LOOP_UNLOCK, S_LOOP_LOCK,
TDEAD, XOK. -/
def Obligations.LostClocksAreReported : Prop :=
  (∀ s : State,
    (s.hw.vigil = true → s.hw.clk.refOk = true → s.hw.clk.synst = .locked ∨ (s.hw.clk.synst = .acq ∧ s.hw.pwr.time ≠ .rising) →
      exec .referenceLost s = .next (s.after ((s.hw.raise 2 1).setClk { s.hw.clk with
        refOk := false, synst := .hold, settled := false }))) ∧
    (s.hw.vigil = true → s.hw.clk.refOk = true →
      s.hw.clk.synst ≠ .locked → s.hw.clk.synst ≠ .acq ∨ s.hw.pwr.time = .rising →
      exec .referenceLost s = .next (s.after ((s.hw.raise 2 1).setClk { s.hw.clk with refOk := false }))) ∧
    (s.hw.vigil = true → s.hw.clk.refOk = false → s.hw.clk.synst = .hold ∨ s.hw.clk.synst = .free →
      exec .referenceBack s = .next (s.after ((s.hw.raise 2 2).setClk { s.hw.clk with
        refOk := true, synst := .acq, settled := false }))) ∧
    (s.hw.vigil = true → s.hw.clk.refOk = false → s.hw.clk.synst ≠ .hold → s.hw.clk.synst ≠ .free →
      exec .referenceBack s = .next (s.after ((s.hw.raise 2 2).setClk { s.hw.clk with refOk := true }))) ∧
    (s.hw.vigil = true → exec .crystalLost s = .next (s.after (s.hw.setClk { s.hw.clk with xok := false }))) ∧
    (s.hw.vigil = true → s.hw.oscRuns = true →
      exec .xok s = .next (s.after (s.hw.setClk { s.hw.clk with xok := true }))) ∧
    (s.hw.live .net = true → s.hw.clk.nbackup = false →
      exec .nclkLost s = .next (s.after s.hw.nclkLost) ∧ s.hw.nclkLost.clk.nbackup = true ∧
      s.hw.nclkLost.b R.CLK_IFLAG 4 = true ∧ s.hw.nclkLost.linkUp 0 = false ∧ s.hw.nclkLost.linkUp 1 = false) ∧
    (s.hw.live .net = true → s.hw.clk.nbackup = true →
      exec .nclkBack s = .next (s.after s.hw.nclkBack) ∧ s.hw.nclkBack.clk.nbackup = false ∧
      s.hw.nclkBack.b R.CLK_IFLAG 5 = true) ∧
    (s.hw.live .sense = true → s.hw.clk.slock = true → exec .sLoopUnlock s = .next (s.after
      ((s.hw.raise 2 6).setClk { s.hw.clk with slock := false }))) ∧
    (s.hw.vigil = true → s.hw.clk.slock = false → s.hw.pwr.sense = .on → exec .sLoopLock s = .next (s.after
      ((s.hw.setClk { s.hw.clk with slock := true }).gridFree.gapMark 3))) ∧
    (s.hw.padsOn = true → s.hw.tap.pads = false → s.hw.clk.refclkOut = true →
      s.hw.refclkPad = if s.hw.clk.xok = true then .out50 else .low) ∧
    s.hw.nSource = if s.hw.clk.nbackup = true then .backup else .pad) ∧
  (∀ s : State, s.hw.live .time = true →
    exec .tdead s = .next (s.after s.hw.tdead) ∧ s.hw.tdead.latch.set = true ∧
    (s.hw.latch.set = false → s.hw.tdead.latch.typ = 5 ∧ s.hw.tdead.latch.ev = 0) ∧
    (s.hw.latch.set = true → s.hw.tdead.latch = s.hw.latch) ∧
    (∀ d, d ≠ Dom.vigil → s.hw.tdead.domState d = .off) ∧ s.hw.tdead.b R.CLK_IFLAG 7 = true ∧
    s.hw.tdead.clk.needCal = true ∧ s.hw.tdead.clk.synst = .off ∧
    s.hw.tdead.reg R.PWR_REQ = s.hw.reg R.PWR_REQ)

/-! ### The host port and the two-wire buses -/

/-- The CRC of R134: polynomial 0x1021, initial value 0xFFFF, no reflection and no final XOR, each word as its high byte
followed by its low byte, and the check value of "123456789". -/
def Obligations.CrcIsCcittFalseByBytes : Prop :=
  crc16 [] = 0xFFFF ∧
  (∀ c : Word, crcBits 1 c = if c.msb = true then (c <<< 1) ^^^ 0x1021 else c <<< 1) ∧
  (∀ (bs : List Byte) (b : Byte), crcBytes (bs ++ [b]) =
    crcBits 8 (crcBytes bs ^^^ ((b.setWidth 16 : Word) <<< 8))) ∧
  (∀ ws : List Word, crc16 ws = crcBytes (ws.flatMap wordBytes)) ∧
  crcBytes [0x31, 0x32, 0x33, 0x34, 0x35, 0x36, 0x37, 0x38, 0x39] = 0x29B1

/-- A write frame (R121 to R125, R131 to R133, R141): of a frame without CRC whose words all have room and a powered
target, every word enters the queue in order at its address, the frame is counted, STATUS and SUMMARY have been sent, and
nothing else changes; a word that ends in bus error or finds the queue full does not enter it. CRC and CRCREQ (R135, R138,
R142): a write frame with a wrong CRC word, or one without CRC while CRCREQ = 1, puts no word into the queue; the flag is
set, CRCCNT counts, and the next STATUS shows CRCERR. A frame with the right CRC acts as one without. Under the conditions
of its clauses each of these commands completes: SPI_WRITE_FRAME. -/
def Obligations.WriteFramesFillQueueInOrder : Prop :=
  (∀ (s : State) (m : Bool) (cmd a : Word) (ws : List Word), s.hw.padsOn = true → cmdRead cmd = false → cmdCrc cmd = false →
    s.hw.b R.HOST_CFG 1 = false → ws.length = cmdCount cmd →
    (s.hw.vigil = true → s.hw.host.queue.length + ws.length ≤ 32 →
      (∀ i, i < ws.length → s.hw.wouldErr (burstAddr (cmdHold cmd) a.toNat i) = false) →
      exec (.spiWriteFrame m (cmd :: a :: ws) [] false) s = .next (s.after
        ((s.hw.setReg R.HOST_SEQ (s.hw.reg R.HOST_SEQ + 1)).setHost { s.hw.host with
          mode3 := m, miso := s.hw.statusWord :: s.hw.summaryWord :: List.replicate ws.length 0
          prevBus := false, prevCrc := false, prevFull := false, prevLate := false
          queue := s.hw.host.queue ++ ws.zipIdx.map fun x => (burstAddr (cmdHold cmd) a.toNat x.2, x.1) }))) ∧
    ∀ (h : Hw) (x : Nat) (v : Word),
      (h.wouldErr x = true → h.enqueueWord x v =
        (h.hostBusErr x).setHost { h.host with prevBus := true }) ∧
      (h.wouldErr x = false → 32 ≤ h.host.queue.length → h.enqueueWord x v =
        (h.raise 3 3).setHost { h.host with prevFull := true })) ∧
  (∀ (s : State) (m : Bool) (cmd a c : Word) (ws : List Word), s.hw.padsOn = true → s.hw.vigil = true →
    cmdRead cmd = false → ws.length = cmdCount cmd →
    (cmdCrc cmd = true → c ≠ crc16 (cmd :: a :: ws) →
      exec (.spiWriteFrame m (cmd :: a :: (ws ++ [c])) [] false) s = .next (s.after
        ((s.hw.frameBegin.frameReject 0).frameCount m
          ([s.hw.statusWord, s.hw.summaryWord] ++ List.replicate ws.length 0 ++ [crc16 (cmd :: a :: ws)])))) ∧
    (cmdCrc cmd = false → s.hw.b R.HOST_CFG 1 = true →
      exec (.spiWriteFrame m (cmd :: a :: ws) [] false) s = .next (s.after
        ((s.hw.frameBegin.frameReject 8).frameCount m
          ([s.hw.statusWord, s.hw.summaryWord] ++ List.replicate ws.length 0)))) ∧
    (∀ k, (s.hw.frameReject k).host = { s.hw.host with prevCrc := true } ∧
      (s.hw.frameReject k).reg R.HOST_CRCCNT = wd (min 0xFFFF ((s.hw.reg R.HOST_CRCCNT).toNat + 1))) ∧
    (cmdCrc cmd = true → c = crc16 (cmd :: a :: ws) →
      exec (.spiWriteFrame m (cmd :: a :: (ws ++ [c])) [] false) s = .next (s.after
        (if (writeBurst (cmdHold cmd) a.toNat ws [] s.hw.frameBegin).vigil = true then
          (writeBurst (cmdHold cmd) a.toNat ws [] s.hw.frameBegin).frameCount m
            ([s.hw.statusWord, s.hw.summaryWord] ++ List.replicate ws.length 0 ++ [c])
        else writeBurst (cmdHold cmd) a.toNat ws [] s.hw.frameBegin))))

/-- A read frame in full service (R126, R127, R130, R141): a frame of whole words without CRC sends STATUS, SUMMARY and
the words read one after another; a word of a page that is down is 0x0000 with a bus error; an unassigned page reads
0x0000. The write queue is first in, first out (R131, R132): the oldest word is applied as the host's write and leaves; a
word whose target became unavailable is dropped with LATEBUS and is neither counted nor kept as a bus error. Where the
rules leave a reading open, it follows the model's (log entries 40, 93). Under the conditions of its clauses each of these
commands completes: SPI_READ_FRAME, WRITE_QUEUE_APPLY. -/
def Obligations.ReadFramesAndWriteQueue : Prop :=
  (∀ (s : State) (m : Bool) (cmd a : Word) (ws : List Word), s.hw.padsOn = true → s.hw.pwr.draft = false →
    cmdRead cmd = true → cmdCrc cmd = false → ws.length = cmdCount cmd →
    exec (.spiReadFrame m (cmd :: a :: ws) none false) s = .next (s.after
      ((readBurst (cmdHold cmd) a.toNat ws.length s.hw.frameBegin).2.frameCount m
        (s.hw.statusWord :: s.hw.summaryWord ::
          (readBurst (cmdHold cmd) a.toNat ws.length s.hw.frameBegin).1))) ∧
    (readBurst (cmdHold cmd) a.toNat ws.length s.hw.frameBegin).1.length = ws.length ∧
    ∀ (h : Hw) (x : Nat),
      (h.readErr x = true → h.spiReadWord x = (0, (h.hostBusErr x).setHost { h.host with prevBus := true })) ∧
      (kindOf (x / 256) = none → h.host.queue = [] → h.spiReadWord x = (0, h))) ∧
  (∀ (s : State) (a : Nat) (v : Word) (t : List (Nat × Word)), s.hw.vigil = true → s.hw.host.queue = (a, v) :: t →
    ((s.hw.setHost { s.hw.host with queue := t }).readErr a = false → a / 256 ≠ 6 →
      exec .writeQueueApply s = .next (s.after ((s.hw.setHost { s.hw.host with queue := t }).writeRow .spi a v))) ∧
    ((kindOf (a / 256)).isSome = true → s.hw.readErr a = true →
      exec .writeQueueApply s = .next (s.after ((s.hw.setHost { s.hw.host with queue := t }).raise 3 5))))

/-- TWI0 (R144 to R150): the first byte sets the pointer; each whole word is written at the pointer, which then advances
within its page unless T0HOLD holds it; a word at 0x0F selects the page; a read transfer sends words from the pointer,
high byte first; another address gets no response. Where the rules leave a reading open, it follows the model's (log
entries 41, 94). Under the conditions of its clauses each of these commands completes: TWI0_WRITE_TRANSFER,
TWI0_READ_TRANSFER. -/
def Obligations.Twi0PointerTransfers : Prop :=
  ∀ (s : State) (addr : BitVec 7), s.hw.padsOn = true →
    (addr.toNat ≠ s.hw.twi0Addr →
      (∀ bs, exec (.twi0WriteTransfer addr bs) s = .next (s.after (s.hw.setTwi 0 { s.hw.twiBus 0 with busy := true }))) ∧
      ∀ n half, exec (.twi0ReadTransfer addr n half) s =
        .next (s.after (s.hw.setTwi 0 { s.hw.twiBus 0 with busy := true }))) ∧
    (addr.toNat = s.hw.twi0Addr → s.hw.vigil = true →
      (∀ ptr : Byte, exec (.twi0WriteTransfer addr [ptr]) s = .next (s.after
        ((s.hw.setTwi 0 { s.hw.twiBus 0 with busy := true }).setHost { s.hw.host with
          twiPtr := ptr, twiOut := [], twiAck := [true, true] }))) ∧
      (∀ hi lo : Byte, (kindOf lo.toNat).isSome = true → hi = 0 → s.hw.b R.HOST_CFG 0 = false →
        exec (.twi0WriteTransfer addr [0x0F, hi, lo]) s = .next (s.after
          ((s.hw.setTwi 0 { s.hw.twiBus 0 with busy := true }).setHost { s.hw.host with
            twiPage := lo, twiPtr := 0x10, twiOut := [], twiAck := [true, true, true, true] }))) ∧
      (∀ n, exec (.twi0ReadTransfer addr n false) s = .next (s.after
        ((twiReadWords n (s.hw.setTwi 0 { s.hw.twiBus 0 with busy := true })).2.setHost
          { (twiReadWords n (s.hw.setTwi 0 { s.hw.twiBus 0 with busy := true })).2.host with
            twiOut := (twiReadWords n (s.hw.setTwi 0 { s.hw.twiBus 0 with busy := true })).1, twiAck := [true] })))) ∧
    ∀ h : Hw,
      (∀ n, (twiReadWords n h).1.length = 2 * n) ∧
      (h.twiAdvance.host.twiPtr = if h.b R.HOST_CFG 0 = true then h.host.twiPtr else h.host.twiPtr + 1) ∧
      (∀ v : Word, h.host.twiPtr ≠ 0x0F → h.readErr h.twiAt = true → (kindOf (h.twiAt / 256)).isSome = true →
        h.twiWriteWord v = ((h.hostBusErr h.twiAt).twiAdvance, false))

/-- The two-wire buses (R427, R431, R432): a bus that is free, an SCL-low and an SDA-low timeout; a timeout marks the bus
busy, sets its flag, counts, and abandons a transfer of the engine on TWI1 with its result. The transfer engine (R434,
R436 to R440): an accepted GO keeps its counts and is busy; a rejected one sets CFGREJ and changes no field; a free bus
starts the gang engine's message before the engine's transfer; lost arbitration waits again until RETRY is used up; the
end stores the result. Where the rules leave a reading open, it follows the model's (log entries 41, 70, 73). Under the
conditions of its clauses each of these commands completes: TWI_BUS_FREE, TWI_SCL_TIMEOUT, TWI_SDA_TIMEOUT, TWI1_XFER_GO,
TWI1_CONTROLLER_START, ARBLOST, XDONE. -/
def Obligations.TwoWireBusesAndTransferEngine : Prop :=
  (∀ (s : State) (k : Fin 2) (n : Nat), s.hw.vigil = true →
    (s.hw.gang.cur = none → ∀ e, exec (.twiBusFree k e) s = .next (s.after
      (s.hw.setTwi k { busy := false, scl := true, sda := true, cfg := s.hw.reg (Hw.twiPage k * 256 + 0x10) }))) ∧
    (s.hw.twiTout k false ≠ 0 → s.hw.xfer.ctlr = .idle ∨ k = 0 → exec (.twiSclTimeout k n) s = .next (s.after
      (((s.hw.setTwi k { s.hw.twiBus k with busy := true, scl := false }).twiCount k).raise (Hw.twiPage k) 0))) ∧
    (s.hw.twiTout k true ≠ 0 → k = 0 → ∀ x, exec (.twiSdaTimeout k n x) s = .next (s.after
      (((s.hw.setTwi k { s.hw.twiBus k with busy := true, scl := true, sda := false }).twiCount k).raise (Hw.twiPage k) 1))) ∧
    (s.hw.twiTout k false ≠ 0 → s.hw.xfer.ctlr = .engine → k = 1 →
      ∃ g : Hw, exec (.twiSclTimeout k n) s = .next (s.after g) ∧ g.xfer.busy = false ∧ g.xfer.ctlr = .idle ∧
        g.reg R.TWI1_XSTAT = wd (4 * 4096 + n % 64) ∧ g.b R.TWI1_IFLAG 2 = true ∧ (g.twiBus 1).busy = true) ∧
    (s.hw.twiTout k true ≠ 0 → s.hw.xfer.ctlr = .engine → k = 1 → ∀ x,
      ∃ g : Hw, exec (.twiSdaTimeout k n x) s = .next (s.after g) ∧ g.xfer.busy = false ∧ g.xfer.ctlr = .idle ∧
        g.reg R.TWI1_XSTAT = wd (5 * 4096 + n % 64) ∧ g.b R.TWI1_IFLAG 2 = true ∧ (g.twiBus 1).busy = true)) ∧
  (∀ s : State, s.hw.vigil = true →
    (∀ p v, s.hw.accepts p R.TWI1_XCMD (v ||| 0x8000) → s.hw.xferBad (v ||| 0x8000) = true →
      exec (.twi1XferGo p v) s = .next (s.after (s.hw.raise 0x39 5))) ∧
    (∀ p v, s.hw.accepts p R.TWI1_XCMD (v ||| 0x8000) → s.hw.xferBad (v ||| 0x8000) = false →
      exec (.twi1XferGo p v) s = .next (s.after { s.hw.setReg R.TWI1_XCMD (v &&& 0x7F3F) with
        xfer := { s.hw.xfer with busy := true, nw := fld v 13 8, nr := fld v 5 0, tries := 0 } })) ∧
    ((s.hw.twiBus 1).busy = false → s.hw.xfer.ctlr = .idle → s.hw.padsOn = true →
      (∀ m t, s.hw.gangQueue = m :: t → exec .twi1ControllerStart s = .next (s.after
        { s.hw.setTwi 1 { s.hw.twiBus 1 with busy := true } with
          gang := { s.hw.gang with outbox := t, cur := some m }, xfer := { s.hw.xfer with ctlr := .gang } })) ∧
      (s.hw.gangQueue = [] → s.hw.xfer.busy = true → exec .twi1ControllerStart s = .next (s.after
        { s.hw.setTwi 1 { s.hw.twiBus 1 with busy := true } with xfer := { s.hw.xfer with ctlr := .engine } }))) ∧
    (s.hw.xfer.ctlr = .engine →
      (∀ n, s.hw.xfer.tries < s.hw.f R.TWI1_XCFG 3 0 → exec (.arblost n) s = .next (s.after
        { ((s.hw.count R.TWI1_ARBCNT).raise 0x39 3) with
          xfer := { s.hw.xfer with ctlr := .idle, tries := s.hw.xfer.tries + 1 } })) ∧
      (∀ n, s.hw.f R.TWI1_XCFG 3 0 ≤ s.hw.xfer.tries → ∃ g : Hw, exec (.arblost n) s = .next (s.after g) ∧
        g.xfer.busy = false ∧ g.reg R.TWI1_XSTAT = wd (3 * 4096 + n % 64) ∧ g.b R.TWI1_IFLAG 2 = true) ∧
      (∀ e, ∃ g : Hw, exec (.xdone e) s = .next (s.after g) ∧ g.xfer.busy = false ∧ g.xfer.ctlr = .idle ∧
        g.b R.TWI1_IFLAG 2 = true ∧
        g.reg R.TWI1_XSTAT = match e with
          | .done _ => wd ((s.hw.xfer.nw + s.hw.xfer.nr) % 64)
          | .addrNack second => wd (4096 + (if second = true ∧ 0 < s.hw.xfer.nr then s.hw.xfer.nw else 0) % 64)
          | .byteNack k => wd (8192 + min k (s.hw.xfer.nw - 1) % 64))))

/-! ### Almanacs and the calendar -/

/-- An almanac counts T edges (R156, R159): one count of j + k edges is a count of j edges and then of k, with the slew
ending where its amount is used up; the addend is at least the smallest that R157 accepts. Each microsecond that the tick
almanac enters has a 1 MHz tick (R165). A second tick (R153, R166): the almanac counts to the first T edge at or after its
next second, whose seconds are one more and whose sub-second is less than the largest gain of one edge; EV26 + n and
IFLAG.SEC follow; the other almanacs stay. Where the rules leave a reading open, it follows the model's (log entries 10,
54). Under the conditions of its clauses each of these commands completes: SECOND_TICK. -/
def Obligations.AlmanacsCountToTheSecond : Prop :=
  (∀ (h : Hw) (n j k : Nat), n < 4 → 0x7C0000000 ≤ h.addend n →
    (h.almCount n j).almCount n k = h.almCount n (j + k) ∧
    ((h.almOf n).slew = 0 → almUnits ((h.almCount n k).almOf n) = almUnits (h.almOf n) + k * h.addend n) ∧
    (h.almCount n k).cal.ticks = h.cal.ticks +
      (if h.f R.CAL_ROLES 5 4 = n then ((h.almCount n k).almOf n).sub / microUnits - (h.almOf n).sub / microUnits else 0)) ∧
  (∀ (s : State) (n : Fin 4), s.hw.live .time = true → 0x7C0000000 ≤ s.hw.addend n → s.hw.addend n ≤ 0x840000000 →
    (s.hw.almOf n).sub < secUnits →
    exec (.secondTick n) s = .next (s.after (s.hw.secondTick n)) ∧
    ((s.hw.secondTick n).almOf n).sec = (s.hw.almOf n).sec + 1 ∧
    ((s.hw.secondTick n).almOf n).sub < 0x840000000 + 131 * 65536 ∧
    ((s.hw.secondTick n).almOf n).sub + secUnits =
      (s.hw.almOf n).sub + s.hw.almGain n (s.hw.almEdges n (secUnits - (s.hw.almOf n).sub)) ∧
    (s.hw.secondTick n).b ((0x20 + n) * 256 + 4) 0 = true ∧
    (∀ m, m < 4 → m ≠ n.val → (s.hw.secondTick n).almOf m = s.hw.almOf m) ∧
    (s.hw.b R.TSU_PPSCFG 8 = true → s.hw.f R.TSU_PPSCFG 5 4 = n.val → (s.hw.secondTick n).pps.active = true))

/-- Commits of ALMn.TIME, STEP and SLEW (R158, R159, R162, R170, R173): a nanosecond part above 999,999,999 or a slew
above 1 s is rejected with ADJREJ; otherwise the almanac steps to the time, or by the offset, or slews; a step sets
STEPPED, keeps the slew and leaves the other almanacs and every register but the page's IFLAG. During a revert a step is
applied as a slew; a slew while a switch to PTP waits for its commit point commits it. The end of a slew, the addend and
the binding (R157, R159, R167): with the slew of its correction a committed switch ends (the model's choice, log entry
96); an addend outside 7.75 ns to 8.25 ns is rejected with ADJREJ; a domain that another almanac is bound to with BINDREJ.
Where the rules leave a reading open, it follows the model's (log entry 96). Under the conditions of its clauses each of
these commands completes: ALM_TIME_COMMIT, ALM_STEP_COMMIT, ALM_SLEW_COMMIT, ALM_SLEW_END, ALM_ADD_COMMIT, ALM_BIND_WRITE. -/
def Obligations.AlmanacCommitsAreChecked : Prop :=
  (∀ (s : State) (p : Party) (n : Fin 4) (v : Word),
    (s.hw.acceptsKey p (R.ALM_TIME_FRAC n) v →
      ∀ vs, vs = s.hw.groupWords p (R.ALM_TIME_FRAC n) v →
      ∀ ns, ns = word vs 1 + 65536 * (word vs 2 % 16384) →
      ∀ sec, sec = word vs 3 + 65536 * word vs 4 + 4294967296 * word vs 5 →
      (999999999 < ns → exec (.almTimeCommit p n v) s = .next (s.after
        ((s.hw.raise (0x20 + n) 6).groupDone p (R.ALM_TIME_FRAC n)))) ∧
      (ns ≤ 999999999 → exec (.almTimeCommit p n v) s = .next (s.after
        ((s.hw.almStepTo n ((sec * secUnits + ns * 4294967296 + v.toNat * 65536 : Nat) : Int) true).groupDone p
          (R.ALM_TIME_FRAC n))))) ∧
    (s.hw.acceptsKey p (R.ALM_STEP_NL n) v →
      ∀ vs, vs = s.hw.groupWords p (R.ALM_STEP_NL n) v →
      ∀ ns, ns = v.toNat + 65536 * (word vs 1 % 16384) →
      (999999999 < ns → exec (.almStepCommit p n v) s = .next (s.after
        ((s.hw.raise (0x20 + n) 6).groupDone p (R.ALM_STEP_NL n)))) ∧
      (ns ≤ 999999999 → (s.hw.almOf n).revert = false →
        ∃ g : Hw, exec (.almStepCommit p n v) s = .next (s.after (g.groupDone p (R.ALM_STEP_NL n))) ∧
          (g.almOf n).slew = (s.hw.almOf n).slew ∧
          almUnits (g.almOf n) = (((almUnits (s.hw.almOf n) : Int) +
            (signed 48 (word vs 2 + 65536 * word vs 3 + 4294967296 * word vs 4) * 1000000000 + ns) * 4294967296)
              % (2 ^ 48 * secUnits : Nat)).toNat) ∧
      (∀ off, off = signed 48 (word vs 2 + 65536 * word vs 3 + 4294967296 * word vs 4) * 1000000000 + ns →
        ns ≤ 999999999 → (s.hw.almOf n).revert = true → -1000000000 ≤ off → off ≤ 1000000000 →
        ∃ g : Hw, exec (.almStepCommit p n v) s = .next (s.after (g.groupDone p (R.ALM_STEP_NL n))) ∧
          (g.almOf n).slew = off * 65536 ∧ almUnits (g.almOf n) = almUnits (s.hw.almOf n))) ∧
    (s.hw.acceptsKey p (R.ALM_SLEW_L n) v →
      ∀ x, x = signed 32 (v.toNat + 65536 * word (s.hw.groupWords p (R.ALM_SLEW_L n) v) 1) →
      (x < -1000000000 ∨ 1000000000 < x → exec (.almSlewCommit p n v) s = .next (s.after
        ((s.hw.raise (0x20 + n) 6).groupDone p (R.ALM_SLEW_L n)))) ∧
      (-1000000000 ≤ x → x ≤ 1000000000 → x ≠ 0 →
        almSwitching (s.hw.almOf n) = false ∨ (s.hw.almOf n).target ≠ .ptp → exec (.almSlewCommit p n v) s = .next (s.after
        ((s.hw.setAlm n { s.hw.almOf n with slew := x * 65536 }).groupDone p (R.ALM_SLEW_L n)))) ∧
      (-1000000000 ≤ x → x ≤ 1000000000 → x ≠ 0 → almSwitching (s.hw.almOf n) = true → (s.hw.almOf n).target = .ptp →
        ∃ g : Hw, exec (.almSlewCommit p n v) s = .next (s.after (g.groupDone p (R.ALM_SLEW_L n))) ∧
          (g.almOf n).slew = x * 65536 ∧ (g.almOf n).rung = .ptp ∧ (g.almOf n).committed = true)) ∧
    ∀ (h : Hw) (units : Int) (known : Bool),
      almUnits ((h.almStepTo n units known).almOf n) = (units % (2 ^ 48 * secUnits : Nat)).toNat ∧
      ((h.almStepTo n units known).almOf n).slew = (h.almOf n).slew ∧
      ((h.almStepTo n units known).almOf n).rung = (h.almOf n).rung ∧
      (h.pageLive (0x20 + n) = true → (h.almStepTo n units known).b ((0x20 + n) * 256 + 4) 3 = true) ∧
      (∀ m, m < 4 → m ≠ n.val → (h.almStepTo n units known).almOf m = h.almOf m) ∧
      ∀ a, a ≠ (0x20 + n.val) * 256 + 4 → (h.almStepTo n units known).reg a = h.reg a) ∧
  (∀ (s : State) (p : Party) (n : Fin 4) (v : Word),
    (s.hw.live .time = true → (s.hw.almOf n).slew ≠ 0 → (∀ k,
      k = ((s.hw.almOf n).slew.natAbs + s.hw.slewRate n - 1) / s.hw.slewRate n →
      (s.hw.almOf n).sub + s.hw.almGain n k < secUnits →
      exec (.almSlewEnd n) s = .next (s.after (s.hw.almCount n k)) ∧
      ((s.hw.almCount n k).almOf n).slew = 0 ∧
      ((s.hw.almOf n).switching = true → (s.hw.almOf n).committed = true →
        (s.hw.almOf n).rung = .ptp ∨ (s.hw.almOf n).rung = .pps →
        ((s.hw.almCount n k).almOf n).switching = false ∧ ((s.hw.almCount n k).almOf n).revert = false))) ∧
    (s.hw.acceptsKey p (R.ALM_ADD_L n) v →
      ∀ vs, vs = s.hw.groupWords p (R.ALM_ADD_L n) v →
      ∀ x, x = v.toNat + 65536 * word vs 1 + 4294967296 * (word vs 2 % 16) →
      (x < 0x7C0000000 ∨ 0x840000000 < x → exec (.almAddCommit p n v) s = .next (s.after
        ((s.hw.raise (0x20 + n) 6).groupDone p (R.ALM_ADD_L n)))) ∧
      (0x7C0000000 ≤ x → x ≤ 0x840000000 →
        ∃ g : Hw, exec (.almAddCommit p n v) s = .next (s.after (g.groupDone p (R.ALM_ADD_L n))) ∧ g.addend n = x ∧
          g = { s.hw with regs := g.regs } ∧
          ∀ a, a ∉ [R.ALM_ADD_L n, R.ALM_ADD_M n, R.ALM_ADD_H n] → g.reg a = s.hw.reg a)) ∧
    (s.hw.accepts p (R.ALM_BIND n) v →
      ((v.getLsbD 15 = true ∧ ∃ m, m < 4 ∧ m ≠ n.val ∧ s.hw.b (R.ALM_BIND m) 15 = true ∧
          s.hw.f (R.ALM_BIND m) 7 0 = fld v 7 0) →
        exec (.almBindWrite p n v) s = .next (s.after (s.hw.raise (0x20 + n) 7))) ∧
      (¬ (v.getLsbD 15 = true ∧ ∃ m, m < 4 ∧ m ≠ n.val ∧ s.hw.b (R.ALM_BIND m) 15 = true ∧
          s.hw.f (R.ALM_BIND m) 7 0 = fld v 7 0) →
        exec (.almBindWrite p n v) s = .next (s.after (s.hw.setReg (R.ALM_BIND n) (v &&& 0x80FF))))))

/-- Target times (R182, R183): a commit arms the target; a target that is due fires once, pulses EV30 + n, sets TGT, and
with a period advances by whole periods to the first value later than the present time, else disarms; DISARM disarms.
Captures (R179, R180): the channel takes the almanac's time, FULL and CAPn are set, a capture onto a full channel also
sets OVR; a key read takes the group into the reader's shadow and clears FULL. Under the conditions of its clauses each of
these commands completes: ALM_TARGET_COMMIT, ALM_TARGET_MATCH, DISARM, TSU_CAPTURE, TSU_CAP_KEY_READ. -/
def Obligations.TargetsFireAndCapturesFill : Prop :=
  (∀ (s : State) (p : Party) (n : Fin 4) (v : Word),
    (s.hw.live .time = true → exec (.almTargetMatch n) s = .next (s.after (s.hw.tgtCheck n false))) ∧
    (s.hw.accepts p (R.ALM_TGTCTL n) 1 → exec (.disarm p n) s = .next (s.after
      (s.hw.setAlm n { s.hw.almOf n with tgt := none }))) ∧
    (s.hw.acceptsKey p (R.ALM_TGT_NL n) v →
      ∀ vs, vs = s.hw.groupWords p (R.ALM_TGT_NL n) v →
      ∀ ns, ns = v.toNat + 65536 * (word vs 1 % 16384) →
      ∀ t, t = (word vs 2 + 65536 * word vs 3 + 4294967296 * word vs 4) * 1000000000 + ns →
      (999999999 < ns → exec (.almTargetCommit p n v) s = .next (s.after
        ((s.hw.raise (0x20 + n) 6).groupDone p (R.ALM_TGT_NL n)))) ∧
      (ns ≤ 999999999 → ∃ g : Hw, exec (.almTargetCommit p n v) s = .next (s.after (g.groupDone p (R.ALM_TGT_NL n))) ∧
        g.reg32 (R.ALM_TGT_PL n) = word vs 5 + 65536 * word vs 6 ∧
        (almNs (s.hw.almOf n) < t → (g.almOf n).tgt = some t) ∧
        (t ≤ almNs (s.hw.almOf n) → g.b ((0x20 + n) * 256 + 4) 1 = true ∧ g.b ((0x20 + n) * 256 + 4) 2 = true))) ∧
    ∀ (h : Hw) (late : Bool) (t : Nat), (h.almOf n).tgt = some t →
      (almNs (h.almOf n) < t → h.tgtCheck n late = h) ∧
      (t ≤ almNs (h.almOf n) → h.reg32 (R.ALM_TGT_PL n) = 0 → ((h.tgtCheck n late).almOf n).tgt = none) ∧
      (t ≤ almNs (h.almOf n) → 0 < h.reg32 (R.ALM_TGT_PL n) →
        ∃ k, 0 < k ∧ ((h.tgtCheck n late).almOf n).tgt = some (t + k * h.reg32 (R.ALM_TGT_PL n)) ∧
          almNs (h.almOf n) < t + k * h.reg32 (R.ALM_TGT_PL n) ∧
          t + (k - 1) * h.reg32 (R.ALM_TGT_PL n) ≤ almNs (h.almOf n)) ∧
      (t ≤ almNs (h.almOf n) → h.live .time = true → (h.tgtCheck n late).b ((0x20 + n) * 256 + 4) 1 = true) ∧
      almUnits ((h.tgtCheck n late).almOf n) = almUnits (h.almOf n)) ∧
  (∀ (s : State) (n : Fin 8) (rising : Bool),
    (s.hw.live .time = true → s.hw.b (R.TSU_CCFG n) 15 = true → s.hw.tsuSource n rising = true →
      exec (.tsuCapture n rising) s = .next (s.after (s.hw.tsuCapture n)) ∧
      (∀ i, i < 6 → (s.hw.tsuCapture n).reg (R.TSU_CAP n + i) =
        wordOf (timeWords (almUnits (s.hw.almOf (s.hw.f (R.TSU_CCFG n) 12 11)))) i) ∧
      (s.hw.tsuCapture n).b (R.TSU_CSTAT n) 15 = true ∧ (s.hw.tsuCapture n).b R.TSU_IFLAG n = true ∧
      (s.hw.b (R.TSU_CSTAT n) 15 = true → (s.hw.tsuCapture n).b (R.TSU_CSTAT n) 14 = true ∧
        (s.hw.tsuCapture n).b R.TSU_IFLAG (n + 8) = true) ∧
      (s.hw.b (R.TSU_CSTAT n) 15 = false → (s.hw.tsuCapture n).b (R.TSU_CSTAT n) 14 = s.hw.b (R.TSU_CSTAT n) 14) ∧
      s.hw.tsuCapture n = { s.hw with regs := (s.hw.tsuCapture n).regs }) ∧
    ∀ p, s.hw.partyUp p = true → s.hw.pageUp 0x25 = true →
      exec (.tsuCapKeyRead p n) s = .next (s.after ((s.hw.latchGroup p (R.TSU_CAP n) 6).setReg (R.TSU_CSTAT n)
        (s.hw.reg (R.TSU_CSTAT n) &&& ~~~0x8000))))

/-- The reference ladder (R168 to R174): GOOD written 1 or 0, its timeout, a qualified rung, a commit point, the end of
holdover and silent PPS; a lost current rung starts a switch to the best good rung below it, a qualified better one a
switch up, and the commit point makes the target current: to PTP with the servo's first correction, to holdover or
free-run with the next second tick, to PPS_IN with an edge. PPS_IN and PPS_OUT (R172, R176, R177): an edge that INPOL
makes active runs the loop of each almanac and pulses EV35; an almanac whose ladder does not enable the rung is not
touched; an edge within 1 ms slews the almanac by its offset; after qualification an edge off by more is an outlier; the
pulse ends at its width or when PPSCFG turns it off or names another almanac. Where the rules leave a reading open, it
follows the model's (log entries 11, 96, 97, 98, 99). Under the conditions of its clauses each of these commands
completes: SERVO_GOOD_WRITE, SERVOTO, RUNG_QUALIFIED, SWITCH_COMMIT_POINT, HOLDOVER_EXPIRED, PPS_IN_EDGE, PPS_RUNG_LOST,
PPS_OUT_END, PPSCFG_WRITE, ROLES_WRITE. -/
def Obligations.LadderAndPpsRung : Prop :=
  (∀ (s : State) (p : Party) (n : Fin 4),
    (∀ v, s.hw.accepts p (R.ALM_SERVO n) v → exec (.servoGoodWrite p n v) s = .next (s.after
      (s.hw.servoWrite n (p = .spi || p = .twi0) v)) ∧
      (s.hw.servoWrite n (p = .spi || p = .twi0) v).reg (R.ALM_SERVO n) = v &&& 0x00F1 ∧
      (v.getLsbD 0 = false → s.hw.b (R.ALM_SERVO n) 0 = true →
        ((s.hw.servoWrite n (p = .spi || p = .twi0) v).almOf n).ptpQual = false)) ∧
    (s.hw.live .time = true →
      (s.hw.b (R.ALM_SERVO n) 0 = true → exec (.servoto n) s = .next (s.after ((s.hw.servoLost n).raise (0x20 + n) 9)) ∧
        (s.hw.servoLost n).b (R.ALM_SERVO n) 0 = false) ∧
      (∀ pps, s.hw.rungGood n (if pps = true then .pps else .ptp) = true →
        (pps = true → s.hw.qualLen n ≤ (s.hw.almOf n).ppsEdges) →
        exec (.rungQualified n pps) s = .next (s.after (s.hw.rungQualified n (if pps = true then .pps else .ptp)))) ∧
      (almSwitching (s.hw.almOf n) = true →
        ((s.hw.almOf n).target = .ptp → exec (.switchCommitPoint n) s = .next (s.after (s.hw.switchCommit n))) ∧
        ((s.hw.almOf n).target = .pps → exec (.switchCommitPoint n) s = .next (s.after s.hw)) ∧
        ((s.hw.almOf n).target = .holdover ∨ (s.hw.almOf n).target = .freeRun →
          exec (.switchCommitPoint n) s = .next (s.after (s.hw.secondTick n)))) ∧
      (almSwitching (s.hw.almOf n) = false → exec (.switchCommitPoint n) s = .next (s.after s.hw)) ∧
      ((s.hw.almOf n).rung = .holdover → s.hw.holdExpired n = true →
        exec (.holdoverExpired n) s = .next (s.after (s.hw.rungLost n .holdover))) ∧
      exec (.ppsRungLost n) s = .next (s.after (s.hw.ppsLost n)) ∧
      ((s.hw.ppsLost n).almOf n).ppsGood = false ∧ ((s.hw.ppsLost n).almOf n).ppsQual = false) ∧
    ∀ (h : Hw) (r : Rung),
      ((h.almOf n).switching = false → (h.almOf n).rung = r → h.rungLost n r = h.setAlm n { h.almOf n with
        target := h.bestBelow n r, switching := true, committed := false, revert := false }) ∧
      rungRank r ≤ rungRank (h.bestBelow n r) ∧ h.rungGood n (h.bestBelow n r) = true ∧
      (rungRank r < rungRank (h.almOf n).rung → (h.almOf n).switching = false →
        ((h.rungQualified n r).almOf n).target = r ∧ ((h.rungQualified n r).almOf n).switching = true ∧
        ((h.rungQualified n r).almOf n).unknown = false ∧ ((h.rungQualified n r).almOf n).rung = (h.almOf n).rung) ∧
      ((h.almOf n).switching = true → (h.almOf n).committed = false →
        ((h.switchCommit n).almOf n).rung = (h.almOf n).target ∧ ((h.switchCommit n).almOf n).switching = true ∧
        ((h.switchCommit n).almOf n).committed = true ∧
        (h.pageLive (0x20 + n) = true → (h.switchCommit n).b ((0x20 + n) * 256 + 4) 4 = true) ∧ almUnits ((h.switchCommit n).almOf n) = almUnits (h.almOf n) ∧
        ((h.almOf n).target ≠ .holdover → h.addend n = (h.switchCommit n).addend n))) ∧
  (∀ s : State,
    (∀ (rising : Bool) (ps : Vector Nat 4), s.hw.live .time = true → rising ≠ s.hw.b R.TSU_PPSCFG 0 →
      exec (.ppsInEdge ps rising) s = .next (s.after
      ((((((s.hw.ppsEdge 0 ps[0]).ppsEdge 1 ps[1]).ppsEdge 2 ps[2]).ppsEdge 3 ps[3])).event 35))) ∧
    (∀ ps, exec (.ppsInEdge ps (s.hw.b R.TSU_PPSCFG 0)) s = .next (s.after s.hw)) ∧
    (∀ (h : Hw) (n : Fin 4) (t : Nat), (h.b (R.ALM_LADDER n) 1 = false → h.ppsEdge n t = h) ∧
      (h.b (R.ALM_LADDER n) 1 = true → (h.almOf n).ppsQual = true → (h.almOf n).ppsOut < 3 →
        1000000 * 65536 < (h.almOf n).sub / 65536 → (h.almOf n).sub / 65536 < 999000000 * 65536 →
        h.ppsEdge n t = (h.setAlm n { h.almOf n with ppsOut := (h.almOf n).ppsOut + 1, ppsEdges := 0 }).raise (0x20 + n) 8) ∧
      (h.b (R.ALM_LADDER n) 1 = true → almSwitching (h.almOf n) = false →
        (ppsOffset (h.almOf n)).natAbs ≤ 1000000 * 65536 →
        ((h.ppsEdge n t).almOf n).slew = -(ppsOffset (h.almOf n)) ∧
        almUnits ((h.ppsEdge n t).almOf n) = almUnits (h.almOf n))) ∧
    exec .ppsOutEnd s = .next (s.after { s.hw with pps := { s.hw.pps with active := false } }) ∧
    (∀ p v, s.hw.accepts p R.TSU_PPSCFG v →
      ∃ g : Hw, exec (.ppscfgWrite p v) s = .next (s.after g) ∧ g.reg R.TSU_PPSCFG = v &&& 0x0331 ∧
        g.pps.active = (s.hw.pps.active && v.getLsbD 8 && decide (fld v 5 4 = s.hw.f R.TSU_PPSCFG 5 4)) ∧
        g = { s.hw with regs := g.regs, pps := g.pps } ∧ ∀ a, a ≠ R.TSU_PPSCFG → g.reg a = s.hw.reg a) ∧
    ∀ p v, s.hw.accepts p R.CAL_ROLES v →
      ∃ g : Hw, exec (.rolesWrite p v) s = .next (s.after g) ∧ g.reg R.CAL_ROLES = v &&& 0x00FF ∧
        (s.hw.up .sense = true → fld v 1 0 ≠ s.hw.f R.CAL_ROLES 1 0 → g.dec.reanchor = true) ∧
        (fld v 5 4 ≠ s.hw.f R.CAL_ROLES 5 4 → g.cal.ticks = 0) ∧
        (fld v 1 0 = s.hw.f R.CAL_ROLES 1 0 → fld v 5 4 = s.hw.f R.CAL_ROLES 5 4 →
          g = s.hw.setReg R.CAL_ROLES (v &&& 0x00FF)))

/-- The Gregorian rules (R184) against the day count of R187: the years from 2000 to 2399 have 366 days when they are leap
years and 365 otherwise, and each month follows the one before by its length. -/
def Obligations.CalendarFollowsGregorianRules : Prop :=
  (∀ y, isLeap y = true ↔ y % 4 = 0 ∧ ¬ (y % 100 = 0 ∧ y % 400 ≠ 0)) ∧
  isLeap 2000 = true ∧ isLeap 2100 = false ∧ isLeap 2200 = false ∧ isLeap 2300 = false ∧
  (∀ y, monthDays y 2 = if isLeap y = true then 29 else 28) ∧
  (∀ y, 2000 ≤ y → civilDays (y + 1) 1 1 = civilDays y 1 1 + (if isLeap y = true then 366 else 365)) ∧
  (∀ y m, 2000 ≤ y → 1 ≤ m → m < 12 → civilDays y (m + 1) 1 = civilDays y m 1 + monthDays y m) ∧
  ∀ y, 2000 ≤ y → civilDays (y + 1) 1 1 = civilDays y 12 1 + 31

/-- A civil date committed is read back (R185, R187): for every valid date and time of 2000 to 2399 the calendar almanac
steps to its TAI time, and the group then reads the same date and time with the weekday of R187. Under the conditions of
its clauses each of these commands completes: CIVIL_COMMIT. -/
def Obligations.CivilCommitReadsBack : Prop :=
  ∀ (s : State) (p : Party) (v x : Word) (y m day hr mi sec ns : Nat), s.hw.acceptsKey p R.CAL_CYEAR v →
    s.hw.groupWords p R.CAL_CYEAR v =
      [wd y, wd (m * 256 + day), wd (hr * 256 + mi), wd sec, wd ns, wd (ns / 65536), x] →
    2000 ≤ y → y ≤ 2399 → 1 ≤ m → m ≤ 12 → 1 ≤ day → day ≤ monthDays y m → hr ≤ 23 → mi ≤ 59 → sec ≤ 59 →
    ns ≤ 999999999 → s.hw.b R.CAL_LEAP 1 = false →
    ∃ g : Hw, exec (.civilCommit p v) s = .next (s.after (g.groupDone p R.CAL_CYEAR)) ∧
      (((g.almOf g.calAlm).sec.toNat : Int) =
        946684800 + (civilDays y m day : Int) * 86400 + hr * 3600 + mi * 60 + sec + s.hw.utcOfs) ∧
      g.civilWords = [wd y, wd (m * 256 + day), wd (hr * 256 + mi), wd sec, wd ns, wd (ns / 65536),
        wd ((civilDays y m day + 5) % 7 + 1)]

/-- Dates that R187 rejects and leap seconds (R186, R187): a bad date, or both leap bits, sets BADDATE in STAT and IFLAG
and moves no almanac; a completed leap second changes UTCOFS by one, clears its bit and sets LEAPDONE. Where the rules
leave a reading open, it follows the model's (log entries 55, 100). Under the conditions of its clauses each of these
commands completes: CIVIL_COMMIT, LEAP_WRITE, LEAPDONE. -/
def Obligations.BadDatesAndLeapSeconds : Prop :=
  ∀ (s : State) (p : Party) (v : Word),
    (∀ (y m day hr mi sec : Nat) (w4 w5 w6 : Word), s.hw.acceptsKey p R.CAL_CYEAR v → y < 65536 → m < 16 → day < 32 →
      hr < 32 → mi < 64 → sec < 60 →
      s.hw.groupWords p R.CAL_CYEAR v = [wd y, wd (m * 256 + day), wd (hr * 256 + mi), wd sec, w4, w5, w6] →
      y < 2000 ∨ 2399 < y ∨ m < 1 ∨ 12 < m ∨ day = 0 ∨ monthDays y m < day ∨ 23 < hr ∨ 59 < mi →
      exec (.civilCommit p v) s = .next (s.after
        (((s.hw.setBits R.CAL_STAT 2).raise 0x24 1).groupDone p R.CAL_CYEAR))) ∧
    (s.hw.accepts p R.CAL_LEAP v → v &&& 3 = 3 → exec (.leapWrite p v) s = .next (s.after
      ((s.hw.setBits R.CAL_STAT 2).raise 0x24 1))) ∧
    (s.hw.accepts p R.CAL_LEAP v → v &&& 3 ≠ 3 → exec (.leapWrite p v) s = .next (s.after
      (s.hw.setReg R.CAL_LEAP (v &&& 3)))) ∧
    (s.hw.live .time = true → s.hw.cal.inserted = true → s.hw.calUtc % 86400 ≠ 0 →
      exec .leapdone s = .next (s.after
        ({ (s.hw.setReg R.CAL_UTCOFS (wdI (s.hw.utcOfs + 1))).setReg R.CAL_LEAP (s.hw.reg R.CAL_LEAP &&& ~~~1) with
          cal := { s.hw.cal with sampled61 := false, sampled59 := false, inserted := false } }.raise 0x24 0))) ∧
    (s.hw.live .time = true → s.hw.cal.inserted = false → s.hw.cal.sampled59 = true → s.hw.calUtc % 86400 = 86399 →
      exec .leapdone s = .next (s.after
        ({ (s.hw.setReg R.CAL_UTCOFS (wdI (s.hw.utcOfs - 1))).setReg R.CAL_LEAP (s.hw.reg R.CAL_LEAP &&& ~~~2) with
          cal := { s.hw.cal with sampled61 := false, sampled59 := false, inserted := false } }.raise 0x24 0)))

/-! ### The front end and the decimation chain -/

/-- Configuration of the front end (R194, R198, R208, R210, R219): a reserved code or an orientation that is no proper
rotation is rejected with CFGREJ and changes no register; an accepted write is stored, and one of range or enables marks a
running self-test for its abort; an orientation that changes tells the recognizers; there are 24 orientations. The
gyroscope drive and the XB inputs (R209, R219, R221, R222): the lock and its loss, XBCLK lost and back, a stuck line and a
measurement of XBCLK. Under the conditions of its clauses each of these commands completes: ORIENT_COMMIT, ARANGE_WRITE,
GRANGE_WRITE, CHEN_WRITE, XBCFG_WRITE, GDRV, GYRO_DRIVE_UNLOCK, XBLOST, XBBACK, XBSTUCK, XB_FREQ_MEASURE. -/
def Obligations.FrontEndChecksAndMonitors : Prop :=
  (((List.range 0x778).filter fun w => w &&& 0x777 == w && properRotation (BitVec.ofNat 16 w)).length = 24 ∧
  ∀ (s : State) (p : Party) (v : Word),
    (s.hw.accepts p R.AFE_ORIENT v →
      (properRotation v = false → exec (.orientCommit p v) s = .next (s.after (s.hw.raise 0x10 11))) ∧
      (properRotation v = true →
        (s.hw.reg R.AFE_ORIENT = v &&& 0x0777 →
          exec (.orientCommit p v) s = .next (s.after (s.hw.setReg R.AFE_ORIENT (v &&& 0x0777)))) ∧
        (s.hw.reg R.AFE_ORIENT ≠ v &&& 0x0777 →
          exec (.orientCommit p v) s = .next (s.after (s.hw.setReg R.AFE_ORIENT (v &&& 0x0777)).trimChange)))) ∧
    (s.hw.accepts p R.AFE_ARANGE v →
      (6 < fld v 3 0 → exec (.arangeWrite p v) s = .next (s.after (s.hw.raise 0x10 11))) ∧
      (fld v 3 0 ≤ 6 → exec (.arangeWrite p v) s = .next (s.after (s.hw.setReg R.AFE_ARANGE (v &&& 0x000F)).stAbort))) ∧
    (s.hw.accepts p R.AFE_GRANGE v →
      (4 < fld v 2 0 → exec (.grangeWrite p v) s = .next (s.after (s.hw.raise 0x10 11))) ∧
      (fld v 2 0 ≤ 4 → exec (.grangeWrite p v) s = .next (s.after (s.hw.setReg R.AFE_GRANGE (v &&& 0x0007)).stAbort))) ∧
    (s.hw.accepts p R.AFE_CHEN v →
      exec (.chenWrite p v) s = .next (s.after (s.hw.setReg R.AFE_CHEN (v &&& 0x000F)).stAbort)) ∧
    (s.hw.accepts p R.AFE_XBCFG v →
      (v.getLsbD 15 = false → 3 < fld v 10 8 → exec (.xbcfgWrite p v) s = .next (s.after (s.hw.raise 0x10 11))) ∧
      (v.getLsbD 15 = true ∨ fld v 10 8 ≤ 3 →
        exec (.xbcfgWrite p v) s = .next (s.after (s.hw.setReg R.AFE_XBCFG (v &&& 0x8713))))) ∧
    (∀ h : Hw, (h.stBusy = false → h.stAbort = h) ∧
      (h.stBusy = true →
        h.stAbort = { h with afe := { h.afe with st := { h.afe.st with abortDue := true } } }))) ∧
  (∀ s : State,
    (s.hw.up .sense = true → s.hw.afe.gdrv = false → s.hw.afe.chen.getLsbD 1 = true →
      exec .gdrv s = .next (s.after
        ((({ s.hw with afe := { s.hw.afe with gdrv := true, gdrvOnce := true } }).warmStart 2#4 s.hw.afe.gdrvOnce).raise
          0x10 13))) ∧
    (s.hw.afe.gdrv = true → exec .gyroDriveUnlock s = .next (s.after
      { s.hw with afe := { s.hw.afe with gdrv := false } })) ∧
    (s.hw.xbReceived = true →
      (s.hw.afe.xbLost = false → exec .xblost s = .next (s.after
        ({ s.hw with afe := { s.hw.afe with xbLost := true } }.raise 0x10 8))) ∧
      (s.hw.afe.xbLost = true → exec .xbback s = .next (s.after
        (({ s.hw with afe := { s.hw.afe with xbLost := false } }.warmStart 0xC#4 true).raise 0x10 9))) ∧
      (∀ khz : Word, 5000 ≤ khz.toNat → khz.toNat ≤ 20000 → s.hw.afe.xbLost = false →
        exec (.xbFreqMeasure khz) s = .next (s.after (s.hw.setReg R.AFE_XBFREQ khz))) ∧
      (∀ khz : Word, khz.toNat < 4900 ∨ 20400 < khz.toNat → s.hw.afe.xbLost = false →
        exec (.xbFreqMeasure khz) s = .next (s.after
          ({ s.hw.setReg R.AFE_XBFREQ khz with afe := { s.hw.afe with xbLost := true } }.raise 0x10 8)))) ∧
    (∀ k : Fin 2, s.hw.up .sense = true → s.hw.afe.chen.getLsbD (2 + k) = true →
      exec (.xbstuck k true) s = .next (s.after
        ({ s.hw with afe := { s.hw.afe with stuck := s.hw.afe.stuck ||| (1#2 <<< k.val) } }.raise 0x10 10)) ∧
      exec (.xbstuck k false) s = .next (s.after
        { s.hw with afe := { s.hw.afe with stuck := s.hw.afe.stuck &&& ~~~(1#2 <<< k.val) } })) ∧
    ∀ (h : Hw) (gs : BitVec 4),
      (∀ i : Fin 8, gs.getLsbD (chGroup i) = true → (h.warmStart gs true).dec.hist[i] = []) ∧
      (∀ (e : Bool) (k : Fin 4), gs.getLsbD k = true → (h.warmStart gs e).dec.warm[k] = h.groupLen k))

/-- The self-test (R212 to R214): a start is rejected with STREJ before the load, without trims, with ACC or a requested
gyroscope off; an accepted one keeps its choices; at the end of the release phase the results and PASS, or FAIL with the
channels, are stored. GO during a run changes nothing but the stored choices. Where the rules leave a reading open, it
follows the model's (log entries 6, 58, 63). Under the conditions of its clauses each of these commands completes:
SELF_TEST_START, STDONE. -/
def Obligations.SelfTestStartsAndReports : Prop :=
  ∀ s : State,
    (∀ p v, s.hw.accepts p R.AFE_STCTL (v ||| 0x8000) → s.hw.stBusy = true →
      exec (.selfTestStart p v) s = .next (s.after (s.hw.setReg R.AFE_STCTL (v &&& 0x30FF)))) ∧
    (∀ p v, s.hw.accepts p R.AFE_STCTL (v ||| 0x8000) → s.hw.stBusy = false →
      ((s.hw.nvs.loaded = false ∨ s.hw.afe.notrim = true ∨ s.hw.afe.chen.getLsbD 0 = false ∨
          (v.getLsbD 13 = true ∧ (s.hw.afe.chen.getLsbD 1 = false ∨ s.hw.afe.gdrv = false))) →
        exec (.selfTestStart p v) s = .next (s.after ((s.hw.setReg R.AFE_STCTL (v &&& 0x30FF)).raise 0x10 7))) ∧
      (¬ (s.hw.nvs.loaded = false ∨ s.hw.afe.notrim = true ∨ s.hw.afe.chen.getLsbD 0 = false ∨
          (v.getLsbD 13 = true ∧ (s.hw.afe.chen.getLsbD 1 = false ∨ s.hw.afe.gdrv = false))) →
        ∃ g : Hw, exec (.selfTestStart p v) s = .next (s.after g) ∧ g.reg R.AFE_STSTAT = 0 ∧ g.afe.st.phase = 4 ∧
          g.afe.st.n = max 16 (fld v 7 0) ∧ g.afe.st.gyr = v.getLsbD 13 ∧
          g.afe.st.level = (if v.getLsbD 12 = true then 1 else 0) ∧ g.reg R.AFE_STCTL = v &&& 0x30FF ∧
          g = { s.hw with regs := g.regs, afe := { s.hw.afe with st := g.afe.st } })) ∧
    (s.hw.live .sense = true → s.hw.afe.st.phase = 3 → s.hw.afe.st.aborted = false → s.hw.afe.st.abortDue = false →
      s.hw.groupLen 0 ≤ s.hw.afe.st.k →
      ∃ g : Hw, exec .stdone s = .next (s.after g) ∧ g.stBusy = false ∧ g.b R.AFE_IFLAG 4 = true ∧
        g.b R.AFE_STSTAT 15 = !g.b R.AFE_STSTAT 14 ∧
        (∀ i, i < (if s.hw.afe.st.gyr = true then 9 else 6) → g.reg (R.AFE_STRES_FX + i) =
          wdI (stResult i s.hw.afe.st.n (s.hw.afe.st.sum1.getD i 0) (s.hw.afe.st.sum2.getD i 0))) ∧
        (g.b R.AFE_STSTAT 15 = true ↔ ∀ i, i < (if s.hw.afe.st.gyr = true then 9 else 6) →
          s.hw.stPass i s.hw.afe.st.level
            (stResult i s.hw.afe.st.n (s.hw.afe.st.sum1.getD i 0) (s.hw.afe.st.sum2.getD i 0)) = true))

/-- An output instant (R235, R238, R246): nothing is produced without S-loop lock, off the grid or out of its order; else
the groups due at the instant after its boundary enter the FIR as one sample under way, and the oldest one is loaded into
the S output register once all its groups are done: its other channels are 0 and its accelerometer values lie within the
limits of the range mode in force. A sample becomes valid in E once (R262, R303): the values of its groups replace those
before, the new-sample marks of its channels rise, and the S output register takes the oldest sample that is complete, or
is empty; without a sample nothing happens. Where the rules leave a reading open, it follows the model's (log entries 6,
7, 15, 20, 101, 102, 103). Under the conditions of its clauses each of these commands completes: OUTPUT_INSTANT,
SAMPLE_VALID_IN_E. -/
def Obligations.SamplesLoadAndBecomeValid : Prop :=
  (∀ (s : State) (x : InstantIn),
    (s.hw.live .sense = false ∨ s.hw.clk.slock = false ∨ s.hw.onGrid x.t 8 = false ∨
        (∃ n, s.hw.dec.nextT = some n ∧ s.hw.gridFrom n ≠ x.t) →
      exec (.outputInstant x) s = .next (s.after s.hw)) ∧
    (s.hw.live .sense = true → s.hw.clk.slock = true → s.hw.onGrid x.t 8 = true →
        (∀ n, s.hw.dec.nextT = some n → s.hw.gridFrom n = x.t) →
      ∃ g : Hw, ∃ h1 : Hw, exec (.outputInstant x) s = .next (s.after g) ∧
        h1 = ((if s.hw.onGrid x.t 0 = true then s.hw.setReg R.AFE_TEMP x.temp else s.hw).feedBits x).boundary x.t ∧
        (h1.groupsDue x.t = 0 → g = h1) ∧
        (h1.groupsDue x.t ≠ 0 → g.dec.lastT = some x.t ∧ g.dec.nextT = some (x.t + periodOf h1.fastest) ∧ g.dec.gap = none ∧
          ∃ (l : List Flight) (f : Flight), l.length = h1.dec.flight.length + 1 ∧ l.getLast? = some f ∧ f.t = x.t ∧
            f.groups = h1.groupsDue x.t ∧ f.draft = s.hw.pwr.draft ∧ f.warm = h1.warmBits &&& h1.groupsDue x.t ∧
            ∀ o, l.head? = some o →
              (o.done ≠ o.groups → g.dec.flight = l ∧ g.dec.sout = s.hw.dec.sout) ∧
              (o.done = o.groups → g.dec.flight = l.tail ∧
                ∃ m : Sample, g.dec.sout = some m ∧ m.t = o.t ∧ m.groups = o.groups ∧ m.draft = o.draft ∧ m.warm = o.warm ∧
                  (∀ i : Fin 8, m.groups.getLsbD (chGroup i) = false → m.vals[i] = 0) ∧
                  (∀ i : Fin 3, m.groups.getLsbD 0 = true →
                    -(rangeLimit h1.clampMode : Int) ≤ m.vals[i.val] ∧
                      m.vals[i.val] ≤ (rangeLimit h1.clampMode : Int) - 1))))) ∧
  (∀ s : State,
    (s.hw.dec.sout = none → exec .sampleValidInE s = .next (s.after s.hw)) ∧
    ∀ m, s.hw.dec.sout = some m → s.hw.live .sense = true →
      ∃ g : Hw, exec .sampleValidInE s = .next (s.after g) ∧
        (s.hw.dec.flight = [] → g.dec.sout = none) ∧
        (∀ f l, s.hw.dec.flight = f :: l →
          (f.done ≠ f.groups → g.dec.sout = none ∧ g.dec.flight = f :: l) ∧
          (f.done = f.groups → g.dec.sout.map Sample.t = some f.t ∧ g.dec.flight = l)) ∧
        (∀ i : Fin 8, g.dec.vals[i] = if m.groups.getLsbD (chGroup i) = true then m.seen[i] else s.hw.dec.vals[i]) ∧
        (∀ i, i < 8 → g.newSample.getLsbD i = (s.hw.newSample.getLsbD i || m.groups.getLsbD (chGroup i))) ∧
        g.sampleT = some m.t)

/-- The sample grid (R232, R237, R249, R250, R254, R256): rate codes beyond the limits are rejected whole, and so is a
grid offset above 7,999,999; RESYNC and an accepted offset start a re-anchor; a measurement stores e, and performs a
waiting re-anchor or sets the S-loop offset's aim within ±500 ppm, and a jump above the threshold starts a re-anchor;
EPOCH resets the decimators where EPEN lets it. Where the rules leave a reading open, it follows the model's (log entries
7, 87, 103). Under the conditions of its clauses each of these commands completes: ODR_WRITE, RESP_WRITE, GRIDOFS_COMMIT,
RESYNC, GRID_MEASUREMENT, EPOCH. -/
def Obligations.GridCommandsFollowRules : Prop :=
  ∀ (s : State) (p : Party) (v : Word),
    (s.hw.accepts p R.DEC_ODR v →
      (8 < fld v 3 0 ∨ 6 < fld v 7 4 ∨ 8 < fld v 11 8 ∨ 8 < fld v 15 12 →
        exec (.odrWrite p v) s = .next (s.after (s.hw.raise 0x11 5))) ∧
      (fld v 3 0 ≤ 8 → fld v 7 4 ≤ 6 → fld v 11 8 ≤ 8 → fld v 15 12 ≤ 8 →
        exec (.odrWrite p v) s = .next (s.after (s.hw.setReg R.DEC_ODR v)))) ∧
    (s.hw.accepts p R.DEC_RESP v → exec (.respWrite p v) s = .next (s.after (s.hw.setReg R.DEC_RESP v))) ∧
    (s.hw.acceptsKey p R.DEC_GRIDOFS_L v →
      ∀ x, x = v.toNat + 65536 * (word (s.hw.groupWords p R.DEC_GRIDOFS_L v) 1 % 128) →
      (7999999 < x → exec (.gridofsCommit p v) s = .next (s.after ((s.hw.raise 0x11 5).groupDone p R.DEC_GRIDOFS_L))) ∧
      (x ≤ 7999999 → s.hw.b R.DEC_GRIDCFG 15 = false → exec (.gridofsCommit p v) s = .next (s.after
        ({ (s.hw.setReg R.DEC_GRIDOFS_L (wd x)).setReg R.DEC_GRIDOFS_H (wd (x / 65536)) with
          dec := { s.hw.dec with gridph := x, nextT := none, reanchor := true } }.groupDone p R.DEC_GRIDOFS_L)))) ∧
    (s.hw.partyUp p = true → s.hw.pageUp 0x11 = true → exec (.resync p v) s = .next (s.after
      { s.hw with dec := { s.hw.dec with reanchor := true } })) ∧
    (∀ k : Nat, s.hw.live .sense = true → s.hw.clk.slock = true →
      ∃ (g h : Hw) (e : Int), exec (.gridMeasurement k) s = .next (s.after g) ∧
        h = (if (s.hw.almOf s.hw.sampAlm).sub + s.hw.almGain s.hw.sampAlm k < secUnits then s.hw.almCount s.hw.sampAlm k
          else s.hw) ∧
        e = h.gridError ∧ -4000000 < e ∧ e ≤ 4000000 ∧
        ((almNs (h.almOf h.sampAlm) : Int) - h.gridPhase - e) % 8000000 = 0 ∧
        g.reg R.DEC_GERR = wdI (clampI (-32767) 32767 e) ∧ g.clk.soffs = s.hw.clk.soffs ∧
        (s.hw.dec.reanchor = true → g.dec.reanchor = false ∧ g.dec.glock = false ∧ g.dec.gap = some 2 ∧
          g.b R.DEC_IFLAG 2 = true ∧ g.clk = s.hw.clk ∧ ∀ i : Fin 8, g.dec.hist[i] = s.hw.dec.hist[i]) ∧
        (s.hw.dec.reanchor = false →
          -2147483 ≤ g.clk.soffsTo ∧ g.clk.soffsTo ≤ 2147483 ∧
          (g.dec.reanchor = true ↔ ∃ l, s.hw.jumpLimit = some l ∧ l < e.natAbs))) ∧
    (s.hw.vigil = true → ∀ since : Nat,
      ∃ g : Hw, exec (.epoch since) s = .next (s.after g) ∧
        (s.hw.up .time = true → g.gang.capture = some (almNs (s.hw.almOf s.hw.sampAlm), s.hw.now)) ∧
        (s.hw.live .sense = true → s.hw.b R.DEC_GRIDCFG 14 = true →
          (s.hw.gang.st = .dissent → g.b R.DEC_IFLAG 4 = true ∧ g.dec = s.hw.dec) ∧
          (s.hw.gang.st ≠ .dissent → s.hw.dec.epoch = true → since < 4 → g.dec = s.hw.dec) ∧
          (s.hw.gang.st ≠ .dissent → ¬ (s.hw.dec.epoch = true ∧ since < 4) →
            g.b R.DEC_IFLAG 3 = true ∧ g.dec.gap = some 6 ∧ g.dec.flight = [] ∧ (∀ i : Fin 8, g.dec.hist[i] = []) ∧
            ∀ k : Fin 4, g.dec.warm[k] = s.hw.groupLen k)))

/-! ### Recognizers and the STOP_N latch -/

/-- The latch keeps its first cause (R281, R284): a setting from the released state writes the cause record and a STOP_SET
entry, and types 1 to 3 alone send an alarm request and set FIRED; a set latch keeps its record, and a hit of the matrix
counts; the matrix fires on the lowest selected event, and only out of draft while it is enabled. FORCE sets it with type
6. Thresholds (R268): a commit with LO above HI is rejected whole; else the thresholds are stored, and the count restarts
where one of them changes. Under the conditions of its clauses each of these commands completes: THRESHOLD_COMMIT, FORCE. -/
def Obligations.LatchKeepsFirstCause : Prop :=
  ((∀ (h : Hw) (typ ev t : Nat),
    (h.latch.set = true → h.setLatch typ ev t = h) ∧
    (h.latch.set = false → (h.setLatch typ ev t).latch =
        { set := true, typ := typ, ev := ev, why := h.latch.why, setAt := h.now } ∧
      (1 ≤ typ → typ ≤ 3 → (h.setLatch typ ev t).alarmReq = some t ∧
        (h.live .sense = true → (h.setLatch typ ev t).b R.REFLEX_IFLAG 0 = true)) ∧
      (typ = 0 ∨ 3 < typ → (h.setLatch typ ev t).alarmReq = h.alarmReq ∧ (h.setLatch typ ev t).raised = h.raised))) ∧
  (∀ (h : Hw) (r : BitVec 64),
    (h.pwr.draft = true ∨ h.enabled 0x15 = false ∨ r &&& h.reflexMask = 0 → h.matrix r = h) ∧
    (h.pwr.draft = false → h.enabled 0x15 = true → ∀ e, e < 63 → r.getLsbD e = true → h.reflexMask.getLsbD e = true →
      (∀ k, k < e → ¬ (r.getLsbD k = true ∧ h.reflexMask.getLsbD k = true)) →
      (h.latch.set = false → h.matrix r = h.setLatch 1 e h.fireInstant) ∧
      (h.latch.set = true → h.matrix r = (h.count R.REFLEX_HITCNT).raise 0x15 5))) ∧
  ∀ (s : State) (p : Party) (v : Word), s.hw.accepts p R.REFLEX_CTRL ((v &&& 0x7FFF) ||| 2) →
    exec (.force p v) s = .next (s.after ((s.hw.enWrite 0x15 (v.getLsbD 0)).setLatch 6 0 0))) ∧
  (∀ (s : State) (p : Party) (n : Fin 8) (v : Word), s.hw.acceptsKey p (R.REC_WTHR n) v →
    ∀ vs hi lo, vs = s.hw.groupWords p (R.REC_WTHR n) v →
      hi = signed 24 (v.toNat + 65536 * ((wordOf vs 1).toNat % 256)) →
      lo = signed 24 ((wordOf vs 2).toNat + 65536 * ((wordOf vs 3).toNat % 256)) →
    (hi < lo → exec (.thresholdCommit p n v) s = .next (s.after ((s.hw.raise 0x14 15).groupDone p (R.REC_WTHR n)))) ∧
    (lo ≤ hi → ∃ g : Hw, exec (.thresholdCommit p n v) s = .next (s.after (g.groupDone p (R.REC_WTHR n))) ∧
      g.winHi n = hi ∧ g.winLo n = lo ∧ (g.winOf n).count = (if hi = s.hw.winHi n ∧ lo = s.hw.winLo n then (s.hw.winOf n).count else 0) ∧
      (g.winOf n).inCond = (s.hw.winOf n).inCond ∧
      (∀ a, a < R.REC_WTHR n ∨ R.REC_WTHR n + 3 < a → g.reg a = s.hw.reg a) ∧
      g = { s.hw with regs := g.regs, recog := { s.hw.recog with wins := g.recog.wins } }))

/-- The release (R285 to R287): in the order of the table, draft, RELHOLD, the party's RELWHO bit and a condition still
held reject it with RELREJ and the first code; an accepted one clears the latch, HITCNT and nothing of the cause record,
with a STOP_REL entry; a released latch ignores it; AUTOREL releases without the test of the party. Where the rules leave
a reading open, it follows the model's (log entries 49, 66). Under the conditions of its clauses each of these commands
completes: RELEASE, AUTOREL. -/
def Obligations.LatchReleaseConditionsInOrder : Prop :=
  ∀ (s : State) (p : Party), s.hw.accepts p R.REFLEX_RELEASE 0xC1EA →
    (s.hw.latch.set = false → exec (.release p) s = .next (s.after s.hw)) ∧
    (s.hw.latch.set = true → ∀ held, held = (((List.range 8).any fun n =>
          (s.hw.winOf n).inCond && s.hw.reflexMask.getLsbD (36 + n)) ||
        (s.hw.recog.fall.active && s.hw.reflexMask.getLsbD 48)) →
      (s.hw.pwr.draft = true → exec (.release p) s = .next (s.after
        ({ s.hw with latch := { s.hw.latch with why := 1 } }.raise 0x15 3))) ∧
      (s.hw.pwr.draft = false → s.hw.now - s.hw.latch.setAt < s.hw.f R.REFLEX_CFG 11 4 * 8000 →
        exec (.release p) s = .next (s.after ({ s.hw with latch := { s.hw.latch with why := 2 } }.raise 0x15 3))) ∧
      (s.hw.pwr.draft = false → s.hw.f R.REFLEX_CFG 11 4 * 8000 ≤ s.hw.now - s.hw.latch.setAt →
        (s.hw.b R.REFLEX_CFG (relWho p) = false → exec (.release p) s = .next (s.after
          ({ s.hw with latch := { s.hw.latch with why := 3 } }.raise 0x15 3))) ∧
        (s.hw.b R.REFLEX_CFG (relWho p) = true → held = true → exec (.release p) s = .next (s.after
          ({ s.hw with latch := { s.hw.latch with why := 4 } }.raise 0x15 3))) ∧
        (s.hw.b R.REFLEX_CFG (relWho p) = true → held = false →
          exec (.release p) s = .next (s.after (s.hw.clearLatch p.code))) ∧
        (s.hw.b R.REFLEX_CFG 15 = true → held = false → s.hw.up .sense = true →
          exec .autorel s = .next (s.after (s.hw.clearLatch 0))))) ∧
    ∀ (h : Hw) (who : Nat), (h.clearLatch who).latch = { h.latch with set := false } ∧
      (h.clearLatch who).reg R.REFLEX_HITCNT = 0 ∧
      (h.live .sense = true → (h.clearLatch who).b R.REFLEX_IFLAG 2 = true) ∧
      ((h.clearLatch who).diary.entries.getLast?.map fun e => (e.src, e.arg)) = some (7, wd who)

/-! ### Etchers -/

/-- Etcher instruction words (R302 to R313): every instruction with its operands in their fields is read back from its
word. -/
def Obligations.EtcherWordsDecodeBack : Prop :=
  ∀ op : EtchOp, op.wf → decodeEtch (encodeEtch op) = some op

/-- HALT and ACT SIG (R299, R307, R312): HALT makes the Etcher IDLE, clears the level with CLR, stops its timers and sets
HALTn; PULSE, SET and a TGL to 1 pulse EV52 + n; the level follows; timers and bindings stay, and a counter changes only
by its bound event. A KICK (R297 to R299, R301, R307): it starts or stops its target, and the kicking Etcher continues;
control from the page or the KICK of an Etcher with a lower number, which reach the target in the same E-cycle, win, and
the loser sets the target's KDROP bit. Where the rules leave a reading open, it follows the model's (log entries 11, 21).
Under the conditions of its clauses each of these commands completes: HALT, NOP, PULSE, SET, CLR, TGL, KICK_START,
KICK_STOP. -/
def Obligations.EtcherSignalsAndKicks : Prop :=
  (∀ (s : State) (n : Fin 8) (e : Etcher), s.hw.etcher n = e →
    (∀ clr, s.hw.etchFetch n = some (.halt clr) → exec (.halt n) s = .next (s.after
      ((s.hw.setEtcher n { e.paid with
        st := .idle, level := e.level && !clr, stopping := false, pend := none, access := none
        it := e.it.map fun t => { t with counting := false }, seen := s.hw.fabric, seenSample := s.hw.newSample }).raise
          0x16 n))) ∧
    ((s.hw.etchFetch n = some (.sig .nop) → exec (.nop n) s = .next (s.after (s.hw.moved n e))) ∧
      (s.hw.etchFetch n = some (.sig .pulse) →
        exec (.pulse n) s = .next (s.after ((s.hw.event (52 + n)).moved n e))) ∧
      (s.hw.etchFetch n = some (.sig .set) →
        exec (.set n) s = .next (s.after ((s.hw.event (52 + n)).moved n { e with level := true }))) ∧
      (s.hw.etchFetch n = some (.sig .clr) →
        exec (.clr n) s = .next (s.after (s.hw.moved n { e with level := false }))) ∧
      (s.hw.etchFetch n = some (.sig .tgl) →
        (e.level = true → exec (.tgl n) s = .next (s.after (s.hw.moved n { e with level := false }))) ∧
        (e.level = false →
          exec (.tgl n) s = .next (s.after ((s.hw.event (52 + n)).moved n { e with level := true })))))) ∧
  (∀ (s : State) (n t : Fin 8) (e : Etcher) (a : BitVec 10) (page : Bool) (kicks : BitVec 8), s.hw.etcher n = e →
    ∀ lost : Prop, lost = (page = true ∨ ∃ k : Nat, k < n.val ∧ kicks.getLsbD k = true) →
    (s.hw.etchFetch n = some (.kick a false t) →
      (¬ lost → exec (.kickStart n page kicks) s = .next (s.after ((s.hw.moved n e).etchStart t a.toNat))) ∧
      (lost → exec (.kickStart n page kicks) s =
        .next (s.after ((s.hw.moved n e).setBits R.ETCH_KDROP (2 ^ t.val))))) ∧
    (s.hw.etchFetch n = some (.kick a true t) →
      (¬ lost → exec (.kickStop n page kicks) s = .next (s.after ((s.hw.moved n e).etchStop t))) ∧
      (lost → exec (.kickStop n page kicks) s =
        .next (s.after ((s.hw.moved n e).setBits R.ETCH_KDROP (2 ^ t.val))))))

/-- WAIT (R305, R306): a condition that holds continues at PC + 1 and goes before a timeout; a false one with its timer
expired continues at PC + 2; else the Etcher waits. A waiting Etcher behaves the same in its later cycles. BRANCH (R308):
the PC becomes TARGET when the condition holds, and PC + 1 otherwise; of the Etcher's other state only a counter changes,
by its bound event. Under the conditions of its clauses each of these commands completes: WAIT_EV, WAIT_STATE, WAIT_TIMER,
WAIT_SAMPLE, WAIT_COUNT, WAIT_COMPLETE, WAIT_TIMEOUT, JMP, BRANCH_EV, BRANCH_STATE, BRANCH_CNT, BRANCH_TIMER,
BRANCH_SAMPLE. -/
def Obligations.EtcherWaitsAndBranches : Prop :=
  (∀ (s : State) (n : Fin 8) (e : Etcher) (c : WaitCond) (t : Option Bool), s.hw.etcher n = e →
    s.hw.etchFetch n = some (.wait c t) → ∀ i, i = (match c with
      | .ev _ _ => Instr.waitEv n
      | .state _ _ => .waitState n
      | .timer _ => .waitTimer n
      | .sample _ _ _ _ => .waitSample n
      | .count _ _ => .waitCount n) →
    (s.hw.waitHolds n c = true →
      exec i s = .next (s.after (s.hw.moved n e)) ∧
      (e.st = .wait → exec (.waitComplete n) s = .next (s.after (s.hw.moved n e)))) ∧
    (s.hw.waitHolds n c = false → t = none ∨ (∃ x, t = some x ∧ (s.hw.itOf n x).expired = false) →
      exec i s = .next (s.after (s.hw.setEtcher n { e.paid with
        st := .wait, seen := s.hw.fabric, seenSample := s.hw.newSample }))) ∧
    (∀ x, s.hw.waitHolds n c = false → t = some x → (s.hw.itOf n x).expired = true → ∀ j, j = i ∨ j = Instr.waitTimeout n →
      exec j s = .next (s.after (s.hw.setEtcher n { e.paid with
        pc := BitVec.ofNat 10 (s.hw.etchPc n + 2), st := .run, seen := s.hw.fabric, seenSample := s.hw.newSample })))) ∧
  (∀ (s : State) (n : Fin 8) (e : Etcher) (c : BrCond) (t : BitVec 10), s.hw.etcher n = e →
    s.hw.etchFetch n = some (.branch c t) → ∀ i, i = (match c with
      | .always => Instr.jmp n
      | .ev _ => .branchEv n
      | .state _ _ => .branchState n
      | .cnt _ _ _ => .branchCnt n
      | .timer _ _ => .branchTimer n
      | .sample _ _ _ => .branchSample n) →
    (s.hw.branchHolds n c = true → exec i s = .next (s.after
      (s.hw.setEtcher n { e.paid with pc := t, st := .run, seen := s.hw.fabric, seenSample := s.hw.newSample }))) ∧
    (s.hw.branchHolds n c = false →
      exec i s = .next (s.after (s.hw.moved n e))))

/-- COUNT and LOAD (R309 to R311, R313): the result goes into the one counter, binding or interval timer that the
instruction names, and execution continues at PC + 1; a bound event of the same cycle is added after it; the timers expire
by E-cycles. Where the rules leave a reading open, it follows the model's (log entry 21). Under the conditions of its
clauses each of these commands completes: INC, DEC, ADD, BIND, LDI, LDT0, LDT1, LDS, INTERVAL_TIMER_EXPIRE. -/
def Obligations.EtcherCountsAndLoads : Prop :=
  ∀ (s : State) (n : Fin 8) (e : Etcher), s.hw.etcher n = e →
    (∀ c : Fin 4,
      (s.hw.etchFetch n = some (.count .inc c) →
        exec (.inc n) s = .next (s.after (s.hw.moved n { e with c := e.c.set c (e.c[c] + 1) }))) ∧
      (s.hw.etchFetch n = some (.count .dec c) →
        exec (.dec n) s = .next (s.after
          (s.hw.moved n { e with c := e.c.set c (if e.c[c] = 0 then 0 else e.c[c] - 1) }))) ∧
      (∀ x, s.hw.etchFetch n = some (.count (.add x) c) →
        exec (.add n) s = .next (s.after (s.hw.moved n { e with c := e.c.set c (e.c[c] + x) }))) ∧
      (∀ x, s.hw.etchFetch n = some (.count (.bind x) c) →
        exec (.bind n) s = .next (s.after
          (s.hw.moved n { e with bind := e.bind.set c (if x = 63 then none else some x) }))) ∧
      (∀ x, s.hw.etchFetch n = some (.ldi c x) →
        exec (.ldi n) s = .next (s.after (s.hw.moved n { e with c := e.c.set c x }))) ∧
      (∀ ch, s.hw.etchFetch n = some (.lds ch c) →
        exec (.lds n) s = .next (s.after (s.hw.moved n { e with c := e.c.set c (wdI (s.hw.chValue ch / 256)) })))) ∧
    (∀ u x, s.hw.etchFetch n = some (.ldt false u x) → exec (.ldt0 n) s = .next (s.after (s.hw.moved n { e with
      it := e.it.set 0 { val := x, unit := u, expired := x = 0, counting := x != 0, presc := 0 } }))) ∧
    (∀ u x, s.hw.etchFetch n = some (.ldt true u x) → exec (.ldt1 n) s = .next (s.after (s.hw.moved n { e with
      it := e.it.set 1 { val := x, unit := u, expired := x = 0, counting := x != 0, presc := 0 } }))) ∧
    (∀ sel, s.hw.live .sense = true → (s.hw.itOf n sel).counting = true → (s.hw.itOf n sel).unit ≠ 3 →
      exec (.intervalTimerExpire n sel) s = .next (s.after (s.hw.setIt n sel
        { s.hw.itOf n sel with val := 0, expired := true, counting := false, presc := 0 }))) ∧
    (∀ x : Etcher, x.paid.owed = 0 ∧ ∀ c : Fin 4, x.paid.c[c] = if x.owed.getLsbD c = true then x.c[c] + 1 else x.c[c]) ∧
    ∀ (h : Hw) (pulses : BitVec 64) (m : Fin 8) (c : Fin 4) (v : Word), (h.etcher m).st = .run → (h.etcher m).owed = 0 →
      (h.countBound pulses).etcher m = { h.etcher m with owed := ((h.countBound pulses).etcher m).owed } ∧
      (((h.countBound pulses).etcher m).owed.getLsbD c = true ↔
        ∃ ev, (h.etcher m).bind[c] = some ev ∧ pulses.getLsbD ev = true) ∧
      (((h.countBound pulses).pageCtr m c v).etcher m).paid.c[c] = v

/-- Accesses (R315, R316): ACT REG, LDR and ACT MBX stall with their access; one to the ETCH or EPROG page is not applied
and is error 4, which continues at PC + 1 without ERRHALT and halts with it. An access completes (R112, R298, R299, R315,
R316, R322, R323): a read of a powered page loads its counter, one of an unpowered page loads 0x0000 with error 1; a write
is made as the party ETCHn, or dropped and recorded where a higher-ranking party writes in the same cycle; a post that a
higher-ranking party beats ends in error 1; then execution continues at PC + 1, or a latched stop or start applies. Where
the rules leave a reading open, it follows the model's (log entry 44). Under the conditions of its clauses each of these
commands completes: ACT_REG, ACT_MBX, LDR, ACCESS_COMPLETE. -/
def Obligations.EtcherAccessesStallAndComplete : Prop :=
  (∀ (s : State) (n : Fin 8) (e : Etcher) (c : Fin 4) (a : Nat), s.hw.etcher n = e →
    ∀ stalled : Access → Hw, (stalled = fun x => s.hw.setEtcher n { e.paid with
        st := .stall, access := some x, seen := s.hw.fabric, seenSample := s.hw.newSample }) →
    (etchForbidden a = false →
      (s.hw.etchFetch n = some (.actReg c a) →
        exec (.actReg n) s = .next (s.after (stalled (.write a (s.hw.ctr n c))))) ∧
      (s.hw.etchFetch n = some (.ldr c a) → exec (.ldr n) s = .next (s.after (stalled (.read a c))))) ∧
    (∀ mb len, s.hw.etchFetch n = some (.actMbx mb len) → exec (.actMbx n) s = .next (s.after
      (stalled (.post mb (wd ((8 + n) * 256 + len * 16)) ((List.finRange 4).map (s.hw.ctr n) |>.take len))))) ∧
    (etchForbidden a = true → ∀ i, (i = Instr.actReg n ∧ s.hw.etchFetch n = some (.actReg c a)) ∨
        (i = Instr.ldr n ∧ s.hw.etchFetch n = some (.ldr c a)) →
      ∃ g : Hw, exec i s = .next (s.after g) ∧ g.reg (R.ETCH_R n 5) = wd (4 * 4096 + s.hw.etchPc n) ∧
        g.b R.ETCH_IFLAG (8 + n) = true ∧ (g.etcher n).c = e.paid.c ∧
        (s.hw.b (R.ETCH_R n 0) 14 = false → (g.etcher n).st = .run ∧
          (g.etcher n).pc = BitVec.ofNat 10 (s.hw.etchPc n + 1)) ∧
        (s.hw.b (R.ETCH_R n 0) 14 = true → (g.etcher n).st = .idle ∧ (g.etcher n).pc = e.pc)) ∧
    ∀ (h : Hw) (code : Nat),
      (h.b (R.ETCH_R n 0) 14 = false → h.etchSoftError n code = (h.etchError n code (h.etchPc n)).etchNext n) ∧
      (h.b (R.ETCH_R n 0) 14 = true → h.etchSoftError n code = (h.etchError n code (h.etchPc n)).etchIdle n)) ∧
  (∀ (s : State) (n : Fin 8) (rival : Option Party), (s.hw.etcher n).st = .stall → s.hw.live .sense = true →
    (∀ x v g, (s.hw.etcher n).access = some (.write x v) → s.hw.readErr x = false →
        (∀ w, rival = some w → slot w < slot (.etch n) → False) → g = s.hw.writeReg (.etch n) x v → g.1.vigil = true →
      exec (.accessComplete n rival) s = .next (s.after (g.1.accessFinish n g.2))) ∧
    (∀ x v w, (s.hw.etcher n).access = some (.write x v) → s.hw.readErr x = false → rival = some w →
        slot w < slot (.etch n) → boxKey x = false → mergesWrites x = false → (kindOf (x / 256)).isSome = true →
        (s.hw.collide x w (.etch n)).vigil = true →
      exec (.accessComplete n rival) s = .next (s.after ((s.hw.collide x w (.etch n)).accessFinish n false))) ∧
    (∀ x v, (s.hw.etcher n).access = some (.write x v) → s.hw.readErr x = true → s.hw.vigil = true →
      exec (.accessComplete n rival) s = .next (s.after (s.hw.accessFinish n true))) ∧
    (∀ x c, (s.hw.etcher n).access = some (.read x c) → s.hw.readErr x = true → (s.hw.etcher n).stopping = false →
        s.hw.vigil = true →
      exec (.accessComplete n rival) s = .next (s.after ((s.hw.setCtr n c 0).accessFinish n true))) ∧
    (∀ x c v g, (s.hw.etcher n).access = some (.read x c) → s.hw.readBus (.etch n) x = (some v, g) →
        (g.etcher n).stopping = false → g.vigil = true →
      exec (.accessComplete n rival) s = .next (s.after ((g.setCtr n c v).accessFinish n false))) ∧
    (∀ mb hdr data, (s.hw.etcher n).access = some (.post mb hdr data) →
      (∀ w, rival = some w → slot w < slot (.etch n) → s.hw.vigil = true →
        exec (.accessComplete n rival) s = .next (s.after (s.hw.accessFinish n true))) ∧
      ((∀ w, rival = some w → ¬ slot w < slot (.etch n)) → ∀ g, g = s.hw.boxCommit (8 + n.val) mb (fld hdr 7 4) data →
        g.1.vigil = true → exec (.accessComplete n rival) s = .next (s.after (g.1.accessFinish n g.2)))) ∧
    ∀ (h : Hw) (err : Bool),
      (∀ k, (h.accessFinish n err).etcher k = if k = n then (h.accessFinish n err).etcher n else h.etcher k) ∧
      ((h.accessFinish n err).etcher n).access = none ∧ ((h.accessFinish n err).etcher n).stopping = false ∧
      ((h.accessFinish n err).etcher n).pend = none ∧
      (err = true → (h.accessFinish n err).reg (R.ETCH_R n 5) = wd (1 * 4096 + h.etchPc n)) ∧
      (∀ a, (h.etcher n).pend = some a → ((h.accessFinish n err).etcher n).st = .run ∧
        ((h.accessFinish n err).etcher n).pc = a) ∧
      ((h.etcher n).pend = none → (h.etcher n).stopping = true → ((h.accessFinish n err).etcher n).st = .idle) ∧
      ((h.etcher n).pend = none → (h.etcher n).stopping = false →
        (err = true → h.b (R.ETCH_R n 0) 14 = true → ((h.accessFinish n err).etcher n).st = .idle) ∧
        (err = false ∨ h.b (R.ETCH_R n 0) 14 = false → ((h.accessFinish n err).etcher n).st = .run ∧
          ((h.accessFinish n err).etcher n).pc = BitVec.ofNat 10 (h.etchPc n + 1) ∧
          ((h.accessFinish n err).etcher n).c = (h.etcher n).c)))

/-- Errors that halt (R302, R317, R323): an illegal word is error 2, and a fetch outside the region is error 3, whichever
instruction the command names; the PC, the level and the counters stay but for the bound events. An instruction that sends
the PC out of the region itself raises nothing. Starts and stops by register (R297 to R301): CMDn and GO act on the named
Etchers; a start out of draft, enabled and with its entry in the region sets PC, expires the timers and removes the
bindings; a rejected one sets REJ; a start during STALL is latched; a stop makes a running Etcher IDLE with HALTn and
marks one in STALL; AUTORUN starts at ENTRY. Under the conditions of its clauses each of these commands completes: JMP,
ILLEGAL_INSTRUCTION, ETCH_CMD_START, ETCH_CMD_STOP, ETCH_GO_START, ETCH_GO_STOP, AUTORUN. -/
def Obligations.EtcherStartsStopsAndErrors : Prop :=
  (∀ (s : State) (n : Fin 8) (e : Etcher) (page : Bool) (kicks : BitVec 8), s.hw.etcher n = e → s.hw.etchRuns n = true →
    (∀ i : Instr,
      (i = .illegalInstruction n ∧ s.hw.etchFetch n = none) ∨
        (i ∈ [Instr.halt n, .waitEv n, .waitState n, .waitTimer n, .waitSample n, .waitCount n, .nop n, .pulse n, .set n,
            .clr n, .tgl n, .actReg n, .actMbx n, .kickStart n page kicks, .kickStop n page kicks, .jmp n, .branchEv n,
            .branchState n, .branchCnt n, .branchTimer n, .branchSample n, .inc n, .dec n, .add n, .bind n, .ldi n,
            .ldt0 n, .ldt1 n, .ldr n, .lds n] ∧ s.hw.inRegion n (s.hw.etchPc n) = false) →
      ∃ g : Hw, exec i s = .next (s.after g) ∧ (g.etcher n).st = .idle ∧ (g.etcher n).pc = e.pc ∧
        (g.etcher n).level = e.level ∧ (g.etcher n).c = e.paid.c ∧ g.b R.ETCH_IFLAG (8 + n) = true ∧
        g.b R.ETCH_IFLAG n = true ∧
        g.reg (R.ETCH_R n 5) =
          wd ((if s.hw.inRegion n (s.hw.etchPc n) = true then 2 else 3) * 4096 + s.hw.etchPc n)) ∧
    (∀ a : Nat, a < 1024 → s.hw.inRegion n a = false → s.hw.etchFetch n = some (.branch .always (BitVec.ofNat 10 a)) →
      ∃ g : Hw, exec (.jmp n) s = .next (s.after g) ∧ (g.etcher n).st = .run ∧ (g.etcher n).pc = BitVec.ofNat 10 a ∧
        g.fetchFails n = true ∧ g.regs = s.hw.regs)) ∧
  (∀ (s : State) (p : Party),
    (∀ n : Fin 8, s.hw.accepts p (R.ETCH_R n 3) 1 →
      exec (.etchCmdStart p n) s = .next (s.after (s.hw.etchStart n (s.hw.etchEntry n)))) ∧
    (∀ n : Fin 8, s.hw.accepts p (R.ETCH_R n 3) 2 → exec (.etchCmdStop p n) s = .next (s.after (s.hw.etchStop n))) ∧
    (∀ m : BitVec 8, s.hw.accepts p R.ETCH_GO (m.setWidth 16) →
      exec (.etchGoStart p m) s = .next (s.after ((List.finRange 8).foldl
        (fun g (n : Fin 8) => if m.getLsbD n then g.etchStart n (g.etchEntry n) else g) s.hw))) ∧
    (∀ m : BitVec 8, s.hw.accepts p R.ETCH_GO (m.setWidth 16 <<< 8) →
      exec (.etchGoStop p m) s = .next (s.after ((List.finRange 8).foldl
        (fun g (n : Fin 8) => if m.getLsbD n then g.etchStop n else g) s.hw))) ∧
    (s.hw.autoDue = true → s.hw.live .sense = true →
      exec .autorun s = .next (s.after { s.hw with autoDue := false }.autorun)) ∧
    ∀ (h : Hw) (n : Fin 8) (a : Nat), h.live .sense = true →
      (h.startRejected n a = true → h.etchStart n a = h.setReg R.ETCH_STAT (h.reg R.ETCH_STAT ||| 0x0800)) ∧
      (h.startRejected n a = false → (h.etcher n).st = .stall →
        h.etchStart n a = h.setEtcher n { h.etcher n with pend := some (BitVec.ofNat 10 a) }) ∧
      (h.startRejected n a = false → (h.etcher n).st ≠ .stall → h.etchStart n a = h.setEtcher n { h.etcher n with
        pc := BitVec.ofNat 10 a, st := .run, stopping := false, pend := none, access := none
        it := (h.etcher n).it.map fun t => { t with val := 0, expired := true, counting := false, presc := 0 }
        bind := Vector.replicate 4 none, seen := h.fabric, seenSample := h.newSample }) ∧
      (h.startRejected n a = true ↔ h.pwr.draft = true ∨ h.enabled 0x16 = false ∨ h.isStopping 0x16 = true ∨
        h.etchHi n < h.etchLo n ∨ a < h.etchLo n ∨ h.etchHi n < a) ∧
      ((h.etcher n).st = .stall → h.etchStop n = h.setEtcher n { h.etcher n with stopping := true, pend := none }) ∧
      ((h.etcher n).st = .run ∨ (h.etcher n).st = .wait → h.etchStop n = (h.setEtcher n { (h.etcher n).paid with
        st := .idle, stopping := false, pend := none, access := none
        it := (h.etcher n).it.map fun t => { t with counting := false } }).raise 0x16 n))

/-- The EPROG window (R319, R320): an address write and two halves write one program word, unless it lies in the region of
an Etcher that is not IDLE, which sets WREJ and its address; either way the address advances; two reads give the halves of
the word latched by the first. Under the conditions of its clauses each of these commands completes: EPROG_ADDR_WRITE,
EPROG_STREAM_WRITE, EPROG_STREAM_READ. -/
def Obligations.EprogWindowMovesWords : Prop :=
  ∀ (s : State) (p : Party) (i : Fin 3), eprogSlot p = some i →
    (∀ v, s.hw.accepts p R.EPROG_ADDR v → exec (.eprogAddrWrite p v) s = .next (s.after { s.hw with
      eprog := s.hw.eprog.set i { s.hw.eprog[i] with addr := v.setWidth 10, half := .empty } })) ∧
    (∀ v, s.hw.accepts p R.EPROG_STREAM v → s.hw.eprog[i].half ≠ .highWritten →
      exec (.eprogStreamWrite p v) s = .next (s.after { s.hw with
        eprog := s.hw.eprog.set i { s.hw.eprog[i] with hold := v, half := .highWritten } })) ∧
    (∀ v w, s.hw.accepts p R.EPROG_STREAM v → s.hw.eprog[i] = w → w.half = .highWritten →
      (s.hw.progHeld w.addr.toNat = false → exec (.eprogStreamWrite p v) s = .next (s.after { s.hw with
        prog := Cells.put (fun _ => 0) s.hw.prog w.addr.toNat (w.hold ++ v)
        eprog := s.hw.eprog.set i { w with addr := w.addr + 1, half := .empty } })) ∧
      (s.hw.progHeld w.addr.toNat = true → exec (.eprogStreamWrite p v) s = .next (s.after
        { (s.hw.setReg R.EPROG_WREJADDR (w.addr.setWidth 16)).raise 0x17 0 with
          eprog := s.hw.eprog.set i { w with addr := w.addr + 1, half := .empty } }))) ∧
    (s.hw.partyUp p = true → s.hw.pageUp 0x17 = true → ∀ w, s.hw.eprog[i] = w →
      (w.half ≠ .highRead → exec (.eprogStreamRead p) s = .next (s.after { s.hw with
          eprog := s.hw.eprog.set i { w with latched := s.hw.progWord w.addr.toNat, half := .highRead } }) ∧
        (s.hw.streamRead p).1 = ((s.hw.progWord w.addr.toNat) >>> 16).setWidth 16) ∧
      (w.half = .highRead → exec (.eprogStreamRead p) s = .next (s.after { s.hw with
          eprog := s.hw.eprog.set i { w with addr := w.addr + 1, half := .empty } }) ∧
        (s.hw.streamRead p).1 = w.latched.setWidth 16)) ∧
    ∀ (h : Hw) (a hi lo : Word), h.progHeld (a.toNat % 1024) = false →
      (((h.eprogAddr p a).streamWrite p hi).streamWrite p lo).progWord (a.toNat % 1024) = hi ++ lo ∧
      ∀ b, b ≠ a.toNat % 1024 → (((h.eprogAddr p a).streamWrite p hi).streamWrite p lo).progWord b = h.progWord b

/-! ### The buffer and the stream -/

/-- The buffer's writer (R329, R335, R336, R341, R343 to R346): an enable empties the buffer and both ports, and so does
an arm; a trigger while ARMING or ARMED sends a marker with TRIG to the queue of 16, drops it when the queue is full, and
ends in TRIGGERED; it is SHORT from ARMING, or in the E-cycle in which ARMING ended; in FIFO mode a record is written
whole when 12 words stay free after it and none was dropped before, with the next SEQ, and is otherwise dropped and
counted; in ring mode a port leaves the overwritten words with a gap record of cause 5. Where the rules leave a reading
open, it follows the model's (log entries 16, 64, 104, 105, 106). Under the conditions of its clauses each of these
commands completes: BUF_ENABLE, BUF_ARM, BUF_TRIG. -/
def Obligations.BufferWriterFollowsMode : Prop :=
  (∀ (s : State) (p : Party) (v : Word), s.hw.partyUp p = true → s.hw.pageUp 0x12 = true → s.hw.isStopping 0x12 = false →
    (v &&& 6 = 0 → s.hw.enabled 0x12 = false →
      ∃ g : Hw, exec (.bufEnable p v) s = .next (s.after g) ∧ g.enabled 0x12 = true ∧
        g.buf = { Buf.init with
          seq := s.hw.buf.seq, lastT := s.hw.buf.lastT, since := s.hw.buf.since
          snap := if s.hw.bufMode = 2 then (if s.hw.f R.BUF_PRE 12 0 = 0 then .armed else .arming) else .none } ∧
        g = { s.hw with regs := g.regs, buf := g.buf } ∧ ∀ a, a ≠ R.BUF_CTRL → g.reg a = s.hw.reg a) ∧
    (v &&& 5 = 1 → s.hw.enabled 0x12 = true →
      ∃ g : Hw, exec (.bufArm p v) s = .next (s.after g) ∧
        (s.hw.bufMode = 2 → g.buf = { s.hw.buf with
          recs := [], wp := 0, portA := RdPort.at 0, portB := RdPort.at 0, dropped := 0, fresh := false, short := false
          retained := false, post := 0, trigPos := none
          snap := if s.hw.f R.BUF_PRE 12 0 = 0 then .armed else .arming }) ∧
        (s.hw.bufMode ≠ 2 → g.buf = s.hw.buf) ∧
        g = { s.hw with regs := g.regs, buf := g.buf } ∧ ∀ a, a ≠ R.BUF_CTRL → g.reg a = s.hw.reg a) ∧
    (v &&& 3 = 1 → s.hw.enabled 0x12 = true →
      ∃ g : Hw, exec (.bufTrig p v) s = .next (s.after g) ∧
        (s.hw.snapWaits = false ∨ s.hw.bufWrites = false → g.buf = s.hw.buf) ∧
        (s.hw.snapWaits = true → s.hw.bufWrites = true →
          g.buf.short = (s.hw.buf.short || s.hw.buf.snap == .arming || s.hw.buf.fresh) ∧
          (s.hw.buf.marks.length < 16 → g.buf.snap = .triggered ∧ g.buf.trigPos = none ∧ g.buf.post = 0 ∧
            ∃ m : Mark, g.buf.marks = s.hw.buf.marks ++ [m] ∧ m.trig = true ∧ m.ev = 0x3F ∧
              m.index = s.hw.buf.ref.getD 0xFFF) ∧
          (16 ≤ s.hw.buf.marks.length → g.buf.marks = s.hw.buf.marks ∧ g.b R.BUF_IFLAG 6 = true ∧
            g.buf.snap = (if s.hw.f R.BUF_POST 12 0 = 0 then .complete else .triggered))))) ∧
  (∀ h : Hw, ∀ m l, h.buf.marks = m :: l → h.markOut.buf.marks = l) ∧
  (∀ (h : Hw) (q : RdPort),
    (h.buf.wp - bufCap ≤ q.ptr → h.overrun q = (0, q)) ∧
    (q.ptr < h.buf.wp - bufCap → h.buf.wp - bufCap ≤ (h.overrun q).2.ptr ∧
      (h.overrun q).2.ptr = q.ptr + (h.overrun q).1 ∧
      ∃ lost, ((h.overrun q).2.inject.drop ((h.overrun q).2.inject.length - 3)) = portGap h.pwr.draft 5 lost)) ∧
  ∀ (h : Hw) (d : Draft), h.bufWrites = true → h.bufMode = 0 → h.buf.snap = .none → h.buf.portA.ptr ≤ h.buf.wp →
    (h.buf.dropped ≠ 0 ∨ h.fifoFree < d.body.length + 13 →
      (h.writeRecord d).buf = { h.buf with dropped := h.buf.dropped + 1 } ∧
      (h.writeRecord d).reg R.BUF_DROPCNT = wd (min 0xFFFF ((h.reg R.BUF_DROPCNT).toNat + 1)) ∧
      (h.writeRecord d).b R.BUF_IFLAG 3 = true) ∧
    (h.buf.dropped = 0 → d.body.length + 13 ≤ h.fifoFree →
      (h.writeRecord d).buf.wp = h.buf.wp + (d.body.length + 1) ∧ (h.writeRecord d).buf.seq = (h.buf.seq + 1) % 8 ∧
      (h.writeRecord d).buf.recs.getLast? = some (Rcd.mk h.buf.wp
        (tagWord d.typ (d.body.length + 1) d.qual h.pwr.draft d.warm d.blend h.buf.seq :: d.body)) ∧
      (h.writeRecord d).buf.portA = h.buf.portA ∧ (h.writeRecord d).buf.portB = h.buf.portB ∧
      (h.writeRecord d).regs = h.regs)

/-- The read ports and the configuration (R340, R349, R351): only the owner of port A takes words, one by one, 0xF000 when
there is none and 0x0000 for every other party; a flush and a change of SINK bring a port to the end of the data; the
codes 3, a configuration while the buffer runs and PRE + POST above 8192 are rejected with CFGREJ. The stream port and the
datagrams (R354 to R357, R359): a frame is a sync word, a header, 61 payload words and the CRC of words 1 to 62, filled up
with 0xF000, sent MSB first on one lane or two bits a period on two; the port starts at frame 0, with a gap record when
port B stands inside a record, and a stopping port halts after its frame; a datagram goes out with DGWORDS words or at its
timeout and takes the next DSEQ. Where the rules leave a reading open, it follows the model's (log entries 14, 45). Under
the conditions of its clauses each of these commands completes: REGISTER_WRITE, ADATA_READ, ACFG_FLUSH, BCFG_FLUSH,
SINK_WRITE, STRM_ENABLE, STRM_FRAME, STREAM_DATAGRAM, DGTMO. -/
def Obligations.BufferPortsAndStream : Prop :=
  ((∀ (s : State) (p : Party), s.hw.partyUp p = true → s.hw.pageUp 0x12 = true →
    exec (.adataRead p) s = .next (s.after (s.hw.adataRead p).2) ∧
    (∀ v, s.hw.accepts p R.BUF_ACFG (v ||| 0x8000) →
      (fld v 1 0 = 3 → exec (.acfgFlush p v) s = .next (s.after (s.hw.raise 0x12 7))) ∧
      (fld v 1 0 ≠ 3 → exec (.acfgFlush p v) s = .next (s.after { s.hw.setReg R.BUF_ACFG (v &&& 3) with
        buf := { s.hw.buf with portA := RdPort.at s.hw.buf.wp } }))) ∧
    (∀ v, s.hw.accepts p R.BUF_BCFG (v ||| 0x8000) →
      (fld v 1 0 = 3 → exec (.bcfgFlush p v) s = .next (s.after (s.hw.raise 0x12 7))) ∧
      (fld v 1 0 = s.hw.f R.BUF_BCFG 1 0 → fld v 1 0 ≠ 3 →
        exec (.bcfgFlush p v) s = .next (s.after { s.hw.setReg R.BUF_BCFG (v &&& 3) with
          buf := { s.hw.buf with portB := RdPort.at s.hw.buf.wp } }))) ∧
    ∀ v, s.hw.accepts p R.BUF_BCFG (v &&& 0x7FFF) →
      (fld v 1 0 = 3 → exec (.sinkWrite p v) s = .next (s.after (s.hw.raise 0x12 7))) ∧
      (fld v 1 0 = s.hw.f R.BUF_BCFG 1 0 → fld v 1 0 ≠ 3 →
        exec (.sinkWrite p v) s = .next (s.after (s.hw.setReg R.BUF_BCFG (v &&& 3)))) ∧
      (fld v 1 0 ≠ s.hw.f R.BUF_BCFG 1 0 → fld v 1 0 ≠ 3 →
        exec (.sinkWrite p v) s = .next (s.after { s.hw.setReg R.BUF_BCFG (v &&& 3) with
          buf := { s.hw.buf with portB := RdPort.at s.hw.buf.wp }
          strm := { s.hw.strm with
            dg := [], dgFirst := none, dseq := if fld v 1 0 = 1 then 0 else s.hw.strm.dseq } }))) ∧
  (∀ (h : Hw) (p : Party),
    (h.f R.BUF_ACFG 1 0 ≠ relWho p → h.adataRead p = (0, h)) ∧
    (h.f R.BUF_ACFG 1 0 = relWho p → h.portLevel h.buf.portA = 0 → h.buf.portA.inject = [] →
      h.adataRead p = (0xF000, h)) ∧
    (h.f R.BUF_ACFG 1 0 = relWho p → ∀ w q, h.portNext h.buf.portA = some (w, q) →
      h.adataRead p = (w, { h with buf := { h.buf with portA := q } }) ∧
      (h.portsOpen = true → h.buf.portA.inject.length + (h.buf.wp - h.buf.portA.ptr) ≤ bufCap → h.portLevel q + 1 = h.portLevel h.buf.portA))) ∧
  ∀ (s : State) (p : Party) (a m : Nat) (v : Word),
    (a, m) ∈ [(R.BUF_CFG, 0x0033), (R.BUF_SEL, 0x0007), (R.BUF_PRE, 0x1FFF), (R.BUF_POST, 0x1FFF)] → s.hw.accepts p a v →
    ∀ pre post, pre = (if a = R.BUF_PRE then fld v 12 0 else s.hw.f R.BUF_PRE 12 0) →
      post = (if a = R.BUF_POST then fld v 12 0 else s.hw.f R.BUF_POST 12 0) →
    ((s.hw.enabled 0x12 = true ∨ s.hw.isStopping 0x12 = true ∨ 8192 < pre + post ∨ (a = R.BUF_CFG ∧ fld v 1 0 = 3)) →
      exec (.registerWrite (BitVec.ofNat 16 a) [(p, v)] Tie.none) s = .next (s.after (s.hw.raise 0x12 7))) ∧
    (¬ (s.hw.enabled 0x12 = true ∨ s.hw.isStopping 0x12 = true ∨ 8192 < pre + post ∨ (a = R.BUF_CFG ∧ fld v 1 0 = 3)) →
      exec (.registerWrite (BitVec.ofNat 16 a) [(p, v)] Tie.none) s = .next (s.after (s.hw.setReg a (v &&& wd m))))) ∧
  ((∀ s : State,
    (∀ p v, s.hw.partyUp p = true → s.hw.pageUp 0x13 = true → s.hw.isStopping 0x13 = false → s.hw.enabled 0x13 = false →
      ∃ g : Hw, exec (.strmEnable p v) s = .next (s.after g) ∧ g.enabled 0x13 = true ∧
        g.strm = { s.hw.strm with active := true, fcnt := 0 } ∧
        ∀ q, q = s.hw.buf.portB →
          ((q.inject = [] ∧ q.left = 0) ∨ q.inject.length = 3 → g.buf = s.hw.buf) ∧
          (¬ ((q.inject = [] ∧ q.left = 0) ∨ q.inject.length = 3) → g.b R.STRM_IFLAG 0 = true ∧
            g.buf.portB = { ptr := q.ptr + q.left, left := 0, inject := portGap s.hw.pwr.draft 7 (q.inject.length + q.left) })) ∧
    (s.hw.strm.active = true → s.hw.live .sense = true →
      ∃ g : Hw, exec .strmFrame s = .next (s.after g) ∧ g.strm.frame.length = 64 ∧ wordOf g.strm.frame 0 = 0x9E37 ∧
        wordOf g.strm.frame 1 &&& 0x03FF = wd (s.hw.strm.fcnt % 1024) ∧
        g.strm.lanes = g.strm.frame.flatMap (laneWord (s.hw.b R.STRM_CFG 4)) ∧
        (g.strm.frame.drop 2).take 61 = s.hw.strmPayload.1.map Prod.fst ∧
        wordOf g.strm.frame 63 = crc16 ((g.strm.frame.drop 1).take 62) ∧
        g.reg R.STRM_FCNT = wd (s.hw.strm.fcnt % 1024) ∧
        (s.hw.isStopping 0x13 = false → g.strm.active = true ∧ g.strm.fcnt = (s.hw.strm.fcnt + 1) % 1024) ∧
        (s.hw.isStopping 0x13 = true → s.hw.pendEn.contains 0x13 = false →
          g.strm.active = false ∧ g.isStopping 0x13 = false)) ∧
    (s.hw.sink = 1 → s.hw.up .core = true → s.hw.up .net = true →
      (s.hw.strm.dg ≠ [] → ∃ g : Hw, exec .dgtmo s = .next (s.after g) ∧ g = s.hw.strmSend.strmCollect ∧
        g.reg R.STRM_DGSEQ = s.hw.strm.dseq ∧ g.strm.dseq = s.hw.strm.dseq + 1) ∧
      (s.hw.strm.dg = [] → exec .dgtmo s = .next (s.after s.hw)) ∧
      (s.hw.strmCollect.strm.dg ≠ [] → (s.hw.reg R.STRM_DGWORDS).toNat ≤ s.hw.strmCollect.strm.dg.length →
        ∃ g : Hw, exec .streamDatagram s = .next (s.after g) ∧ g = s.hw.strmCollect.strmSend.strmCollect ∧
          g.reg R.STRM_DGSEQ = s.hw.strm.dseq ∧ g.strm.dseq = s.hw.strm.dseq + 1) ∧
      (s.hw.strmCollect.strm.dg.length < (s.hw.reg R.STRM_DGWORDS).toNat →
        exec .streamDatagram s = .next (s.after s.hw.strmCollect))) ∧
    (s.hw.sink ≠ 1 → exec .dgtmo s = .next (s.after s.hw) ∧ exec .streamDatagram s = .next (s.after s.hw)) ∧
    ∀ p v, s.hw.accepts p R.STRM_DGWORDS v →
      (fld v 9 0 < 16 ∨ 720 < fld v 9 0 →
        exec (.registerWrite (BitVec.ofNat 16 R.STRM_DGWORDS) [(p, v)] Tie.none) s = .next (s.after (s.hw.raise 0x13 1))) ∧
      (16 ≤ fld v 9 0 → fld v 9 0 ≤ 720 →
        exec (.registerWrite (BitVec.ofNat 16 R.STRM_DGWORDS) [(p, v)] Tie.none) s = .next (s.after
          (s.hw.setReg R.STRM_DGWORDS (v &&& 0x03FF))))) ∧
  (∀ (w : Word) (k : Nat),
    (laneWord false w).length = 16 ∧ (laneWord true w).length = 8 ∧
    (k < 16 → (laneWord false w)[k]? = some (BitVec.ofBool false ++ BitVec.ofBool (w.getLsbD (15 - k)))) ∧
    (k < 8 → (laneWord true w)[k]? =
      some (BitVec.ofBool (w.getLsbD (15 - 2 * k)) ++ BitVec.ofBool (w.getLsbD (14 - 2 * k))))) ∧
  ∀ h : Hw,
    h.strmPayload.1.length = 61 ∧
    (h.sink ≠ 2 → h.strmPayload = (List.replicate 61 (0xF000, true), h)) ∧
    h.strmSend.reg R.STRM_DGSEQ = h.strm.dseq ∧ h.strmSend.strm.dg = [] ∧ h.strmSend.strm.dseq = h.strm.dseq + 1)

/-! ### The timers -/

/-- Counting (R165, R365 to R370, R376): up mode counts 0 to TOP and wraps, symmetric mode counts up to TOP and down to 0;
a count above TOP goes up to 0xFFFFFFFF, or down toward TOP; a wrap sets its flag and takes the held TOP; a compare
channel whose value the count now is sets its flag; only every (PSC + 1)-th tick counts; the other timers stay; a slave
reset beats a count of its edge. Where the rules leave a reading open, it follows the model's (log entry 60). Under the
conditions of its clauses each of these commands completes: MICROSECOND_TICK, TIMER_COUNT, TIMER_SLAVE_CLOCK. -/
def Obligations.TimersCountWrapAndMatch : Prop :=
  (∀ (t : Timer) (k : Nat), t.cnt = 0 → t.down = false → t.top ≤ 0xFFFFFFFF →
    (k ≤ t.top → (timLap false k t).cnt = k) ∧ (timLap false (t.top + 1) t).cnt = 0 ∧
    (0 < t.top → (k ≤ t.top → (timLap true k t).cnt = k) ∧
      (t.top ≤ k → k ≤ 2 * t.top → (timLap true k t).cnt = 2 * t.top - k) ∧
      (timLap true (2 * t.top) t).down = false) ∧
    (t.top = 0 → timNext t true = (0, false, true))) ∧
  (∀ t : Timer, t.top < t.cnt →
    (t.cnt < 0xFFFFFFFF → timNext t false = (t.cnt + 1, false, false)) ∧
    (t.cnt = 0xFFFFFFFF → timNext t false = (0, false, true)) ∧
    (0 < t.top → timNext t true = (t.cnt - 1, true, false))) ∧
  (∀ (s : State) (n : Fin 6), s.hw.timTicks n = true → ∀ r, r = timNext (s.hw.timOf n) (s.hw.timSym n) →
    ∀ counted : Hw → Prop, (counted = fun g =>
      (g.timOf n).cnt = r.1 ∧ (g.timOf n).psc = 0 ∧
      (r.2.2 = true → g.b (R.TM_IFLAG n) 0 = true ∧ (g.timOf n).topHeld = none ∧
        (g.timOf n).top = (s.hw.timOf n).topHeld.getD (s.hw.timOf n).top) ∧
      (∀ x : Fin 2, fld (s.hw.timCfg n x) 15 14 = 1 →
        r.1 = (timCh ((if r.2.2 = true then s.hw.timCopy n else s.hw).timOf n) x).act →
        g.b (R.TM_IFLAG n) (1 + x) = true)) →
    (∀ i, (i = Instr.timerCount n ∧ s.hw.timOnT n = true ∧ s.hw.timSlave n ≠ 4) ∨
        (i = Instr.timerSlaveClock n ∧ s.hw.timSlave n = 4 ∧ s.hw.timSlaveEv n = true) →
      ((s.hw.timOf n).psc < (s.hw.reg (R.TM_PSC n)).toNat → exec i s = .next (s.after
        (s.hw.setTim n { s.hw.timOf n with psc := (s.hw.timOf n).psc + 1 }))) ∧
      ((s.hw.reg (R.TM_PSC n)).toNat ≤ (s.hw.timOf n).psc →
        ∃ g : Hw, exec i s = .next (s.after g) ∧ counted g ∧
          (∀ m, m < 6 → m ≠ n.val → g.timOf m = s.hw.timOf m) ∧
          ∀ a, a ≠ R.TM_IFLAG n → a ≠ R.TM_CTRL n → g.reg a = s.hw.reg a)) ∧
    (∀ h : Hw, s.hw.tickDue = some h →
      ∃ g : Hw, exec (.microsecondTick 0) s = .next (s.after g) ∧
        (s.hw.timOnT n = false → s.hw.timSlave n ≠ 4 →
          ((s.hw.timOf n).psc < (s.hw.reg (R.TM_PSC n)).toNat →
            g.timOf n = { s.hw.timOf n with psc := (s.hw.timOf n).psc + 1 }) ∧
          ((s.hw.reg (R.TM_PSC n)).toNat ≤ (s.hw.timOf n).psc → counted g)) ∧
        (s.hw.timOnT n = true ∨ s.hw.timSlave n = 4 → g.timOf n = s.hw.timOf n))) ∧
  (∀ s : State,
    (s.hw.tickDue = none → exec (.microsecondTick 0) s = .next (s.after s.hw)) ∧
    (s.hw.live .time = true → 0 < s.hw.cal.ticks →
      s.hw.tickDue = some { s.hw with cal := { s.hw.cal with ticks := s.hw.cal.ticks - 1 } })) ∧
  ∀ (h : Hw) (n : Fin 6) (tick : Bool), h.timSlaveEv n = true → h.enabled (0x28 + n) = true → h.timSlave n = 1 →
    ((h.timAt n true tick false).timOf n).cnt = 0

/-- Enable, stop and slave actions (R371 to R374): an enable starts from the present count, or waits for the trigger; a
stop holds the count at once, or waits for the wrap with STOPLAP; a slave reset sets the count to 0, a gate pulse toggles
the gate, the first trigger pulse starts the count. Captures and commits (R379, R381 to R383, R386): a capture takes the
count, sets FULL and the flag, and OVR when it was full; a key read clears FULL; a commit of CNT sets the count with
direction up; TOP and a compare value act at once in a stopped timer, are held in a running one, and act at once with
lap-wait; a write to a capture channel is ignored. Where the rules leave a reading open, it follows the model's (log entry
50). Under the conditions of its clauses each of these commands completes: REGISTER_WRITE, TIMER_SLAVE_RESET,
TIMER_SLAVE_GATE, TIMER_SLAVE_TRIGGER, TIMER_CAPTURE, TIMER_CAP_KEY_READ, TIMER_ENABLE, TIMER_STOP, CNT_COMMIT, CH_COMMIT,
TOP_COMMIT. -/
def Obligations.TimersStartCaptureAndCommit : Prop :=
  (∀ (s : State) (n : Fin 6),
    (∀ p, s.hw.accepts p (R.TM_CTRL n) 1 → s.hw.enabled (0x28 + n) = false → s.hw.isStopping (0x28 + n) = false →
      ∃ g : Hw, exec (.timerEnable p n) s = .next (s.after g) ∧ g.enabled (0x28 + n) = true ∧
        (g.timOf n).cnt = (s.hw.timOf n).cnt ∧ (g.timOf n).running = true ∧ (g.timOf n).down = false ∧
        (g.timOf n).psc = 0 ∧ (g.timOf n).gateOff = false ∧ (g.timOf n).wtrig = decide (s.hw.timSlave n = 3) ∧
        (∀ m, m < 6 → m ≠ n.val → g.timOf m = s.hw.timOf m) ∧ ∀ a, a ≠ R.TM_CTRL n → g.reg a = s.hw.reg a) ∧
    (∀ p, s.hw.accepts p (R.TM_CTRL n) 1 → s.hw.isStopping (0x28 + n) = true →
      ∃ g : Hw, exec (.timerEnable p n) s = .next (s.after g) ∧ g.enabled (0x28 + n) = true ∧
        g.pendEn.contains (0x28 + n.val) = true ∧ g.isStopping (0x28 + n) = true ∧ g.timOf n = s.hw.timOf n) ∧
    (∀ p, s.hw.accepts p (R.TM_CTRL n) 0 → s.hw.isStopping (0x28 + n) = false → (s.hw.timOf n).running = true →
      ∃ g : Hw, exec (.timerStop p n) s = .next (s.after g) ∧ g.enabled (0x28 + n) = false ∧
        ((s.hw.timMode n).getLsbD 8 = false ∨ (s.hw.timOf n).wtrig = true ∨ (s.hw.timOf n).gateOff = true →
          g.timOf n = { s.hw.timOf n with running := false, wtrig := false } ∧
          g.isStopping (0x28 + n) = false) ∧
        ((s.hw.timMode n).getLsbD 8 = true → (s.hw.timOf n).wtrig = false → (s.hw.timOf n).gateOff = false →
          g.timOf n = s.hw.timOf n ∧ g.isStopping (0x28 + n) = true) ∧
        ∀ a, a ≠ R.TM_CTRL n → g.reg a = s.hw.reg a) ∧
    (s.hw.timSlaveEv n = true → s.hw.enabled (0x28 + n) = true →
      (s.hw.timSlave n = 1 → ∃ g : Hw, exec (.timerSlaveReset n) s = .next (s.after g) ∧ (g.timOf n).cnt = 0 ∧
        (g.timOf n).down = false ∧ (g.timOf n).psc = 0 ∧ (g.timOf n).topHeld = none ∧
        (g.timOf n).top = (s.hw.timOf n).topHeld.getD (s.hw.timOf n).top) ∧
      (s.hw.timSlave n = 2 → exec (.timerSlaveGate n) s = .next (s.after
        (s.hw.setTim n { s.hw.timOf n with gateOff := !(s.hw.timOf n).gateOff }))) ∧
      (s.hw.timSlave n = 3 → (s.hw.timOf n).wtrig = true → exec (.timerSlaveTrigger n) s = .next (s.after
        ((s.hw.setTim n { s.hw.timOf n with wtrig := false }).raise (0x28 + n) 6)))) ∧
    (s.hw.timSlave n = 0 ∨ s.hw.enabled (0x28 + n) = false →
      exec (.timerSlaveReset n) s = .next (s.after s.hw) ∧ exec (.timerSlaveGate n) s = .next (s.after s.hw) ∧
      exec (.timerSlaveTrigger n) s = .next (s.after s.hw)) ∧
    ∀ p v a, a ∈ [R.TM_MODE n, R.TM_PSC n, R.TM_SLAVE n, R.TM_CH0CFG n, R.TM_CH1CFG n] → s.hw.accepts p a v →
      s.hw.enabled (0x28 + n) = true ∨ s.hw.isStopping (0x28 + n) = true →
      exec (.registerWrite (BitVec.ofNat 16 a) [(p, v)] Tie.none) s = .next (s.after (s.hw.raise (0x28 + n) 5))) ∧
  (∀ (s : State) (p : Party) (n : Fin 6) (x : Fin 2) (v : Word),
    (∀ rising, s.hw.up .time = true → fld (s.hw.timCfg n x) 15 14 = 2 →
      ((s.hw.timCfg n x).getLsbD 13 = true ∧ s.hw.pinInput (.tm n x) = true ∧
          (s.hw.timCfg n x).getLsbD (if rising = true then 6 else 7) = true) ∨
        ((s.hw.timCfg n x).getLsbD 13 = false ∧ s.hw.live .sense = true ∧
          s.hw.evEnabled (fld (s.hw.timCfg n x) 5 0) = true) →
      ∃ g : Hw, exec (.timerCapture n x rising) s = .next (s.after g) ∧ (timCh (g.timOf n) x).act = (s.hw.timOf n).cnt ∧
        (timCh (g.timOf n) x).full = true ∧ g.b (R.TM_IFLAG n) (1 + x) = true ∧
        g.b (R.TM_IFLAG n) (3 + x) = (s.hw.b (R.TM_IFLAG n) (3 + x) || (timCh (s.hw.timOf n) x).full) ∧
        (g.timOf n).cnt = (s.hw.timOf n).cnt ∧ ∀ a, a ≠ R.TM_IFLAG n → g.reg a = s.hw.reg a) ∧
    (s.hw.partyUp p = true → s.hw.pageUp (0x28 + n) = true →
      ∃ g : Hw, exec (.timerCapKeyRead p n x) s = .next (s.after g) ∧
        (fld (s.hw.timCfg n x) 15 14 = 2 → (timCh (g.timOf n) x).full = false) ∧
        (fld (s.hw.timCfg n x) 15 14 ≠ 2 → g.timOf n = s.hw.timOf n) ∧
        Cells.get (fun _ => none) g.shadows (copyKey p (R.TM_CH0_L n + 2 * x)) =
          some (wordOf (s.hw.timChWords n x) 0) ∧ g.regs = s.hw.regs) ∧
    (s.hw.acceptsKey p (R.TM_CNT_L n) v → ∀ (slaves : BitVec 6) (tick : Bool),
      ∃ g : Hw, exec (.cntCommit p n v slaves tick) s = .next (s.after (g.groupDone p (R.TM_CNT_L n))) ∧
        (g.timOf n).cnt = v.toNat + 65536 * word (s.hw.groupWords p (R.TM_CNT_L n) v) 1 ∧ (g.timOf n).down = false ∧
        (g.timOf n).psc = 0 ∧
        (slaves = 0 → tick = false → (g.timOf n).running = (s.hw.timOf n).running ∧ g.regs = s.hw.regs)) ∧
    (s.hw.acceptsKey p (R.TM_TOP_L n) v →
      ∀ y, y = v.toNat + 65536 * word (s.hw.groupWords p (R.TM_TOP_L n) v) 1 →
      ((s.hw.timOf n).running = true → exec (.topCommit p n v) s = .next (s.after
        ((s.hw.setTim n { s.hw.timOf n with topHeld := some y }).groupDone p (R.TM_TOP_L n)))) ∧
      ((s.hw.timOf n).running = false → exec (.topCommit p n v) s = .next (s.after
        ((s.hw.setTim n { s.hw.timOf n with top := y, topHeld := none }).groupDone p (R.TM_TOP_L n))))) ∧
    (∀ k, k = R.TM_CH0_L n + 2 * x.val → s.hw.acceptsKey p k v →
      ∀ y, y = v.toNat + 65536 * word (s.hw.groupWords p k v) 1 →
      ∃ g : Hw, exec (.chCommit p n x v) s = .next (s.after (g.groupDone p k)) ∧
        (timCh (g.timOf n) x).pre = y ∧ (g.timOf n).cnt = (s.hw.timOf n).cnt ∧ g.regs = s.hw.regs ∧
        ((s.hw.timOf n).running = false → (timCh (g.timOf n) x).act = y) ∧
        ((s.hw.timOf n).running = true → s.hw.timLapWait n x = true →
          (timCh (g.timOf n) x).act = y ∧ (timCh (g.timOf n) x).lw = true) ∧
        ((s.hw.timOf n).running = true → s.hw.timLapWait n x = false →
          (timCh (g.timOf n) x).act = (timCh (s.hw.timOf n) x).act ∧ (timCh (g.timOf n) x).updp = true)) ∧
    (s.hw.partyUp p = true → s.hw.pageUp (0x28 + n) = true → fld (s.hw.timCfg n x) 15 14 = 2 →
      exec (.chCommit p n x v) s = .next (s.after s.hw)))

/-! ### The network -/

/-- Ports and switch (R390 to R394, R409, R410): a faulty frame is counted and flagged, a good one counted; a frame is
never forwarded to its own port, nor a link-local one at all, and reception needs no link; frames depart in strict
priority, a held head letting lower queues go; a port whose link falls drops its event and normal frames and keeps its
alarms; a PTP message held 2 ms is discarded and a datagram leaves with unknown time, or keeps its place marked while the
port is down; a learned address ages out. Where the rules leave a reading open, it follows the model's (log entries 67,
68, 89). Under the conditions of its clauses each of these commands completes: FRAME_RECEIVE, FRAME_DEPART, LINK_POLL,
LEARN_AGE_OUT, HOLD_TIMEOUT. -/
def Obligations.NetPortsReceiveQueueAndSend : Prop :=
  (∀ (s : State) (n : Fin 2),
    (∀ f : Frame, s.hw.live .net = true → s.hw.enabled (0x30 + n) = true →
      (f.good = false ∨ f.len < 64 ∨ 1522 < f.len → exec (.frameReceive n f) s = .next (s.after
        ((s.hw.count (R.MAC_RXERR n)).raise (0x30 + n) 1))) ∧
      (f.good = true → 64 ≤ f.len → f.len ≤ 1522 → s.hw.isRa n f = true →
        exec (.frameReceive n f) s = .next (s.after ((s.hw.frameReceive n f).raRequest (raOf f)))) ∧
      (f.good = true → 64 ≤ f.len → f.len ≤ 1522 → s.hw.isRa n f = false → ∃ g : Hw, exec (.frameReceive n f) s = .next (s.after g) ∧
        g.reg (R.MAC_RXOK n) = wd (min 0xFFFF ((s.hw.reg (R.MAC_RXOK n)).toNat + 1)) ∧
        g.reg (R.MAC_RXERR n) = s.hw.reg (R.MAC_RXERR n))) ∧
    (s.hw.txOn n = true →
      (∀ k f, s.hw.nextFrame n = some (k, f) → ∃ g : Hw, exec (.frameDepart n) s = .next (s.after g) ∧
        g = (s.hw.popQueue n k).transmit n f ∧
        g.reg (R.MAC_TXOK n) = wd (min 0xFFFF ((s.hw.reg (R.MAC_TXOK n)).toNat + 1)) ∧
        (g.netPort n).qAlarm.length + (g.netPort n).qEvent.length + (g.netPort n).qNormal.length + 1 =
          (s.hw.netPort n).qAlarm.length + (s.hw.netPort n).qEvent.length + (s.hw.netPort n).qNormal.length ∧
        (s.hw.padsOn = false → (g.netPort n).sent = none)) ∧
      (s.hw.nextFrame n = none → exec (.frameDepart n) s = .next (s.after s.hw))) ∧
    (∀ up, s.hw.live .net = true → s.hw.b (R.MAC_CFG n) 4 = true → s.hw.clk.nbackup = false →
      ((s.hw.netPort n).link = up → exec (.linkPoll n up) s = .next (s.after s.hw)) ∧
      ((s.hw.netPort n).link ≠ up → ∃ g : Hw, exec (.linkPoll n up) s = .next (s.after g) ∧ (g.netPort n).link = up ∧
        g.b (R.MAC_IFLAG n) 0 = true ∧ g.b R.SWITCH_IFLAG n = true ∧
        (g.netPort n).qAlarm.length = (s.hw.netPort n).qAlarm.length ∧ g.netPort (1 - n) = s.hw.netPort (1 - n) ∧
        (up = false → (g.netPort n).qEvent = [] ∧ (g.netPort n).qNormal = []))) ∧
    (∀ mac, exec (.learnAgeOut mac) s = .next (s.after { s.hw with net := { s.hw.net with
      learned := s.hw.net.learned.filter fun l => l.mac != mac } })) ∧
    (s.hw.live .net = true → s.hw.clk.settled = false →
      (∀ f t, (s.hw.netPort n).qEvent = f :: t → f.op ≠ .none → f.carry = .plain → f.held = false →
        exec (.holdTimeout n false) s = .next (s.after
          (((s.hw.setPort n { s.hw.netPort n with qEvent := t }).count R.TSI_HOLDDROP).raise 0x33 0))) ∧
      (∀ f t, (s.hw.netPort n).qAlarm = f :: t → f.op ≠ .none → f.carry = .alarm → f.held = false →
        ∀ h, h = ((s.hw.setPort n { s.hw.netPort n with qAlarm := { f with held := true } :: t }).count R.TSI_HOLDUNK).raise
          0x33 1 →
        (s.hw.txOn n = false → exec (.holdTimeout n true) s = .next (s.after h)) ∧
        (s.hw.txOn n = true →
          exec (.holdTimeout n true) s = .next (s.after ((h.popQueue n 0).transmit n { f with held := true })))))) ∧
  ∀ (h : Hw) (n : Fin 2) (f : Frame),
    (h.forward n f).netPort n = h.netPort n ∧ (h.b R.SWITCH_FWD 0 = false → (h.route n f).2 = false) ∧
    (f.dst >>> 4 = 0x0180C200000#48 → h.route n f = (true, false)) ∧
    (f.dst = h.ownMac → f.dst >>> 4 ≠ 0x0180C200000#48 → (h.route n f).2 = false) ∧
    ((h.route n f).1 = true → f.tagged = false ∨ f.dst >>> 4 = 0x0180C200000#48 ∨ f.dstIp = 0xE000006B) ∧
    (f.dst.getLsbD 40 = false → f.dst ≠ h.ownMac → f.udp ≠ 319 → f.udp ≠ 320 →
      h.net.learned.any (fun l => l.mac == f.dst && l.port == n.val + 1) = true → h.route n f = (false, false)) ∧
    ∀ k g, h.nextFrame n = some (k, g) → h.mayLeave g = true ∧
      (k = 0 → (h.netPort n).qAlarm.head? = some g) ∧
      (k = 1 → (h.netPort n).qEvent.head? = some g ∧ ∀ x, (h.netPort n).qAlarm.head? = some x → h.mayLeave x = false) ∧
      (k = 2 → (h.netPort n).qNormal.head? = some g ∧ (∀ x, (h.netPort n).qAlarm.head? = some x → h.mayLeave x = false) ∧
        ∀ x, (h.netPort n).qEvent.head? = some x → h.mayLeave x = false)

/-- Services of the network (R289, R390, R404, R406, R408, R412, R414, R416, R421): MDIO, the PTP window, ARP, the alarm
headers, the link delay, the messages of an ordinary clock, and the checks of remote access, in order and without a reply;
an alarm request without a powered NET is counted in ALMLOST, and otherwise takes the next ASEQ. Where the rules leave a
reading open, it follows the model's (log entries 8, 9, 46, 47, 77, 108). Under the conditions of its clauses each of
these commands completes: MDIO_COMMAND, MDIODONE, PTP_LIMIT_WINDOW, ARP_REFRESH, ARPFAIL, ALARM_CONFIG_COMMIT,
REMOTE_ACCESS_REQUEST, PDELAY_EXCHANGE, PTP_MESSAGE_INTERVAL. -/
def Obligations.NetServicesFollowRules : Prop :=
  (∀ s : State,
    (∀ p v, s.hw.accepts p R.SWITCH_MDIOCMD (v ||| 0x8000) → exec (.mdioCommand p v) s = .next (s.after
      { s.hw.setReg R.SWITCH_MDIOCMD (v &&& 0x43FF) with net := { s.hw.net with mdioBusy := true } })) ∧
    (∀ data, s.hw.net.mdioBusy = true → s.hw.live .net = true →
      (s.hw.b R.SWITCH_MDIOCMD 14 = true → exec (.mdiodone data) s = .next (s.after
        ({ s.hw with net := { s.hw.net with mdioBusy := false } }.raise 0x32 2))) ∧
      (s.hw.b R.SWITCH_MDIOCMD 14 = false → exec (.mdiodone data) s = .next (s.after
        (({ s.hw with net := { s.hw.net with mdioBusy := false } }.setReg R.SWITCH_MDIODATA data).raise 0x32 2)))) ∧
    (∃ g : Hw, exec .ptpLimitWindow s = .next (s.after g) ∧ g = { s.hw with net := { s.hw.net with port := g.net.port } } ∧
      ∀ n, g.netPort n = { s.hw.netPort n with ptpCount := 0 }) ∧
    (s.hw.live .net = true →
      (s.hw.reg32 R.IPSVC_ALDST_L = 0 → s.hw.reg32 R.IPSVC_STDST_L = 0 →
        exec .arpRefresh s = .next (s.after s.hw)) ∧
      (s.hw.reg32 R.IPSVC_STDST_L ≠ 0 → ∃ g : Hw, exec .arpRefresh s = .next (s.after g) ∧
        g.net.arpWait.getLsbD 1 = true) ∧
      (s.hw.reg32 R.IPSVC_ALDST_L ≠ 0 → s.hw.alMac = 0 → ∃ g : Hw, exec .arpRefresh s = .next (s.after g) ∧
        g.net.arpWait.getLsbD 0 = true) ∧
      (s.hw.net.arpWait = 0 → exec .arpfail s = .next (s.after s.hw)) ∧
      (s.hw.net.arpWait ≠ 0 → ∃ g : Hw, exec .arpfail s = .next (s.after g) ∧ g.b R.IPSVC_IFLAG 2 = true ∧
        g.net.arpWait = s.hw.net.arpWait)) ∧
    (∀ p v (a : Word), s.hw.acceptsKey p a.toNat v →
      ∀ g, g = s.hw.storeWords a.toNat (s.hw.groupWords p a.toNat v) →
      (a.toNat ∈ [R.IPSVC_IP_L, R.IPSVC_MASK_L, R.IPSVC_GW_L] →
        exec (.alarmConfigCommit p a v) s = .next (s.after (g.hopChanged.groupDone p a.toNat))) ∧
      (a.toNat = R.IPSVC_ALDST_L →
        exec (.alarmConfigCommit p a v) s = .next (s.after (g.alarmDstChanged.groupDone p a.toNat))) ∧
      (a.toNat = R.IPSVC_ALDMAC_L →
        exec (.alarmConfigCommit p a v) s = .next (s.after ((g.arpAsk false).groupDone p a.toNat)))) ∧
    (∀ p v, s.hw.accepts p R.IPSVC_ALPORT v → exec (.alarmConfigCommit p (BitVec.ofNat 16 R.IPSVC_ALPORT) v) s =
      .next (s.after (s.hw.setReg R.IPSVC_ALPORT v))) ∧
    (∀ p v, s.hw.accepts p R.IPSVC_ALCFG v → exec (.alarmConfigCommit p (BitVec.ofNat 16 R.IPSVC_ALCFG) v) s =
      .next (s.after (s.hw.setReg R.IPSVC_ALCFG ((s.hw.reg R.IPSVC_ALCFG &&& 0x7CFF) ||| (v &&& 0x8300))))) ∧
    (∀ n dly, s.hw.up .core = true → s.hw.up .net = true → ∃ g : Hw, exec (.pdelayExchange n dly) s = .next (s.after g) ∧
      g.reg32 (R.MAC_LINKDLY_L n) = dly.toNat ∧ g.b (R.MAC_STAT n) 4 = true ∧ g = { s.hw with regs := g.regs }) ∧
    (∀ m : Fin 4, s.hw.clockRuns m = true → s.hw.up .core = true →
      exec (.ptpMessageInterval m .announce) s = .next (s.after (s.hw.ptpSend m (fld (s.hw.ptpCfg m) 9 8)
        (s.hw.ptpFrame m 11 (s.hw.announceBody m) .none))) ∧
      ((s.hw.ptpCfg m).getLsbD 12 = true → exec (.ptpMessageInterval m .sync) s = .next (s.after
        (s.hw.ptpSend m (fld (s.hw.ptpCfg m) 9 8) (s.hw.ptpFrame m 0 [] .origin)))) ∧
      ((s.hw.ptpCfg m).getLsbD 12 = false → exec (.ptpMessageInterval m .sync) s = .next (s.after s.hw)) ∧
      ((s.hw.ptpCfg m).getLsbD 14 = true → exec (.ptpMessageInterval m .delayReq) s = .next (s.after s.hw)) ∧
      ((s.hw.ptpCfg m).getLsbD 14 = false → exec (.ptpMessageInterval m .delayReq) s = .next (s.after
        (s.hw.ptpSend m (fld (s.hw.ptpCfg m) 9 8) (s.hw.ptpFrame m 1 [] .origin))))) ∧
    ∀ q : RaRequest, s.hw.live .net = true → ∀ slot, slot = (q.body.getD 6 0).toNat / 256 →
      (s.hw.b R.IPSVC_RACFG 15 = false ∨ s.hw.up .core = false →
        exec (.remoteAccessRequest q) s = .next (s.after (s.hw.count R.IPSVC_RADROP))) ∧
      (s.hw.b R.IPSVC_RACFG 15 = true → s.hw.up .core = true →
        ((q.body.drop 2).take 4 ≠ serialWords ∨ 8 ≤ slot ∨ s.hw.b R.IPSVC_RACFG slot = false →
          exec (.remoteAccessRequest q) s = .next (s.after s.hw)) ∧
        ((q.body.drop 2).take 4 = serialWords → slot < 8 → s.hw.b R.IPSVC_RACFG slot = true →
          (s.hw.slotKey slot = none ∨ (∃ k, s.hw.slotKey slot = some k ∧ q.icv ≠ icvOf k q.body) →
            exec (.remoteAccessRequest q) s = .next (s.after ((s.hw.count R.IPSVC_RAAUTH).raise 0x34 1))) ∧
          (∀ k, s.hw.slotKey slot = some k → q.icv = icvOf k q.body →
            (q.body.getD 7 0).toNat * 65536 + (q.body.getD 8 0).toNat ≤ s.hw.net.rseq.toList.getD slot 0 →
            exec (.remoteAccessRequest q) s = .next (s.after (s.hw.count R.IPSVC_RAREPLAY))) ∧
          (∀ k rseq ops r, ∀ i : Fin 8, i.val = slot → s.hw.slotKey slot = some k → q.icv = icvOf k q.body →
            rseq = (q.body.getD 7 0).toNat * 65536 + (q.body.getD 8 0).toNat → s.hw.net.rseq.toList.getD slot 0 < rseq →
            ops = raOps ((q.body.getD 6 0).toNat % 256) (q.body.drop 9) →
            (1472 < 2 * (9 + (ops.map RaOp.words).sum + 8) →
              exec (.remoteAccessRequest q) s = .next (s.after (s.hw.count R.IPSVC_RADROP))) ∧
            (2 * (9 + (ops.map RaOp.words).sum + 8) ≤ 1472 →
              r = raAll ops { s.hw with net := { s.hw.net with rseq := s.hw.net.rseq.set i rseq } } → r.2.vigil = true →
              exec (.remoteAccessRequest q) s = .next (s.after (r.2.raAnswer q k r.1))))))) ∧
  ∀ (h : Hw) (t : Nat),
    h.alarmDstChanged.net.arpAlarm = none ∧ h.hopChanged.net.arpAlarm = none ∧ h.hopChanged.net.arpStream = none ∧
    (h.up .net = false → h.alarmRequest t = (h.count R.REFLEX_ALMLOST).raise 0x15 4) ∧
    (h.up .net = true → (h.alarmRequest t).reg R.IPSVC_ALSEQ = h.reg R.IPSVC_ALSEQ + 1)

/-! ### The gang -/

/-- Election and state of the gang (R446, R448, R451 to R458): a HELLO period and the end of the backoff act only in an
enabled engine, which takes the lowest GID that answers its probes as its leader, or leads; a message of a stopped one is
discarded, a faulty one counted; a HELLO with the own GID sets DUPGID; a member never leads with DUPGID; the state follows
the rows of R457, and a change of it is flagged. Where the rules leave a reading open, it follows the model's (log entries
69, 72). Under the conditions of its clauses each of these commands completes: GANG_BACKOFF_END, HELLO_PERIOD, HELLO,
CWORD_RECOMPUTE. -/
def Obligations.GangElectsAndEvaluatesState : Prop :=
  (∀ (s : State) (acks : BitVec 16),
    (∀ (b : Bool) (h : Hw), s.hw.gangOn = true → s.hw.gang.backoff = b →
        h = (if b = true then ({ s.hw with gang := { s.hw.gang with backoff := false } }.probe acks).helloSend acks
          else ((s.hw.probe acks).helloSend acks).gangAge) →
      ∃ g : Hw, exec (if b = true then .gangBackoffEnd acks else .helloPeriod acks) s = .next (s.after g) ∧
        g = h.gangEval ∧ g.gang.backoff = false ∧
        (∀ k, k < min s.hw.gid (s.hw.gang.leader.getD 16) → acks.getLsbD k = true → (s.hw.peer k).excl = 0 →
          (∀ j, j < k → ¬ (acks.getLsbD j = true ∧ (s.hw.peer j).excl = 0)) → g.gang.leader = some k) ∧
        ((∀ k, k < s.hw.gid → ¬ (acks.getLsbD k = true ∧ (s.hw.peer k).excl = 0)) → s.hw.gang.leader = none →
          s.hw.gang.dup = false → g.gang.leader = some s.hw.gid)) ∧
    (s.hw.gangOn = false →
      exec (.gangBackoffEnd acks) s = .next (s.after s.hw) ∧ exec (.helloPeriod acks) s = .next (s.after s.hw)) ∧
    (∀ m : Hello, s.hw.vigil = true →
      (s.hw.gangOn = false → ∀ rx, exec (.hello rx m) s = .next (s.after (s.hw.raise 0x3A 14))) ∧
      (s.hw.gangOn = true → (∀ rx, rx ≠ .whole → exec (.hello rx m) s = .next (s.after
          ((s.hw.count R.GANG_RXERRCNT).raise 0x3A 14))) ∧
        (m.snd.val = s.hw.gid → ∃ g : Hw, exec (.hello .whole m) s = .next (s.after g) ∧ g.gang.dup = true ∧
          g.gang.leader ≠ some s.hw.gid) ∧
        (m.snd.val ≠ s.hw.gid → m.dup = false → m.dser = 0 → s.hw.gang.leader = some m.snd.val →
          ∃ g : Hw, exec (.hello .whole m) s = .next (s.after g) ∧ g.gang.leader = some m.snd.val ∧
            g.gang.leaderMiss = 0 ∧ g.gang.lcword = m.cword ∧ g.gang.heardRoster = m.roster ∧
            g.gang.leaderFrozen = m.frozen ∧ (g.peer m.snd.val).heard = some 0))) ∧
    (s.hw.vigil = true → s.hw.frozen = false → exec .cwordRecompute s = .next (s.after
      { s.hw with gang := { s.hw.gang with cword := s.hw.cwordNow } })) ∧
    (s.hw.frozen = true → exec .cwordRecompute s = .next (s.after s.hw))) ∧
  ∀ h : Hw,
    h.gangEval.gang.st = h.gangNext.1 ∧
    (h.vigil = true → h.gangEval.gang.st ≠ h.gang.st → h.gangEval.b R.GANG_IFLAG 0 = true) ∧
    (h.gang.leader = none → h.gangNext = (.alone, false)) ∧
    (h.gang.leader ≠ none → h.leads = false → h.gang.dup = true → h.gangNext.1 = .dissent) ∧
    (h.gang.leader ≠ none → h.leads = false → h.gang.dup = false → h.gang.tdiss = false → h.gang.leaderHello = true →
      h.frozen = false → h.gang.leaderFrozen = false →
      (h.gang.cword = h.gang.lcword → h.gangNext = (.concord, false)) ∧
      (h.gang.cword ≠ h.gang.lcword → h.pwr.draft = true → h.gangNext = (.joining, false)) ∧
      (h.gang.cword ≠ h.gang.lcword → h.pwr.draft = false → h.gangNext = (.dissent, true)))

/-- Solstice, time check, EPOCH and relay (R46, R461 to R473): SOLREQ proposes, or names the first failed condition in
WHY; a PROPOSE is accepted or answered with a VETO; a VETO cancels before the commit and wakes after it, and a WAKE always
wakes; the commit requests TIME only; a TCHK within 50 ms of the capture stores the difference and sets TDISS beyond the
tolerance; EPOCH is driven by a leader in CONCORD; a RELAY goes to its mailbox. Where the rules leave a reading open, it
follows the model's (log entries 49, 68, 71, 107). Under the conditions of its clauses each of these commands completes:
TCHK, PROPOSE, VETO, WAKE, RELAY, MSGLOST, EPGO, EPDRV, EPOCH_RELEASE, SOLREQ, SOLCOMMIT, GANG_WAKE, RLYCTL_GO, RLYDONE. -/
def Obligations.GangSolsticeTimeCheckAndRelay : Prop :=
  ∀ s : State, s.hw.vigil = true →
    (∀ p v, s.hw.partyUp p = true → s.hw.locked 0x3A = false → s.hw.enabled 0x3A = true → s.hw.isStopping 0x3A = false →
      v &&& 0x0015 = 1 →
      (∀ w, s.hw.solWhy = some w → exec (.solreq p v) s = .next (s.after ((s.hw.setF R.GANG_SOLID 11 8 w).raise 0x3A 8))) ∧
      (s.hw.solWhy = none → ∃ g : Hw, exec (.solreq p v) s = .next (s.after g) ∧ g.gang.solst = 1 ∧
        g.reg R.GANG_SOLID = wd ((s.hw.f R.GANG_SOLID 7 0 + 1) % 256) ∧ g.b R.GANG_IFLAG 4 = true ∧
        g.gang.solC = almNs (s.hw.almOf s.hw.sampAlm) + max 100 (min 1000 (s.hw.f R.GANG_SOLCFG 9 0)) * 1000000 ∧
        g.gang.outbox.length = s.hw.gang.outbox.length + s.hw.ownRoster.length)) ∧
    (∀ p v, s.hw.partyUp p = true → s.hw.locked 0x3A = false → s.hw.enabled 0x3A = true → s.hw.isStopping 0x3A = false →
      v &&& 0x0019 = 1 →
      (s.hw.mayDrive = true → exec (.epgo p v) s = .next (s.after { s.hw with gang := { s.hw.gang with epgo := some s.hw.now } })) ∧
      (s.hw.mayDrive = false → exec (.epgo p v) s = .next (s.after (s.hw.raise 0x3A 10)))) ∧
    (∀ p v, s.hw.partyUp p = true → s.hw.locked 0x3A = false → s.hw.enabled 0x3A = true → s.hw.isStopping 0x3A = false →
      v &&& 0x000D = 1 → ∃ g : Hw, exec (.gangWake p v) s = .next (s.after g) ∧ g.wakeReq = true ∧
        g.reg R.PWR_REQ = (s.hw.reg R.PWR_REQ ||| wd (s.hw.f R.PWR_WAKEPROF 3 0 % 16))) ∧
    (∀ due : Prop, due = ((∃ a, s.hw.gang.epgo = some a ∧ a + 16000 ≤ s.hw.now) ∨
        (s.hw.f R.GANG_CFG 15 8 ≠ 0 ∧
          almNs (s.hw.almOf s.hw.sampAlm) / 1000000000 % s.hw.f R.GANG_CFG 15 8 = 0)) →
      (s.hw.mayDrive = true → s.hw.up .time = true → due → ∃ g : Hw, exec .epdrv s = .next (s.after g) ∧
        g.gang.epLow = true ∧ g.b R.GANG_IFLAG 9 = true ∧
        ∀ a, s.hw.gang.epgo = some a → g.gang.epgo = (if a + 16000 ≤ s.hw.now then none else some a)) ∧
      (s.hw.mayDrive = false ∨ s.hw.up .time = false ∨ ¬ due → exec .epdrv s = .next (s.after s.hw))) ∧
    (s.hw.gang.epLow = true → ∃ g : Hw, exec .epochRelease s = .next (s.after g) ∧ g.gang.epLow = false ∧
      g.gang.outbox.length = s.hw.gang.outbox.length +
        (if s.hw.gang.capture.isSome = true ∧ s.hw.leads = true then s.hw.ownRoster.length else 0)) ∧
    (s.hw.gangOn = true → ∀ t at', s.hw.gang.capture = some (t, at') → ∀ (sec : BitVec 48) (ns : BitVec 32),
      (at' + 400000 < s.hw.now → exec (.tchk .whole sec ns) s = .next (s.after s.hw)) ∧
      (s.hw.now ≤ at' + 400000 → ∀ d : Int, d = (t : Int) - (sec.toNat * 1000000000 + ns.toNat : Nat) →
        ∃ g : Hw, exec (.tchk .whole sec ns) s = .next (s.after g) ∧
          g.reg R.GANG_TCDIFF_L = wdI (clampI (-2147483647) 2147483647 d) ∧
          g.reg R.GANG_TCDIFF_H = wdI (clampI (-2147483647) 2147483647 d / 65536) ∧
          (g.gang.tdiss = true ↔ s.hw.reg R.GANG_TTOL ≠ 0 ∧ (s.hw.reg R.GANG_TTOL).toNat < d.natAbs))) ∧
    (s.hw.gangOn = true → s.hw.leads = false → ∀ (snd : Fin 16) (id : Byte) (sec : BitVec 48) (ns : BitVec 32),
      s.hw.gang.leader = some snd.val → s.hw.gang.st ≠ .dissent →
      (s.hw.b R.GANG_SOLCFG 15 = true → almNs (s.hw.almOf s.hw.sampAlm) ≤ sec.toNat * 1000000000 + ns.toNat →
        exec (.propose .whole snd id sec ns) s = .next (s.after
          ({ s.hw.setF R.GANG_SOLID 7 0 id.toNat with
            gang := { s.hw.gang with solst := 1, solC := sec.toNat * 1000000000 + ns.toNat } }.raise 0x3A 4))) ∧
      (s.hw.b R.GANG_SOLCFG 15 = false → exec (.propose .whole snd id sec ns) s = .next (s.after
        (s.hw.gangSendAll 4 s.hw.known [id, 2])))) ∧
    (s.hw.gangOn = true → ∀ id : Byte,
      (id.toNat = s.hw.f R.GANG_SOLID 7 0 → s.hw.gang.solst = 1 → exec (.veto .whole id) s = .next (s.after
          ({ s.hw with gang := { s.hw.gang with solst := 0 } }.raise 0x3A 6))) ∧
      (id.toNat = s.hw.f R.GANG_SOLID 7 0 → s.hw.gang.solst = 2 →
        ∃ g : Hw, exec (.veto .whole id) s = .next (s.after g) ∧ g.gang.solst = 0 ∧ g.b R.GANG_IFLAG 7 = true ∧
          g.reg R.PWR_REQ = (s.hw.reg R.PWR_REQ ||| wd (s.hw.f R.PWR_WAKEPROF 3 0 % 16)) ∧ g.wakeReq = s.hw.wakeReq) ∧
      (id.toNat ≠ s.hw.f R.GANG_SOLID 7 0 → exec (.veto .whole id) s = .next (s.after s.hw)) ∧
      (∃ g : Hw, exec (.wake .whole id) s = .next (s.after g) ∧ g.wakeReq = s.hw.wakeReq ∧ g.b R.PWR_IFLAG 10 = true ∧
        g.reg R.PWR_REQ = (s.hw.reg R.PWR_REQ ||| wd (s.hw.f R.PWR_WAKEPROF 3 0 % 16)) ∧
        (id.toNat ≠ s.hw.f R.GANG_SOLID 7 0 ∨ (s.hw.gang.solst ≠ 1 ∧ s.hw.gang.solst ≠ 2) → g.gang = s.hw.gang) ∧
        (id.toNat = s.hw.f R.GANG_SOLID 7 0 →
          (s.hw.gang.solst = 1 → g.gang.solst = 0 ∧ g.b R.GANG_IFLAG 6 = true) ∧
          (s.hw.gang.solst = 2 → g.gang.solst = 0 ∧ g.b R.GANG_IFLAG 7 = true)))) ∧
    (s.hw.gang.solst = 1 → s.hw.up .time = true → exec .solcommit s = .next (s.after
      ({ s.hw.setReg R.PWR_REQ 1 with gang := { s.hw.gang with solst := 2, solAt := s.hw.now } }.raise 0x3A 5))) ∧
    (∀ p v, s.hw.accepts p R.GANG_RLYCTL (v ||| 0x8000) →
      ((s.hw.gang.rlyBusy = true ∨ fld v 3 0 = 0 ∨ 8 < fld v 3 0 ∨ s.hw.f R.GANG_RLYDST 11 8 = s.hw.gid ∨
          s.hw.gangOn = false) → exec (.rlyctlGo p v) s = .next (s.after (s.hw.raise 0x3A 12))) ∧
      (¬ (s.hw.gang.rlyBusy = true ∨ fld v 3 0 = 0 ∨ 8 < fld v 3 0 ∨ s.hw.f R.GANG_RLYDST 11 8 = s.hw.gid ∨
          s.hw.gangOn = false) → ∃ g : Hw, exec (.rlyctlGo p v) s = .next (s.after g) ∧ g.gang.rlyBusy = true ∧
        g.reg R.GANG_RLYCTL = v &&& 0x000F ∧ ∃ m, g.gang.outbox = s.hw.gang.outbox ++ [m] ∧ m.typ = 6 ∧
          m.dst = s.hw.f R.GANG_RLYDST 11 8 ∧ m.bytes.length = 6 + 2 * fld v 3 0)) ∧
    (∀ m, s.hw.gang.cur = some m → m.typ = 6 → s.hw.xfer.ctlr = .gang → exec (.rlydone .delivered) s = .next (s.after
      ({ s.hw.setReg R.GANG_RLYSTAT 0 with
        gang := { s.hw.gang with cur := none, rlyBusy := false }
        xfer := { s.hw.xfer with ctlr := .idle } }.raise 0x3A 11))) ∧
    (∀ (snd : Fin 16) (mb : Fin 8) (data : List Word), s.hw.gangOn = true → s.hw.boxFull mb = false →
      s.hw.boxClosed mb = false → 1 ≤ data.length → data.length ≤ 8 →
      exec (.relay .whole snd mb data) s = .next (s.after (s.hw.boxAccept (0x10 + snd) mb data.length data))) ∧
    ∀ m t, s.hw.gang.cur = none → s.hw.gang.outbox = m :: t → m.typ = 4 → exec .msglost s = .next (s.after
      (({ s.hw with gang := { s.hw.gang with outbox := t } }.count R.GANG_LOSTCNT).raise 0x3A 13))

/-! ### The mailboxes and the firmware -/

/-- Mailboxes (R46, R477 to R489): one commit into an empty open box is accepted with its header, the sender ID, the next
count and ARRIVEn; a full or closed box is a bus error and stays; LEN above 8 sets CFGREJ; of several parties one commits
and the others have a bus error; a release by a party of the receiver's class empties a full box with its flag, another is
rejected with RELREJ; RCV is stored, or rejected whole with a reserved code. Under the conditions of its clauses each of
these commands completes: MBX_COMMIT, MBX_RELEASE, RCV_WRITE. -/
def Obligations.MailboxesHoldOneMessage : Prop :=
  (∀ (s : State) (p : Party) (n : Fin 8) (v : Word), s.hw.partyUp p = true → s.hw.vigil = true →
    (s.hw.boxFull n = false → s.hw.boxClosed n = false →
      (fld v 7 4 ≤ 8 → exec (.mbxCommit n [(p, v)]) s = .next (s.after ((s.hw.boxAccept (senderId p) n (fld v 7 4)
        ((s.hw.commitWords p (R.MBX_MSG n) 9 v).drop 1)).unstage p (R.MBX_MSG n) 9))) ∧
      (8 < fld v 7 4 → exec (.mbxCommit n [(p, v)]) s = .next (s.after
        ((s.hw.setReg R.MBX_STAT (s.hw.reg R.MBX_STAT ||| 0x0800)).unstage p (R.MBX_MSG n) 9)))) ∧
    (s.hw.boxFull n = true ∨ s.hw.boxClosed n = true →
      exec (.mbxCommit n [(p, v)]) s = .next (s.after (s.hw.busErrTo (R.MBX_MSG n) p))) ∧
    (∀ q w, slot p < slot q → s.hw.partyUp q = true → s.hw.boxFull n = false → s.hw.boxClosed n = false →
      fld v 7 4 ≤ 8 → ∃ g : Hw, exec (.mbxCommit n [(q, w), (p, v)]) s = .next (s.after (g.busErrTo (R.MBX_MSG n) q)) ∧
        (g.box n).lastSnd = senderId p ∧ g.b R.IDENT_STAT 11 = s.hw.b R.IDENT_STAT 11) ∧
    (s.hw.accepts p R.MBX_RCV v → (∃ k, k < 8 ∧ fld v (2 * k + 1) (2 * k) = 3) → exec (.rcvWrite p v) s = .next (s.after
      (s.hw.setReg R.MBX_STAT (s.hw.reg R.MBX_STAT ||| 0x0800)))) ∧
    (s.hw.accepts p R.MBX_RCV v → (∀ k, k < 8 → fld v (2 * k + 1) (2 * k) ≠ 3) → exec (.rcvWrite p v) s = .next (s.after (s.hw.setReg R.MBX_RCV v))) ∧
    (s.hw.boxFull n = true →
      (relClass p = s.hw.receiver n → exec (.mbxRelease [(p, BitVec.ofNat 16 (2 ^ n.val))]) s = .next (s.after
        ((s.hw.setBox n { s.hw.box n with msg := none }).raise 6 (8 + n)))) ∧
      (relClass p ≠ s.hw.receiver n → exec (.mbxRelease [(p, BitVec.ofNat 16 (2 ^ n.val))]) s = .next (s.after
        (s.hw.setReg R.MBX_STAT (s.hw.reg R.MBX_STAT ||| 0x0400)))))) ∧
  ∀ (h : Hw) (snd len : Nat) (n : Fin 8) (data : List Word), len ≤ 8 → len ≤ data.length → snd < 256 → ∀ g, g = h.boxAccept snd n len data →
    (∃ hd, (g.box n).msg = some (hd, data.take len) ∧ fld hd 15 8 = snd ∧ fld hd 7 4 = len ∧
      fld hd 3 0 = ((h.box n).count + 1).toNat) ∧
    (g.box n).lastSnd = snd ∧ (g.box n).count = (h.box n).count + 1 ∧ (∀ m : Fin 8, m ≠ n → g.box m = h.box m) ∧
    (h.vigil = true → g.b R.MBX_IFLAG n = true) ∧
    (h.b R.PWR_WAKEEN 10 = true → h.receiver n = 1 → g.b R.PWR_REQ 3 = true) ∧
    (h.b R.PWR_WAKEEN 10 = false → g.regs = (h.raise 6 n).regs)

/-- The firmware (R490 to R497, R546, R595): it takes the lowest full mailbox whose receiver is the core and empties it; a
wrong LEN, an argument outside its range, a store that is busy, and the other errors are answered by their code in order;
a command that runs answers with its result, hands its write to the store, or owes its stop; a reply goes to its mailbox
when that is empty, or is dropped and counted; after the reply of CORE_SLEEP the core's request is cleared. Where the
rules leave a reading open, it follows the model's (log entries 3, 48). Under the conditions of its clauses each of these
commands completes: COMMAND_TAKE, PING, NVS_SAVE, NVS_CONFIRM, NVS_ERASE, CORE_SLEEP, PTP_SET_CLOCK, PTP_SET_INTERVALS,
PTP_STATUS, PTP_PARENT, REPLY_POST, RPLOST, NVS_WRITE_DONE. -/
def Obligations.FirmwareServesCommands : Prop :=
  (∀ s : State, s.hw.up .core = true →
    (s.hw.fw.cmd = none → s.hw.fw.reply = none → ∀ (n : Fin 8) hd w ws, (s.hw.box n).msg = some (hd, w :: ws) →
      s.hw.receiver n = 1 → (∀ m : Fin 8, m < n → ¬ (s.hw.boxFull m = true ∧ s.hw.receiver m = 1)) →
      (codeLen (fld w 15 8)).isSome = true → exec .commandTake s = .next (s.after
        ((s.hw.boxEmpty n).setFw { s.hw.fw with
          cmd := some { sender := fld hd 15 8, words := w :: ws }, handed := false, sleep := false }))) ∧
    (∀ c, s.hw.fw.cmd = some c → s.hw.fw.handed = false → s.hw.fw.reply = none → s.hw.receiver (cmdReply c) ≠ 1 →
      ∀ ok : List Word → Hw, (ok = fun r => s.hw.setFw { s.hw.fw with
        reply := some (cmdReply c, wd (cmdCode c * 256 + cmdTag c * 16) :: r) }) →
      ∀ bad : Nat → Hw, (bad = fun e => s.hw.setFw { s.hw.fw with
        reply := some (cmdReply c, [wd (cmdCode c * 256 + cmdTag c * 16 + e)]) }) →
      (∀ i, (i, cmdCode c) ∈ [(Instr.ping, 0x01), (.nvsSave, 0x10), (.nvsConfirm, 0x11), (.nvsErase, 0x12),
          (.coreSleep, 0x18), (.ptpSetClock, 0x20), (.ptpSetIntervals, 0x21), (.ptpStatus, 0x22), (.ptpParent, 0x23)] →
        (codeLen (cmdCode c) ≠ some c.words.length → exec i s = .next (s.after (bad 2))) ∧
        (codeLen (cmdCode c) = some c.words.length → (cmdWord c 0).getLsbD 3 = true →
          i ≠ .nvsErase → exec i s = .next (s.after (bad 3)))) ∧
      (codeLen (cmdCode c) = some c.words.length → (cmdWord c 0).getLsbD 3 = false →
        (cmdCode c = 0x01 → exec .ping s = .next (s.after (ok [Config.fwver,
          wd ((s.hw.now - s.hw.fw.upAt) / 8000000 / 65536), wd ((s.hw.now - s.hw.fw.upAt) / 8000000)]))) ∧
        (∀ i, (i, cmdCode c) ∈ [(Instr.nvsSave, 0x10), (.nvsConfirm, 0x11)] →
          (i = .nvsSave → 1 ≤ (cmdWord c 1).toNat ∧ (cmdWord c 1).toNat ≤ 7) →
          (i = .nvsConfirm → s.hw.b R.NVS_STAT 3 = true) →
          (s.hw.storeBusy = true → exec i s = .next (s.after (bad 4))) ∧
          (s.hw.storeBusy = false → s.hw.up .sense = true → s.hw.pwr.vinWarn = true → exec i s = .next (s.after (bad 8))) ∧
          (s.hw.storeBusy = false → s.hw.up .sense = true → s.hw.pwr.vinWarn = false →
            ∃ j, exec i s = .next (s.after { s.hw.setFw { s.hw.fw with handed := true } with
              nvs := { s.hw.nvs with job := some j } }))) ∧
        (cmdCode c = 0x12 → (¬ (c.sender = 1 ∨ c.sender = 2) → exec .nvsErase s = .next (s.after (bad 7))) ∧
          (c.sender = 1 ∨ c.sender = 2 → cmdWord c 1 = 0xE5A5 → s.hw.storeBusy = false → s.hw.pwr.vinWarn = false →
            exec .nvsErase s = .next (s.after { s.hw.setFw { s.hw.fw with handed := true } with
              nvs := { s.hw.nvs with job := some .erase } }))) ∧
        (cmdCode c = 0x18 → exec .coreSleep s = .next (s.after (s.hw.setFw { s.hw.fw with
          sleep := true, reply := some (cmdReply c, [wd (0x1800 + cmdTag c * 16)]) }))) ∧
        (4 ≤ (cmdWord c 1).toNat → ∀ i, (i, cmdCode c) ∈ [(Instr.ptpSetClock, 0x20), (.ptpSetIntervals, 0x21),
            (.ptpStatus, 0x22), (.ptpParent, 0x23)] → exec i s = .next (s.after (bad 3))) ∧
        (∀ m : Fin 4, (cmdWord c 1).toNat = m.val → s.hw.b (R.ALM_BIND m) 15 = true → (s.hw.ptpCfg m).getLsbD 15 = true →
          (cmdCode c = 0x20 → ∃ g : Hw, exec .ptpSetClock s = .next (s.after g) ∧
            g.fw.reply = some (cmdReply c, [wd (0x2000 + cmdTag c * 16)]) ∧
            (∀ i : Fin 3, g.fw.clocks[m][i.val] = cmdWord c (i + 2) ∧ g.fw.clocks[m][i.val + 3] = s.hw.fw.clocks[m][i.val + 3])) ∧
          (cmdCode c = 0x21 → badInterval c = false → ∃ g : Hw, exec .ptpSetIntervals s = .next (s.after g) ∧
            g.fw.reply = some (cmdReply c, [wd (0x2100 + cmdTag c * 16)]) ∧
            (∀ i : Fin 3, g.fw.clocks[m][i.val + 3] = cmdWord c (i + 2) ∧ g.fw.clocks[m][i.val] = s.hw.fw.clocks[m][i.val])) ∧
          (s.hw.up .time = true → s.hw.up .net = true →
            (cmdCode c = 0x22 → ∃ r, r.length = 7 ∧ exec .ptpStatus s = .next (s.after (ok r)) ∧
              (r.getD 0 0).getLsbD 8 = s.hw.b (R.ALM_SERVO m) 0) ∧
            (cmdCode c = 0x23 → ∃ r, r.length = 7 ∧ exec .ptpParent s = .next (s.after (ok r))))))) ∧
    (∀ mb ws, s.hw.fw.reply = some (mb, ws) → s.hw.fw.sleep = true → s.hw.receiver mb ≠ 1 → s.hw.boxFull mb = false →
      s.hw.boxClosed mb = false → ws.length ≤ 8 → ∃ g : Hw, exec .replyPost s = .next (s.after g) ∧
        g.b R.PWR_REQ 3 = false ∧ (g.box mb).lastSnd = 3 ∧ g.fw.cmd = none ∧ g.fw.reply = none) ∧
    (∀ mb ws, s.hw.fw.reply = some (mb, ws) → s.hw.fw.sleep = false → s.hw.receiver mb = 1 →
      exec .replyPost s = exec .rplost s) ∧
    (∀ mb ws, s.hw.fw.reply = some (mb, ws) → s.hw.fw.sleep = false → s.hw.receiver mb ≠ 1 →
      (s.hw.boxFull mb = false → s.hw.boxClosed mb = false → ws.length ≤ 8 → exec .replyPost s = .next (s.after
        ((s.hw.boxAccept 3 mb ws.length ws).setFw { s.hw.fw with cmd := none, handed := false, reply := none }))) ∧
      (s.hw.boxFull mb = true → exec .replyPost s = .next (s.after s.hw)) ∧
      exec .rplost s = .next (s.after (((s.hw.count R.MBX_RPLOST).setReg R.MBX_STAT
        ((s.hw.count R.MBX_RPLOST).reg R.MBX_STAT ||| 0x0200)).setFw { s.hw.fw with
          cmd := none, handed := false, reply := none })))) ∧
  ∀ (s : State) (fail : Option Nat),
    (s.hw.nvs.job = none → exec (.nvsWriteDone fail) s = .next (s.after s.hw)) ∧
    (∀ j, s.hw.nvs.job = some j → s.hw.keyBusy = false → s.hw.fw.cmd = none → s.hw.vigil = true →
      ∃ g : Hw, exec (.nvsWriteDone fail) s = .next (s.after g) ∧ g.nvs.job = none ∧
        (fail = none → g.b R.NVS_IFLAG 1 = true) ∧
        (∀ k, fail = some k → k < (s.hw.jobSteps j).length → g.b R.NVS_IFLAG 2 = true))

/-! ### Interrupts and the diary -/

/-- Interrupt pins (R39, R502, R506 to R508): in level mode an enabled pin is active while its aggregate is 1; in pulse
mode a rise of the aggregate, an EOI while it is 1 and a change of IRQ.CFG that puts a pending pin into pulse mode start a
pulse, which ends at its width; an EOI in level mode is ignored. A page without power and a masked flag do not count, and
a pin without VIO is high-impedance. The diary (R510, R511, R514 to R516): a note and every other source write one entry
with the next NUM at the end; a 257th entry costs the oldest, counted in LOST with OVF; POP removes the oldest entry only
when its NUM is named, and else sets POPREJ; without TIME the entry carries V time, is COARSE and has quality 3; the
watermark flag marks the rise past WM. Where the rules leave a reading open, it follows the model's (log entries 13, 49,
109). Under the conditions of its clauses each of these commands completes: EOI, IRQ_PULSE_END, IRQ_CFG_WRITE, POP, NOTE. -/
def Obligations.InterruptPinsAndDiary : Prop :=
  ((∀ (s : State) (k : Fin 2) (p : Party), s.hw.partyUp p = true → s.hw.vigil = true →
    (s.hw.intEn k = true → s.hw.intPulse k = true → s.hw.aggregate k = true →
      exec (.eoi p k) s = .next (s.after (s.hw.setIntPin k { s.hw.intPin k with
        pulse := true, stop := s.hw.now + 1 + 8 * (s.hw.f R.IRQ_CFG (8 * k + 3) (8 * k) + 1) }))) ∧
    (s.hw.intEn k = false ∨ s.hw.intPulse k = false ∨ s.hw.aggregate k = false →
      exec (.eoi p k) s = .next (s.after s.hw)) ∧
    ((s.hw.intPin k).stop ≤ s.hw.now →
      exec (.irqPulseEnd k) s = .next (s.after (s.hw.setIntPin k { s.hw.intPin k with pulse := false }))) ∧
    (s.hw.now < (s.hw.intPin k).stop → exec (.irqPulseEnd k) s = .next (s.after s.hw)) ∧
    ∀ v, s.hw.accepts p R.IRQ_CFG v → ∃ g : Hw, exec (.irqCfgWrite p v) s = .next (s.after g) ∧ g.reg R.IRQ_CFG = v ∧
      (∀ a, a ≠ R.IRQ_CFG → g.reg a = s.hw.reg a) ∧
      (v.getLsbD (8 * k + 7) = true → v.getLsbD (8 * k + 4) = true →
        s.hw.intEn k = false ∨ s.hw.intPulse k = false → s.hw.aggregate k = true → (g.intPin k).pulse = true ∧
          (g.intPin k).stop = s.hw.now + 1 + 8 * (fld v (8 * k + 3) (8 * k) + 1)) ∧
      (v.getLsbD (8 * k + 7) = false ∨ v.getLsbD (8 * k + 4) = false → (g.intPin k).pulse = false)) ∧
  ∀ (h : Hw) (k : Fin 2),
    (h.aggregate k = true ↔ ∃ pg ∈ allPages, h.pageUp pg = true ∧
      h.reg (pg * 256 + 4) &&& h.reg (pg * 256 + 5 + k) ≠ 0) ∧
    (h.aggregate k = false ↔ h.firstPage k = 0xFF) ∧
    (h.settleInt k).intActive k = (h.intEn k && (if h.intPulse k = true then
      (h.intPin k).pulse || (h.aggregate k && !(h.intPin k).agg) else h.aggregate k)) ∧
    (h.padsOn = false → h.tap.pads = false → h.intDrive k = none)) ∧
  ((∀ (s : State) (p : Party) (v : Word),
    (s.hw.accepts p R.DIARY_NOTE v → exec (.note p v) s = .next (s.after (s.hw.diaryAdd 12 v (wd p.code)))) ∧
    (s.hw.accepts p R.DIARY_POP v →
      (∀ e t, s.hw.diary.entries = e :: t → e.num = v → exec (.pop p v) s = .next (s.after
        { s.hw with diary := { s.hw.diary with entries := t } })) ∧
      ((∀ e, s.hw.diary.entries.head? = some e → e.num ≠ v) →
        exec (.pop p v) s = .next (s.after (s.hw.raise 5 3))))) ∧
  ∀ (h : Hw) (src : Nat) (arg arg2 : Word), h.vigil = true → ∀ g, g = h.diaryAdd src arg arg2 →
    (∃ e, g.diary.entries = (if 256 ≤ h.diary.entries.length then h.diary.entries.drop 1 else h.diary.entries) ++ [e] ∧
      e.src = src ∧ e.num = h.diary.num ∧ e.arg = arg ∧ e.arg2 = arg2 ∧
      (h.up .time = false → e.coarse = true ∧ e.qual = 3 ∧ e.t0 = wd h.clk.vms ∧ e.t1 = 0 ∧
        e.t2 = wd h.clk.vsec.toNat ∧ e.t3 = wd (h.clk.vsec.toNat / 65536)) ∧
      (h.up .time = true → e.coarse = false ∧ e.qual = almQuality (h.almOf (h.f R.DIARY_CFG 1 0)))) ∧
    g.diary.num = h.diary.num + 1 ∧ g.b R.DIARY_IFLAG 0 = true ∧
    (256 ≤ h.diary.entries.length → g.b R.DIARY_IFLAG 2 = true ∧
      g.reg R.DIARY_LOST = wd (min 0xFFFF ((h.reg R.DIARY_LOST).toNat + 1))) ∧
    (h.diary.entries.length < 256 → g.reg R.DIARY_LOST = h.reg R.DIARY_LOST ∧
      (h.f R.DIARY_WM 8 0 ≠ 0 → h.diary.entries.length + 1 = h.f R.DIARY_WM 8 0 → g.b R.DIARY_IFLAG 1 = true)) ∧
    (∀ a, a ≠ R.DIARY_IFLAG → a ≠ R.DIARY_LOST → g.reg a = h.reg a) ∧
    g = { h with regs := g.regs, diary := g.diary })

/-! ### Pins -/

/-- Ports (R530 to R532): a masked write changes the selected bits alone; with two parties each bit takes the value of the
party ranked higher where both select it, which COLLIDE records; OUTSET, OUTCLR and OUTTGL set, clear and invert the bits
of the OR of what is written. Pin lines (R46, R534 to R536): a recognized edge that EDGE selects sets PLn, wakes when its
WAKEEN bit is set and pulses EVn, an unselected one only changes the level; a lockout ignores edges, and at its end a
differing level is recognized; a reserved PORT or FLT code is rejected; a pin in conflict is one with an input claim and
another claim. Where the rules leave a reading open, it follows the model's (log entry 51). Under the conditions of its
clauses each of these commands completes: PORT_MASKED_WRITE, OUTSET, OUTCLR, OUTTGL, PIN_LINE_EDGE, DEBOUNCE_END,
LCFG_WRITE. -/
def Obligations.PortWritesAndPinLines : Prop :=
  (∀ (s : State) (x : Fin 3) (p : Party) (v : Word), s.hw.partyUp p = true → s.hw.vigil = true →
    (∀ (k : Fin 3) (a : Nat), a = R.PORT_OUT x + [0, 4, 6].getD k 0 → (k = 2 → s.hw.locked (0x40 + x) = false) →
      (∃ w, exec (.portMaskedWrite x k [(p, v)]) s = .next (s.after (s.hw.setReg a w)) ∧
        ∀ i, i < 16 → w.getLsbD i =
          if i < 8 ∧ v.getLsbD (i + 8) = true then v.getLsbD i else (s.hw.reg a).getLsbD i) ∧
      (∀ q u, slot p < slot q → s.hw.partyUp q = true →
        ∃ w, exec (.portMaskedWrite x k [(q, u), (p, v)]) s = .next (s.after
            ((if (v &&& u) >>> 8 = 0 then s.hw else s.hw.collide a p q).setReg a w)) ∧
          ∀ i, i < 16 → w.getLsbD i =
            if i < 8 ∧ v.getLsbD (i + 8) = true then v.getLsbD i
            else if i < 8 ∧ u.getLsbD (i + 8) = true then u.getLsbD i else (s.hw.reg a).getLsbD i)) ∧
    (∀ w, w = s.hw.reg (R.PORT_OUT x) →
      exec (.outset x [(p, v)]) s = .next (s.after (s.hw.setReg (R.PORT_OUT x) (w ||| (v &&& 0x00FF)))) ∧
      exec (.outclr x [(p, v)]) s = .next (s.after (s.hw.setReg (R.PORT_OUT x) (w &&& ~~~(v &&& 0x00FF)))) ∧
      exec (.outtgl x [(p, v)]) s = .next (s.after (s.hw.setReg (R.PORT_OUT x) (w ^^^ (v &&& 0x00FF))))) ∧
    ∀ q u, slot p < slot q → s.hw.partyUp q = true →
      exec (.outset x [(q, u), (p, v)]) s = exec (.outset x [(p, v ||| u)]) s ∧
      exec (.outclr x [(q, u), (p, v)]) s = exec (.outclr x [(p, v ||| u)]) s ∧
      exec (.outtgl x [(q, u), (p, v)]) s = exec (.outtgl x [(p, v ||| u)]) s) ∧
  ((∀ (s : State) (n : Fin 8) (lvl : Bool), s.hw.padsOn = true → (s.hw.lcfg n).getLsbD 15 = true →
    (∀ i lock, (i = Instr.pinLineEdge n lvl true ∧ s.hw.pins.lines[n].lockout = false ∧
          lock = decide (fld (s.hw.lcfg n) 10 9 = 2)) ∨
        (i = .debounceEnd n lvl ∧ s.hw.pins.lines[n].lockout = true ∧ lock = true) → s.hw.pins.lines[n].level = !lvl →
      ∀ g0 : Hw, g0 = s.hw.setLine n { level := lvl, lockout := lock } →
      (edgeSelected (s.hw.lcfg n) lvl = false → exec i s = .next (s.after g0)) ∧
      (edgeSelected (s.hw.lcfg n) lvl = true → s.hw.b R.PWR_WAKEEN n = false →
        exec i s = .next (s.after (if fld (s.hw.lcfg n) 10 9 = 0 then (g0.raise 0x44 n).eventDirect n
          else (g0.raise 0x44 n).event n))) ∧
      (edgeSelected (s.hw.lcfg n) lvl = true → s.hw.b R.PWR_WAKEEN n = true →
        ∃ g : Hw, exec i s = .next (s.after g) ∧ g.b R.PINT_IFLAG n = true ∧ g.wakeReq = true ∧
          g.reg R.PWR_REQ = (s.hw.reg R.PWR_REQ ||| wd (s.hw.f R.PWR_WAKEPROF 3 0 % 16)) ∧ g.b R.PWR_IFLAG 10 = true)) ∧
    (s.hw.pins.lines[n].lockout = true ∨ s.hw.pins.lines[n].level = lvl →
      exec (.pinLineEdge n lvl true) s = .next (s.after s.hw)) ∧
    (fld (s.hw.lcfg n) 10 9 = 0 → edgeSelected (s.hw.lcfg n) lvl = true →
      exec (.pinLineEdge n lvl false) s = .next (s.after (s.hw.eventDirect n))) ∧
    (s.hw.pins.lines[n].lockout = true → s.hw.pins.lines[n].level = lvl →
      exec (.debounceEnd n lvl) s = .next (s.after (s.hw.setLine n { level := lvl, lockout := false })))) ∧
  (∀ (s : State) (p : Party) (n : Fin 8) (v : Word), s.hw.accepts p (R.PINT_LCFG n) v →
    (fld v 14 13 = 3 ∨ fld v 10 9 = 3 → exec (.lcfgWrite p n v) s = .next (s.after (s.hw.raise 0x44 8))) ∧
    (fld v 14 13 ≠ 3 → fld v 10 9 ≠ 3 → ∃ g : Hw, exec (.lcfgWrite p n v) s = .next (s.after g) ∧
      g.reg (R.PINT_LCFG n) = v &&& 0xFEFF ∧ g.pins.lines[n].lockout = false ∧
      (v.getLsbD 15 = false → g.pins.lines[n].level = false) ∧
      (∀ m : Fin 8, m ≠ n → g.pins.lines[m] = s.hw.pins.lines[m]) ∧
      ∀ a, a ≠ R.PINT_LCFG n → g.reg a = s.hw.reg a)) ∧
  ∀ (h : Hw) (i : Nat), i < 24 →
    (h.settlePins.pins.conf.getLsbD i = true ↔ h.vigil = true ∧ h.inConflict i = true) ∧
    (h.vigil = true → h.inConflict i = true → h.pins.conf.getLsbD i = false → h.settlePins.b R.PMUX_IFLAG 0 = true))

/-! ### Keys, the store, proof and the test port -/

/-- Keys and the store (R543, R546 to R548, R551): a KCMD of an Etcher, a locked slot, a busy store or a low VIN is
rejected with KREJ and clears the party's KDATA; an accepted one starts a key write or zeroizing; the end of a key write
puts the slots in force, a failed one sets KFAIL and leaves a broken copy; zeroizing ends with ZEROED, and from its start
no confirm touches the key region; a load takes the passing copy with the higher SEQ. Where the rules leave a reading
open, it follows the model's (log entries 76, 111). Under the conditions of its clauses each of these commands completes:
KEY_WRITE, KEY_ERASE, ZEROIZE, KDONE, ZEROIZE_COMPLETE. -/
def Obligations.KeysAreWrittenOrZeroized : Prop :=
  (∀ (s : State) (p : Party) (i : Fin 3), s.hw.partyUp p = true → s.hw.vigil = true → kdataSlot p = some i →
    (∀ c : Word, s.hw.accepts p R.KEYS_KCMD c → ∀ x, (c, x) ∈ [(1, Instr.keyWrite p), (2, .keyErase p)] →
      (s.hw.b R.KEYS_STAT 11 = true ∨ s.hw.keys.zeroizing = true ∨
          s.hw.b R.KEYS_KLOCK (s.hw.f R.KEYS_KSEL 2 0) = true ∨ s.hw.storeBusy = true ∨ s.hw.pwr.vinWarn = true →
        exec x s = .next (s.after { s.hw.raise 8 2 with keys := { s.hw.keys with kdata := s.hw.keys.kdata.set i [] } })) ∧
      (¬ (s.hw.b R.KEYS_STAT 11 = true ∨ s.hw.keys.zeroizing = true ∨
          s.hw.b R.KEYS_KLOCK (s.hw.f R.KEYS_KSEL 2 0) = true ∨ s.hw.storeBusy = true ∨ s.hw.pwr.vinWarn = true) →
        exec x s = .next (s.after { s.hw.setReg R.KEYS_STAT (s.hw.reg R.KEYS_STAT &&& ~~~0x0200) with
          nvs := { s.hw.nvs with job := some (.key (s.hw.keys.slots.set (s.hw.f R.KEYS_KSEL 2 0)
            (if c = 1 then some (s.hw.f R.KEYS_KID 7 0, s.hw.kdataWords p) else none))) }
          keys := { s.hw.keys with kdata := s.hw.keys.kdata.set i [] } }))) ∧
    (s.hw.accepts p R.KEYS_KCMD 3 → s.hw.keyBusy = false → exec (.zeroize p) s = .next (s.after { s.hw with
      keys := { s.hw.keys with slots := noKeys, zeroizing := true, kdata := s.hw.keys.kdata.set i [] } }))) ∧
  (∀ (s : State) (fail : Option Nat) (ks : KeySlots), s.hw.nvs.job = some (.key ks) → s.hw.vigil = true →
    (fail = none → ∃ g : Hw, exec (.kdone fail) s = .next (s.after g) ∧ g.keys.slots = ks ∧ g.nvs.job = none ∧
      (∀ i : Fin 2, g.nvs.keys[i].data = ks ∧ g.nvs.keys[i].st = .good) ∧ g.nvs.keys[0].seq = g.nvs.keys[1].seq ∧
      g.b R.KEYS_IFLAG 1 = true ∧ g.b R.NVS_IFLAG 1 = true ∧ g.nvs.boot = s.hw.nvs.boot ∧ g.nvs.body = s.hw.nvs.body) ∧
    (∀ k : Fin 2, fail = some k.val → ∃ g : Hw, exec (.kdone fail) s = .next (s.after g) ∧ g.keys.slots = s.hw.keys.slots ∧
      g.nvs.job = none ∧ g.b R.KEYS_STAT 9 = true ∧ g.b R.KEYS_IFLAG 1 = true ∧ g.b R.NVS_IFLAG 2 = true ∧
      g.nvs.keys[if k = 0 then s.hw.firstCopy .keys else 1 - s.hw.firstCopy .keys].st = .broken)) ∧
  (∀ s : State, s.hw.keys.zeroizing = true → s.hw.vigil = true →
    ∃ g : Hw, exec .zeroizeComplete s = .next (s.after g) ∧ g.keys.zeroizing = false ∧ g.b R.KEYS_STAT 11 = true ∧
      g.b R.KEYS_IFLAG 0 = true ∧ g.tap.pads = decide (s.hw.tap.ir = .extest) ∧ ∀ k, g.slotKey k = none) ∧
  (∀ h : Hw, h.b R.KEYS_STAT 11 = true ∨ h.keys.zeroizing = true → ∀ x ∈ h.jobSteps .confirm, x.1 ≠ .keys) ∧
  ∀ v : Vector (Copy KeySlots) 2,
    (v[0].st = .good → v[1].st ≠ .good ∨ v[1].seq ≤ v[0].seq → pickCopy v = some v[0]) ∧
    (v[1].st = .good → v[0].st ≠ .good ∨ v[0].seq < v[1].seq → pickCopy v = some v[1]) ∧
    (v[0].st = .erased → v[1].st = .erased → pickCopy v = none ∧ pickFail v = 0)

/-- Proof runs (R553 to R557): GO in draft, during a run or with no slice is rejected; a run tries its slices in ascending
number and clears their results first; the end of a slice stores its result, the first failure in DETAIL; a run ends with
DONE, and the quick run ends draft. Where the rules leave a reading open, it follows the model's (log entry 75). Under the
conditions of its clauses each of these commands completes: QUICK_RUN_END, PROOF_GO, SLICE_END, OVERRUN,
PROOF_CONDITION_MEASURE. -/
def Obligations.ProofRunsSlicesInOrder : Prop :=
  (∀ s : State, s.hw.vigil = true →
    (∀ p v, s.hw.partyUp p = true →
      (s.hw.pwr.draft = true ∨ s.hw.proof.active = true ∨ s.hw.reg R.PROOF_RUN = 0 →
        exec (.proofGo p v) s = .next (s.after (s.hw.raise 7 4))) ∧
      (s.hw.pwr.draft = false → s.hw.proof.active = false → s.hw.reg R.PROOF_RUN ≠ 0 →
        exec (.proofGo p v) s = .next (s.after (s.hw.proofStart (s.hw.reg R.PROOF_RUN).toNat false)))) ∧
    (s.hw.proof.active = true → ∀ k, s.hw.proof.cur = k → 1 ≤ k → k ≤ 7 →
      exec (.sliceEnd .pass) s = .next (s.after (proofNext 9 (s.hw.setResult k 1))) ∧
      (∀ c, s.hw.proof.failed = false → exec (.sliceEnd (.fail c)) s = .next (s.after (proofNext 9
        (({ s.hw.setReg R.PROOF_DETAIL (wd (k * 4096 + c.toNat)) with
          proof := { s.hw.proof with failed := true } }).setResult k 2)))) ∧
      (∀ c, s.hw.proof.failed = true → exec (.sliceEnd (.fail c)) s = .next (s.after (proofNext 9 (s.hw.setResult k 2)))) ∧
      exec .overrun s = .next (s.after (proofNext 9 (s.hw.setResult k 5)))) ∧
    (s.hw.proof.active = true → s.hw.proof.cur = 8 → s.hw.stBusy = false → ∀ r,
      (s.hw.b R.AFE_STSTAT 15 = true → exec (.sliceEnd r) s = .next (s.after (proofNext 9 (s.hw.setResult 8 1)))) ∧
      (s.hw.b R.AFE_STSTAT 15 = false → s.hw.b R.AFE_STSTAT 13 = true →
        exec (.sliceEnd r) s = .next (s.after (proofNext 9 (s.hw.setResult 8 6)))) ∧
      (s.hw.b R.AFE_STSTAT 15 = false → s.hw.b R.AFE_STSTAT 13 = false → s.hw.proof.failed = false →
        exec (.sliceEnd r) s = .next (s.after (proofNext 9
          (({ s.hw.setReg R.PROOF_DETAIL (wd (8 * 4096 + s.hw.f R.AFE_STSTAT 8 0)) with
            proof := { s.hw.proof with failed := true } }).setResult 8 2))))) ∧
    (s.hw.proof.active = false → (∀ r, exec (.sliceEnd r) s = .next (s.after s.hw)) ∧
      exec .overrun s = .next (s.after s.hw) ∧ exec .quickRunEnd s = .next (s.after s.hw)) ∧
    (s.hw.proof.active = true → s.hw.proof.quick = true → ∃ g : Hw, exec .quickRunEnd s = .next (s.after g) ∧
      g.proof.active = false ∧ g.pwr.draft = false ∧ g.b R.PROOF_IFLAG 0 = true) ∧
    (∀ mv ppm, ∃ g : Hw, exec (.proofConditionMeasure mv ppm) s = .next (s.after g) ∧ g.reg R.PROOF_VDDC = mv ∧
      g.proof.vddcOk = decide (1050 ≤ mv.toNat ∧ mv.toNat ≤ 1200) ∧
      (s.hw.up .time = true → g.reg R.PROOF_TPPM = wdI (clampI (-32768) 32767 ppm) ∧
        g.proof.tOk = decide (ppm.natAbs ≤ 500)) ∧
      (s.hw.up .time = false → g.reg R.PROOF_TPPM = s.hw.reg R.PROOF_TPPM ∧ g.proof.tOk = s.hw.proof.tOk))) ∧
  ∀ h : Hw, h.vigil = true →
    (h.proof.todo = 0 → ∀ f, proofNext (f + 1) h = h.proofEnd) ∧
    h.proofEnd.proof.active = false ∧ h.proofEnd.b R.PROOF_IFLAG 0 = true ∧
    (h.proof.quick = true → h.proofEnd.pwr.draft = false) ∧ (h.proof.quick = false → h.proofEnd.pwr = h.pwr) ∧
    (∀ i : Fin 8, (∀ j, j < i.val + 1 → h.proof.todo.testBit j = false) → h.proof.todo.testBit (i + 1) = true →
      i.val ≠ 7 → h.sliceUp (i + 1) = true → h.sliceCond (i + 1) = true →
      ∀ f, proofNext (f + 1) h = { h with proof := { h.proof with todo := h.proof.todo - 2 ^ (i.val + 1), cur := i + 1 } }) ∧
    ∀ (k v : Nat), 1 ≤ k → k ≤ 8 → v < 16 → (h.setResult k v).result k = v ∧
      ∀ j, 1 ≤ j → j ≤ 8 → j ≠ k → (h.setResult k v).result j = h.result j

/-- The test port (R559, R561 to R563), also while a reset holds VIGIL: an instruction that becomes current selects its
data register; EXTEST and a instruction of the manufacturer zeroize and hold STOP_N low, and act as BYPASS while SCANLOCK
is set; the pads follow the boundary register after the zeroize under EXTEST alone; an instruction of the manufacturer
takes the power of every domain, and its end is a pin reset. Where the rules leave a reading open, it follows the model's
(log entries 52, 53, 110). Under the conditions of its clauses each of these commands completes: TAP_RESET, EXTEST,
IDCODE, SAMPLE_PRELOAD, BYPASS, PRIVATE_INSTRUCTION, BOUNDARY_UPDATE. -/
def Obligations.TestPortSelectsInstructions : Prop :=
  ∀ s : State, s.hw.pwr.running = true → s.hw.pwr.vigilUp = true ∨ s.hw.pwr.held = true →
    (∀ x, (x = .idcode ∨ x = .bypass) → s.hw.tap.ir ≠ .priv → s.hw.tap.ir ≠ x →
      ∀ i, (i, x) ∈ [(Instr.idcode, TapIr.idcode), (.tapReset, .idcode), (.bypass, .bypass)] →
      exec i s = .next (s.after { s.hw with tap := { s.hw.tap with ir := x, pads := false } })) ∧
    (∀ v, s.hw.tap.ir ≠ .priv → ∃ g : Hw, exec (.samplePreload v) s = .next (s.after g) ∧ g.tap.ir = .sample ∧
      g.tap.boundary = v ∧ (s.hw.tap.ir ≠ .sample → g.tap.pads = false) ∧ g = { s.hw with tap := g.tap }) ∧
    (s.hw.b R.KEYS_SCANLOCK 0 = true → s.hw.tap.ir = .bypass →
      exec .extest s = .next (s.after s.hw) ∧ exec .privateInstruction s = .next (s.after s.hw)) ∧
    (s.hw.b R.KEYS_SCANLOCK 0 = false → s.hw.tap.ir ≠ .priv → s.hw.tap.ir ≠ .extest → s.hw.keyBusy = false →
      (exec .extest s = .next (s.after { s.hw with
        tap := { s.hw.tap with ir := .extest, pads := false }
        keys := { s.hw.keys with slots := noKeys, zeroizing := true } })) ∧
      ∃ g : Hw, exec .privateInstruction s = .next (s.after g) ∧ g.tap.ir = .priv ∧ g.tap.pads = false ∧
        g.keys.zeroizing = true ∧ g.keys.slots = noKeys ∧ g.vigil = false ∧ g.stopLow = true ∧
        ∀ d, d ≠ Dom.vigil → g.domState d = .off) ∧
    (s.hw.tap.ir = .priv → exec .idcode s = .next (s.after
      ((s.hw.setTap { s.hw.tap with ir := .idcode, pads := false }).warmReset 3))) ∧
    (∀ v, (s.hw.tap.ir = .extest → exec (.boundaryUpdate v) s = .next (s.after
        { s.hw with tap := { s.hw.tap with boundary := v } })) ∧
      (s.hw.tap.ir ≠ .extest → exec (.boundaryUpdate v) s = .next (s.after s.hw))) ∧
    (s.hw.tap.ir = .extest → s.hw.stopLow = true) ∧
    tapLength { s.hw.tap with ir := .idcode } = 32 ∧ tapLength { s.hw.tap with ir := .bypass } = 1 ∧
    tapLength { s.hw.tap with ir := .extest } = 174 ∧ tapLength { s.hw.tap with ir := .sample } = 174
end

