-- ==== Sys2Proof/Laws/Cells.lean ====
section
/-!
SUPPORT. Sparse storage: what a write leaves to be read, and that every operation keeps the canonical form.
-/

namespace Sys2Proof.Machine

variable {α : Type}

/-- Entries at other addresses decide nothing. -/
theorem Cells.get_filter_ne (d : Nat → α) (p : Nat → Bool) (l : Cells α) (b : Nat) (hb : p b = true) :
    Cells.get d (l.filter fun c => p c.1) b = Cells.get d l b := by
  induction l with
  | nil => rfl
  | cons x t ih =>
    obtain ⟨k, v⟩ := x
    by_cases hk : p k = true
    · simp [List.filter, hk, Cells.get, ih]
    · have hne : b ≠ k := fun e => hk (e ▸ hb)
      simp [List.filter, hk, Cells.get, hne, ih]

/-- An address whose entries are gone reads as its default. -/
theorem Cells.get_filter_out (d : Nat → α) (p : Nat → Bool) (l : Cells α) (b : Nat) (hb : p b = false) :
    Cells.get d (l.filter fun c => p c.1) b = d b := by
  induction l with
  | nil => rfl
  | cons x t ih =>
    obtain ⟨k, v⟩ := x
    by_cases hk : p k = true
    · have hne : b ≠ k := fun e => by rw [e, hk] at hb; cases hb
      simp [List.filter, hk, Cells.get, hne, ih]
    · simp [List.filter, hk, ih]

theorem Cells.get_insert_same (d : Nat → α) (l : Cells α) (a : Nat) (v : α) :
    Cells.get d (Cells.insert l a v) a = v := by
  induction l with
  | nil => simp [Cells.insert, Cells.get]
  | cons x t ih =>
    obtain ⟨k, w⟩ := x
    unfold Cells.insert
    split
    · simp [Cells.get]
    · split
      · simp [Cells.get]
      · rename_i h; simp [Cells.get, h, ih]

theorem Cells.get_insert_ne (d : Nat → α) (l : Cells α) (a b : Nat) (v : α) (h : b ≠ a) :
    Cells.get d (Cells.insert l a v) b = Cells.get d l b := by
  induction l with
  | nil => simp [Cells.insert, Cells.get, h]
  | cons x t ih =>
    obtain ⟨k, w⟩ := x
    unfold Cells.insert
    split
    · simp [Cells.get, h]
    · split
      · rename_i e; subst e; simp [Cells.get, h]
      · simp [Cells.get, ih]

/-- The addresses after an entry is put at its place. -/
theorem Cells.mem_insert_fst (l : Cells α) (a : Nat) (v : α) (x : Nat × α) (hx : x ∈ Cells.insert l a v) :
    x = (a, v) ∨ x ∈ l := by
  induction l with
  | nil => simpa [Cells.insert] using hx
  | cons y t ih =>
    obtain ⟨k, w⟩ := y
    unfold Cells.insert at hx
    split at hx
    · simpa using hx
    · split at hx
      · rcases List.mem_cons.1 hx with h | h
        · exact .inl h
        · exact .inr (List.mem_cons_of_mem _ h)
      · rcases List.mem_cons.1 hx with h | h
        · exact .inr (h ▸ List.mem_cons_self)
        · rcases ih h with h | h
          · exact .inl h
          · exact .inr (List.mem_cons_of_mem _ h)

theorem Cells.insert_sorted (l : Cells α) (a : Nat) (v : α) (h : (l.map Prod.fst).Pairwise (· < ·)) :
    ((Cells.insert l a v).map Prod.fst).Pairwise (· < ·) := by
  induction l with
  | nil => simp [Cells.insert]
  | cons y t ih =>
    obtain ⟨k, w⟩ := y
    simp only [List.map_cons, List.pairwise_cons] at h
    unfold Cells.insert
    split
    · rename_i hak
      simp only [List.map_cons, List.pairwise_cons]
      refine ⟨fun b hb => ?_, h.1, h.2⟩
      rcases List.mem_cons.1 hb with e | e
      · exact e ▸ hak
      · exact lt_trans hak (h.1 b e)
    · split
      · rename_i e
        simp only [List.map_cons, List.pairwise_cons]
        exact ⟨fun b hb => e ▸ h.1 b hb, h.2⟩
      · rename_i h1 h2
        simp only [List.map_cons, List.pairwise_cons]
        refine ⟨fun b hb => ?_, ih h.2⟩
        obtain ⟨x, hx, rfl⟩ := List.mem_map.1 hb
        rcases Cells.mem_insert_fst t a v x hx with e | e
        · subst e
          show k < a
          omega
        · exact h.1 x.1 (List.mem_map_of_mem e)

/-- A cleared address reads as its default. -/
theorem Cells.get_clear_in (d : Nat → α) (p : Nat → Bool) (l : Cells α) (b : Nat) (hb : p b = true) :
    Cells.get d (Cells.clear p l) b = d b := Cells.get_filter_out d (fun k => !p k) l b (by simp [hb])

/-- Other addresses read as before. -/
theorem Cells.get_clear_out (d : Nat → α) (p : Nat → Bool) (l : Cells α) (b : Nat) (hb : p b = false) :
    Cells.get d (Cells.clear p l) b = Cells.get d l b := Cells.get_filter_ne d (fun k => !p k) l b (by simp [hb])

variable [DecidableEq α]

/-- The written address reads the written value. -/
@[simp] theorem Cells.get_put_same (d : Nat → α) (l : Cells α) (a : Nat) (v : α) :
    Cells.get d (Cells.put d l a v) a = v := by
  unfold Cells.put
  split
  · rename_i e
    rw [Cells.get_filter_out d (fun k => k != a) l a (by simp), e]
  · exact Cells.get_insert_same d l a v

/-- Every other address reads as before. -/
theorem Cells.get_put_ne (d : Nat → α) (l : Cells α) (a b : Nat) (v : α) (h : b ≠ a) :
    Cells.get d (Cells.put d l a v) b = Cells.get d l b := by
  unfold Cells.put
  split
  · exact Cells.get_filter_ne d (fun k => k != a) l b (by simpa using h)
  · exact Cells.get_insert_ne d l a b v h

/-- The canonical form in words. -/
theorem Cells.wf_iff (d : Nat → α) (l : Cells α) :
    Cells.wf d l = true ↔ (l.map Prod.fst).Pairwise (· < ·) ∧ ∀ c ∈ l, c.2 ≠ d c.1 := by
  simp [Cells.wf, List.all_eq_true]

/-- A part of the entries keeps the form. -/
theorem Cells.wf_filter (d : Nat → α) (p : Nat × α → Bool) (l : Cells α) (h : Cells.wf d l = true) :
    Cells.wf d (l.filter p) = true := by
  rw [Cells.wf_iff] at h ⊢
  refine ⟨?_, fun c hc => h.2 c (List.mem_filter.1 hc).1⟩
  exact List.Pairwise.sublist (List.Sublist.map Prod.fst List.filter_sublist) h.1

/-- A write keeps the canonical form. -/
theorem Cells.wf_put (d : Nat → α) (l : Cells α) (a : Nat) (v : α) (h : Cells.wf d l = true) :
    Cells.wf d (Cells.put d l a v) = true := by
  unfold Cells.put
  split
  · exact Cells.wf_filter d _ l h
  · rename_i hv
    rw [Cells.wf_iff] at h ⊢
    refine ⟨Cells.insert_sorted l a v h.1, fun c hc => ?_⟩
    rcases Cells.mem_insert_fst l a v c hc with e | e
    · subst e; exact hv
    · exact h.2 c e

/-- Clearing keeps the canonical form. -/
theorem Cells.wf_clear (d : Nat → α) (p : Nat → Bool) (l : Cells α) (h : Cells.wf d l = true) :
    Cells.wf d (Cells.clear p l) = true := Cells.wf_filter d _ l h

end Sys2Proof.Machine
end

