-- ==== Sys2Proof/Laws/State.lean ====
section
/-!
SUPPORT. What the smallest operations change and leave: one lemma for each field of the state and each operation.
-/

namespace Sys2Proof.Machine

/-! ### The state -/

@[simp] theorem State.after_pending (s : State) (g : Hw) : (s.after g).pending = s.pending := by unfold State.after; rfl
@[simp] theorem State.after_hw (s : State) (g : Hw) : (s.after g).hw = g.settle := by unfold State.after; rfl
theorem done_eq (s : State) (g : Hw) : done s g = .next (s.after g) := rfl

namespace Hw

/-! ### A register set -/

@[simp] theorem reg_setReg_same (h : Hw) (a : Nat) (v : Word) : (h.setReg a v).reg a = v :=
  Cells.get_put_same _ _ _ _

theorem reg_setReg_ne (h : Hw) (a b : Nat) (v : Word) (hb : b ≠ a) : (h.setReg a v).reg b = h.reg b :=
  Cells.get_put_ne _ _ _ _ _ hb

theorem setReg_wf (h : Hw) (a : Nat) (v : Word) (w : Cells.wf resetOf h.regs = true) :
    Cells.wf resetOf (h.setReg a v).regs = true := Cells.wf_put _ _ _ _ w

@[simp] theorem setReg_shadows (h : Hw) (a : Nat) (v : Word) : (h.setReg a v).shadows = h.shadows := rfl
@[simp] theorem setReg_staging (h : Hw) (a : Nat) (v : Word) : (h.setReg a v).staging = h.staging := rfl
@[simp] theorem setReg_now (h : Hw) (a : Nat) (v : Word) : (h.setReg a v).now = h.now := rfl
@[simp] theorem setReg_evAt (h : Hw) (a : Nat) (v : Word) : (h.setReg a v).evAt = h.evAt := rfl
@[simp] theorem setReg_free (h : Hw) (a : Nat) (v : Word) : (h.setReg a v).free = h.free := rfl
@[simp] theorem setReg_fabric (h : Hw) (a : Nat) (v : Word) : (h.setReg a v).fabric = h.fabric := rfl
@[simp] theorem setReg_raised (h : Hw) (a : Nat) (v : Word) : (h.setReg a v).raised = h.raised := rfl
@[simp] theorem setReg_newSample (h : Hw) (a : Nat) (v : Word) : (h.setReg a v).newSample = h.newSample := rfl
@[simp] theorem setReg_sampleT (h : Hw) (a : Nat) (v : Word) : (h.setReg a v).sampleT = h.sampleT := rfl
@[simp] theorem setReg_alarmReq (h : Hw) (a : Nat) (v : Word) : (h.setReg a v).alarmReq = h.alarmReq := rfl
@[simp] theorem setReg_stopping (h : Hw) (a : Nat) (v : Word) : (h.setReg a v).stopping = h.stopping := rfl
@[simp] theorem setReg_pendEn (h : Hw) (a : Nat) (v : Word) : (h.setReg a v).pendEn = h.pendEn := rfl
@[simp] theorem setReg_wakeReq (h : Hw) (a : Nat) (v : Word) : (h.setReg a v).wakeReq = h.wakeReq := rfl
@[simp] theorem setReg_autoDue (h : Hw) (a : Nat) (v : Word) : (h.setReg a v).autoDue = h.autoDue := rfl
@[simp] theorem setReg_pwr (h : Hw) (a : Nat) (v : Word) : (h.setReg a v).pwr = h.pwr := rfl
@[simp] theorem setReg_clk (h : Hw) (a : Nat) (v : Word) : (h.setReg a v).clk = h.clk := rfl
@[simp] theorem setReg_int0 (h : Hw) (a : Nat) (v : Word) : (h.setReg a v).int0 = h.int0 := rfl
@[simp] theorem setReg_int1 (h : Hw) (a : Nat) (v : Word) : (h.setReg a v).int1 = h.int1 := rfl
@[simp] theorem setReg_diary (h : Hw) (a : Nat) (v : Word) : (h.setReg a v).diary = h.diary := rfl
@[simp] theorem setReg_pins (h : Hw) (a : Nat) (v : Word) : (h.setReg a v).pins = h.pins := rfl
@[simp] theorem setReg_latch (h : Hw) (a : Nat) (v : Word) : (h.setReg a v).latch = h.latch := rfl
@[simp] theorem setReg_recog (h : Hw) (a : Nat) (v : Word) : (h.setReg a v).recog = h.recog := rfl
@[simp] theorem setReg_etch (h : Hw) (a : Nat) (v : Word) : (h.setReg a v).etch = h.etch := rfl
@[simp] theorem setReg_prog (h : Hw) (a : Nat) (v : Word) : (h.setReg a v).prog = h.prog := rfl
@[simp] theorem setReg_eprog (h : Hw) (a : Nat) (v : Word) : (h.setReg a v).eprog = h.eprog := rfl
@[simp] theorem setReg_buf (h : Hw) (a : Nat) (v : Word) : (h.setReg a v).buf = h.buf := rfl
@[simp] theorem setReg_strm (h : Hw) (a : Nat) (v : Word) : (h.setReg a v).strm = h.strm := rfl
@[simp] theorem setReg_host (h : Hw) (a : Nat) (v : Word) : (h.setReg a v).host = h.host := rfl
@[simp] theorem setReg_alm (h : Hw) (a : Nat) (v : Word) : (h.setReg a v).alm = h.alm := rfl
@[simp] theorem setReg_cal (h : Hw) (a : Nat) (v : Word) : (h.setReg a v).cal = h.cal := rfl
@[simp] theorem setReg_pps (h : Hw) (a : Nat) (v : Word) : (h.setReg a v).pps = h.pps := rfl
@[simp] theorem setReg_afe (h : Hw) (a : Nat) (v : Word) : (h.setReg a v).afe = h.afe := rfl
@[simp] theorem setReg_dec (h : Hw) (a : Nat) (v : Word) : (h.setReg a v).dec = h.dec := rfl
@[simp] theorem setReg_tim (h : Hw) (a : Nat) (v : Word) : (h.setReg a v).tim = h.tim := rfl
@[simp] theorem setReg_net (h : Hw) (a : Nat) (v : Word) : (h.setReg a v).net = h.net := rfl
@[simp] theorem setReg_twi (h : Hw) (a : Nat) (v : Word) : (h.setReg a v).twi = h.twi := rfl
@[simp] theorem setReg_xfer (h : Hw) (a : Nat) (v : Word) : (h.setReg a v).xfer = h.xfer := rfl
@[simp] theorem setReg_gang (h : Hw) (a : Nat) (v : Word) : (h.setReg a v).gang = h.gang := rfl
@[simp] theorem setReg_mbx (h : Hw) (a : Nat) (v : Word) : (h.setReg a v).mbx = h.mbx := rfl
@[simp] theorem setReg_fw (h : Hw) (a : Nat) (v : Word) : (h.setReg a v).fw = h.fw := rfl
@[simp] theorem setReg_nvs (h : Hw) (a : Nat) (v : Word) : (h.setReg a v).nvs = h.nvs := rfl
@[simp] theorem setReg_keys (h : Hw) (a : Nat) (v : Word) : (h.setReg a v).keys = h.keys := rfl
@[simp] theorem setReg_proof (h : Hw) (a : Nat) (v : Word) : (h.setReg a v).proof = h.proof := rfl
@[simp] theorem setReg_tap (h : Hw) (a : Nat) (v : Word) : (h.setReg a v).tap = h.tap := rfl

/-! ### A flag raised -/

/-- `raise` writes the page's IFLAG while its domain runs, and nothing otherwise. -/
theorem raise_eq (h : Hw) (pg bit : Nat) :
    h.raise pg bit = if h.pageLive pg then h.setReg (pg * 256 + 4) (h.reg (pg * 256 + 4) ||| wd (2 ^ bit)) else h := rfl

theorem reg_raise_ne (h : Hw) (pg bit b : Nat) (hb : b ≠ pg * 256 + 4) : (h.raise pg bit).reg b = h.reg b := by
  rw [raise_eq]
  split
  · exact reg_setReg_ne _ _ _ _ hb
  · rfl

@[simp] theorem raise_shadows (h : Hw) (pg bit : Nat) : (h.raise pg bit).shadows = h.shadows := by
  rw [raise_eq]; split <;> rfl
@[simp] theorem raise_staging (h : Hw) (pg bit : Nat) : (h.raise pg bit).staging = h.staging := by
  rw [raise_eq]; split <;> rfl
@[simp] theorem raise_now (h : Hw) (pg bit : Nat) : (h.raise pg bit).now = h.now := by
  rw [raise_eq]; split <;> rfl
@[simp] theorem raise_evAt (h : Hw) (pg bit : Nat) : (h.raise pg bit).evAt = h.evAt := by
  rw [raise_eq]; split <;> rfl
@[simp] theorem raise_free (h : Hw) (pg bit : Nat) : (h.raise pg bit).free = h.free := by
  rw [raise_eq]; split <;> rfl
@[simp] theorem raise_fabric (h : Hw) (pg bit : Nat) : (h.raise pg bit).fabric = h.fabric := by
  rw [raise_eq]; split <;> rfl
@[simp] theorem raise_raised (h : Hw) (pg bit : Nat) : (h.raise pg bit).raised = h.raised := by
  rw [raise_eq]; split <;> rfl
@[simp] theorem raise_newSample (h : Hw) (pg bit : Nat) : (h.raise pg bit).newSample = h.newSample := by
  rw [raise_eq]; split <;> rfl
@[simp] theorem raise_sampleT (h : Hw) (pg bit : Nat) : (h.raise pg bit).sampleT = h.sampleT := by
  rw [raise_eq]; split <;> rfl
@[simp] theorem raise_alarmReq (h : Hw) (pg bit : Nat) : (h.raise pg bit).alarmReq = h.alarmReq := by
  rw [raise_eq]; split <;> rfl
@[simp] theorem raise_stopping (h : Hw) (pg bit : Nat) : (h.raise pg bit).stopping = h.stopping := by
  rw [raise_eq]; split <;> rfl
@[simp] theorem raise_pendEn (h : Hw) (pg bit : Nat) : (h.raise pg bit).pendEn = h.pendEn := by
  rw [raise_eq]; split <;> rfl
@[simp] theorem raise_wakeReq (h : Hw) (pg bit : Nat) : (h.raise pg bit).wakeReq = h.wakeReq := by
  rw [raise_eq]; split <;> rfl
@[simp] theorem raise_autoDue (h : Hw) (pg bit : Nat) : (h.raise pg bit).autoDue = h.autoDue := by
  rw [raise_eq]; split <;> rfl
@[simp] theorem raise_pwr (h : Hw) (pg bit : Nat) : (h.raise pg bit).pwr = h.pwr := by
  rw [raise_eq]; split <;> rfl
@[simp] theorem raise_clk (h : Hw) (pg bit : Nat) : (h.raise pg bit).clk = h.clk := by
  rw [raise_eq]; split <;> rfl
@[simp] theorem raise_int0 (h : Hw) (pg bit : Nat) : (h.raise pg bit).int0 = h.int0 := by
  rw [raise_eq]; split <;> rfl
@[simp] theorem raise_int1 (h : Hw) (pg bit : Nat) : (h.raise pg bit).int1 = h.int1 := by
  rw [raise_eq]; split <;> rfl
@[simp] theorem raise_diary (h : Hw) (pg bit : Nat) : (h.raise pg bit).diary = h.diary := by
  rw [raise_eq]; split <;> rfl
@[simp] theorem raise_pins (h : Hw) (pg bit : Nat) : (h.raise pg bit).pins = h.pins := by
  rw [raise_eq]; split <;> rfl
@[simp] theorem raise_latch (h : Hw) (pg bit : Nat) : (h.raise pg bit).latch = h.latch := by
  rw [raise_eq]; split <;> rfl
@[simp] theorem raise_recog (h : Hw) (pg bit : Nat) : (h.raise pg bit).recog = h.recog := by
  rw [raise_eq]; split <;> rfl
@[simp] theorem raise_etch (h : Hw) (pg bit : Nat) : (h.raise pg bit).etch = h.etch := by
  rw [raise_eq]; split <;> rfl
@[simp] theorem raise_prog (h : Hw) (pg bit : Nat) : (h.raise pg bit).prog = h.prog := by
  rw [raise_eq]; split <;> rfl
@[simp] theorem raise_eprog (h : Hw) (pg bit : Nat) : (h.raise pg bit).eprog = h.eprog := by
  rw [raise_eq]; split <;> rfl
@[simp] theorem raise_buf (h : Hw) (pg bit : Nat) : (h.raise pg bit).buf = h.buf := by
  rw [raise_eq]; split <;> rfl
@[simp] theorem raise_strm (h : Hw) (pg bit : Nat) : (h.raise pg bit).strm = h.strm := by
  rw [raise_eq]; split <;> rfl
@[simp] theorem raise_host (h : Hw) (pg bit : Nat) : (h.raise pg bit).host = h.host := by
  rw [raise_eq]; split <;> rfl
@[simp] theorem raise_alm (h : Hw) (pg bit : Nat) : (h.raise pg bit).alm = h.alm := by
  rw [raise_eq]; split <;> rfl
@[simp] theorem raise_cal (h : Hw) (pg bit : Nat) : (h.raise pg bit).cal = h.cal := by
  rw [raise_eq]; split <;> rfl
@[simp] theorem raise_pps (h : Hw) (pg bit : Nat) : (h.raise pg bit).pps = h.pps := by
  rw [raise_eq]; split <;> rfl
@[simp] theorem raise_afe (h : Hw) (pg bit : Nat) : (h.raise pg bit).afe = h.afe := by
  rw [raise_eq]; split <;> rfl
@[simp] theorem raise_dec (h : Hw) (pg bit : Nat) : (h.raise pg bit).dec = h.dec := by
  rw [raise_eq]; split <;> rfl
@[simp] theorem raise_tim (h : Hw) (pg bit : Nat) : (h.raise pg bit).tim = h.tim := by
  rw [raise_eq]; split <;> rfl
@[simp] theorem raise_net (h : Hw) (pg bit : Nat) : (h.raise pg bit).net = h.net := by
  rw [raise_eq]; split <;> rfl
@[simp] theorem raise_twi (h : Hw) (pg bit : Nat) : (h.raise pg bit).twi = h.twi := by
  rw [raise_eq]; split <;> rfl
@[simp] theorem raise_xfer (h : Hw) (pg bit : Nat) : (h.raise pg bit).xfer = h.xfer := by
  rw [raise_eq]; split <;> rfl
@[simp] theorem raise_gang (h : Hw) (pg bit : Nat) : (h.raise pg bit).gang = h.gang := by
  rw [raise_eq]; split <;> rfl
@[simp] theorem raise_mbx (h : Hw) (pg bit : Nat) : (h.raise pg bit).mbx = h.mbx := by
  rw [raise_eq]; split <;> rfl
@[simp] theorem raise_fw (h : Hw) (pg bit : Nat) : (h.raise pg bit).fw = h.fw := by
  rw [raise_eq]; split <;> rfl
@[simp] theorem raise_nvs (h : Hw) (pg bit : Nat) : (h.raise pg bit).nvs = h.nvs := by
  rw [raise_eq]; split <;> rfl
@[simp] theorem raise_keys (h : Hw) (pg bit : Nat) : (h.raise pg bit).keys = h.keys := by
  rw [raise_eq]; split <;> rfl
@[simp] theorem raise_proof (h : Hw) (pg bit : Nat) : (h.raise pg bit).proof = h.proof := by
  rw [raise_eq]; split <;> rfl
@[simp] theorem raise_tap (h : Hw) (pg bit : Nat) : (h.raise pg bit).tap = h.tap := by
  rw [raise_eq]; split <;> rfl

/-! ### A flag raised under a condition -/

theorem reg_raiseIf_ne (h : Hw) (c : Bool) (pg bit b : Nat) (hb : b ≠ pg * 256 + 4) :
    (h.raiseIf c pg bit).reg b = h.reg b := by
  cases c
  · rfl
  · exact reg_raise_ne h pg bit b hb

@[simp] theorem raiseIf_shadows (h : Hw) (c : Bool) (pg bit : Nat) : (h.raiseIf c pg bit).shadows = h.shadows := by
  cases c <;> simp [raiseIf]
@[simp] theorem raiseIf_staging (h : Hw) (c : Bool) (pg bit : Nat) : (h.raiseIf c pg bit).staging = h.staging := by
  cases c <;> simp [raiseIf]
@[simp] theorem raiseIf_now (h : Hw) (c : Bool) (pg bit : Nat) : (h.raiseIf c pg bit).now = h.now := by
  cases c <;> simp [raiseIf]
@[simp] theorem raiseIf_evAt (h : Hw) (c : Bool) (pg bit : Nat) : (h.raiseIf c pg bit).evAt = h.evAt := by
  cases c <;> simp [raiseIf]
@[simp] theorem raiseIf_free (h : Hw) (c : Bool) (pg bit : Nat) : (h.raiseIf c pg bit).free = h.free := by
  cases c <;> simp [raiseIf]
@[simp] theorem raiseIf_fabric (h : Hw) (c : Bool) (pg bit : Nat) : (h.raiseIf c pg bit).fabric = h.fabric := by
  cases c <;> simp [raiseIf]
@[simp] theorem raiseIf_raised (h : Hw) (c : Bool) (pg bit : Nat) : (h.raiseIf c pg bit).raised = h.raised := by
  cases c <;> simp [raiseIf]
@[simp] theorem raiseIf_newSample (h : Hw) (c : Bool) (pg bit : Nat) : (h.raiseIf c pg bit).newSample = h.newSample := by
  cases c <;> simp [raiseIf]
@[simp] theorem raiseIf_sampleT (h : Hw) (c : Bool) (pg bit : Nat) : (h.raiseIf c pg bit).sampleT = h.sampleT := by
  cases c <;> simp [raiseIf]
@[simp] theorem raiseIf_alarmReq (h : Hw) (c : Bool) (pg bit : Nat) : (h.raiseIf c pg bit).alarmReq = h.alarmReq := by
  cases c <;> simp [raiseIf]
@[simp] theorem raiseIf_stopping (h : Hw) (c : Bool) (pg bit : Nat) : (h.raiseIf c pg bit).stopping = h.stopping := by
  cases c <;> simp [raiseIf]
@[simp] theorem raiseIf_pendEn (h : Hw) (c : Bool) (pg bit : Nat) : (h.raiseIf c pg bit).pendEn = h.pendEn := by
  cases c <;> simp [raiseIf]
@[simp] theorem raiseIf_wakeReq (h : Hw) (c : Bool) (pg bit : Nat) : (h.raiseIf c pg bit).wakeReq = h.wakeReq := by
  cases c <;> simp [raiseIf]
@[simp] theorem raiseIf_autoDue (h : Hw) (c : Bool) (pg bit : Nat) : (h.raiseIf c pg bit).autoDue = h.autoDue := by
  cases c <;> simp [raiseIf]
@[simp] theorem raiseIf_pwr (h : Hw) (c : Bool) (pg bit : Nat) : (h.raiseIf c pg bit).pwr = h.pwr := by
  cases c <;> simp [raiseIf]
@[simp] theorem raiseIf_clk (h : Hw) (c : Bool) (pg bit : Nat) : (h.raiseIf c pg bit).clk = h.clk := by
  cases c <;> simp [raiseIf]
@[simp] theorem raiseIf_int0 (h : Hw) (c : Bool) (pg bit : Nat) : (h.raiseIf c pg bit).int0 = h.int0 := by
  cases c <;> simp [raiseIf]
@[simp] theorem raiseIf_int1 (h : Hw) (c : Bool) (pg bit : Nat) : (h.raiseIf c pg bit).int1 = h.int1 := by
  cases c <;> simp [raiseIf]
@[simp] theorem raiseIf_diary (h : Hw) (c : Bool) (pg bit : Nat) : (h.raiseIf c pg bit).diary = h.diary := by
  cases c <;> simp [raiseIf]
@[simp] theorem raiseIf_pins (h : Hw) (c : Bool) (pg bit : Nat) : (h.raiseIf c pg bit).pins = h.pins := by
  cases c <;> simp [raiseIf]
@[simp] theorem raiseIf_latch (h : Hw) (c : Bool) (pg bit : Nat) : (h.raiseIf c pg bit).latch = h.latch := by
  cases c <;> simp [raiseIf]
@[simp] theorem raiseIf_recog (h : Hw) (c : Bool) (pg bit : Nat) : (h.raiseIf c pg bit).recog = h.recog := by
  cases c <;> simp [raiseIf]
@[simp] theorem raiseIf_etch (h : Hw) (c : Bool) (pg bit : Nat) : (h.raiseIf c pg bit).etch = h.etch := by
  cases c <;> simp [raiseIf]
@[simp] theorem raiseIf_prog (h : Hw) (c : Bool) (pg bit : Nat) : (h.raiseIf c pg bit).prog = h.prog := by
  cases c <;> simp [raiseIf]
@[simp] theorem raiseIf_eprog (h : Hw) (c : Bool) (pg bit : Nat) : (h.raiseIf c pg bit).eprog = h.eprog := by
  cases c <;> simp [raiseIf]
@[simp] theorem raiseIf_buf (h : Hw) (c : Bool) (pg bit : Nat) : (h.raiseIf c pg bit).buf = h.buf := by
  cases c <;> simp [raiseIf]
@[simp] theorem raiseIf_strm (h : Hw) (c : Bool) (pg bit : Nat) : (h.raiseIf c pg bit).strm = h.strm := by
  cases c <;> simp [raiseIf]
@[simp] theorem raiseIf_host (h : Hw) (c : Bool) (pg bit : Nat) : (h.raiseIf c pg bit).host = h.host := by
  cases c <;> simp [raiseIf]
@[simp] theorem raiseIf_alm (h : Hw) (c : Bool) (pg bit : Nat) : (h.raiseIf c pg bit).alm = h.alm := by
  cases c <;> simp [raiseIf]
@[simp] theorem raiseIf_cal (h : Hw) (c : Bool) (pg bit : Nat) : (h.raiseIf c pg bit).cal = h.cal := by
  cases c <;> simp [raiseIf]
@[simp] theorem raiseIf_pps (h : Hw) (c : Bool) (pg bit : Nat) : (h.raiseIf c pg bit).pps = h.pps := by
  cases c <;> simp [raiseIf]
@[simp] theorem raiseIf_afe (h : Hw) (c : Bool) (pg bit : Nat) : (h.raiseIf c pg bit).afe = h.afe := by
  cases c <;> simp [raiseIf]
@[simp] theorem raiseIf_dec (h : Hw) (c : Bool) (pg bit : Nat) : (h.raiseIf c pg bit).dec = h.dec := by
  cases c <;> simp [raiseIf]
@[simp] theorem raiseIf_tim (h : Hw) (c : Bool) (pg bit : Nat) : (h.raiseIf c pg bit).tim = h.tim := by
  cases c <;> simp [raiseIf]
@[simp] theorem raiseIf_net (h : Hw) (c : Bool) (pg bit : Nat) : (h.raiseIf c pg bit).net = h.net := by
  cases c <;> simp [raiseIf]
@[simp] theorem raiseIf_twi (h : Hw) (c : Bool) (pg bit : Nat) : (h.raiseIf c pg bit).twi = h.twi := by
  cases c <;> simp [raiseIf]
@[simp] theorem raiseIf_xfer (h : Hw) (c : Bool) (pg bit : Nat) : (h.raiseIf c pg bit).xfer = h.xfer := by
  cases c <;> simp [raiseIf]
@[simp] theorem raiseIf_gang (h : Hw) (c : Bool) (pg bit : Nat) : (h.raiseIf c pg bit).gang = h.gang := by
  cases c <;> simp [raiseIf]
@[simp] theorem raiseIf_mbx (h : Hw) (c : Bool) (pg bit : Nat) : (h.raiseIf c pg bit).mbx = h.mbx := by
  cases c <;> simp [raiseIf]
@[simp] theorem raiseIf_fw (h : Hw) (c : Bool) (pg bit : Nat) : (h.raiseIf c pg bit).fw = h.fw := by
  cases c <;> simp [raiseIf]
@[simp] theorem raiseIf_nvs (h : Hw) (c : Bool) (pg bit : Nat) : (h.raiseIf c pg bit).nvs = h.nvs := by
  cases c <;> simp [raiseIf]
@[simp] theorem raiseIf_keys (h : Hw) (c : Bool) (pg bit : Nat) : (h.raiseIf c pg bit).keys = h.keys := by
  cases c <;> simp [raiseIf]
@[simp] theorem raiseIf_proof (h : Hw) (c : Bool) (pg bit : Nat) : (h.raiseIf c pg bit).proof = h.proof := by
  cases c <;> simp [raiseIf]
@[simp] theorem raiseIf_tap (h : Hw) (c : Bool) (pg bit : Nat) : (h.raiseIf c pg bit).tap = h.tap := by
  cases c <;> simp [raiseIf]

/-! ### An event -/

/-- `event` adds its pulse to those of the command and notes its V-cycle, or does nothing. -/
theorem event_eq (h : Hw) (e : Nat) : h.event e = { h with raised := (h.event e).raised, evAt := (h.event e).evAt } := by
  unfold event eventDirect; split
  · split <;> rfl
  · split
    · rfl
    · split <;> rfl

@[simp] theorem event_regs (h : Hw) (e : Nat) : (h.event e).regs = h.regs := by rw [event_eq]
@[simp] theorem event_reg (h : Hw) (e a : Nat) : (h.event e).reg a = h.reg a := by rw [event_eq]; rfl
@[simp] theorem event_shadows (h : Hw) (e : Nat) : (h.event e).shadows = h.shadows := by rw [event_eq]
@[simp] theorem event_staging (h : Hw) (e : Nat) : (h.event e).staging = h.staging := by rw [event_eq]
@[simp] theorem event_now (h : Hw) (e : Nat) : (h.event e).now = h.now := by rw [event_eq]
@[simp] theorem event_free (h : Hw) (e : Nat) : (h.event e).free = h.free := by rw [event_eq]
@[simp] theorem event_fabric (h : Hw) (e : Nat) : (h.event e).fabric = h.fabric := by rw [event_eq]
@[simp] theorem event_newSample (h : Hw) (e : Nat) : (h.event e).newSample = h.newSample := by rw [event_eq]
@[simp] theorem event_sampleT (h : Hw) (e : Nat) : (h.event e).sampleT = h.sampleT := by rw [event_eq]
@[simp] theorem event_alarmReq (h : Hw) (e : Nat) : (h.event e).alarmReq = h.alarmReq := by rw [event_eq]
@[simp] theorem event_stopping (h : Hw) (e : Nat) : (h.event e).stopping = h.stopping := by rw [event_eq]
@[simp] theorem event_pendEn (h : Hw) (e : Nat) : (h.event e).pendEn = h.pendEn := by rw [event_eq]
@[simp] theorem event_wakeReq (h : Hw) (e : Nat) : (h.event e).wakeReq = h.wakeReq := by rw [event_eq]
@[simp] theorem event_autoDue (h : Hw) (e : Nat) : (h.event e).autoDue = h.autoDue := by rw [event_eq]
@[simp] theorem event_pwr (h : Hw) (e : Nat) : (h.event e).pwr = h.pwr := by rw [event_eq]
@[simp] theorem event_clk (h : Hw) (e : Nat) : (h.event e).clk = h.clk := by rw [event_eq]
@[simp] theorem event_int0 (h : Hw) (e : Nat) : (h.event e).int0 = h.int0 := by rw [event_eq]
@[simp] theorem event_int1 (h : Hw) (e : Nat) : (h.event e).int1 = h.int1 := by rw [event_eq]
@[simp] theorem event_diary (h : Hw) (e : Nat) : (h.event e).diary = h.diary := by rw [event_eq]
@[simp] theorem event_pins (h : Hw) (e : Nat) : (h.event e).pins = h.pins := by rw [event_eq]
@[simp] theorem event_latch (h : Hw) (e : Nat) : (h.event e).latch = h.latch := by rw [event_eq]
@[simp] theorem event_recog (h : Hw) (e : Nat) : (h.event e).recog = h.recog := by rw [event_eq]
@[simp] theorem event_etch (h : Hw) (e : Nat) : (h.event e).etch = h.etch := by rw [event_eq]
@[simp] theorem event_prog (h : Hw) (e : Nat) : (h.event e).prog = h.prog := by rw [event_eq]
@[simp] theorem event_eprog (h : Hw) (e : Nat) : (h.event e).eprog = h.eprog := by rw [event_eq]
@[simp] theorem event_buf (h : Hw) (e : Nat) : (h.event e).buf = h.buf := by rw [event_eq]
@[simp] theorem event_strm (h : Hw) (e : Nat) : (h.event e).strm = h.strm := by rw [event_eq]
@[simp] theorem event_host (h : Hw) (e : Nat) : (h.event e).host = h.host := by rw [event_eq]
@[simp] theorem event_alm (h : Hw) (e : Nat) : (h.event e).alm = h.alm := by rw [event_eq]
@[simp] theorem event_cal (h : Hw) (e : Nat) : (h.event e).cal = h.cal := by rw [event_eq]
@[simp] theorem event_pps (h : Hw) (e : Nat) : (h.event e).pps = h.pps := by rw [event_eq]
@[simp] theorem event_afe (h : Hw) (e : Nat) : (h.event e).afe = h.afe := by rw [event_eq]
@[simp] theorem event_dec (h : Hw) (e : Nat) : (h.event e).dec = h.dec := by rw [event_eq]
@[simp] theorem event_tim (h : Hw) (e : Nat) : (h.event e).tim = h.tim := by rw [event_eq]
@[simp] theorem event_net (h : Hw) (e : Nat) : (h.event e).net = h.net := by rw [event_eq]
@[simp] theorem event_twi (h : Hw) (e : Nat) : (h.event e).twi = h.twi := by rw [event_eq]
@[simp] theorem event_xfer (h : Hw) (e : Nat) : (h.event e).xfer = h.xfer := by rw [event_eq]
@[simp] theorem event_gang (h : Hw) (e : Nat) : (h.event e).gang = h.gang := by rw [event_eq]
@[simp] theorem event_mbx (h : Hw) (e : Nat) : (h.event e).mbx = h.mbx := by rw [event_eq]
@[simp] theorem event_fw (h : Hw) (e : Nat) : (h.event e).fw = h.fw := by rw [event_eq]
@[simp] theorem event_nvs (h : Hw) (e : Nat) : (h.event e).nvs = h.nvs := by rw [event_eq]
@[simp] theorem event_keys (h : Hw) (e : Nat) : (h.event e).keys = h.keys := by rw [event_eq]
@[simp] theorem event_proof (h : Hw) (e : Nat) : (h.event e).proof = h.proof := by rw [event_eq]
@[simp] theorem event_tap (h : Hw) (e : Nat) : (h.event e).tap = h.tap := by rw [event_eq]

/-! ### A diary entry -/

/-- `diaryAdd` writes the diary, the flags of the DIARY page and LOST. -/
theorem diaryAdd_eq (h : Hw) (src : Nat) (x y : Word) :
    h.diaryAdd src x y = { h with diary := (h.diaryAdd src x y).diary, regs := (h.diaryAdd src x y).regs } := by
  unfold diaryAdd
  simp only [raiseIf, count, countBy]
  split <;> split <;> simp only [raise_eq] <;> (repeat' split) <;> rfl

@[simp] theorem diaryAdd_shadows (h : Hw) (src : Nat) (x y : Word) : (h.diaryAdd src x y).shadows = h.shadows := by
  rw [diaryAdd_eq]
@[simp] theorem diaryAdd_staging (h : Hw) (src : Nat) (x y : Word) : (h.diaryAdd src x y).staging = h.staging := by
  rw [diaryAdd_eq]
@[simp] theorem diaryAdd_now (h : Hw) (src : Nat) (x y : Word) : (h.diaryAdd src x y).now = h.now := by
  rw [diaryAdd_eq]
@[simp] theorem diaryAdd_evAt (h : Hw) (src : Nat) (x y : Word) : (h.diaryAdd src x y).evAt = h.evAt := by
  rw [diaryAdd_eq]
@[simp] theorem diaryAdd_free (h : Hw) (src : Nat) (x y : Word) : (h.diaryAdd src x y).free = h.free := by
  rw [diaryAdd_eq]
@[simp] theorem diaryAdd_fabric (h : Hw) (src : Nat) (x y : Word) : (h.diaryAdd src x y).fabric = h.fabric := by
  rw [diaryAdd_eq]
@[simp] theorem diaryAdd_raised (h : Hw) (src : Nat) (x y : Word) : (h.diaryAdd src x y).raised = h.raised := by
  rw [diaryAdd_eq]
@[simp] theorem diaryAdd_newSample (h : Hw) (src : Nat) (x y : Word) : (h.diaryAdd src x y).newSample = h.newSample := by
  rw [diaryAdd_eq]
@[simp] theorem diaryAdd_sampleT (h : Hw) (src : Nat) (x y : Word) : (h.diaryAdd src x y).sampleT = h.sampleT := by
  rw [diaryAdd_eq]
@[simp] theorem diaryAdd_alarmReq (h : Hw) (src : Nat) (x y : Word) : (h.diaryAdd src x y).alarmReq = h.alarmReq := by
  rw [diaryAdd_eq]
@[simp] theorem diaryAdd_stopping (h : Hw) (src : Nat) (x y : Word) : (h.diaryAdd src x y).stopping = h.stopping := by
  rw [diaryAdd_eq]
@[simp] theorem diaryAdd_pendEn (h : Hw) (src : Nat) (x y : Word) : (h.diaryAdd src x y).pendEn = h.pendEn := by
  rw [diaryAdd_eq]
@[simp] theorem diaryAdd_wakeReq (h : Hw) (src : Nat) (x y : Word) : (h.diaryAdd src x y).wakeReq = h.wakeReq := by
  rw [diaryAdd_eq]
@[simp] theorem diaryAdd_autoDue (h : Hw) (src : Nat) (x y : Word) : (h.diaryAdd src x y).autoDue = h.autoDue := by
  rw [diaryAdd_eq]
@[simp] theorem diaryAdd_pwr (h : Hw) (src : Nat) (x y : Word) : (h.diaryAdd src x y).pwr = h.pwr := by
  rw [diaryAdd_eq]
@[simp] theorem diaryAdd_clk (h : Hw) (src : Nat) (x y : Word) : (h.diaryAdd src x y).clk = h.clk := by
  rw [diaryAdd_eq]
@[simp] theorem diaryAdd_int0 (h : Hw) (src : Nat) (x y : Word) : (h.diaryAdd src x y).int0 = h.int0 := by
  rw [diaryAdd_eq]
@[simp] theorem diaryAdd_int1 (h : Hw) (src : Nat) (x y : Word) : (h.diaryAdd src x y).int1 = h.int1 := by
  rw [diaryAdd_eq]
@[simp] theorem diaryAdd_pins (h : Hw) (src : Nat) (x y : Word) : (h.diaryAdd src x y).pins = h.pins := by
  rw [diaryAdd_eq]
@[simp] theorem diaryAdd_latch (h : Hw) (src : Nat) (x y : Word) : (h.diaryAdd src x y).latch = h.latch := by
  rw [diaryAdd_eq]
@[simp] theorem diaryAdd_recog (h : Hw) (src : Nat) (x y : Word) : (h.diaryAdd src x y).recog = h.recog := by
  rw [diaryAdd_eq]
@[simp] theorem diaryAdd_etch (h : Hw) (src : Nat) (x y : Word) : (h.diaryAdd src x y).etch = h.etch := by
  rw [diaryAdd_eq]
@[simp] theorem diaryAdd_prog (h : Hw) (src : Nat) (x y : Word) : (h.diaryAdd src x y).prog = h.prog := by
  rw [diaryAdd_eq]
@[simp] theorem diaryAdd_eprog (h : Hw) (src : Nat) (x y : Word) : (h.diaryAdd src x y).eprog = h.eprog := by
  rw [diaryAdd_eq]
@[simp] theorem diaryAdd_buf (h : Hw) (src : Nat) (x y : Word) : (h.diaryAdd src x y).buf = h.buf := by
  rw [diaryAdd_eq]
@[simp] theorem diaryAdd_strm (h : Hw) (src : Nat) (x y : Word) : (h.diaryAdd src x y).strm = h.strm := by
  rw [diaryAdd_eq]
@[simp] theorem diaryAdd_host (h : Hw) (src : Nat) (x y : Word) : (h.diaryAdd src x y).host = h.host := by
  rw [diaryAdd_eq]
@[simp] theorem diaryAdd_alm (h : Hw) (src : Nat) (x y : Word) : (h.diaryAdd src x y).alm = h.alm := by
  rw [diaryAdd_eq]
@[simp] theorem diaryAdd_cal (h : Hw) (src : Nat) (x y : Word) : (h.diaryAdd src x y).cal = h.cal := by
  rw [diaryAdd_eq]
@[simp] theorem diaryAdd_pps (h : Hw) (src : Nat) (x y : Word) : (h.diaryAdd src x y).pps = h.pps := by
  rw [diaryAdd_eq]
@[simp] theorem diaryAdd_afe (h : Hw) (src : Nat) (x y : Word) : (h.diaryAdd src x y).afe = h.afe := by
  rw [diaryAdd_eq]
@[simp] theorem diaryAdd_dec (h : Hw) (src : Nat) (x y : Word) : (h.diaryAdd src x y).dec = h.dec := by
  rw [diaryAdd_eq]
@[simp] theorem diaryAdd_tim (h : Hw) (src : Nat) (x y : Word) : (h.diaryAdd src x y).tim = h.tim := by
  rw [diaryAdd_eq]
@[simp] theorem diaryAdd_net (h : Hw) (src : Nat) (x y : Word) : (h.diaryAdd src x y).net = h.net := by
  rw [diaryAdd_eq]
@[simp] theorem diaryAdd_twi (h : Hw) (src : Nat) (x y : Word) : (h.diaryAdd src x y).twi = h.twi := by
  rw [diaryAdd_eq]
@[simp] theorem diaryAdd_xfer (h : Hw) (src : Nat) (x y : Word) : (h.diaryAdd src x y).xfer = h.xfer := by
  rw [diaryAdd_eq]
@[simp] theorem diaryAdd_gang (h : Hw) (src : Nat) (x y : Word) : (h.diaryAdd src x y).gang = h.gang := by
  rw [diaryAdd_eq]
@[simp] theorem diaryAdd_mbx (h : Hw) (src : Nat) (x y : Word) : (h.diaryAdd src x y).mbx = h.mbx := by
  rw [diaryAdd_eq]
@[simp] theorem diaryAdd_fw (h : Hw) (src : Nat) (x y : Word) : (h.diaryAdd src x y).fw = h.fw := by
  rw [diaryAdd_eq]
@[simp] theorem diaryAdd_nvs (h : Hw) (src : Nat) (x y : Word) : (h.diaryAdd src x y).nvs = h.nvs := by
  rw [diaryAdd_eq]
@[simp] theorem diaryAdd_keys (h : Hw) (src : Nat) (x y : Word) : (h.diaryAdd src x y).keys = h.keys := by
  rw [diaryAdd_eq]
@[simp] theorem diaryAdd_proof (h : Hw) (src : Nat) (x y : Word) : (h.diaryAdd src x y).proof = h.proof := by
  rw [diaryAdd_eq]
@[simp] theorem diaryAdd_tap (h : Hw) (src : Nat) (x y : Word) : (h.diaryAdd src x y).tap = h.tap := by
  rw [diaryAdd_eq]

end Hw
end Sys2Proof.Machine
end

