-- ==== Sys2Proof/Laws/Etch.lean ====
section
/-!
SUPPORT. The Etchers: what replacing one changes and leaves, and where execution continues within the region.
-/

namespace Sys2Proof.Machine
namespace Hw

@[simp] theorem etcher_setEtcher (h : Hw) (n : Fin 8) (e : Etcher) : (h.setEtcher n e).etcher n = e := by
  simp [etcher, setEtcher]
@[simp] theorem setEtcher_setEtcher (h : Hw) (n : Fin 8) (e e' : Etcher) :
    (h.setEtcher n e).setEtcher n e' = h.setEtcher n e' := by
  simp [setEtcher]
@[simp] theorem setEtcher_regs (h : Hw) (n : Fin 8) (e : Etcher) : (h.setEtcher n e).regs = h.regs := rfl
@[simp] theorem setEtcher_reg (h : Hw) (n : Fin 8) (e : Etcher) (a : Nat) : (h.setEtcher n e).reg a = h.reg a := rfl
@[simp] theorem setEtcher_b (h : Hw) (n : Fin 8) (e : Etcher) (a i : Nat) : (h.setEtcher n e).b a i = h.b a i := rfl
@[simp] theorem setEtcher_inRegion (h : Hw) (n : Fin 8) (e : Etcher) (m : Fin 8) (a : Nat) :
    (h.setEtcher n e).inRegion m a = h.inRegion m a := rfl
@[simp] theorem setEtcher_fabric (h : Hw) (n : Fin 8) (e : Etcher) : (h.setEtcher n e).fabric = h.fabric := rfl
@[simp] theorem setEtcher_newSample (h : Hw) (n : Fin 8) (e : Etcher) : (h.setEtcher n e).newSample = h.newSample := rfl
@[simp] theorem event_etcher (h : Hw) (k : Nat) (n : Fin 8) : (h.event k).etcher n = h.etcher n := by rw [event_eq]; rfl

/-- The region is what the registers say. -/
theorem inRegion_congr (h g : Hw) (e : h.regs = g.regs) : h.inRegion = g.inRegion := by
  funext n a
  have h1 : h.etchLo n = g.etchLo n := by simp [etchLo, f, reg, e]
  have h2 : h.etchHi n = g.etchHi n := by simp [etchHi, f, reg, e]
  unfold inRegion; rw [h1, h2]

/-- Execution continues at an address; whether it lies in the region shows at its fetch (R317). -/
theorem etchGo_set (h : Hw) (n : Fin 8) (e : Etcher) (a : Nat) :
    (h.setEtcher n e).etchGo n a = h.setEtcher n { e with pc := BitVec.ofNat 10 a, st := .run } := by
  simp [etchGo]

/-- Execution continues at PC + 1. -/
theorem etchNext_set (h : Hw) (n : Fin 8) (e : Etcher) (hx : e.pc.toNat = h.etchPc n) :
    (h.setEtcher n e).etchNext n = h.setEtcher n { e with pc := BitVec.ofNat 10 (h.etchPc n + 1), st := .run } := by
  have e' : (h.setEtcher n e).etchPc n = h.etchPc n := by rw [← hx]; simp [etchPc]
  unfold etchNext; rw [e']; exact etchGo_set h n e _

/-- The pulses owed to an Etcher are added to its counters and to nothing else (R310). -/
@[simp] theorem etchPaid_regs (h : Hw) (n : Fin 8) : (h.etchPaid n).regs = h.regs := rfl
@[simp] theorem etchPaid_etcher (h : Hw) (n : Fin 8) : (h.etchPaid n).etcher n = (h.etcher n).paid := by
  simp [etchPaid]

/-- Nothing is owed: the counters stay. -/
theorem paid_zero (e : Etcher) (h0 : e.owed = 0) : e.paid = e := by
  cases e; simp only at h0; subst h0
  simp only [Etcher.paid, Etcher.mk.injEq, true_and, and_true, BitVec.ofNat_eq_ofNat]
  ext i hi; simp

/-- What is fetched is executed in RUN or WAIT, in SENSE with power, within the region (R294, R317). -/
theorem etchFetch_some {h : Hw} {n : Fin 8} {op : EtchOp} (hf : h.etchFetch n = some op) :
    h.up .sense = true ∧ ((h.etcher n).st = .run ∨ (h.etcher n).st = .wait) ∧ h.inRegion n (h.etchPc n) = true ∧
      decodeEtch (h.progWord (h.etchPc n)) = some op := by
  unfold etchFetch etchRuns at hf
  split at hf
  · rename_i hc
    simp only [Bool.and_eq_true, Bool.or_eq_true, beq_iff_eq] at hc
    exact ⟨hc.1.1, hc.1.2, hc.2, hf⟩
  · cases hf

end Hw
end Sys2Proof.Machine
end

