-- ==== Sys2Proof/Laws/Write.lean ====
section
/-!
SUPPORT. The way of a write through the arbiter: what a write row does to a register of a block, to a key of a wide group
and to CTRL, once the page is powered and no lock bars it.
-/

namespace Sys2Proof.Machine
namespace Hw

/-- An accepted write to a block register acts as the block says. -/
theorem writeRow_block (h : Hw) (p : Party) (a : Nat) (v : Word) (k : Kind) (hb : blockReg a k = true)
    (ha : h.accepts p a v) : h.writeRow p a v = h.blockWrite p k a v := by
  obtain ⟨h1, h2, h3, h4⟩ := ha
  simp only [blockReg, Bool.and_eq_true, beq_iff_eq, decide_eq_true_eq, Bool.not_eq_true', Option.isNone_iff_eq_none,
    Option.isSome_iff_exists] at hb
  obtain ⟨⟨⟨⟨⟨hk, d, hd⟩, ho⟩, hg⟩, hm⟩, hs⟩ := hb
  have hl : (h.locked (a / 256) && ((h.reg a ^^^ v) &&& wd d.rwl) != 0) = false := by
    by_cases hl : h.locked (a / 256) = true
    · have := h3 hl
      simp only [rwlMask, descOf, hk, hd, Option.map_some, Option.getD_some] at this
      simp [hl, this]
    · simp [hl]
  have e : h.writeReg p a v = (h.blockWrite p k a v, false) := by
    unfold writeReg
    simp only [hk, h2, hg, hm, hs, h4, fieldWrite, hd, hl]
    simp [pselAccess, show ¬ a % 256 < 2 by omega, show a % 256 ≠ 15 by omega, show a % 256 ≠ 2 by omega, show ¬ a % 256 < 16 by omega]
  simp [writeRow, h1, e]

/-- An accepted commit applies its words, and the staging copy empties (R105). -/
theorem writeRow_commit (h : Hw) (p : Party) (a len : Nat) (v : Word) (hb : groupKey a len = true)
    (ha : h.acceptsKey p a v) :
    h.writeRow p a v = (h.commitApply a (h.groupWords p a v)).groupDone p a := by
  obtain ⟨h1, h2, h3, h4, h5⟩ := ha
  simp only [groupKey, Bool.and_eq_true, beq_iff_eq, decide_eq_true_eq, Bool.not_eq_true', Option.isSome_iff_exists] at hb
  obtain ⟨⟨⟨⟨⟨hg, k, hk⟩, ho⟩, h6⟩, hm⟩, hs⟩ := hb
  have hlen : groupLenOf a = len := by simp [groupLenOf, hg]
  have e : h.writeReg p a v = ((h.commitApply a (h.groupWords p a v)).groupDone p a, false) := by
    unfold writeReg
    unfold groupWords at h3
    rw [hlen] at h3
    simp only [hk, h2, hg, hm, hs, h4, h5, commit, if_neg h6, h3, groupWords, groupDone, hlen]
    simp [pselAccess, show ¬ a % 256 < 2 by omega, show a % 256 ≠ 15 by omega, show a % 256 ≠ 2 by omega, show ¬ a % 256 < 16 by omega]
  simp [writeRow, h1, e]

/-- A write to CTRL (R96). -/
theorem writeRow_ctrl (h : Hw) (p : Party) (pg : Nat) (v : Word) (k : Kind) (hk : kindOf pg = some k)
    (hp : h.partyUp p = true) (hu : h.pageUp pg = true) (hb : etchBarred p (pg * 256 + 2) = none) :
    h.writeRow p (pg * 256 + 2) v = h.ctrlWrite pg k v := by
  have e1 : (pg * 256 + 2) / 256 = pg := by omega
  have e2 : (pg * 256 + 2) % 256 = 2 := by omega
  have e : h.writeReg p (pg * 256 + 2) v = (h.ctrlWrite pg k v, false) := by
    unfold writeReg
    simp [pselAccess, e1, e2, hk, hu, hb]
  simp [writeRow, hp, e]

/-- A write that comes alone at a register is applied as it stands (R112): the arbiter drops nothing. -/
theorem arbitrate_single (h : Hw) (p : Party) (a : Nat) (v : Word) (hp : h.partyUp p = true)
    (hu : h.pageUp (a / 256) = true) (h1 : a ≠ R.MBX_REL) (h2 : portMaskedReg a = false) (h6 : a / 256 ≠ 6)
    (h15 : a % 256 ≠ 15) (h4 : etchBarred p a = none) :
    h.arbitrate a [(p, v)] = h.writeRow p a v := by
  unfold arbitrate
  have ha : aside a p = false := by simp [aside, pselAccess, h15, h4]
  have hr : ranked (List.filter (fun w => !aside a w.1) (List.filter (fun w => h.partyUp w.1) [(p, v)])) = [(p, v)] := by
    simp [hp, ha, ranked, insertRank]
  have hs : h.asideWrites a (List.filter (fun w => h.partyUp w.1) [(p, v)]) = h := by simp [asideWrites, hp, ha]
  simp only [hr, hs]
  cases hk : kindOf (a / 256) with
  | none => simp [writeRow, hp, writeReg, hk]
  | some k =>
    simp only [Option.isNone_some, Bool.false_eq_true, if_false, readErr, hu, Bool.not_true, h1, h2]
    have hf : (h.writeReg p a v).2 = false := by
      unfold writeReg
      rw [hk, h4]
      simp only [hu, h2, pselAccess, h15]
      repeat' split
      all_goals first | rfl | (rename_i x; simp at x) | skip
      rename_i e
      subst e
      unfold commit
      simp only [h6, if_false]
      split <;> rfl
    split
    · simp [writeRow, hp, hf]
    · simp [writeRow, hp, hf, h6]

/-- REGISTER_WRITE by one party at a block register that accepts it acts as the block says. -/
theorem exec_registerWrite_block (s : State) (p : Party) (a : Nat) (v : Word) (k : Kind) (hb : blockReg a k = true)
    (ha : s.hw.accepts p a v) (h1 : a ≠ R.MBX_REL) (h6 : a / 256 ≠ 6) (hlt : a < 65536) :
    exec (.registerWrite (BitVec.ofNat 16 a) [(p, v)] Tie.none) s = .next (s.after (s.hw.blockWrite p k a v)) := by
  show execRegisterWrite _ _ s Tie.none = _
  have e : (BitVec.ofNat 16 a).toNat = a := by simp; omega
  simp only [execRegisterWrite, show Hw.wellSent [(p, v)] = true from rfl, if_true, e, done_eq, arbitrateTie,
    decide_true, Bool.true_or]
  have h2 : portMaskedReg a = false := by simp [blockReg] at hb; exact hb.1.2
  have h0 : a % 256 ≠ 15 := by simp [blockReg] at hb; omega
  rw [arbitrate_single _ _ _ _ ha.1 ha.2.1 h1 h2 h6 h0 ha.2.2.2, writeRow_block _ _ _ _ _ hb ha]

/-! ### Flags -/

/-- A raised flag of a block that runs is 1. -/
theorem raise_b_same (h : Hw) (pg k : Nat) (hk : k < 16) (hl : h.pageLive pg = true) :
    (h.raise pg k).b (pg * 256 + 4) k = true := by
  have e : (wd (2 ^ k)).getLsbD k = true := by interval_cases k <;> rfl
  simp [raise, hl, setBits, b, e]

/-- Raising a flag clears no bit of any register. -/
theorem raise_b_mono (h : Hw) (pg k a i : Nat) (hb : h.b a i = true) : (h.raise pg k).b a i = true := by
  unfold raise
  split
  · by_cases e : a = pg * 256 + 4
    · subst e
      simp [setBits, b] at hb ⊢; left; exact hb
    · simp only [setBits, b, reg_setReg_ne _ _ _ _ e]; exact hb
  · exact hb

end Hw
end Sys2Proof.Machine
end

