-- ==== Sys2Proof/Machine/Layout.lean ====
section
/-!
DEFINITION. The bytes of the configuration store (R541, R542): the sectors of each copy and the layout of the copies that the
controller writes. The factory region's contents have no layout in the spec.
-/

namespace Sys2Proof.Machine

/-- First and last sector of a copy, A or B, in sectors of 256 bytes (R541). -/
def Region.sectors : Region → Fin 2 → Nat × Nat
  | .boot, c => if c = 0 then (8, 8) else (9, 9)
  | .body, c => if c = 0 then (10, 33) else (34, 57)
  | .keys, c => if c = 0 then (58, 60) else (61, 63)

/-- MAGIC of a region (R542). -/
def Region.magic : Region → Nat
  | .boot => 0x4242
  | .body => 0x4E56
  | .keys => 0x4B59

/-- A copy: header, contents and CRC-32 over every earlier byte (R455, R542). -/
def copyBytes (r : Region) (seq sect : Nat) (body : List Byte) : List Byte :=
  let m := bytesBE r.magic 2 ++ [0x01, 0x00] ++ bytesBE seq 4 ++ bytesBE body.length 2 ++ bytesBE sect 2
    ++ List.replicate 4 0x00 ++ body
  m ++ bytesBE (crc32 m).toNat 4

/-- The boot contents (R542): one word for each register. -/
def bootBytes (ws : List Word) : List Byte := bytesOfWords ws

/-- A section of the body: its 2-byte length, then its bytes (R542). -/
def sectionBytes (bs : List Byte) : List Byte := bytesBE bs.length 2 ++ bs

/-- The body contents (R542): the sections present, in ascending SECT bit order. -/
def bodyBytes (b : Body) : List Byte :=
  let fields := b.fields.map fun fs => sectionBytes (fs.flatMap fun x => bytesBE x.1 2 ++ bytesOfWords [x.2])
  let prog := b.prog.map fun ps =>
    sectionBytes ((List.range 1024).flatMap fun a => bytesOf4 (Cells.get (fun _ => 0) ps a))
  let clocks := b.clocks.map fun ws => sectionBytes (bytesOfWords ws)
  (fields.getD []) ++ (prog.getD []) ++ (clocks.getD [])

/-- The SECT bits of a body (R542). -/
def bodySect (b : Body) : Nat :=
  (if b.fields.isSome then 1 else 0) + (if b.prog.isSome then 2 else 0) + (if b.clocks.isSome then 4 else 0)

/-- One key slot (R542): flags, key ID, two zero bytes and the 32 key bytes. -/
def slotBytes : Option (Nat × List Word) → List Byte
  | none => List.replicate 36 0
  | some (kid, ws) => [0x01, BitVec.ofNat 8 kid, 0x00, 0x00] ++ bytesOfWords ws

/-- The bytes of a passing copy of the boot region, the body and the keys (R542). -/
def bootCopyBytes (c : Copy (List Word)) : List Byte := copyBytes .boot c.seq 0 (bootBytes c.data)
def bodyCopyBytes (c : Copy Body) : List Byte := copyBytes .body c.seq (bodySect c.data) (bodyBytes c.data)
def keysCopyBytes (c : Copy KeySlots) : List Byte := copyBytes .keys c.seq 0 (c.data.flatMap slotBytes)

end Sys2Proof.Machine
end

