-- ==== Sys2Proof/Tests/Slice0.lean ====
section
/-!
SUPPORT. Small tests: the checks of WellFormed, worked values of the spec, and for every statement with hypotheses a state
and operands that meet them, clause by clause, at the ends of their ranges.
-/

namespace Sys2Proof.Tests
open Sys2Proof Sys2Proof.Machine Sys2Proof.Machine.Hw

-- One theorem at a time: each closed check below waits for the kernel, and many waiting threads cost memory.
set_option Elab.async false

/-- Every domain is up, draft is over, the load is complete, the clocks are locked. -/
def upHw : Hw :=
  { Hw.start Nvs.shipped .v33 34000 0 0 with
    pwr := { Pwr.init .v33 34000 with
      vigilUp := true, bootLoaded := true, draft := false, time := .on, sense := .on, net := .on, core := .on }
    clk := { Clk.init 0 0 0 with
      synst := .locked, refOk := true, needCal := false, lockedOnce := true, xok := true, slock := true }
    nvs := { Nvs.shipped with loaded := true, trims := none }
    twi := Vector.replicate 2 { TwiBus.init 0x0101 with busy := false } }

def up : State := { hw := upHw, pending := [] }

/-- `up` with these register values. -/
def on (l : List (Nat × Word)) : State := { up with hw := l.foldl (fun h x => h.setReg x.1 x.2) upHw }

/-- `up` with another sentinel. -/
def at' (h : Hw) : State := { up with hw := h }

/-- `up` with another power state. -/
def pw (f : Pwr → Pwr) : State := at' { upHw with pwr := f upHw.pwr }

/-- VIGIL alone is up. -/
def low : State := pw fun p => { p with time := .off, sense := .off, net := .off, core := .off }

/-- The outcome is a next state. -/
def runs (o : Host.Outcome State Fault Refusal) : Bool :=
  match o with
  | .next _ => true
  | _ => false

/-! ### Ill-formed commands are refused by WellFormed and stop with a fault -/

/-- WellFormed refuses the command, and the machine stops on it. -/
def refusedAs (c : Instr) : Bool :=
  !c.wellFormed && match exec c up with
    | .fault .illFormed => true
    | _ => false

theorem test_illformed_writers :
    refusedAs (.registerWrite 0x0110 [] Tie.none) = true ∧ refusedAs (.registerWrite 0x0110 [(.spi, 1), (.spi, 2)] Tie.none) = true ∧
    refusedAs (.mbxCommit 0 []) = true ∧ refusedAs (.mbxRelease [(.core, 1), (.remote, 1)]) = true ∧
    refusedAs (.portMaskedWrite 0 0 []) = true ∧ refusedAs (.outset 0 [(.twi0, 1), (.twi0, 1)]) = true ∧
    refusedAs (.outclr 1 []) = true ∧ refusedAs (.outtgl 2 []) = true := by
  decide +kernel

theorem test_illformed_registers :
    refusedAs (.keyRead .spi 0x0215) = true ∧ refusedAs (.stagingWrite .spi 0x0214 0) = true ∧
    refusedAs (.wideGroupCommit 0x0215 [(.spi, 0)]) = true ∧ refusedAs (.wideGroupCommit 0x0214 []) = true ∧
    refusedAs (.wideGroupCommit 0x0218 [(.spi, 0)]) = true ∧ refusedAs (.alarmConfigCommit .spi 0x3412 0) = true := by
  decide +kernel

/-! ### Worked values of the spec -/

/-- The check value of R134. -/
theorem test_crc_check : crcBytes [0x31, 0x32, 0x33, 0x34, 0x35, 0x36, 0x37, 0x38, 0x39] = 0x29B1 := by decide +kernel

/-- Every row of WellFormed's other rows is well-formed whatever its operands: one of each kind. -/
theorem test_wellformed : (Instr.pwrReqWrite .spi 1).wellFormed = true ∧ (Instr.keyRead .spi 0x0214).wellFormed = true ∧
    (Instr.stagingWrite .spi 0x0215 0).wellFormed = true ∧ (Instr.wideGroupCommit 0x0214 [(.spi, 0)]).wellFormed = true := by
  decide +kernel

/-- Etcher words written out from R302 to R313. -/
theorem test_etch_words :
    decodeEtch 0x00000001 = some (.halt true) ∧
    decodeEtch 0b001_000_0000000000_00_001000_00_000101 = some (.wait (.ev 5 8) none) ∧
    decodeEtch 0b010_000_00000000000000000000000_001 = some (.sig .pulse) ∧
    decodeEtch 0b011_001_0000_010101_000000_0000001111 = some (.branch (.ev 21) 15) ∧
    decodeEtch 0b100_010_00000000_10_0000000000000111 = some (.count (.add 7) 2) ∧
    decodeEtch 0b101_000_00000000_11_0001001000110100 = some (.ldi 3 0x1234) ∧
    decodeEtch 0b110_00000000000000000000000000000 = none := by decide +kernel

/-- The first bytes of SHA-256 of "abc" (its published example), the hash of the ICV (R416). -/
theorem test_sha256_abc : (sha256 [0x61, 0x62, 0x63]).take 4 = [0xBA, 0x78, 0x16, 0xBF] := by decide +kernel

/-! ### Witnesses: what each statement assumes can be met -/

/-- Nothing waits; the S-loop offset is asked up and down. -/
theorem witness_EmptyQueueLetsOneVCyclePass : up.pending = [] ∧
    (∃ s : State, s.pending = [] ∧ s.hw.live .sense = true ∧ s.hw.clk.soffs < s.hw.clk.soffsTo) ∧
    ∃ s : State, s.pending = [] ∧ s.hw.live .sense = true ∧ s.hw.clk.soffsTo < s.hw.clk.soffs :=
  ⟨rfl, ⟨at' { upHw with clk := { upHw.clk with soffsTo := 1 } }, by decide +kernel⟩,
    ⟨at' { upHw with clk := { upHw.clk with soffsTo := -1 } }, by decide +kernel⟩⟩

theorem witness_StopsExactlyOnIllFormedCommands :
    (Instr.registerWrite 0x0110 [] Tie.none).wellFormed = false ∧ Instr.pinReset.wellFormed = true := by decide

theorem witness_EveryStepKeepsSettled :
    (upHw.int0.agg = upHw.aggregate 0 ∧ upHw.int1.agg = upHw.aggregate 1 ∧
      upHw.pins.conf = (if upHw.vigil = true then upHw.conflicts else 0) ∧ (upHw.clk.xok = true → upHw.oscRuns = true) ∧
      upHw.wakeReq = false ∧ upHw.alarmReq = none) ∧ runs (step { up with pending := [.wakeN] }) = true := by
  decide +kernel

theorem witness_FollowUpTouchesOnlyConsumers : upHw.latch.set = true := by decide +kernel

/-- The threshold is 33.0 V at reset: a warning below it, a release above it plus 0.5 V, nothing between. -/
theorem witness_SupplyEventsAndVinWarning :
    (pw fun p => { p with running := false }).hw.pwr.running = false ∧
    (up.hw.pwr.running = true ∧ up.hw.up .sense = true ∧ up.hw.vigil = true) ∧
    (pw fun p => { p with buckFault := true }).hw.pwr.buckFault = true ∧
    (up.hw.pwr.vinWarn = false ∧ 32999 < up.hw.vinThreshold ∧ up.hw.vinThreshold ≤ 33000) ∧
    ∃ s : State, s.hw.vigil = true ∧ s.hw.pwr.vinWarn = true ∧ s.hw.vinThreshold + 500 < 33501 ∧
      33500 ≤ s.hw.vinThreshold + 500 :=
  ⟨by decide +kernel, by decide +kernel, by decide +kernel, by decide +kernel,
    pw fun p => { p with vinWarn := true }, by decide +kernel⟩

theorem witness_ResetsKeepWhatSurvives :
    up.hw.nvs.job = none ∧ up.hw.pwr.running = true ∧ up.hw.pwr.vigilUp = true ∧
    (pw fun p => { p with held := true, vigilUp := false }).hw.pwr.held = true ∧
    up.hw.accepts .spi R.IDENT_RESET 0xD1A5 ∧ (0xD1A4 : Word) ≠ 0xD1A5 ∧ up.hw.accepts .core R.IDENT_RESET 0xD1A4 := by
  unfold Hw.accepts; decide +kernel

theorem witness_VigilStartsAndLoadsStore :
    (∃ s : State, s.hw.pwr.running = true ∧ s.hw.pwr.vigilUp = false ∧ s.hw.pwr.vio ≠ .out ∧ s.hw.pwr.buckFault = false ∧
      s.hw.tap.ir ≠ .priv) ∧
    (∃ s : State, s.hw.pwr.running = true ∧ s.hw.pwr.held = true ∧ s.hw.pwr.vio ≠ .out ∧ s.hw.pwr.buckFault = false ∧
      s.hw.tap.ir ≠ .priv) ∧
    (∃ s : State, s.hw.vigil = true ∧ s.hw.pwr.bootLoaded = false) ∧
    (∃ s : State, s.hw.vigil = true ∧ s.hw.pwr.bootLoaded = false ∧ pickCopy s.hw.nvs.boot = none) ∧
    ∃ s : State, s.hw.vigil = true ∧ s.hw.pwr.bootLoaded = true ∧ s.hw.nvs.loaded = false ∧ s.hw.nvs.job = none :=
  ⟨⟨pw fun p => { p with vigilUp := false }, by decide +kernel⟩, ⟨pw fun p => { p with held := true }, by decide +kernel⟩,
    ⟨pw fun p => { p with bootLoaded := false }, by decide +kernel⟩,
    ⟨at' { upHw with pwr := { upHw.pwr with bootLoaded := false }, nvs := { upHw.nvs with boot := Vector.replicate 2 ⟨.erased, 0, []⟩ } }, by decide +kernel⟩,
    ⟨at' { upHw with nvs := Nvs.shipped }, by decide +kernel⟩⟩

/-- All are asked for: TIME rises first. Only TIME is asked for: CORE falls first. -/
theorem witness_PowerSequencesRunInOrder :
    low.hw.nextSeq = some (.time, true) ∧
    (on [(R.PWR_REQ, 1)]).hw.nextSeq = some (.core, false) ∧ up.hw.pwr.opposite = none ∧ up.hw.accepts .spi R.PWR_REQ 15 ∧
    up.hw.nextSeq = none ∧ (∃ s : State, s.hw.pwr.opposite = some .sense ∧ s.hw.nextSeq = some (.sense, false)) ∧
    (pw fun p => { p with core := .rising }).hw.risingDom = some .core ∧
    (pw fun p => { p with core := .falling }).hw.fallingDom = some .core ∧
    (∃ s : State, s.hw.vigil = true ∧ s.hw.pwr.core = .falling ∧ s.hw.pwr.forced = false) ∧
    (on [(R.PWR_WAKEEN, 0x0100)]).hw.b R.PWR_WAKEEN 8 = true ∧ up.hw.b R.PWR_WAKEEN 8 = false ∧ up.hw.vigil = true := by
  refine ⟨by decide +kernel, by decide +kernel, by decide +kernel, ?_, by decide +kernel,
    ⟨at' { (upHw.setReg R.PWR_REQ 1) with pwr := { upHw.pwr with opposite := some .sense } }, by decide +kernel⟩,
    by decide +kernel, by decide +kernel,
    ⟨pw fun p => { p with core := .falling }, by decide +kernel⟩, by decide +kernel, by decide +kernel, by decide +kernel⟩
  unfold Hw.accepts; decide +kernel

theorem witness_WritesFollowAccessCodes :
    descOf (R.PWR_CFG) ≠ none ∧ storesOnly R.PWR_CFG = true ∧ up.hw.accepts .spi R.PWR_CFG 1 ∧
    descOf (R.PWR_IFLAG) ≠ none ∧ storesOnly R.PWR_IFLAG = true ∧ up.hw.accepts (.etch 7) R.PWR_IFLAG 0xFFFF := by
  unfold Hw.accepts; decide +kernel

/-- The buffer's CTRL holds no lock; a register of RWL fields on an unlocked page; RECAL written with EN but no reset. -/
theorem witness_BlockAndPartyInOneCycle :
    (descOf R.PWR_IFLAG ≠ none ∧ storesOnly R.PWR_IFLAG = true ∧ up.hw.accepts .spi R.PWR_IFLAG 8 ∧
      up.hw.locked (R.PWR_IFLAG / 256) = false) ∧
    (∃ (s : State) (d : RegDesc), s.hw.locked (R.PWR_IFLAG / 256) = true ∧ descOf R.PWR_IFLAG = some d ∧ d.rwl = 0 ∧
      s.hw.accepts .spi R.PWR_IFLAG 8) ∧
    up.hw.accepts .spi R.CLK_CTRL 2 ∧ (2 : Word).getLsbD 1 = true ∧ (2 : Word).getLsbD 15 = false := by
  refine ⟨by unfold Hw.accepts; decide +kernel, ⟨on [(R.PWR_LOCK, 1)], (descOf R.PWR_IFLAG).getD ⟨0, 0, 0, 0, 0, 0, 0⟩, ?_⟩,
    by unfold Hw.accepts; decide +kernel, by decide +kernel, by decide +kernel⟩
  unfold Hw.accepts; decide +kernel

theorem witness_LocksHoldFieldsAndForcedFlagsSet :
    (∃ (a : Word) (d : RegDesc), blockReg a.toNat .reflex = true ∧ d.woo = 0 ∧ up.hw.partyUp .spi = true ∧ Kind.reflex.desc (a.toNat % 256) = some d ∧
      (on [(R.REFLEX_LOCK, 1)]).hw.pageUp (a.toNat / 256) = true ∧ etchBarred .spi a.toNat = none ∧
      etchBarred (.etch 3) a.toNat = none ∧ (on [(R.REFLEX_LOCK, 1)]).hw.locked (a.toNat / 256) = true ∧
      ((on [(R.REFLEX_LOCK, 1)]).hw.reg a.toNat ^^^ 0x000F) &&& wd d.rwl ≠ 0) ∧
    etchBarred (.etch 0) 0x1500 = none ∧ kindOf 0x15 = some .reflex ∧ up.hw.partyUp .spi = true ∧ up.hw.pageUp 0x15 = true ∧ (0x4C4A : Word) ≠ 0x4C4B :=
  ⟨⟨BitVec.ofNat 16 R.REFLEX_CFG, (Kind.reflex.desc (R.REFLEX_CFG % 256)).getD ⟨0, 0, 0, 0, 0, 0, 0⟩, by decide +kernel⟩,
    by decide +kernel⟩

theorem witness_ArbiterRejectsUnpoweredAndLosingWrites :
    ((kindOf 0x15).isSome = true ∧ low.hw.pageUp 0x15 = false ∧ low.hw.partyUp .spi = true ∧ low.hw.partyUp .twi0 = true ∧
      (R.REFLEX_CFG % 256 ≠ 15) ∧ low.hw.vigil = true) ∧
    (∃ s : State, s.hw.live .sense = true ∧ s.hw.pageUp 0x30 = false ∧ (kindOf 0x30).isSome = true ∧
      etchBarred (.etch 7) 0x3010 = none) ∧
    (low.hw.partyUp .core = false) ∧
    (slot .spi < slot .twi0 ∧ slot .core < slot (.etch 0) ∧ slot (.etch 6) < slot (.etch 7)) ∧
    (up.hw.partyUp .core = true ∧ up.hw.partyUp (.etch 0) = true ∧ (kindOf (R.PWR_REQ / 256)).isSome = true ∧
      up.hw.pageUp (R.PWR_REQ / 256) = true ∧ R.PWR_REQ ≠ R.MBX_REL ∧ portMaskedReg R.PWR_REQ = false ∧
      portSetReg R.PWR_REQ = false ∧ orReg R.PWR_REQ = false ∧ R.PWR_REQ / 256 ≠ 6 ∧ aside R.PWR_REQ .core = false ∧
      aside R.PWR_REQ (.etch 0) = false) ∧ aside 0x010F .twi0 = true ∧ aside 0x010F .spi = false :=
  ⟨by decide +kernel, ⟨pw fun p => { p with net := .off, core := .off }, by decide +kernel⟩, by decide +kernel, by decide +kernel,
    by decide +kernel, by decide +kernel, by decide +kernel⟩

theorem witness_FlagWritesApplyTheOr :
    wellSent [(.twi0, 0x0001), (.spi, 0x8000), (.etch 7, 0xFFFF)] = true ∧
    (∀ w ∈ ([(.twi0, 0x0001), (.spi, 0x8000), (.etch 7, 0xFFFF)] : List (Party × Word)), up.hw.partyUp w.1 = true) ∧
    (∀ w ∈ ([(.twi0, 0x0001), (.spi, 0x8000), (.etch 7, 0xFFFF)] : List (Party × Word)), aside R.PWR_IFLAG w.1 = false) ∧
    orReg R.PWR_IFLAG = true ∧ up.hw.pageUp (R.PWR_IFLAG / 256) = true := by decide +kernel

theorem witness_PartiesDoNotShareCopies :
    slot .spi ≠ slot .twi0 ∧ runs (exec (.keyRead .spi 0x0214) up) = true ∧
    runs (exec (.stagingWrite .spi 0x0215 1) up) = true ∧ runs (exec (.wideGroupCommit 0x0214 [(.spi, 1)]) up) = true := by
  decide +kernel

/-- The last register of VTIME has been latched; the windows of REC are locked. -/
theorem witness_WideGroupsReadAndCommitWhole :
    (up.hw.partyUp .spi = true ∧ up.hw.pageUp 0x02 = true ∧ groupAt R.CLK_VTIME_MS = some (R.CLK_VTIME_MS, 3, false)) ∧
    (∃ (h : Hw) (w : Word), h.pageUp 0x02 = true ∧
      Cells.get (fun _ => none) h.shadows (copyKey .spi (R.CLK_VTIME_MS + 2)) = some w) ∧
    etchBarred .spi R.CLK_VTIME_MS = none ∧ etchBarred (.etch 0) R.CLK_VTIME_MS = none ∧
    up.hw.captureReg R.CLK_VTIME_MS = false ∧ up.hw.captureReg R.CLK_VTIME_SL = false ∧
    (∃ s : State, groupKey (R.TM_CH0_L 0) 2 = true ∧ s.hw.captureReg (R.TM_CH0_L 0) = true ∧ isStaged (R.TM_CH0_H 0) = true ∧
      s.hw.captureReg (R.TM_CH0_H 0) = true) ∧
    isStaged R.CLK_VTIME_SL = true ∧ groupKey R.CLK_VTIME_MS 3 = true ∧
    up.hw.commitLocked R.CLK_VTIME_MS (up.hw.groupWords .spi R.CLK_VTIME_MS 5) = false ∧
    ∃ s : State, groupKey R.REFLEX_MASK0 4 = true ∧ s.hw.pageUp 0x15 = true ∧
      s.hw.commitLocked R.REFLEX_MASK0 (s.hw.groupWords .spi R.REFLEX_MASK0 5) = true :=
  ⟨by decide +kernel, ⟨upHw.latchGroup .spi R.CLK_VTIME_MS 3, 0, by decide +kernel⟩, by decide +kernel, by decide +kernel,
    by decide +kernel, by decide +kernel, ⟨on [(R.TM_CH0CFG 0, 0x8000)], by decide +kernel⟩, by decide +kernel, by decide +kernel,
    by decide +kernel, on [(R.REFLEX_LOCK, 1)], by decide +kernel⟩

/-- The buffer has stop work, REFLEX has none. -/
theorem witness_EnableStopAndBlockReset :
    (kindOf 0x12 = some .buf ∧ hasEnable .buf = true ∧ Kind.buf ≠ .tm ∧ up.hw.accepts .spi 0x1202 1 ∧
      up.hw.accepts .spi 0x1202 0 ∧ up.hw.isStopping 0x12 = false ∧ up.hw.enabled 0x12 = true) ∧
    (∃ s : State, s.hw.accepts .spi 0x1202 1 ∧ s.hw.isStopping 0x12 = true ∧ s.hw.pageUp 0x12 = true) ∧
    (∃ s : State, s.hw.accepts .spi 0x1202 0 ∧ s.hw.isStopping 0x12 = false ∧ s.hw.enabled 0x12 = false) ∧
    (kindOf 0x15 = some .reflex ∧ hasEnable .reflex = true ∧ Kind.reflex ≠ .tm ∧ up.hw.accepts .spi 0x1502 0) ∧
    ((upHw.stopWork 0x12).isSome = true ∧ upHw.stopWork 0x15 = none) ∧
    (kindOf 0x01 = some .pwr ∧ kindOf 0x06 = some .mbx ∧ up.hw.partyUp .spi = true ∧ up.hw.pageUp 0x01 = true ∧
      up.hw.pageUp 0x06 = true) ∧
    (kindOf 0x40 = some .port ∧ (on [(0x4008, 1)]).hw.pageUp 0x40 = true ∧ (on [(0x4008, 1)]).hw.locked 0x40 = true ∧
      etchBarred .spi 0x4000 = none ∧ descOf 0x4016 ≠ none ∧ 0x10 ≤ 0x4016 % 256 ∧ (kindOf 0x03 = some .host) ∧ kindOf 0x05 = some .diary) := by
  refine ⟨?_, ⟨at' { upHw with stopping := [0x12] }, ?_⟩, ⟨on [(0x1202, 0)], ?_⟩, ?_, by decide +kernel, by decide +kernel, by decide +kernel⟩ <;>
    (unfold Hw.accepts; decide +kernel)

theorem witness_SynthesizerAndCoarseTime :
    up.hw.vigil = true ∧ (∃ s : State, s.hw.vigil = true ∧ s.hw.clk.synst = .cal ∧ s.hw.clk.refOk = true) ∧
    (∃ s : State, s.hw.vigil = true ∧ s.hw.clk.synst = .cal ∧ s.hw.clk.refOk = false) ∧
    (∃ s : State, s.hw.vigil = true ∧ s.hw.clk.synst = .acq ∧ s.hw.clk.refOk = true) ∧
    (∃ s : State, s.hw.vigil = true ∧ s.hw.clk.synst = .acq ∧ s.hw.clk.refOk = false ∧ s.hw.clk.lockedOnce = false ∧
      s.hw.clk.calFree = true) ∧
    (∃ s : State, s.hw.vigil = true ∧ s.hw.clk.synst = .acq ∧ s.hw.clk.refOk = false ∧ s.hw.clk.calFree = false) ∧
    (∃ s : State, s.hw.vigil = true ∧ s.hw.clk.synst = .acq ∧ s.hw.clk.refOk = false ∧ s.hw.clk.lockedOnce = true ∧
      s.hw.clk.calFree = true) ∧
    (up.hw.clk.synst = .locked ∧ up.hw.clk.settled = false) ∧ up.hw.acceptsKey .spi R.CLK_VTIME_MS 1000 := by
  refine ⟨by decide +kernel, ⟨at' (upHw.setClk { upHw.clk with synst := .cal }), by decide +kernel⟩,
    ⟨at' (upHw.setClk { upHw.clk with synst := .cal, refOk := false }), by decide +kernel⟩,
    ⟨at' (upHw.setClk { upHw.clk with synst := .acq }), by decide +kernel⟩,
    ⟨at' (upHw.setClk { upHw.clk with synst := .acq, refOk := false, lockedOnce := false, calFree := true }), by decide +kernel⟩,
    ⟨at' (upHw.setClk { upHw.clk with synst := .acq, refOk := false, calFree := false }), by decide +kernel⟩,
    ⟨at' (upHw.setClk { upHw.clk with synst := .acq, refOk := false, calFree := true }), by decide +kernel⟩, by decide +kernel, ?_⟩
  unfold Hw.acceptsKey; decide +kernel

theorem witness_LostClocksAreReported :
    (up.hw.vigil = true ∧ up.hw.clk.refOk = true ∧ up.hw.pwr.time ≠ .rising ∧ up.hw.clk.synst = .locked) ∧
    (∃ s : State, s.hw.vigil = true ∧ s.hw.clk.refOk = true ∧ s.hw.clk.synst = .acq ∧ s.hw.pwr.time = .rising) ∧
    (∃ s : State, s.hw.vigil = true ∧ s.hw.clk.refOk = true ∧ s.hw.clk.synst = .acq ∧ s.hw.pwr.time ≠ .rising) ∧
    (up.hw.padsOn = true ∧ up.hw.tap.pads = false ∧ ∃ s : State, s.hw.padsOn = true ∧ s.hw.clk.refclkOut = true ∧
      s.hw.tap.pads = false) ∧
    (∃ s : State, s.hw.vigil = true ∧ s.hw.clk.refOk = false ∧ s.hw.clk.synst = .hold) ∧
    (∃ s : State, s.hw.vigil = true ∧ s.hw.clk.refOk = false ∧ s.hw.clk.synst ≠ .hold ∧ s.hw.clk.synst ≠ .free) ∧
    up.hw.oscRuns = true ∧ (up.hw.live .net = true ∧ up.hw.clk.nbackup = false) ∧
    (∃ s : State, s.hw.live .net = true ∧ s.hw.clk.nbackup = true) ∧ (up.hw.live .sense = true ∧ up.hw.clk.slock = true) ∧
    (∃ s : State, s.hw.vigil = true ∧ s.hw.clk.slock = false ∧ s.hw.pwr.sense = .on) ∧ up.hw.live .time = true ∧
    (up.hw.latch.set = true ∧ ∃ s : State, s.hw.live .time = true ∧ s.hw.latch.set = false) :=
  ⟨by decide +kernel,
    ⟨{ pw fun p => { p with time := .rising } with hw := { (pw fun p => { p with time := .rising }).hw with
      clk := { upHw.clk with synst := .acq } } }, by decide +kernel⟩,
    ⟨at' (upHw.setClk { upHw.clk with synst := .acq }), by decide +kernel⟩,
    ⟨by decide +kernel, by decide +kernel, at' (upHw.setClk { upHw.clk with refclkOut := true }), by decide +kernel⟩,
    ⟨at' (upHw.setClk { upHw.clk with synst := .hold, refOk := false }), by decide +kernel⟩,
    ⟨at' (upHw.setClk { upHw.clk with synst := .cal, refOk := false }), by decide +kernel⟩, by decide +kernel,
    by decide +kernel, ⟨at' (upHw.setClk { upHw.clk with nbackup := true }), by decide +kernel⟩, by decide +kernel,
    ⟨at' (upHw.setClk { upHw.clk with slock := false }), by decide +kernel⟩, by decide +kernel, by decide +kernel,
    at' { upHw with latch := { upHw.latch with set := false } }, by decide +kernel⟩

/-- A frame of one word, the shortest, to SCRATCH; the same with a wrong CRC word and with the right one; the queue one
word below full, and full. -/
theorem witness_WriteFramesFillQueueInOrder :
    up.hw.padsOn = true ∧ cmdRead 0x0000 = false ∧ cmdCrc 0x0000 = false ∧ up.hw.b R.HOST_CFG 1 = false ∧
    [(5 : Word)].length = cmdCount 0x0000 ∧ up.hw.vigil = true ∧
    ({ up.hw.host with queue := List.replicate 31 (0, 0) } : HostPort).queue.length + 1 ≤ 32 ∧
    (∀ i, i < 1 → up.hw.wouldErr (burstAddr (cmdHold 0x0000) R.IDENT_SCRATCH i) = false) ∧
    low.hw.wouldErr R.AFE_ORIENT = true ∧
    (∃ h : Hw, h.wouldErr R.IDENT_SCRATCH = false ∧ 32 ≤ h.host.queue.length) ∧
    (cmdRead 0x4000 = false ∧ cmdCrc 0x4000 = true ∧ [(5 : Word)].length = cmdCount 0x4000 ∧
      (0x0000 : Word) ≠ crc16 [0x4000, 0x001C, 5]) ∧
    (on [(R.HOST_CFG, 2)]).hw.b R.HOST_CFG 1 = true ∧ (on [(R.HOST_CFG, 2)]).hw.padsOn = true :=
  ⟨by decide +kernel, by decide +kernel, by decide +kernel, by decide +kernel, by decide +kernel, by decide +kernel,
    by decide +kernel, by decide +kernel, by decide +kernel,
    ⟨{ upHw with host := { upHw.host with queue := List.replicate 32 (0, 0) } }, by decide +kernel⟩, by decide +kernel,
    by decide +kernel, by decide +kernel⟩

theorem witness_ReadFramesAndWriteQueue :
    (up.hw.padsOn = true ∧ up.hw.pwr.draft = false ∧ cmdRead 0x8000 = true ∧ cmdCrc 0x8000 = false ∧
      [(0 : Word)].length = cmdCount 0x8000) ∧
    low.hw.readErr R.AFE_ORIENT = true ∧ (kindOf 0x50 = none ∧ up.hw.host.queue = []) ∧
    (∃ s : State, s.hw.vigil = true ∧ s.hw.host.queue = [(R.IDENT_SCRATCH, 5)] ∧
      (s.hw.setHost { s.hw.host with queue := [] }).readErr R.IDENT_SCRATCH = false ∧ R.IDENT_SCRATCH / 256 ≠ 6) ∧
    ∃ s : State, s.hw.vigil = true ∧ s.hw.host.queue = [(R.AFE_ORIENT, 5)] ∧ (kindOf (R.AFE_ORIENT / 256)).isSome = true ∧
      s.hw.readErr R.AFE_ORIENT = true :=
  ⟨by decide +kernel, by decide +kernel, by decide +kernel,
    ⟨at' { upHw with host := { upHw.host with queue := [(R.IDENT_SCRATCH, 5)] } }, by decide +kernel⟩,
    ⟨at' { low.hw with host := { upHw.host with queue := [(R.AFE_ORIENT, 5)] } }, by decide +kernel⟩⟩

theorem witness_Twi0PointerTransfers :
    up.hw.padsOn = true ∧ (0x3B : BitVec 7).toNat ≠ up.hw.twi0Addr ∧ (0x3A : BitVec 7).toNat = up.hw.twi0Addr ∧
    up.hw.vigil = true ∧ (kindOf (0x44 : Byte).toNat).isSome = true ∧ up.hw.b R.HOST_CFG 0 = false ∧
    ∃ h : Hw, h.host.twiPtr ≠ 0x0F ∧ h.readErr h.twiAt = true ∧ (kindOf (h.twiAt / 256)).isSome = true :=
  ⟨by decide +kernel, by decide +kernel, by decide +kernel, by decide +kernel, by decide +kernel, by decide +kernel,
    { low.hw with host := { low.hw.host with twiPage := 0x10, twiPtr := 0x10 } }, by decide +kernel⟩

/-- The timeouts are on, the retry count is at its end; 32 bytes are the most, 33 too many. -/
theorem witness_TwoWireBusesAndTransferEngine :
    up.hw.vigil = true ∧ up.hw.gang.cur = none ∧
    (∃ s : State, s.hw.twiTout 0 false ≠ 0 ∧ s.hw.twiTout 0 true ≠ 0 ∧ s.hw.vigil = true) ∧
    (∃ s : State, s.hw.vigil = true ∧ s.hw.twiTout 1 false ≠ 0 ∧ s.hw.twiTout 1 true ≠ 0 ∧ s.hw.xfer.ctlr = .engine) ∧
    (up.hw.accepts .spi R.TWI1_XCMD (0x2101 ||| 0x8000) ∧ (on [(R.TWI1_XADDR, 0x77)]).hw.xferBad (0x2100 ||| 0x8000) = true ∧
      (on [(R.TWI1_XADDR, 0x77)]).hw.xferBad (0x2020 ||| 0x8000) = false ∧
      (on [(R.TWI1_XADDR, 0x77)]).hw.accepts .spi R.TWI1_XCMD (0x2020 ||| 0x8000)) ∧
    ((up.hw.twiBus 1).busy = false ∧ up.hw.xfer.ctlr = .idle ∧ up.hw.padsOn = true ∧ up.hw.gangQueue = []) ∧
    (∃ s : State, s.hw.vigil = true ∧ (s.hw.twiBus 1).busy = false ∧ s.hw.xfer.ctlr = .idle ∧ s.hw.padsOn = true ∧ s.hw.gangQueue = [] ∧
      s.hw.xfer.busy = true) ∧
    (∃ s : State, s.hw.vigil = true ∧ (s.hw.twiBus 1).busy = false ∧ s.hw.xfer.ctlr = .idle ∧ s.hw.padsOn = true ∧
      s.hw.gangQueue = [⟨4, 1, [], 0⟩]) ∧
    (∃ s : State, s.hw.xfer.ctlr = .engine ∧ s.hw.xfer.tries < s.hw.f R.TWI1_XCFG 3 0) ∧
    ∃ s : State, s.hw.xfer.ctlr = .engine ∧ s.hw.f R.TWI1_XCFG 3 0 ≤ s.hw.xfer.tries := by
  refine ⟨by decide +kernel, by decide +kernel, ⟨on [(0x3811, 0x0101)], by decide +kernel⟩,
    ⟨{ on [(0x3911, 0x0101)] with hw := { (on [(0x3911, 0x0101)]).hw with xfer := { upHw.xfer with ctlr := .engine } } },
      by decide +kernel⟩, ?_, by decide +kernel,
    ⟨at' { upHw with xfer := { upHw.xfer with busy := true } }, by decide +kernel⟩,
    ⟨at' { upHw with gang := { upHw.gang with backoff := false, outbox := [⟨4, 1, [], 0⟩] } }, by decide +kernel⟩,
    ⟨at' { (upHw.setReg R.TWI1_XCFG 1) with xfer := { upHw.xfer with ctlr := .engine } }, by decide +kernel⟩,
    ⟨at' { (upHw.setReg R.TWI1_XCFG 0) with xfer := { upHw.xfer with ctlr := .engine } }, by decide +kernel⟩⟩
  unfold Hw.accepts; decide +kernel

/-- Both ends of the addend; a quarter second before its next second; PPS_OUT bound to almanac 0. -/
theorem witness_AlmanacsCountToTheSecond :
    (on [(R.ALM_ADD_L 0, 0), (R.ALM_ADD_M 0, 0xC000), (R.ALM_ADD_H 0, 7)]).hw.addend 0 = 0x7C0000000 ∧
    (on [(R.ALM_ADD_L 0, 0), (R.ALM_ADD_M 0, 0x4000), (R.ALM_ADD_H 0, 8)]).hw.addend 0 = 0x840000000 ∧
    (up.hw.f R.CAL_ROLES 5 4 = 0 ∧ up.hw.f R.CAL_ROLES 5 4 ≠ 3) ∧ (up.hw.almOf 0).slew = 0 ∧ up.hw.live .time = true ∧ 0x7C0000000 ≤ up.hw.addend 3 ∧ up.hw.addend 3 ≤ 0x840000000 ∧
    (up.hw.almOf 3).sub < secUnits ∧
    (on [(R.TSU_PPSCFG, 0x0100)]).hw.b R.TSU_PPSCFG 8 = true ∧ (on [(R.TSU_PPSCFG, 0x0100)]).hw.f R.TSU_PPSCFG 5 4 = 0 := by
  decide +kernel

/-- 999,999,999 ns and one more; a slew of 1 s and one more nanosecond; both ends of the addend and one outside each; a
domain that almanac 1 holds. -/
theorem witness_AlmanacCommitsAreChecked :
    (up.hw.acceptsKey .spi (R.ALM_TIME_FRAC 0) 0 ∧ up.hw.acceptsKey .spi (R.ALM_STEP_NL 0) 0xC9FF ∧
      up.hw.acceptsKey .spi (R.ALM_SLEW_L 0) 0xCA00 ∧ up.hw.acceptsKey .spi (R.ALM_ADD_L 0) 0 ∧
      up.hw.accepts .spi (R.ALM_BIND 0) 0x8005) ∧
    (word [0xC9FF, 0x3B9A] 0 + 65536 * (word [0xC9FF, 0x3B9A] 1 % 16384) = 999999999 ∧
      word [0xCA00, 0x3B9A] 0 + 65536 * (word [0xCA00, 0x3B9A] 1 % 16384) = 1000000000) ∧
    ((up.hw.almOf 0).revert = false ∧ almSwitching (up.hw.almOf 0) = false ∧ (∃ s : State, (s.hw.almOf 0).revert = true) ∧
      ∃ s : State, s.hw.acceptsKey .core (R.ALM_SLEW_L 0) 1 ∧ almSwitching (s.hw.almOf 0) = true ∧ (s.hw.almOf 0).target = .ptp) ∧
    (signed 32 (0xCA00 + 65536 * 0x3B9A) = 1000000000 ∧ signed 32 (0xCA01 + 65536 * 0x3B9A) = 1000000001 ∧
      signed 32 (0x3600 + 65536 * 0xC465) = -1000000000 ∧ signed 32 (0x35FF + 65536 * 0xC465) = -1000000001) ∧
    (up.hw.live .time = true ∧ up.hw.pageLive 0x20 = true) ∧
    (∃ s : State, s.hw.live .time = true ∧ (s.hw.almOf 0).slew ≠ 0 ∧ (s.hw.almOf 0).switching = true ∧
      (s.hw.almOf 0).committed = true ∧ (s.hw.almOf 0).rung = .pps ∧
      (s.hw.almOf 0).sub + s.hw.almGain 0 (((s.hw.almOf 0).slew.natAbs + s.hw.slewRate 0 - 1) / s.hw.slewRate 0) < secUnits) ∧
    (0x0000 + 65536 * 0xC000 + 4294967296 * (7 % 16) = 0x7C0000000 ∧ 0xFFFF + 65536 * 0xBFFF + 4294967296 * (7 % 16) < 0x7C0000000 ∧
      0x0000 + 65536 * 0x4000 + 4294967296 * (8 % 16) = 0x840000000 ∧ 0x840000000 < 0x0001 + 65536 * 0x4000 + 4294967296 * (8 % 16)) ∧
    ((0x8005 : Word).getLsbD 15 = true ∧ (on [(R.ALM_BIND 1, 0x8005)]).hw.b (R.ALM_BIND 1) 15 = true ∧
      (on [(R.ALM_BIND 1, 0x8005)]).hw.f (R.ALM_BIND 1) 7 0 = fld 0x8005 7 0 ∧ (0x0005 : Word).getLsbD 15 = false) := by
  refine ⟨?_, by decide +kernel, ⟨by decide +kernel, by decide +kernel,
      ⟨at' (upHw.setAlm 0 { upHw.almOf 0 with revert := true }), by decide +kernel⟩,
      at' (upHw.setAlm 0 { upHw.almOf 0 with switching := true, committed := false, target := .ptp }), ?_⟩,
    by decide +kernel, by decide +kernel,
    ⟨at' (upHw.setAlm 0 { upHw.almOf 0 with slew := 65536, switching := true, committed := true, rung := .pps }),
      by decide +kernel⟩, by decide +kernel, by decide +kernel⟩
  · unfold Hw.acceptsKey Hw.accepts; decide +kernel
  · unfold Hw.acceptsKey; decide +kernel

/-- A target at the present time, one later; a period of 1 ns; a full channel and an empty one. -/
theorem witness_TargetsFireAndCapturesFill :
    up.hw.live .time = true ∧ up.hw.accepts .spi (R.ALM_TGTCTL 0) 1 ∧ up.hw.acceptsKey .spi (R.ALM_TGT_NL 0) 0xC9FF ∧
    (∃ (h : Hw) (t : Nat), (h.almOf 0).tgt = some t ∧ t ≤ almNs (h.almOf 0) ∧ h.reg32 (R.ALM_TGT_PL 0) = 0 ∧ h.live .time = true) ∧
    (∃ (h : Hw) (t : Nat), (h.almOf 0).tgt = some t ∧ t ≤ almNs (h.almOf 0) ∧ 0 < h.reg32 (R.ALM_TGT_PL 0)) ∧
    (∃ (h : Hw) (t : Nat), (h.almOf 0).tgt = some t ∧ almNs (h.almOf 0) < t) ∧
    (∃ s : State, s.hw.live .time = true ∧ s.hw.b (R.TSU_CCFG 0) 15 = true ∧ s.hw.tsuSource 0 true = true ∧
      s.hw.b (R.TSU_CSTAT 0) 15 = false) ∧
    (∃ s : State, s.hw.live .time = true ∧ s.hw.b (R.TSU_CCFG 0) 15 = true ∧ s.hw.tsuSource 0 true = true ∧
      s.hw.b (R.TSU_CSTAT 0) 15 = true) ∧
    (up.hw.partyUp .spi = true ∧ up.hw.pageUp 0x25 = true) := by
  refine ⟨by decide +kernel, ?_, ?_, ⟨upHw.setAlm 0 { upHw.almOf 0 with tgt := some (almNs (upHw.almOf 0)) }, almNs (upHw.almOf 0), by decide +kernel⟩,
    ⟨(upHw.setReg (R.ALM_TGT_PL 0) 1).setAlm 0 { upHw.almOf 0 with tgt := some (almNs (upHw.almOf 0)) }, almNs (upHw.almOf 0),
      by decide +kernel⟩,
    ⟨upHw.setAlm 0 { upHw.almOf 0 with tgt := some (almNs (upHw.almOf 0) + 1) }, almNs (upHw.almOf 0) + 1, by decide +kernel⟩,
    ⟨on [(R.TSU_CCFG 0, 0xA044)], by decide +kernel⟩, ⟨on [(R.TSU_CCFG 0, 0xA044), (R.TSU_CSTAT 0, 0x8000)], by decide +kernel⟩,
    by decide +kernel⟩
  · unfold Hw.accepts; decide +kernel
  · unfold Hw.acceptsKey; decide +kernel

/-- A good PTP rung; a PPS rung that is good with its QUAL edges; switches to each kind of rung; holdover at HOLDMAX; an
edge 1 ms late to the fraction, one outside. -/
theorem witness_LadderAndPpsRung :
    (up.hw.accepts .spi (R.ALM_SERVO 0) 0 ∧ (on [(R.ALM_SERVO 0, 1)]).hw.b (R.ALM_SERVO 0) 0 = true ∧ up.hw.live .time = true) ∧
    (on [(R.ALM_LADDER 0, 1), (R.ALM_SERVO 0, 1)]).hw.rungGood 0 .ptp = true ∧
    (∃ s : State, s.hw.live .time = true ∧ s.hw.rungGood 0 .pps = true ∧ s.hw.qualLen 0 ≤ (s.hw.almOf 0).ppsEdges) ∧
    (∃ s : State, s.hw.live .time = true ∧ (s.hw.almOf 0).rung = .holdover ∧ s.hw.holdExpired 0 = true) ∧
    (∀ r : Rung, ∃ s : State, s.hw.live .time = true ∧ almSwitching (s.hw.almOf 0) = true ∧ (s.hw.almOf 0).target = r) ∧
    almSwitching (up.hw.almOf 0) = false ∧
    (∃ h : Hw, (h.almOf 0).switching = false ∧ (h.almOf 0).rung = .ptp) ∧
    (∃ h : Hw, rungRank .ptp < rungRank (h.almOf 0).rung ∧ (h.almOf 0).switching = false) ∧
    (∃ h : Hw, (h.almOf 0).switching = true ∧ (h.almOf 0).committed = false ∧ (h.almOf 0).target ≠ .holdover ∧
      h.pageLive 0x20 = true) ∧
    (∃ h : Hw, h.b (R.ALM_LADDER 0) 1 = false) ∧
    (∃ h : Hw, h.b (R.ALM_LADDER 0) 1 = true ∧ (h.almOf 0).ppsQual = true ∧ (h.almOf 0).ppsOut < 3 ∧
      1000000 * 65536 < (h.almOf 0).sub / 65536 ∧ (h.almOf 0).sub / 65536 < 999000000 * 65536) ∧
    (∃ h : Hw, h.b (R.ALM_LADDER 0) 1 = true ∧ almSwitching (h.almOf 0) = false ∧
      (ppsOffset (h.almOf 0)).natAbs ≤ 1000000 * 65536) ∧
    (true ≠ up.hw.b R.TSU_PPSCFG 0) ∧ up.hw.accepts .spi R.TSU_PPSCFG 0x0131 ∧ up.hw.accepts .spi R.CAL_ROLES 0x00E5 ∧
    (up.hw.up .sense = true ∧ fld 0x00E5 1 0 ≠ up.hw.f R.CAL_ROLES 1 0 ∧ fld 0x00E5 5 4 ≠ up.hw.f R.CAL_ROLES 5 4 ∧
      fld 0x00C4 1 0 = up.hw.f R.CAL_ROLES 1 0 ∧ fld 0x00C4 5 4 = up.hw.f R.CAL_ROLES 5 4) := by
  refine ⟨?_, by decide +kernel,
    ⟨at' ((upHw.setReg (R.ALM_LADDER 0) 2).setAlm 0 { upHw.almOf 0 with ppsGood := true, ppsEdges := upHw.qualLen 0 }),
      by decide +kernel⟩,
    ⟨at' (upHw.setAlm 0 { upHw.almOf 0 with rung := .holdover, holdSec := (upHw.reg (R.ALM_HOLDMAX 0)).toNat }), by decide +kernel⟩,
    fun r => ⟨at' (upHw.setAlm 0 { upHw.almOf 0 with switching := true, committed := false, target := r }),
      by cases r <;> decide +kernel⟩, by decide +kernel,
    ⟨upHw.setAlm 0 { upHw.almOf 0 with rung := .ptp, switching := false }, by decide +kernel⟩,
    ⟨upHw.setAlm 0 { upHw.almOf 0 with rung := .freeRun, switching := false }, by decide +kernel⟩,
    ⟨upHw.setAlm 0 { upHw.almOf 0 with target := .pps, switching := true, committed := false }, by decide +kernel⟩,
    ⟨upHw.setReg (R.ALM_LADDER 0) 0, by decide +kernel⟩,
    ⟨(upHw.setReg (R.ALM_LADDER 0) 2).setAlm 0 { upHw.almOf 0 with ppsQual := true, ppsOut := 2, sub := 1000001 * 4294967296 },
      by decide +kernel⟩,
    ⟨(upHw.setReg (R.ALM_LADDER 0) 2).setAlm 0 { upHw.almOf 0 with sub := 1000000 * 4294967296 + 65535, switching := false },
      by decide +kernel⟩, by decide +kernel, ?_, ?_, by decide +kernel⟩ <;> (unfold Hw.accepts; decide +kernel)

theorem witness_CalendarFollowsGregorianRules :
    isLeap 2000 = true ∧ isLeap 2399 = false ∧ (2000 ≤ 2399 ∧ 1 ≤ 11 ∧ 11 < 12) := by decide +kernel

/-- The last second of 2399 and the first of 2000, staged by host SPI. -/
theorem witness_CivilCommitReadsBack :
    ∃ (s : State) (x : Word), s.hw.acceptsKey .spi R.CAL_CYEAR (wd 2399) ∧
      s.hw.groupWords .spi R.CAL_CYEAR (wd 2399) =
        [wd 2399, wd (12 * 256 + 31), wd (23 * 256 + 59), wd 59, wd 999999999, wd (999999999 / 65536), x] ∧
      31 ≤ monthDays 2399 12 ∧ s.hw.b R.CAL_LEAP 1 = false := by
  refine ⟨at' { upHw with staging := [(R.CAL_CYEAR + 1, some (wd (12 * 256 + 31))), (R.CAL_CYEAR + 2, some (wd (23 * 256 + 59))),
      (R.CAL_CYEAR + 3, some (wd 59)), (R.CAL_CYEAR + 4, some (wd 999999999)), (R.CAL_CYEAR + 5, some (wd (999999999 / 65536)))] },
    wordOf (upHw.groupWords .spi R.CAL_CYEAR (wd 2399)) 6, ?_⟩
  unfold Hw.acceptsKey; decide +kernel

/-- 30 February of a leap year; both leap bits; a second inserted and one left out. -/
theorem witness_BadDatesAndLeapSeconds :
    (∃ (s : State) (w4 w5 w6 : Word), s.hw.acceptsKey .spi R.CAL_CYEAR (wd 2000) ∧
      s.hw.groupWords .spi R.CAL_CYEAR (wd 2000) = [wd 2000, wd (2 * 256 + 30), wd (0 * 256 + 0), wd 0, w4, w5, w6]) ∧
    (monthDays 2000 2 < 30 ∧ 2 < 16 ∧ 30 < 32) ∧ up.hw.accepts .spi R.CAL_LEAP 3 ∧ (3 : Word) &&& 3 = 3 ∧ (2 : Word) &&& 3 ≠ 3 ∧ up.hw.accepts .spi R.CAL_LEAP 2 ∧
    (∃ s : State, s.hw.live .time = true ∧ s.hw.cal.inserted = true ∧ s.hw.calUtc % 86400 ≠ 0) ∧
    ∃ s : State, s.hw.live .time = true ∧ s.hw.cal.inserted = false ∧ s.hw.cal.sampled59 = true ∧ s.hw.calUtc % 86400 = 86399 := by
  refine ⟨⟨at' { upHw with staging := [(R.CAL_CYEAR + 1, some (wd (2 * 256 + 30))), (R.CAL_CYEAR + 2, some 0), (R.CAL_CYEAR + 3, some 0)] },
      wordOf (upHw.groupWords .spi R.CAL_CYEAR 0) 4, wordOf (upHw.groupWords .spi R.CAL_CYEAR 0) 5,
      wordOf (upHw.groupWords .spi R.CAL_CYEAR 0) 6, ?_⟩, by decide +kernel, ?_, by decide +kernel, by decide +kernel, ?_,
    ⟨at' ({ upHw with cal := { upHw.cal with inserted := true } }.setAlm upHw.calAlm { upHw.almOf upHw.calAlm with sec := 86436 }),
      by decide +kernel⟩,
    ⟨at' ({ upHw with cal := { upHw.cal with sampled59 := true } }.setAlm upHw.calAlm { upHw.almOf upHw.calAlm with sec := 86436 }),
      by decide +kernel⟩⟩
  · unfold Hw.acceptsKey; decide +kernel
  · unfold Hw.accepts; decide +kernel
  · unfold Hw.accepts; decide +kernel

/-- A rotation by a quarter turn and a mirror; the last allowed and the first reserved range, channel and frequency codes;
XBCLK at the ends of its bands. -/
theorem witness_FrontEndChecksAndMonitors :
    (up.hw.accepts .spi R.AFE_ORIENT 0x0210 ∧ properRotation 0x0210 = true ∧ properRotation 0x0214 = false) ∧
    (up.hw.reg R.AFE_ORIENT = 0x0210 &&& 0x0777 ∧ properRotation 0x0241 = true ∧ up.hw.reg R.AFE_ORIENT ≠ 0x0241 &&& 0x0777) ∧
    (up.hw.accepts .spi R.AFE_ARANGE 7 ∧ up.hw.accepts .spi R.AFE_GRANGE 5 ∧ up.hw.accepts .spi R.AFE_CHEN 15 ∧
      up.hw.accepts .spi R.AFE_XBCFG 0x0400) ∧
    ((0x8700 : Word).getLsbD 15 = true ∧ (0x0400 : Word).getLsbD 15 = false ∧ 6 < fld 7 3 0 ∧ fld 6 3 0 ≤ 6 ∧ 4 < fld 5 2 0 ∧ fld 4 2 0 ≤ 4 ∧ 3 < fld 0x0400 10 8 ∧ fld 0x0300 10 8 ≤ 3) ∧
    upHw.stBusy = false ∧ (∃ h : Hw, h.stBusy = true ∧ h.afe.st.phase ≠ 3) ∧
    (∃ s : State, s.hw.up .sense = true ∧ s.hw.afe.gdrv = false ∧ s.hw.afe.chen.getLsbD 1 = true) ∧
    (∃ s : State, s.hw.afe.gdrv = true) ∧
    (∃ s : State, s.hw.xbReceived = true ∧ s.hw.afe.xbLost = false ∧ s.hw.afe.chen.getLsbD 3 = true) ∧
    (∃ s : State, s.hw.xbReceived = true ∧ s.hw.afe.xbLost = true) ∧
    (∃ s : State, s.hw.up .sense = true ∧ s.hw.afe.chen.getLsbD 2 = true ∧ s.hw.afe.chen.getLsbD 3 = true) ∧
    ((5000 : Word).toNat = 5000 ∧ (20000 : Word).toNat = 20000 ∧ (4899 : Word).toNat < 4900 ∧ 20400 < (20401 : Word).toNat) ∧
    (0xF#4).getLsbD (chGroup 7) = true := by
  refine ⟨?_, by decide +kernel, ?_, by decide +kernel, by decide +kernel,
    ⟨{ upHw with afe := { upHw.afe with st := { upHw.afe.st with phase := 2 } } }, by decide +kernel⟩,
    ⟨at' { upHw with afe := { upHw.afe with gdrv := false, chen := 2 } }, by decide +kernel⟩,
    ⟨at' { upHw with afe := { upHw.afe with gdrv := true } }, by decide +kernel⟩,
    ⟨at' { upHw with afe := { upHw.afe with xbcfg := 0x8000, chen := 8, xbLost := false } }, by decide +kernel⟩,
    ⟨at' { upHw with afe := { upHw.afe with xbcfg := 0x8000, chen := 8, xbLost := true } }, by decide +kernel⟩,
    ⟨at' { upHw with afe := { upHw.afe with chen := 12 } }, by decide +kernel⟩,
    by decide +kernel, by decide +kernel⟩ <;> (unfold Hw.accepts; decide +kernel)

/-- A start with the gyroscope while it is off; one without it; the end of a run of the nine paths. -/
theorem witness_SelfTestStartsAndReports :
    (up.hw.accepts .spi R.AFE_STCTL (0x2010 ||| 0x8000) ∧ up.hw.stBusy = false ∧ (0x2010 : Word).getLsbD 13 = true ∧
      up.hw.afe.gdrv = false) ∧
    (∃ s : State, s.hw.accepts .spi R.AFE_STCTL (0x0010 ||| 0x8000) ∧ s.hw.stBusy = true) ∧
    (∃ s : State, s.hw.accepts .spi R.AFE_STCTL (0x0010 ||| 0x8000) ∧ s.hw.stBusy = false ∧
      ¬ (s.hw.nvs.loaded = false ∨ s.hw.afe.notrim = true ∨ s.hw.afe.chen.getLsbD 0 = false ∨
        ((0x0010 : Word).getLsbD 13 = true ∧ (s.hw.afe.chen.getLsbD 1 = false ∨ s.hw.afe.gdrv = false)))) ∧
    ∃ s : State, s.hw.live .sense = true ∧ s.hw.afe.st.phase = 3 ∧ s.hw.afe.st.aborted = false ∧ s.hw.afe.st.abortDue = false ∧
      s.hw.groupLen 0 ≤ s.hw.afe.st.k ∧ s.hw.afe.st.gyr = true := by
  refine ⟨?_, ⟨at' { upHw with afe := { upHw.afe with st := { upHw.afe.st with phase := 4 } } }, ?_⟩,
    ⟨at' { upHw with afe := { upHw.afe with chen := 1, notrim := false } }, ?_⟩,
    ⟨at' { upHw with afe := { upHw.afe with st := { upHw.afe.st with phase := 3, k := 200, gyr := true } } }, by decide +kernel⟩⟩ <;>
    (unfold Hw.accepts; decide +kernel)

def quietIn (t : Nat) : InstantIn :=
  ⟨t, 0, Vector.replicate 9 [], Vector.replicate 3 (false, false), Vector.replicate 2 []⟩

/-- An instant that entered the chain at 1 s; its groups done or not. -/
def flew (done : BitVec 4) : Flight :=
  ⟨8000000, 3, done, 0, Vector.replicate 4 0, Vector.replicate 8 0, Vector.replicate 3 false, ⟨0, 0, 0⟩, Vector.replicate 2 0,
    0, false, false, false, none, 0⟩

def held8 : Sample := ⟨8000000, 1, Vector.replicate 8 0, Vector.replicate 8 0, 0, false, false, false, none, 0⟩

/-- The state with this decimation chain. -/
def dec' (f : Dec → Dec) : State := at' { upHw with dec := f upHw.dec }

/-- An instant on the grid, one off it; the next one in order, and another; a group due and none due. -/
theorem witness_SamplesLoadAndBecomeValid :
    (up.hw.live .sense = true ∧ up.hw.clk.slock = true ∧ up.hw.onGrid (quietIn 8000000).t 8 = true ∧
      up.hw.onGrid (quietIn 8000001).t 8 = false ∧ up.hw.dec.nextT = none) ∧
    (∃ (s : State) (n : Nat), s.hw.onGrid 8000000 8 = true ∧ s.hw.dec.nextT = some n ∧ s.hw.gridFrom n = 8000000) ∧
    (∃ (s : State) (n : Nat), s.hw.dec.nextT = some n ∧ s.hw.gridFrom n ≠ 8000000) ∧
    (∃ s : State, s.hw.onGrid 8000000 8 = true ∧ (s.hw.boundary 8000000).groupsDue 8000000 ≠ 0) ∧
    (∃ s : State, s.hw.onGrid 8000000 8 = true ∧ (s.hw.boundary 8000000).groupsDue 8000000 = 0) ∧
    up.hw.dec.sout = none ∧
    (∃ s : State, s.hw.dec.sout = some held8 ∧ s.hw.live .sense = true ∧ s.hw.dec.flight = []) ∧
    (∃ s : State, s.hw.dec.sout = some held8 ∧ s.hw.live .sense = true ∧ s.hw.dec.flight = [flew 3] ∧
      (flew 3).done = (flew 3).groups) ∧
    ∃ s : State, s.hw.dec.sout = some held8 ∧ s.hw.live .sense = true ∧ s.hw.dec.flight = [flew 1] ∧
      (flew 1).done ≠ (flew 1).groups :=
  ⟨by decide +kernel, ⟨dec' fun d => { d with nextT := some 8000000 }, 8000000, by decide +kernel⟩,
    ⟨dec' fun d => { d with nextT := some 8004000 }, 8004000, by decide +kernel⟩,
    ⟨on [(R.AFE_CHEN, 15)], by decide +kernel⟩, ⟨on [(R.AFE_CHEN, 0)], by decide +kernel⟩, by decide +kernel,
    ⟨dec' fun d => { d with sout := some held8 }, by decide +kernel⟩,
    ⟨dec' fun d => { d with sout := some held8, flight := [flew 3] }, by decide +kernel⟩,
    dec' fun d => { d with sout := some held8, flight := [flew 1] }, by decide +kernel⟩

/-- The last rate codes and the first beyond them; the largest grid offset and one more. -/
theorem witness_GridCommandsFollowRules :
    (up.hw.accepts .spi R.DEC_ODR 0x8868 ∧ up.hw.accepts .spi R.DEC_ODR 0x9979 ∧ up.hw.accepts .spi R.DEC_RESP 0) ∧
    (fld 0x8868 3 0 ≤ 8 ∧ fld 0x8868 7 4 ≤ 6 ∧ fld 0x8868 11 8 ≤ 8 ∧ fld 0x8868 15 12 ≤ 8) ∧
    (8 < fld 0x0009 3 0 ∧ 6 < fld 0x0070 7 4 ∧ 8 < fld 0x0900 11 8 ∧ 8 < fld 0x9000 15 12) ∧
    up.hw.acceptsKey .spi R.DEC_GRIDOFS_L 0x11FF ∧ 0x11FF + 65536 * (122 % 128) = 7999999 ∧
      7999999 < 0x1200 + 65536 * (122 % 128) ∧ up.hw.b R.DEC_GRIDCFG 15 = false ∧
    (up.hw.partyUp .spi = true ∧ up.hw.pageUp 0x11 = true ∧ up.hw.live .sense = true ∧ up.hw.clk.slock = true) ∧
    (up.hw.dec.reanchor = false ∧ (up.hw.almOf up.hw.sampAlm).sub + up.hw.almGain up.hw.sampAlm 0 < secUnits) ∧
    (∃ s : State, s.hw.live .sense = true ∧ s.hw.clk.slock = true ∧ s.hw.dec.reanchor = true) ∧
    (up.hw.jumpLimit ≠ none ∨ (on [(R.DEC_GRIDCFG, 0x0100)]).hw.jumpLimit = some 1000) ∧
    (∃ s : State, s.hw.vigil = true ∧ s.hw.up .time = true ∧ s.hw.live .sense = true ∧ s.hw.b R.DEC_GRIDCFG 14 = true ∧
      s.hw.gang.st ≠ .dissent ∧ s.hw.dec.epoch = false) ∧
    (∃ s : State, s.hw.vigil = true ∧ s.hw.live .sense = true ∧ s.hw.b R.DEC_GRIDCFG 14 = true ∧ s.hw.gang.st ≠ .dissent ∧
      s.hw.dec.epoch = true) ∧
    ∃ s : State, s.hw.vigil = true ∧ s.hw.live .sense = true ∧ s.hw.b R.DEC_GRIDCFG 14 = true ∧ s.hw.gang.st = .dissent := by
  refine ⟨?_, by decide +kernel, by decide +kernel, ?_, by decide +kernel, by decide +kernel, by decide +kernel, by decide +kernel, by decide +kernel,
    ⟨dec' fun d => { d with reanchor := true }, by decide +kernel⟩, by decide +kernel,
    ⟨on [(R.DEC_GRIDCFG, 0x4000)], by decide +kernel⟩,
    ⟨at' { (upHw.setReg R.DEC_GRIDCFG 0x4000) with dec := { upHw.dec with epoch := true } }, by decide +kernel⟩,
    ⟨at' { (upHw.setReg R.DEC_GRIDCFG 0x4000) with gang := { upHw.gang with st := .dissent } }, by decide +kernel⟩⟩
  · unfold Hw.accepts; decide +kernel
  · unfold Hw.acceptsKey; decide +kernel

/-! ### Recognizers and the latch -/

/-- HI one below LO, and equal to it. -/
theorem witness_LatchKeepsFirstCause :
    (upHw.latch.set = true ∧ ∃ h : Hw, h.latch.set = false ∧ h.live .sense = true) ∧
    (upHw.pwr.draft = false ∧ upHw.enabled 0x15 = true ∧ (on [(R.REFLEX_MASK0, 1)]).hw.pwr.draft = false) ∧
    (∃ (h : Hw) (r : BitVec 64) (e : Nat), h.pwr.draft = false ∧ h.enabled 0x15 = true ∧ e < 63 ∧ r.getLsbD e = true ∧
      h.reflexMask.getLsbD e = true ∧ (∀ k, k < e → ¬ (r.getLsbD k = true ∧ h.reflexMask.getLsbD k = true)) ∧
      h.latch.set = false) ∧
    (∃ h : Hw, h.reflexMask &&& 0 = 0) ∧ up.hw.accepts .spi R.REFLEX_CTRL ((1 &&& 0x7FFF) ||| 2) ∧
    (∃ s : State, s.hw.acceptsKey .spi (R.REC_WTHR 0) 0xFFFF ∧
      signed 24 (0xFFFF + 65536 * ((wordOf (s.hw.groupWords .spi (R.REC_WTHR 0) 0xFFFF) 1).toNat % 256)) <
        signed 24 ((wordOf (s.hw.groupWords .spi (R.REC_WTHR 0) 0xFFFF) 2).toNat +
          65536 * ((wordOf (s.hw.groupWords .spi (R.REC_WTHR 0) 0xFFFF) 3).toNat % 256))) ∧
    ∃ s : State, s.hw.acceptsKey .spi (R.REC_WTHR 0) 0 ∧
      signed 24 ((wordOf (s.hw.groupWords .spi (R.REC_WTHR 0) 0) 2).toNat +
          65536 * ((wordOf (s.hw.groupWords .spi (R.REC_WTHR 0) 0) 3).toNat % 256)) =
        signed 24 (0 + 65536 * ((wordOf (s.hw.groupWords .spi (R.REC_WTHR 0) 0) 1).toNat % 256)) := by
  refine ⟨⟨by decide +kernel, { upHw with latch := { upHw.latch with set := false } }, by decide +kernel⟩, by decide +kernel,
    ⟨{ (upHw.setReg R.REFLEX_MASK0 5) with latch := { upHw.latch with set := false } }, 4, 2, by decide +kernel⟩,
    ⟨upHw, by decide +kernel⟩, ?_,
    ⟨at' { upHw with staging := [(R.REC_WTHR 0 + 1, some 0xFF), (R.REC_WTHR 0 + 2, some 0), (R.REC_WTHR 0 + 3, some 0)] }, ?_⟩,
    ⟨at' { upHw with staging := [(R.REC_WTHR 0 + 1, some 0), (R.REC_WTHR 0 + 2, some 0), (R.REC_WTHR 0 + 3, some 0)] }, ?_⟩⟩ <;>
    (try unfold Hw.accepts) <;> (try unfold Hw.acceptsKey) <;> decide +kernel

/-- RELHOLD runs out exactly. -/
theorem witness_LatchReleaseConditionsInOrder :
    up.hw.accepts .spi R.REFLEX_RELEASE 0xC1EA ∧ up.hw.latch.set = true ∧
    (∃ s : State, s.hw.accepts .spi R.REFLEX_RELEASE 0xC1EA ∧ s.hw.latch.set = false) ∧
    (∃ s : State, s.hw.accepts .spi R.REFLEX_RELEASE 0xC1EA ∧ s.hw.latch.set = true ∧ s.hw.pwr.draft = true) ∧
    (∃ s : State, s.hw.accepts .spi R.REFLEX_RELEASE 0xC1EA ∧ s.hw.latch.set = true ∧ s.hw.pwr.draft = false ∧
      s.hw.now - s.hw.latch.setAt < s.hw.f R.REFLEX_CFG 11 4 * 8000) ∧
    (∃ s : State, s.hw.accepts .spi R.REFLEX_RELEASE 0xC1EA ∧ s.hw.latch.set = true ∧ s.hw.pwr.draft = false ∧
      s.hw.f R.REFLEX_CFG 11 4 * 8000 = s.hw.now - s.hw.latch.setAt ∧ s.hw.b R.REFLEX_CFG (relWho .spi) = false) ∧
    (∃ s : State, s.hw.accepts .spi R.REFLEX_RELEASE 0xC1EA ∧ s.hw.latch.set = true ∧ s.hw.pwr.draft = false ∧
      s.hw.f R.REFLEX_CFG 11 4 * 8000 = s.hw.now - s.hw.latch.setAt ∧ s.hw.b R.REFLEX_CFG (relWho .spi) = true ∧
      s.hw.b R.REFLEX_CFG 15 = true ∧ s.hw.up .sense = true ∧
      (((List.range 8).any fun n => (s.hw.winOf n).inCond && s.hw.reflexMask.getLsbD (36 + n)) ||
        (s.hw.recog.fall.active && s.hw.reflexMask.getLsbD 48)) = false) ∧
    ∃ s : State, s.hw.accepts .spi R.REFLEX_RELEASE 0xC1EA ∧ s.hw.latch.set = true ∧ s.hw.pwr.draft = false ∧
      s.hw.f R.REFLEX_CFG 11 4 * 8000 = s.hw.now - s.hw.latch.setAt ∧ s.hw.b R.REFLEX_CFG (relWho .spi) = true ∧
      (((List.range 8).any fun n => (s.hw.winOf n).inCond && s.hw.reflexMask.getLsbD (36 + n)) ||
        (s.hw.recog.fall.active && s.hw.reflexMask.getLsbD 48)) = true := by
  unfold Hw.accepts
  exact ⟨by decide +kernel, by decide +kernel, ⟨at' { upHw with latch := { upHw.latch with set := false } }, by decide +kernel⟩,
    ⟨pw fun p => { p with draft := true }, by decide +kernel⟩, ⟨on [(R.REFLEX_CFG, 0x0010)], by decide +kernel⟩,
    ⟨at' { upHw.setReg R.REFLEX_CFG 0x0010 with now := 8000 }, by decide +kernel⟩,
    ⟨at' { upHw.setReg R.REFLEX_CFG 0x801F with now := 8000 }, by decide +kernel⟩,
    ⟨at' { (upHw.setReg R.REFLEX_CFG 0x801F).setReg R.REFLEX_MASK3 0x0001 with
      now := 8000, recog := { upHw.recog with fall := { upHw.recog.fall with active := true } } }, by decide +kernel⟩⟩

/-! ### Etchers -/

/-- Etcher 0 runs this instruction at 0. -/
def et (op : EtchOp) (f : Etcher → Etcher) : State :=
  at' (({ upHw with prog := [(0, encodeEtch op)] } : Hw).setEtcher 0 (f { Etcher.init 0 with st := .run }))

theorem witness_EtcherWordsDecodeBack :
    (EtchOp.wait (.ev 63 0) (some true)).wf ∧ (EtchOp.wait (.state true 23) none).wf ∧ (EtchOp.wait (.timer true) none).wf ∧
    (EtchOp.wait (.sample 9 true true 0xFFFF) none).wf ∧ (EtchOp.actReg 3 65535).wf ∧ (EtchOp.actMbx 7 4).wf ∧
    (EtchOp.branch (.cnt 3 3 3) 1023).wf ∧ (EtchOp.count (.bind 63) 3).wf ∧ (EtchOp.ldt true 3 (2 ^ 24 - 1)).wf ∧
    (EtchOp.lds 9 3).wf := by simp [EtchOp.wf]

theorem witness_EtcherSignalsAndKicks :
    (et (.halt true) id).hw.etchFetch 0 = some (.halt true) ∧ (et (.sig .nop) id).hw.inRegion 0 ((et (.sig .nop) id).hw.etchPc 0 + 1) = true ∧
    (et (.sig .nop) id).hw.etchFetch 0 = some (.sig .nop) ∧ (et (.sig .pulse) id).hw.etchFetch 0 = some (.sig .pulse) ∧
    (et (.sig .set) id).hw.etchFetch 0 = some (.sig .set) ∧ (et (.sig .clr) id).hw.etchFetch 0 = some (.sig .clr) ∧
    ((et (.sig .tgl) id).hw.etchFetch 0 = some (.sig .tgl) ∧ ((et (.sig .tgl) id).hw.etcher 0).level = false) ∧
    ((et (.sig .tgl) fun e => { e with level := true }).hw.etchFetch 0 = some (.sig .tgl) ∧
      ((et (.sig .tgl) fun e => { e with level := true }).hw.etcher 0).level = true) ∧
    (et (.kick 1023 false 7) id).hw.etchFetch 0 = some (.kick 1023 false 7) ∧
    (et (.kick 0 true 0) id).hw.etchFetch 0 = some (.kick 0 true 0) ∧
    (¬ (false = true ∨ ∃ k : Nat, k < (0 : Fin 8).val ∧ (0xFF : BitVec 8).getLsbD k = true)) ∧
    (¬ (false = true ∨ ∃ k : Nat, k < (7 : Fin 8).val ∧ (0x80 : BitVec 8).getLsbD k = true)) ∧
    (false = true ∨ ∃ k : Nat, k < (7 : Fin 8).val ∧ (0x40 : BitVec 8).getLsbD k = true) :=
  ⟨by decide +kernel, by decide +kernel, by decide +kernel, by decide +kernel, by decide +kernel, by decide +kernel,
    by decide +kernel, by decide +kernel, by decide +kernel, by decide +kernel, by simp, by decide, Or.inr ⟨6, by decide⟩⟩

/-- A counter at its bound and one below it; an expired timer (as after a start) and one that is not; a jump to the end of
the region. -/
theorem witness_EtcherWaitsAndBranches :
    (∃ s : State, s = et (.wait (.count 0 5) (some false)) (fun e => { e with c := e.c.set 0 5, st := .wait }) ∧
      s.hw.etchFetch 0 = some (.wait (.count 0 5) (some false)) ∧ s.hw.waitHolds 0 (.count 0 5) = true ∧
      s.hw.inRegion 0 (s.hw.etchPc 0 + 1) = true ∧ (s.hw.etcher 0).st = .wait) ∧
    (∃ s : State, s = et (.wait (.count 0 5) none) (fun e => { e with c := e.c.set 0 4 }) ∧
      s.hw.etchFetch 0 = some (.wait (.count 0 5) none) ∧ s.hw.waitHolds 0 (.count 0 5) = false) ∧
    (∃ s : State, s = et (.wait (.count 0 5) (some true)) (fun e => { e with
        it := e.it.set 1 { val := 1, unit := 0, expired := false, counting := true, presc := 0 } }) ∧
      s.hw.etchFetch 0 = some (.wait (.count 0 5) (some true)) ∧ s.hw.waitHolds 0 (.count 0 5) = false ∧
      (s.hw.itOf 0 true).expired = false) ∧
    (∃ s : State, s = et (.wait (.count 0 5) (some true)) id ∧
      s.hw.etchFetch 0 = some (.wait (.count 0 5) (some true)) ∧ s.hw.waitHolds 0 (.count 0 5) = false ∧
      (s.hw.itOf 0 true).expired = true ∧ s.hw.inRegion 0 (s.hw.etchPc 0 + 2) = true) ∧
    (∃ s : State, s = et (.branch (.cnt 0 0 0) 127) id ∧ s.hw.etchFetch 0 = some (.branch (.cnt 0 0 0) 127) ∧
      s.hw.branchHolds 0 (.cnt 0 0 0) = true ∧ s.hw.inRegion 0 127 = true) ∧
    ∃ s : State, s = et (.branch (.cnt 1 0 0) 127) id ∧ s.hw.etchFetch 0 = some (.branch (.cnt 1 0 0) 127) ∧
      s.hw.branchHolds 0 (.cnt 1 0 0) = false ∧ s.hw.inRegion 0 (s.hw.etchPc 0 + 1) = true :=
  ⟨⟨_, rfl, by decide +kernel⟩, ⟨_, rfl, by decide +kernel⟩, ⟨_, rfl, by decide +kernel⟩, ⟨_, rfl, by decide +kernel⟩,
    ⟨_, rfl, by decide +kernel⟩, ⟨_, rfl, by decide +kernel⟩⟩

theorem witness_EtcherCountsAndLoads :
    (et (.count .inc 3) id).hw.inRegion 0 ((et (.count .inc 3) id).hw.etchPc 0 + 1) = true ∧
    (et (.count .inc 3) id).hw.etchFetch 0 = some (.count .inc 3) ∧ (et (.count .dec 0) id).hw.etchFetch 0 = some (.count .dec 0) ∧
    (et (.count (.add 0xFFFF) 0) id).hw.etchFetch 0 = some (.count (.add 0xFFFF) 0) ∧
    (et (.count (.bind 63) 0) id).hw.etchFetch 0 = some (.count (.bind 63) 0) ∧
    (et (.ldi 3 0xFFFF) id).hw.etchFetch 0 = some (.ldi 3 0xFFFF) ∧ (et (.lds 9 3) id).hw.etchFetch 0 = some (.lds 9 3) ∧
    (et (.ldt false 0 0) id).hw.etchFetch 0 = some (.ldt false 0 0) ∧
    (et (.ldt true 3 0xFFFFFF) id).hw.etchFetch 0 = some (.ldt true 3 0xFFFFFF) ∧
    (∃ h : Hw, (h.etcher 0).st = .run ∧ (h.etcher 0).owed = 0 ∧ (h.etcher 0).bind[0] = some 5 ∧
      (0x20 : BitVec 64).getLsbD 5 = true) ∧
    ∃ s : State, s.hw.live .sense = true ∧ (s.hw.itOf 0 true).counting = true ∧ (s.hw.itOf 0 true).unit ≠ 3 :=
  ⟨by decide +kernel, by decide +kernel, by decide +kernel, by decide +kernel, by decide +kernel, by decide +kernel,
    by decide +kernel, by decide +kernel, by decide +kernel,
    ⟨(et (.halt false) fun e => { e with bind := e.bind.set 0 (some 5) }).hw, by decide +kernel⟩, et (.halt false) fun e => { e with
      it := e.it.set 1 { val := 1, unit := 0, expired := false, counting := true, presc := 0 } }, by decide +kernel⟩

/-- The first and the last address of the ETCH and EPROG pages, and the addresses beside them. -/
theorem witness_EtcherAccessesStallAndComplete :
    (etchForbidden 0x15FF = false ∧ etchForbidden 0x1600 = true ∧ etchForbidden 0x17FF = true ∧ etchForbidden 0x1800 = false) ∧
    (et (.actReg 0 0x1800) id).hw.etchFetch 0 = some (.actReg 0 0x1800) ∧ (et (.ldr 3 0x15FF) id).hw.etchFetch 0 = some (.ldr 3 0x15FF) ∧
    (et (.actMbx 7 4) id).hw.etchFetch 0 = some (.actMbx 7 4) ∧ (et (.actReg 0 0x1600) id).hw.etchFetch 0 = some (.actReg 0 0x1600) ∧
    (et (.ldr 0 0x17FF) id).hw.etchFetch 0 = some (.ldr 0 0x17FF) ∧
    (et (.ldr 0 0x17FF) id).hw.inRegion 0 ((et (.ldr 0 0x17FF) id).hw.etchPc 0 + 1) = true ∧
    (upHw.b (R.ETCH_R 0 0) 14 = false ∧ (upHw.setReg (R.ETCH_R 0 0) 0x4000).b (R.ETCH_R 0 0) 14 = true) ∧
    (∃ s : State, s = et (.halt false) (fun e => { e with st := .stall, access := some (.write R.PWR_CFG 1) }) ∧
      (s.hw.etcher 0).st = .stall ∧ s.hw.live .sense = true ∧ (s.hw.etcher 0).access = some (.write R.PWR_CFG 1) ∧
      s.hw.readErr R.PWR_CFG = false ∧ (s.hw.writeReg (.etch 0) R.PWR_CFG 1).1.vigil = true ∧
      slot .core < slot (.etch 0) ∧ ¬ slot (.etch 1) < slot (.etch 0) ∧ boxKey R.PWR_CFG = false ∧ mergesWrites R.PWR_CFG = false ∧
      (kindOf (R.PWR_CFG / 256)).isSome = true ∧ (s.hw.collide R.PWR_CFG .core (.etch 0)).vigil = true) ∧
    (∃ s : State, (s.hw.etcher 0).st = .stall ∧ s.hw.live .sense = true ∧
      (s.hw.etcher 0).access = some (.write (R.MAC_TXLAT 0) 1) ∧ s.hw.readErr (R.MAC_TXLAT 0) = true ∧ s.hw.vigil = true) ∧
    (∃ s : State, (s.hw.etcher 0).st = .stall ∧ s.hw.live .sense = true ∧
      (s.hw.etcher 0).access = some (.read (R.MAC_TXLAT 0) 3) ∧ s.hw.readErr (R.MAC_TXLAT 0) = true ∧
      (s.hw.etcher 0).stopping = false ∧ s.hw.vigil = true) ∧
    (∃ s : State, (s.hw.etcher 0).st = .stall ∧ s.hw.live .sense = true ∧ (s.hw.etcher 0).access = some (.read R.PWR_CFG 3) ∧
      (s.hw.readBus (.etch 0) R.PWR_CFG).1 ≠ none ∧ ((s.hw.readBus (.etch 0) R.PWR_CFG).2.etcher 0).stopping = false ∧
      (s.hw.readBus (.etch 0) R.PWR_CFG).2.vigil = true) ∧
    (∃ s : State, (s.hw.etcher 0).st = .stall ∧ s.hw.live .sense = true ∧
      (s.hw.etcher 0).access = some (.post 7 0x0810 [5]) ∧ s.hw.vigil = true ∧
      (s.hw.boxCommit 8 7 (fld 0x0810 7 4) [5]).1.vigil = true) ∧
    (∃ h : Hw, (h.etcher 0).pend = some 5) ∧ (∃ h : Hw, (h.etcher 0).pend = none ∧ (h.etcher 0).stopping = true) ∧
    (upHw.etcher 0).pend = none ∧ (upHw.etcher 0).stopping = false :=
  ⟨by decide +kernel, by decide +kernel, by decide +kernel, by decide +kernel, by decide +kernel, by decide +kernel,
    by decide +kernel, by decide +kernel, ⟨_, rfl, by decide +kernel⟩,
    ⟨{ et (.halt false) (fun e => { e with st := .stall, access := some (.write (R.MAC_TXLAT 0) 1) }) with
      hw := { (et (.halt false) (fun e => { e with st := .stall, access := some (.write (R.MAC_TXLAT 0) 1) })).hw with
        pwr := { upHw.pwr with net := .off } } }, by decide +kernel⟩,
    ⟨{ et (.halt false) (fun e => { e with st := .stall, access := some (.read (R.MAC_TXLAT 0) 3) }) with
      hw := { (et (.halt false) (fun e => { e with st := .stall, access := some (.read (R.MAC_TXLAT 0) 3) })).hw with
        pwr := { upHw.pwr with net := .off } } }, by decide +kernel⟩,
    ⟨et (.halt false) (fun e => { e with st := .stall, access := some (.read R.PWR_CFG 3) }), by decide +kernel⟩,
    ⟨et (.halt false) (fun e => { e with st := .stall, access := some (.post 7 0x0810 [5]) }), by decide +kernel⟩,
    ⟨(et (.halt false) fun e => { e with pend := some 5 }).hw, by decide +kernel⟩,
    ⟨(et (.halt false) fun e => { e with stopping := true }).hw, by decide +kernel⟩, by decide +kernel, by decide +kernel⟩

/-- An illegal word at 0; a NOP at the end of the region; a jump out of it by one word; the region's last word and the first
outside it as entries. -/
theorem witness_EtcherStartsStopsAndErrors :
    (∃ s : State, s.hw.etchRuns 0 = true ∧ s.hw.etchFetch 0 = none ∧ s.hw.inRegion 0 (s.hw.etchPc 0) = true) ∧
    (∃ s : State, s.hw.etchRuns 0 = true ∧ s.hw.etchFetch 0 = none ∧ s.hw.inRegion 0 (s.hw.etchPc 0) = false) ∧
    (∃ s : State, s.hw.etchRuns 0 = true ∧ s.hw.inRegion 0 128 = false ∧ s.hw.etchFetch 0 = some (.sig .nop) ∧
      128 = s.hw.etchPc 0 + 1) ∧
    (∃ s : State, s.hw.etchRuns 0 = true ∧ s.hw.inRegion 0 128 = false ∧
      s.hw.etchFetch 0 = some (.branch .always (BitVec.ofNat 10 128))) ∧
    (up.hw.accepts .spi (R.ETCH_R 7 3) 1 ∧ up.hw.accepts .spi (R.ETCH_R 7 3) 2 ∧
      up.hw.accepts .spi R.ETCH_GO ((0xFF : BitVec 8).setWidth 16) ∧
      up.hw.accepts .spi R.ETCH_GO ((0xFF : BitVec 8).setWidth 16 <<< 8)) ∧
    (∃ s : State, s.hw.autoDue = true ∧ s.hw.live .sense = true) ∧
    (upHw.live .sense = true ∧ upHw.startRejected 0 128 = true ∧ upHw.startRejected 0 127 = false ∧
      (upHw.etcher 0).st ≠ .stall ∧ upHw.etchEntry 1 = 128) ∧
    (∃ h : Hw, h.live .sense = true ∧ h.startRejected 0 127 = false ∧ (h.etcher 0).st = .stall) ∧
    ∃ h : Hw, (h.etcher 0).st = .run := by
  refine ⟨⟨at' (({ upHw with prog := [(0, 0xFFFFFFFF#32)] } : Hw).setEtcher 0 { Etcher.init 0 with st := .run }), by decide +kernel⟩,
    ⟨et (.sig .nop) fun e => { e with pc := 128 }, by decide +kernel⟩,
    ⟨at' (({ upHw with prog := [(127, encodeEtch (.sig .nop))] } : Hw).setEtcher 0 { Etcher.init 0 with pc := 127, st := .run }),
      by decide +kernel⟩,
    ⟨et (.branch .always 128) id, by decide +kernel⟩, ?_, ⟨at' { upHw with autoDue := true }, by decide +kernel⟩, by decide +kernel,
    ⟨upHw.setEtcher 0 { Etcher.init 0 with st := .stall }, by decide +kernel⟩,
    upHw.setEtcher 0 { Etcher.init 0 with st := .run }, by decide +kernel⟩
  unfold Hw.accepts; decide +kernel

theorem witness_EprogWindowMovesWords :
    eprogSlot .core = some 2 ∧ up.hw.accepts .core R.EPROG_ADDR 1023 ∧ up.hw.accepts .core R.EPROG_STREAM 1 ∧
    (up.hw.eprog[2].half ≠ .highWritten ∧ up.hw.eprog[2].half ≠ .highRead ∧ up.hw.partyUp .core = true ∧ up.hw.pageUp 0x17 = true) ∧
    (∃ s : State, s.hw.accepts .core R.EPROG_STREAM 1 ∧ s.hw.eprog[2].half = .highWritten ∧
      s.hw.progHeld s.hw.eprog[2].addr.toNat = false) ∧
    (∃ s : State, s.hw.accepts .core R.EPROG_STREAM 1 ∧ s.hw.eprog[2].half = .highWritten ∧
      s.hw.progHeld s.hw.eprog[2].addr.toNat = true) ∧
    (∃ s : State, s.hw.partyUp .core = true ∧ s.hw.eprog[2].half = .highRead) ∧ upHw.progHeld (0xFFFF % 1024) = false := by
  unfold Hw.accepts
  exact ⟨by decide +kernel, by decide +kernel, by decide +kernel, by decide +kernel,
    ⟨at' { upHw with eprog := upHw.eprog.set 2 { upHw.eprog[2] with half := .highWritten } }, by decide +kernel⟩,
    ⟨at' (({ upHw with eprog := upHw.eprog.set 2 { upHw.eprog[2] with half := .highWritten } } : Hw).setEtcher 0
      { Etcher.init 0 with st := .run }), by decide +kernel⟩,
    ⟨at' { upHw with eprog := upHw.eprog.set 2 { upHw.eprog[2] with half := .highRead } }, by decide +kernel⟩, by decide +kernel⟩

/-! ### Buffer, stream, timers -/

/-- A record of one body word with just enough room, and with one word less. -/
theorem witness_BufferWriterFollowsMode :
    (up.hw.partyUp .spi = true ∧ up.hw.pageUp 0x12 = true ∧ up.hw.isStopping 0x12 = false ∧ up.hw.enabled 0x12 = true) ∧
    ((1 : Word) &&& 6 = 0 ∧ (on [(0x1202, 0)]).hw.enabled 0x12 = false ∧ (on [(0x1202, 0)]).hw.isStopping 0x12 = false) ∧
    ((3 : Word) &&& 5 = 1 ∧ (5 : Word) &&& 3 = 1) ∧
    (up.hw.bufMode ≠ 2 ∧ (on [(R.BUF_CFG, 2)]).hw.bufMode = 2 ∧ (on [(R.BUF_CFG, 2)]).hw.enabled 0x12 = true) ∧
    (up.hw.snapWaits = false ∧ ∃ s : State, s.hw.snapWaits = true ∧ s.hw.bufWrites = true ∧ s.hw.enabled 0x12 = true ∧
      s.hw.isStopping 0x12 = false ∧ s.hw.buf.marks.length = 15) ∧
    (∃ s : State, s.hw.snapWaits = true ∧ s.hw.bufWrites = true ∧ s.hw.enabled 0x12 = true ∧ s.hw.buf.marks.length = 16) ∧
    (∃ s : State, s.hw.snapWaits = true ∧ s.hw.bufWrites = false ∧ s.hw.enabled 0x12 = true) ∧
    (∃ (h : Hw) (m : Mark) (l : List Mark), h.buf.marks = m :: l) ∧
    ((RdPort.at 1).ptr = bufCap + 1 - bufCap ∧ (RdPort.at 0).ptr < bufCap + 1 - bufCap) ∧
    (∃ h : Hw, h.bufWrites = true ∧ h.bufMode = 0 ∧ h.buf.snap = .none ∧ h.buf.portA.ptr ≤ h.buf.wp ∧ h.buf.dropped = 0 ∧
      h.fifoFree = 1 + 13) ∧
    (∃ h : Hw, h.bufWrites = true ∧ h.bufMode = 0 ∧ h.buf.snap = .none ∧ h.buf.portA.ptr ≤ h.buf.wp ∧ h.fifoFree = 13) ∧
    ∃ h : Hw, h.bufWrites = true ∧ h.bufMode = 0 ∧ h.buf.snap = .none ∧ h.buf.portA.ptr ≤ h.buf.wp ∧ h.buf.dropped ≠ 0 :=
  ⟨by decide +kernel, by decide +kernel, by decide +kernel, by decide +kernel,
    ⟨by decide +kernel, at' { upHw.setReg R.BUF_CFG 2 with
      buf := { upHw.buf with snap := .arming, marks := List.replicate 15 ⟨false, 0, 0, 0⟩ } }, by decide +kernel⟩,
    ⟨at' { upHw.setReg R.BUF_CFG 2 with buf := { upHw.buf with snap := .armed, marks := List.replicate 16 ⟨false, 0, 0, 0⟩ } },
      by decide +kernel⟩,
    ⟨{ at' { upHw.setReg R.BUF_CFG 2 with buf := { upHw.buf with snap := .armed } } with
      hw := { upHw.setReg R.BUF_CFG 2 with buf := { upHw.buf with snap := .armed }, pwr := { upHw.pwr with sense := .off } } },
      by decide +kernel⟩,
    ⟨{ upHw with buf := { upHw.buf with marks := [⟨true, 63, 0xFFF, 0⟩] } }, ⟨true, 63, 0xFFF, 0⟩, [], rfl⟩, by decide +kernel,
    ⟨{ upHw.setReg R.BUF_CFG 0 with buf := { upHw.buf with wp := bufCap - 14 } }, by decide +kernel⟩,
    ⟨{ upHw.setReg R.BUF_CFG 0 with buf := { upHw.buf with wp := bufCap - 13 } }, by decide +kernel⟩,
    ⟨{ upHw.setReg R.BUF_CFG 0 with buf := { upHw.buf with dropped := 1 } }, by decide +kernel⟩⟩

/-- The sinks 2 and 3, PRE + POST at 8192 and above, DGWORDS at 16 and 720 and outside. -/
theorem witness_BufferPortsAndStream :
    (up.hw.partyUp .spi = true ∧ up.hw.pageUp 0x12 = true ∧ up.hw.accepts .spi R.BUF_ACFG (3 ||| 0x8000) ∧
      up.hw.accepts .spi R.BUF_BCFG (2 ||| 0x8000) ∧ up.hw.accepts .spi R.BUF_BCFG (2 &&& 0x7FFF)) ∧
    (fld 3 1 0 = 3 ∧ fld 2 1 0 ≠ 3 ∧ fld 2 1 0 ≠ up.hw.f R.BUF_BCFG 1 0 ∧ fld 2 1 0 = (on [(R.BUF_BCFG, 2)]).hw.f R.BUF_BCFG 1 0) ∧
    (upHw.f R.BUF_ACFG 1 0 ≠ relWho .core ∧ upHw.f R.BUF_ACFG 1 0 = relWho .spi ∧ upHw.portLevel upHw.buf.portA = 0 ∧
      upHw.buf.portA.inject = []) ∧
    (∃ (h : Hw) (q : RdPort), h.f R.BUF_ACFG 1 0 = relWho .spi ∧ h.portNext h.buf.portA = some (7, q) ∧ h.portsOpen = true ∧
      h.buf.portA.inject.length + (h.buf.wp - h.buf.portA.ptr) = bufCap) ∧
    (up.hw.accepts .spi R.BUF_PRE 8193 ∧ up.hw.enabled 0x12 = true ∧ 8192 < fld 8191 12 0 + 2 ∧ fld 8191 12 0 + 1 ≤ 8192) ∧
    (∃ s : State, s.hw.accepts .spi R.BUF_PRE 8191 ∧ s.hw.enabled 0x12 = false ∧ s.hw.isStopping 0x12 = false ∧
      fld 8191 12 0 + s.hw.f R.BUF_POST 12 0 ≤ 8192) ∧
    (up.hw.pageUp 0x13 = true ∧ up.hw.isStopping 0x13 = false ∧ up.hw.enabled 0x13 = false ∧ up.hw.buf.portB.inject = [] ∧
      up.hw.buf.portB.left = 0) ∧
    (∃ s : State, s.hw.pageUp 0x13 = true ∧ s.hw.isStopping 0x13 = false ∧ s.hw.enabled 0x13 = false ∧
      ¬ ((s.hw.buf.portB.inject = [] ∧ s.hw.buf.portB.left = 0) ∨ s.hw.buf.portB.inject.length = 3)) ∧
    (∃ s : State, s.hw.strm.active = true ∧ s.hw.live .sense = true ∧ s.hw.isStopping 0x13 = false) ∧
    (∃ s : State, s.hw.strm.active = true ∧ s.hw.live .sense = true ∧ s.hw.isStopping 0x13 = true ∧
      s.hw.pendEn.contains 0x13 = false) ∧
    (∃ s : State, s.hw.sink = 1 ∧ s.hw.up .core = true ∧ s.hw.up .net = true ∧ s.hw.strm.dg ≠ [] ∧
      s.hw.strmCollect.strm.dg ≠ [] ∧ (s.hw.reg R.STRM_DGWORDS).toNat = s.hw.strmCollect.strm.dg.length) ∧
    (∃ s : State, s.hw.sink = 1 ∧ s.hw.up .core = true ∧ s.hw.up .net = true ∧ s.hw.strm.dg = [] ∧
      s.hw.strmCollect.strm.dg.length < (s.hw.reg R.STRM_DGWORDS).toNat) ∧
    (upHw.sink ≠ 2 ∧ up.hw.sink ≠ 1 ∧ up.hw.accepts .spi R.STRM_DGWORDS 16 ∧ fld 16 9 0 = 16 ∧ fld 15 9 0 < 16 ∧ fld 720 9 0 = 720 ∧
      720 < fld 721 9 0) := by
  unfold Hw.accepts
  exact ⟨by decide +kernel, by decide +kernel, by decide +kernel,
    ⟨{ upHw with buf := { upHw.buf with wp := bufCap - 1, portA := { upHw.buf.portA with inject := [7] } } },
      { upHw.buf.portA with inject := [] },
      by decide +kernel⟩,
    by decide +kernel, ⟨on [(0x1202, 0), (R.BUF_POST, 1)], by decide +kernel⟩, by decide +kernel,
    ⟨at' { upHw with buf := { upHw.buf with wp := 4, recs := [⟨0, [0x1004, 1, 2, 3]⟩], portB := { ptr := 2, left := 2, inject := [] } } },
      by decide +kernel⟩,
    ⟨at' { upHw with strm := { upHw.strm with active := true } }, by decide +kernel⟩,
    ⟨at' { upHw with strm := { upHw.strm with active := true }, stopping := [0x13] }, by decide +kernel⟩,
    ⟨at' { (upHw.setReg R.BUF_BCFG 1).setReg R.STRM_DGWORDS 16 with
      strm := { upHw.strm with dg := List.replicate 16 7 } }, by decide +kernel⟩,
    ⟨at' ((upHw.setReg R.BUF_BCFG 1).setReg R.STRM_DGWORDS 16), by decide +kernel⟩,
    by decide +kernel⟩

/-- TOP at its two ends; a count one above TOP, and the last one; a prescaler at its end and below it. -/
theorem witness_TimersCountWrapAndMatch :
    (Timer.init.cnt = 0 ∧ Timer.init.down = false ∧ Timer.init.top ≤ 0xFFFFFFFF ∧ 0 < Timer.init.top) ∧
    (({ Timer.init with cnt := 6, top := 5 } : Timer).top < ({ Timer.init with cnt := 6, top := 5 } : Timer).cnt) ∧
    (({ Timer.init with cnt := 0xFFFFFFFF, top := 5 } : Timer).cnt = 0xFFFFFFFF) ∧
    (∃ s : State, s.hw.timTicks 0 = true ∧ s.hw.timOnT 0 = true ∧ s.hw.timSlave 0 ≠ 4) ∧
    (∃ s : State, s.hw.timTicks 0 = true ∧ s.hw.timSlave 0 = 4 ∧ s.hw.timSlaveEv 0 = true ∧
      (s.hw.timOf 0).psc < (s.hw.reg (R.TM_PSC 0)).toNat) ∧
    (∃ s : State, s.hw.timTicks 0 = true ∧ s.hw.timSlave 0 = 4 ∧ s.hw.timSlaveEv 0 = true ∧
      (s.hw.reg (R.TM_PSC 0)).toNat = (s.hw.timOf 0).psc) ∧
    (∃ s : State, s.hw.timTicks 5 = true ∧ s.hw.timOnT 5 = false ∧ s.hw.timSlave 5 ≠ 4 ∧ s.hw.tickDue ≠ none) ∧
    (∃ s : State, s.hw.timTicks 5 = true ∧ s.hw.timSlave 5 = 4 ∧ s.hw.tickDue ≠ none) ∧
    (low.hw.tickDue = none ∧ ∃ s : State, s.hw.live .time = true ∧ 0 < s.hw.cal.ticks) ∧
    (∃ h : Hw, h.timSlaveEv 0 = true ∧ h.enabled (0x28 + 0) = true ∧ h.timSlave 0 = 1) ∧
    ∃ s : State, s.hw.timTicks 0 = true ∧ (timNext (s.hw.timOf 0) (s.hw.timSym 0)).2.2 = true ∧ fld (s.hw.timCfg 0 1) 15 14 = 1 ∧
      (timNext (s.hw.timOf 0) (s.hw.timSym 0)).1 = (timCh ((s.hw.timCopy 0).timOf 0) 1).act :=
  ⟨by decide +kernel, by decide +kernel, by decide +kernel,
    ⟨at' (upHw.setTim 0 { Timer.init with running := true }), by decide +kernel⟩,
    ⟨at' ((((upHw.setReg (R.TM_SLAVE 0) 0x8000).setReg (R.TM_PSC 0) 1).setReg R.PINT_EVSEL 1).setTim 0
      { Timer.init with running := true }), by decide +kernel⟩,
    ⟨at' (((upHw.setReg (R.TM_SLAVE 0) 0x8000).setReg R.PINT_EVSEL 1).setTim 0
      { Timer.init with running := true }), by decide +kernel⟩,
    ⟨at' { (upHw.setReg (R.TM_MODE 5) 2).setTim 5 { Timer.init with running := true } with cal := { upHw.cal with ticks := 1 } },
      by decide +kernel⟩,
    ⟨at' { ((upHw.setReg (R.TM_MODE 5) 2).setReg (R.TM_SLAVE 5) 0x8000).setTim 5 { Timer.init with running := true } with
      cal := { upHw.cal with ticks := 1 } }, by decide +kernel⟩,
    ⟨by decide +kernel, at' { upHw with cal := { upHw.cal with ticks := 1 } }, by decide +kernel⟩,
    ⟨((upHw.setReg (R.TM_SLAVE 0) 0x2000).setReg R.PINT_EVSEL 1).setReg (R.TM_CTRL 0) 1, by decide +kernel⟩,
    at' ((upHw.setReg (R.TM_CH1CFG 0) 0x4000).setTim 0 { Timer.init with running := true, cnt := 7, top := 7 }), by decide +kernel⟩

/-- A stopped timer, a running one with and without STOPLAP; each slave mode; a capture from a pin and from the fabric. -/
theorem witness_TimersStartCaptureAndCommit :
    (∃ s : State, s.hw.accepts .spi (R.TM_CTRL 0) 1 ∧ s.hw.enabled (0x28 + 0) = false ∧ s.hw.isStopping (0x28 + 0) = false) ∧
    (∃ s : State, s.hw.accepts .spi (R.TM_CTRL 5) 1 ∧ s.hw.isStopping (0x28 + 5) = true) ∧
    (∃ s : State, s.hw.accepts .spi (R.TM_CTRL 5) 0 ∧ s.hw.isStopping (0x28 + 5) = false ∧ (s.hw.timOf 5).running = true ∧
      (s.hw.timMode 5).getLsbD 8 = false) ∧
    (∃ s : State, s.hw.accepts .spi (R.TM_CTRL 5) 0 ∧ s.hw.isStopping (0x28 + 5) = false ∧ (s.hw.timOf 5).running = true ∧
      (s.hw.timMode 5).getLsbD 8 = true ∧ (s.hw.timOf 5).wtrig = false ∧ (s.hw.timOf 5).gateOff = false) ∧
    (∀ k : Fin 3, ∃ s : State, s.hw.timSlaveEv 0 = true ∧ s.hw.enabled (0x28 + 0) = true ∧ s.hw.timSlave 0 = k + 1 ∧
      (s.hw.timOf 0).wtrig = true) ∧
    (up.hw.timSlave 0 = 0 ∧ up.hw.accepts .spi (R.TM_CH1CFG 5) 0) ∧
    (∃ s : State, s.hw.accepts .spi (R.TM_CH1CFG 5) 0 ∧ s.hw.enabled (0x28 + 5) = true) ∧
    (∃ s : State, s.hw.up .time = true ∧ fld (s.hw.timCfg 0 1) 15 14 = 2 ∧ (s.hw.timCfg 0 1).getLsbD 13 = true ∧
      s.hw.pinInput (.tm 0 1) = true ∧ (s.hw.timCfg 0 1).getLsbD 6 = true) ∧
    (∃ s : State, s.hw.up .time = true ∧ fld (s.hw.timCfg 0 1) 15 14 = 2 ∧ (s.hw.timCfg 0 1).getLsbD 13 = false ∧
      s.hw.live .sense = true ∧ s.hw.evEnabled (fld (s.hw.timCfg 0 1) 5 0) = true) ∧
    (up.hw.partyUp .spi = true ∧ up.hw.pageUp (0x28 + 5) = true ∧ fld (up.hw.timCfg 0 1) 15 14 ≠ 2) ∧
    (up.hw.acceptsKey .spi (R.TM_CNT_L 5) 0xFFFF ∧ up.hw.acceptsKey .spi (R.TM_TOP_L 5) 0xFFFF ∧
      up.hw.acceptsKey .spi (R.TM_CH0_L 5 + 2 * 1) 0xFFFF ∧ (up.hw.timOf 5).running = false) ∧
    (∃ s : State, s.hw.acceptsKey .spi (R.TM_CH0_L 5) 7 ∧ (s.hw.timOf 5).running = true ∧ s.hw.timLapWait 5 0 = true) ∧
    (∃ s : State, s.hw.acceptsKey .spi (R.TM_CH0_L 5) 7 ∧ (s.hw.timOf 5).running = true ∧ s.hw.timLapWait 5 0 = false) ∧
    ∃ s : State, s.hw.partyUp .spi = true ∧ s.hw.pageUp (0x28 + 5) = true ∧ fld (s.hw.timCfg 5 1) 15 14 = 2 := by
  refine ⟨⟨up, ?_⟩, ⟨at' { upHw with stopping := [0x2D] }, ?_⟩, ⟨at' (upHw.setTim 5 { Timer.init with running := true }), ?_⟩,
    ⟨at' ((upHw.setReg (R.TM_MODE 5) 0x100).setTim 5 { Timer.init with running := true }), ?_⟩,
    fun k => ⟨at' ((((upHw.setReg (R.TM_SLAVE 0) (wd ((k + 1) * 8192))).setReg R.PINT_EVSEL 1).setReg (R.TM_CTRL 0) 1).setTim 0
      { Timer.init with running := true, wtrig := true }), ?_⟩, ?_, ⟨on [(R.TM_CTRL 5, 1)], ?_⟩,
    ⟨on [(R.TM_CH1CFG 0, 0xA040), (0x4310, 0x3333), (0x4311, 0x3333), (0x4312, 0x3333), (0x4313, 0x3333), (0x4314, 0x3333),
      (0x4315, 0x3333)], ?_⟩, ⟨on [(R.TM_CH1CFG 0, 0x8000), (R.PINT_EVSEL, 1)], ?_⟩, ?_, ?_,
    ⟨at' ((upHw.setReg (R.TM_MODE 5) 0x10).setTim 5 { Timer.init with running := true }), ?_⟩,
    ⟨at' (upHw.setTim 5 { Timer.init with running := true }), ?_⟩, ⟨on [(R.TM_CH1CFG 5, 0x8000)], ?_⟩⟩ <;> (try unfold Hw.accepts) <;> (try unfold Hw.acceptsKey) <;>
    (try revert k) <;> decide +kernel

/-! ### Network and gang -/

/-- An empty untagged frame of this length from a station. -/
def fr (len : Nat) : Frame :=
  { dst := 0x020000000001, src := 0x020000000002, etype := 0x0800, tagged := false, srcIp := 0, dstIp := 0, opts := false
    proto := 0, udp := 0, udpSrc := 0, udpSum := 0, icmp := 0, ttl := 0, len := len, good := true, ptp := none
    carry := .plain, body := [], op := .none, alm := 0
    echo := false, rxPort := 0, rxTc := 0, rxAlm := [], held := false, late := false, egressSec := 0, egressNs := 0, qual := 0 }

/-- `up` with this port 0. -/
def netP (l : List (Nat × Word)) (f : Port → Port) : State :=
  at' ((on l).hw.setPort 0 (f ((on l).hw.netPort 0)))

/-- A frame that is ready to be inserted into. -/
def ins (c : Carry) (o : InsOp) : Frame := { fr 64 with carry := c, op := o }

/-- Frames of 63, 64, 1522 and 1523 bytes; each head of a queue; a message and a datagram held 2 ms, the datagram on a port
that can send and on one that cannot; a link-local group, the own address and a learned one. -/
theorem witness_NetPortsReceiveQueueAndSend :
    (∃ s : State, s.hw.live .net = true ∧ s.hw.enabled (0x30 + 0) = true ∧ s.hw.txOn 0 = true ∧ s.hw.nextFrame 0 = none) ∧
    ((fr 63).len < 64 ∧ 64 ≤ (fr 64).len ∧ (fr 1522).len ≤ 1522 ∧ 1522 < (fr 1523).len ∧ (fr 64).good = true ∧
      up.hw.enabled (0x30 + 1) = true) ∧
    (up.hw.isRa 0 (fr 64) = false ∧ ∃ (s : State) (f : Frame), s.hw.isRa 0 f = true ∧ f.good = true ∧ 64 ≤ f.len ∧ f.len ≤ 1522) ∧
    (∀ a e m : Bool, ∃ s : State, s.hw.txOn 0 = true ∧ s.hw.nextFrame 0 =
      if a = true then some (0, fr 64) else if e = true then some (1, fr 64) else if m = true then some (2, fr 64) else none) ∧
    (∃ s : State, s.hw.live .net = true ∧ s.hw.b (R.MAC_CFG 0) 4 = true ∧ s.hw.clk.nbackup = false ∧
      (s.hw.netPort 0).link = false) ∧
    up.hw.clk.settled = false ∧
    (∃ (s : State) (f : Frame), s.hw.live .net = true ∧ s.hw.clk.settled = false ∧ (s.hw.netPort 0).qEvent = [f] ∧
      f.op ≠ .none ∧ f.carry = .plain ∧ f.held = false) ∧
    (∀ tx : Bool, ∃ (s : State) (f : Frame), s.hw.live .net = true ∧ s.hw.clk.settled = false ∧ (s.hw.netPort 0).qAlarm = [f] ∧
      f.op ≠ .none ∧ f.carry = .alarm ∧ f.held = false ∧ s.hw.txOn 0 = tx) ∧
    (upHw.b R.SWITCH_FWD 0 = true ∧ (upHw.setReg R.SWITCH_FWD 0).b R.SWITCH_FWD 0 = false) ∧
    ((0x0180C200000E : BitVec 48) >>> 4 = 0x0180C200000#48 ∧ ¬ upHw.ownMac >>> 4 = 0x0180C200000#48) ∧
    (∃ h : Hw, h.net.learned.any (fun l => l.mac == (fr 64).dst && l.port == 1) = true ∧ (fr 64).dst.getLsbD 40 = false ∧
      (fr 64).dst ≠ h.ownMac ∧ (fr 64).udp ≠ 319 ∧ (fr 64).udp ≠ 320) := by
  refine ⟨⟨netP [(R.MAC_CFG 0, 0x0010)] fun q => { q with link := true }, by decide +kernel⟩, by decide +kernel,
    ⟨by decide +kernel, at' { upHw.setReg R.IPSVC_IP_L 1 with keys := upHw.keys }, { fr 64 with
      dst := upHw.ownMac, dstIp := 1, proto := 17, udp := 47812 }, by decide +kernel⟩,
    fun a e m => ⟨netP [(R.MAC_CFG 0, 0x0010)] fun q => { q with
      link := true, qAlarm := if a = true then [fr 64] else [], qEvent := if e = true then [fr 64] else []
      qNormal := if m = true then [fr 64] else [] }, ?_⟩,
    ⟨on [(R.MAC_CFG 0, 0x0010)], by decide +kernel⟩, by decide +kernel,
    ⟨netP [] fun q => { q with qEvent := [ins .plain .origin] }, ins .plain .origin, by decide +kernel⟩,
    fun tx => ⟨netP [(R.MAC_CFG 0, 0x0010)] fun q => { q with link := tx, qAlarm := [ins .alarm .datagram] },
      ins .alarm .datagram, ?_⟩, by decide +kernel, by decide +kernel,
    { upHw with net := { upHw.net with learned := [⟨0x020000000001, 1⟩] } }, by decide +kernel⟩
  · revert a e m; decide +kernel
  · revert tx; decide +kernel

/-- Key slot 0 is open for remote access and holds a key. -/
def raHw : Hw :=
  { (upHw.setReg R.IPSVC_RACFG 0x8001) with keys := { upHw.keys with slots := [some (1, List.replicate 16 7)] } }

theorem witness_NetServicesFollowRules :
    (up.hw.accepts .spi R.SWITCH_MDIOCMD (0x4000 ||| 0x8000) ∧ up.hw.live .net = true) ∧
    (∃ s : State, s.hw.net.mdioBusy = true ∧ s.hw.live .net = true ∧ s.hw.b R.SWITCH_MDIOCMD 14 = true) ∧
    (∃ s : State, s.hw.net.mdioBusy = true ∧ s.hw.live .net = true ∧ s.hw.b R.SWITCH_MDIOCMD 14 = false) ∧
    (up.hw.reg32 R.IPSVC_ALDST_L = 0 ∧ up.hw.reg32 R.IPSVC_STDST_L = 0) ∧
    (on [(R.IPSVC_STDST_L, 1)]).hw.reg32 R.IPSVC_STDST_L ≠ 0 ∧ (∃ s : State, s.hw.live .net = true ∧ s.hw.net.arpWait ≠ 0) ∧
    up.hw.net.arpWait = 0 ∧ (∃ s : State, s.hw.live .net = true ∧ s.hw.reg32 R.IPSVC_ALDST_L ≠ 0 ∧ s.hw.alMac = 0) ∧
    (up.hw.acceptsKey .spi R.IPSVC_IP_L 1 ∧ up.hw.acceptsKey .spi R.IPSVC_ALDMAC_L 1 ∧
      up.hw.acceptsKey .spi R.IPSVC_ALDST_L 1 ∧ up.hw.acceptsKey .spi R.IPSVC_GW_L 1 ∧ up.hw.accepts .spi R.IPSVC_ALPORT 1 ∧
      up.hw.accepts .spi R.IPSVC_ALCFG 1) ∧
    (up.hw.up .core = true ∧ up.hw.up .net = true ∧ low.hw.up .net = false) ∧
    (∃ s : State, s.hw.clockRuns 3 = true ∧ s.hw.up .core = true ∧ (s.hw.ptpCfg 3).getLsbD 12 = true ∧
      (s.hw.ptpCfg 3).getLsbD 14 = false) ∧
    (∃ s : State, s.hw.clockRuns 3 = true ∧ s.hw.up .core = true ∧ (s.hw.ptpCfg 3).getLsbD 12 = false ∧
      (s.hw.ptpCfg 3).getLsbD 14 = true) ∧
    up.hw.b R.IPSVC_RACFG 15 = false ∧
    ((at' raHw).hw.b R.IPSVC_RACFG 15 = true ∧ (at' raHw).hw.up .core = true ∧ (at' raHw).hw.b R.IPSVC_RACFG 0 = true ∧
      (at' raHw).hw.b R.IPSVC_RACFG 7 = false ∧ (at' raHw).hw.slotKey 0 = some (List.replicate 16 7) ∧
      (on [(R.IPSVC_RACFG, 0x8001)]).hw.slotKey 0 = none) := by
  refine ⟨?_, ⟨at' { (upHw.setReg R.SWITCH_MDIOCMD 0x4000) with net := { upHw.net with mdioBusy := true } }, by decide +kernel⟩,
    ⟨at' { upHw with net := { upHw.net with mdioBusy := true } }, by decide +kernel⟩, by decide +kernel, by decide +kernel,
    ⟨at' { upHw with net := { upHw.net with arpWait := 1 } }, by decide +kernel⟩, by decide +kernel,
    ⟨on [(R.IPSVC_ALDST_L, 1)], by decide +kernel⟩, ?_, by decide +kernel,
    ⟨on [(R.TSI_PTPCFG0 + 3, 0x9000), (R.ALM_BIND 3, 0x8000)], by decide +kernel⟩,
    ⟨on [(R.TSI_PTPCFG0 + 3, 0xC000), (R.ALM_BIND 3, 0x8000)], by decide +kernel⟩, by decide +kernel, by decide +kernel⟩ <;>
    (unfold Hw.accepts; try unfold Hw.acceptsKey) <;> decide +kernel

/-- The words of a request to slot 0 with the own serial number and this sequence number. -/
def raBody (seq : Word) : List Word := [0, 0] ++ serialWords ++ [0, 0, seq]

/-- A request with its ICV under the key of the slot, and the same with another; a sequence number that is old and the next
one; a reply that fits, one that does not. -/
theorem witness_RemoteAccessChecks :
    ((raBody 0).drop 2).take 4 = serialWords ∧ ((raBody 0).getD 6 0).toNat / 256 < 8 ∧
    raHw.slotKey (((raBody 0).getD 6 0).toNat / 256) = some (List.replicate 16 7) ∧ raHw.live .net = true ∧
    ((raBody 0).getD 7 0).toNat * 65536 + ((raBody 0).getD 8 0).toNat ≤ raHw.net.rseq.toList.getD 0 0 ∧
    raHw.net.rseq.toList.getD 0 0 < ((raBody 1).getD 7 0).toNat * 65536 + ((raBody 1).getD 8 0).toNat ∧
    2 * (9 + ((raOps 0 []).map RaOp.words).sum + 8) ≤ 1472 ∧ (raAll (raOps 0 []) raHw).2.vigil = true ∧
    (∃ ops : List RaOp, 1472 < 2 * (9 + (ops.map RaOp.words).sum + 8)) ∧
    (∃ q : RaRequest, q.body = raBody 1 ∧ q.icv = icvOf (List.replicate 16 7) (raBody 1)) ∧
    ∃ q : RaRequest, q.body = raBody 1 ∧ q.icv ≠ icvOf (List.replicate 16 7) (raBody 1) := by
  generalize icvOf (List.replicate 16 7) (raBody 1) = x
  refine ⟨rfl, by decide +kernel, by decide +kernel, by decide +kernel, by decide +kernel, by decide +kernel, by decide +kernel,
    by decide +kernel, ⟨List.replicate 22 ⟨0, 32, 0, [], false⟩, by decide +kernel⟩, ⟨⟨0, 0, 0, raBody 1, x⟩, rfl, rfl⟩,
    ⟨⟨0, 0, 0, raBody 1, 0 :: x⟩, rfl, by simp⟩⟩

/-- A leader heard as GID 1 with this state. -/
def hi (dup : Bool) : Hello :=
  { snd := 1, st := 2, leader := true, dup := dup, tdiss := false, cdiss := false, sleep := false, frozen := false, lgid := 1
    lvalid := true, cword := 0, serial := 7, dser := 0, roster := 3 }

/-- `up` with the engine enabled, this gang state and these registers. -/
def gg (l : List (Nat × Word)) (f : Gang → Gang) : State :=
  at' { (on ((R.GANG_CTRL, 1) :: l)).hw with gang := f upHw.gang }

theorem witness_GangElectsAndEvaluatesState :
    ((gg [] fun g => { g with backoff := true }).hw.gangOn = true ∧ (gg [] fun g => { g with backoff := false }).hw.gangOn = true) ∧
    (∃ s : State, s.hw.gangOn = true ∧ s.hw.gid = 1 ∧ 0 < min s.hw.gid (s.hw.gang.leader.getD 16) ∧ (1 : BitVec 16).getLsbD 0 = true ∧
      (s.hw.peer 0).excl = 0) ∧
    ((∀ k, k < (gg [] id).hw.gid → False) ∧ (gg [] fun g => { g with leader := none, dup := false }).hw.gang.leader = none) ∧
    ((on [(R.GANG_CTRL, 0)]).hw.gangOn = false ∧ up.hw.vigil = true ∧ up.hw.frozen = false ∧ low.hw.frozen = true) ∧
    ((hi false).snd.val ≠ (gg [] id).hw.gid ∧ (hi false).dup = false ∧ (hi false).dser = 0 ∧
      (gg [] fun g => { g with leader := some 1 }).hw.gang.leader = some (hi false).snd.val) ∧
    ({ hi false with snd := 0 }).snd.val = (gg [] id).hw.gid ∧
    (gg [] fun g => { g with leader := none }).hw.gang.leader = none ∧
    (∃ h : Hw, h.gang.leader ≠ none ∧ h.leads = false ∧ h.gang.dup = true) ∧
    (∃ h : Hw, h.gang.leader ≠ none ∧ h.leads = false ∧ h.gang.dup = false ∧ h.gang.tdiss = false ∧ h.gang.leaderHello = true ∧
      h.frozen = false ∧ h.gang.leaderFrozen = false ∧ h.gang.cword = h.gang.lcword) ∧
    (∃ h : Hw, h.gang.leader ≠ none ∧ h.leads = false ∧ h.gang.dup = false ∧ h.gang.tdiss = false ∧ h.gang.leaderHello = true ∧
      h.frozen = false ∧ h.gang.leaderFrozen = false ∧ h.gang.cword ≠ h.gang.lcword ∧ h.pwr.draft = false) ∧
    ∃ h : Hw, h.gang.leader ≠ none ∧ h.leads = false ∧ h.gang.dup = false ∧ h.gang.tdiss = false ∧ h.gang.leaderHello = true ∧
      h.frozen = false ∧ h.gang.leaderFrozen = false ∧ h.gang.cword ≠ h.gang.lcword ∧ h.pwr.draft = true :=
  ⟨by decide +kernel, ⟨gg [] fun g => { g with gid := 1 }, by decide +kernel⟩, by decide +kernel, by decide +kernel,
    by decide +kernel, by decide +kernel, by decide +kernel,
    ⟨(gg [] fun g => { g with leader := some 1, dup := true }).hw, by decide +kernel⟩,
    ⟨(gg [] fun g => { g with leader := some 1, leaderHello := true, cword := 7, lcword := 7 }).hw, by decide +kernel⟩,
    ⟨(gg [] fun g => { g with leader := some 1, leaderHello := true, cword := 7, lcword := 8 }).hw, by decide +kernel⟩,
    ⟨{ (gg [] fun g => { g with leader := some 1, leaderHello := true, cword := 7, lcword := 8 }).hw with
      pwr := { upHw.pwr with draft := true } }, by decide +kernel⟩⟩

/-- A leader in CONCORD that may drive EPOCH. -/
def lead (l : List (Nat × Word)) (f : Gang → Gang) : State :=
  gg ([(R.GANG_CFG, 1), (R.GANG_SOLCFG, 0x8000)] ++ l) fun g => f { g with leader := some 0, st := .concord }

/-- A TCHK exactly 50 ms after the capture; one V-cycle more; data of 1 and of 8 words. -/
theorem witness_GangSolsticeTimeCheckAndRelay :
    up.hw.vigil = true ∧
    ((gg [] id).hw.partyUp .spi = true ∧ (gg [] id).hw.locked 0x3A = false ∧ (gg [] id).hw.enabled 0x3A = true ∧
      (gg [] id).hw.isStopping 0x3A = false ∧ (1 : Word) &&& 0x0015 = 1 ∧ (3 : Word) &&& 0x0019 = 1 ∧ (5 : Word) &&& 0x000D = 5 ∧
      (0x11 : Word) &&& 0x000D = 1) ∧
    ((gg [] id).hw.solWhy = some 1 ∧ (lead [] id).hw.solWhy = none) ∧
    ((lead [] id).hw.mayDrive = true ∧ (gg [] id).hw.mayDrive = false ∧ (lead [] id).hw.up .time = true ∧ (lead [] fun g => { g with epLow := true }).hw.gang.epLow = true) ∧
    (∃ s : State, s.hw.mayDrive = true ∧ s.hw.gang.epgo = some 0 ∧ 0 + 16000 = s.hw.now) ∧
    (∃ s : State, s.hw.mayDrive = true ∧ s.hw.gang.epgo = some 1 ∧ s.hw.now < 1 + 16000 ∧ s.hw.f R.GANG_CFG 15 8 = 1 ∧
      almNs (s.hw.almOf s.hw.sampAlm) / 1000000000 % s.hw.f R.GANG_CFG 15 8 = 0) ∧
    (¬ ((∃ a, (lead [] id).hw.gang.epgo = some a ∧ a + 16000 ≤ (lead [] id).hw.now) ∨
        ((lead [] id).hw.f R.GANG_CFG 15 8 ≠ 0 ∧
          almNs ((lead [] id).hw.almOf (lead [] id).hw.sampAlm) / 1000000000 % (lead [] id).hw.f R.GANG_CFG 15 8 = 0))) ∧
    (∃ s : State, s.hw.gang.epLow = true ∧ s.hw.gang.capture.isSome = true ∧ s.hw.leads = true) ∧
    (∃ s : State, s.hw.gangOn = true ∧ s.hw.vigil = true ∧ s.hw.gang.capture = some (5, 0) ∧ s.hw.now = 0 + 400000) ∧
    (∃ s : State, s.hw.gangOn = true ∧ s.hw.vigil = true ∧ s.hw.gang.capture = some (5, 0) ∧ 0 + 400000 < s.hw.now) ∧
    (∃ s : State, s.hw.gangOn = true ∧ s.hw.leads = false ∧ s.hw.gang.leader = some 1 ∧ s.hw.gang.st ≠ .dissent ∧
      s.hw.b R.GANG_SOLCFG 15 = true ∧ almNs (s.hw.almOf s.hw.sampAlm) ≤ (2 ^ 48 - 1) * 1000000000 + 0) ∧
    (∃ s : State, s.hw.gangOn = true ∧ s.hw.leads = false ∧ s.hw.gang.leader = some 1 ∧ s.hw.gang.st ≠ .dissent ∧
      s.hw.b R.GANG_SOLCFG 15 = false) ∧
    (∀ k : Fin 3, ∃ s : State, s.hw.gangOn = true ∧ (0 : Byte).toNat = s.hw.f R.GANG_SOLID 7 0 ∧ s.hw.gang.solst = k ∧
      s.hw.up .time = true) ∧
    (1 : Byte).toNat ≠ up.hw.f R.GANG_SOLID 7 0 ∧
    (up.hw.accepts .spi R.GANG_RLYCTL (0 ||| 0x8000) ∧ fld 0 3 0 = 0 ∧ 8 < fld 9 3 0) ∧
    (∃ s : State, s.hw.accepts .spi R.GANG_RLYCTL (8 ||| 0x8000) ∧
      ¬ (s.hw.gang.rlyBusy = true ∨ fld 8 3 0 = 0 ∨ 8 < fld 8 3 0 ∨ s.hw.f R.GANG_RLYDST 11 8 = s.hw.gid ∨ s.hw.gangOn = false)) ∧
    (∃ s : State, s.hw.gang.cur = some ⟨6, 1, [], 0⟩ ∧ s.hw.xfer.ctlr = .gang) ∧
    ((gg [] id).hw.boxFull 7 = false ∧ (gg [] id).hw.boxClosed 7 = false ∧ (List.replicate 8 (0 : Word)).length ≤ 8 ∧
      1 ≤ [(0 : Word)].length) ∧
    ∃ s : State, s.hw.gang.cur = none ∧ s.hw.gang.outbox = [⟨4, 1, [], 0⟩] := by
  unfold Hw.accepts
  exact ⟨by decide +kernel, by decide +kernel, by decide +kernel, by decide +kernel,
    ⟨at' { (lead [] fun g => { g with epgo := some 0 }).hw with now := 16000 }, by decide +kernel⟩,
    ⟨at' { (lead [(R.GANG_CFG, 0x0101)] fun g => { g with epgo := some 1 }).hw with now := 16000 }, by decide +kernel⟩,
    (by
      have h1 : (lead [] id).hw.gang.epgo = none := by decide +kernel
      have h2 : (lead [] id).hw.f R.GANG_CFG 15 8 = 0 := by decide +kernel
      simp [h1, h2]),
    ⟨lead [] fun g => { g with epLow := true, capture := some (5, 0) }, by decide +kernel⟩,
    ⟨at' { (gg [] fun g => { g with capture := some (5, 0) }).hw with now := 400000 }, by decide +kernel⟩,
    ⟨at' { (gg [] fun g => { g with capture := some (5, 0) }).hw with now := 400001 }, by decide +kernel⟩,
    ⟨gg [(R.GANG_SOLCFG, 0x8000)] fun g => { g with leader := some 1, st := .concord }, by decide +kernel⟩,
    ⟨gg [(R.GANG_SOLCFG, 0)] fun g => { g with leader := some 1, st := .concord }, by decide +kernel⟩,
    fun k => ⟨gg [] fun g => { g with solst := k }, by revert k; decide +kernel⟩, by decide +kernel, by decide +kernel,
    ⟨gg [(R.GANG_RLYDST, 0x0100)] id, by decide +kernel⟩,
    ⟨at' { (gg [] fun g => { g with cur := some ⟨6, 1, [], 0⟩ }).hw with xfer := { upHw.xfer with ctlr := .gang } }, by decide +kernel⟩,
    by decide +kernel, gg [] fun g => { g with outbox := [⟨4, 1, [], 0⟩] }, by decide +kernel⟩

/-! ### Mailboxes, firmware, interrupts, diary, pins -/

/-- LEN 8 and 9; a full box; one for the core while CORE is off and not asked for, which is closed; a reserved code in the
last field. -/
theorem witness_MailboxesHoldOneMessage :
    (up.hw.partyUp .spi = true ∧ up.hw.partyUp .core = true ∧ up.hw.vigil = true ∧ slot .spi < slot .core ∧
      up.hw.boxFull 7 = false ∧ up.hw.boxClosed 7 = false ∧ fld 0x0080 7 4 ≤ 8 ∧ 8 < fld 0x0090 7 4) ∧
    (∃ s : State, s.hw.partyUp .spi = true ∧ s.hw.vigil = true ∧ s.hw.boxFull 0 = true ∧ relClass .spi = s.hw.receiver 0) ∧
    (∃ s : State, s.hw.partyUp .spi = true ∧ s.hw.vigil = true ∧ s.hw.boxFull 0 = true ∧ relClass .spi ≠ s.hw.receiver 0) ∧
    (∃ s : State, s.hw.partyUp .spi = true ∧ s.hw.vigil = true ∧ s.hw.boxClosed 0 = true) ∧
    (up.hw.accepts .spi R.MBX_RCV 0xC000 ∧ fld 0xC000 (2 * 7 + 1) (2 * 7) = 3 ∧ up.hw.accepts .spi R.MBX_RCV 0xAAAA ∧
      ∀ k, k < 8 → fld 0xAAAA (2 * k + 1) (2 * k) ≠ 3) ∧
    ([(0 : Word)].length ≤ 8 ∧ 255 < 256) ∧ (upHw.vigil = true ∧ upHw.receiver 1 = 1 ∧ upHw.b R.PWR_WAKEEN 10 = false) ∧
    (on [(R.PWR_WAKEEN, 0x0400)]).hw.b R.PWR_WAKEEN 10 = true := by
  refine ⟨by decide +kernel, ⟨at' ((upHw.setReg R.MBX_RCV 0).setBox 0 { msg := some (0, []), lastSnd := 0, count := 0 }), by decide +kernel⟩,
    ⟨at' ((upHw.setReg R.MBX_RCV 1).setBox 0 { msg := some (0, []), lastSnd := 0, count := 0 }), by decide +kernel⟩,
    ⟨at' ((low.hw.setReg R.MBX_RCV 1).setReg R.PWR_REQ 0), by decide +kernel⟩, ?_, by decide +kernel, by decide +kernel,
    by decide +kernel⟩
  unfold Hw.accepts; decide +kernel

/-- The firmware serves this command of host SPI. -/
def fwc (l : List (Nat × Word)) (ws : List Word) : State :=
  at' { (on l).hw with fw := { upHw.fw with cmd := some ⟨1, ws⟩ } }

theorem witness_FirmwareServesCommands :
    up.hw.up .core = true ∧
    (∃ s : State, s.hw.fw.cmd = none ∧ s.hw.fw.reply = none ∧ (s.hw.box 1).msg = some (0x0110, [0x0100]) ∧ s.hw.receiver 1 = 1 ∧
      (∀ m : Fin 8, m < 1 → ¬ (s.hw.boxFull m = true ∧ s.hw.receiver m = 1)) ∧ (codeLen (fld 0x0100 15 8)).isSome = true ∧
      s.hw.up .core = true) ∧
    (∃ c, (fwc [] [0x0107]).hw.fw.cmd = some c ∧ (fwc [] [0x0107]).hw.fw.handed = false ∧ (fwc [] [0x0107]).hw.fw.reply = none ∧
      (fwc [] [0x0107]).hw.receiver (cmdReply c) ≠ 1 ∧ codeLen (cmdCode c) = some c.words.length ∧
      (cmdWord c 0).getLsbD 3 = false ∧ cmdCode c = 0x01) ∧
    (codeLen 0x01 ≠ some [(0x0100 : Word), 0].length ∧ (0x0108 : Word).getLsbD 3 = true) ∧
    (∃ c : FwCmd, cmdCode c = 0x10 ∧ codeLen (cmdCode c) = some c.words.length ∧ (cmdWord c 1).toNat = 7) ∧
    (∃ c : FwCmd, cmdCode c = 0x11 ∧ codeLen (cmdCode c) = some c.words.length) ∧ (on [(R.NVS_STAT, 8)]).hw.b R.NVS_STAT 3 = true ∧
    (up.hw.storeBusy = false ∧ up.hw.up .sense = true ∧ up.hw.pwr.vinWarn = false) ∧
    (∃ s : State, s.hw.up .core = true ∧ s.hw.storeBusy = true) ∧
    (∃ s : State, s.hw.up .core = true ∧ s.hw.storeBusy = false ∧ s.hw.up .sense = true ∧ s.hw.pwr.vinWarn = true) ∧
    (∃ c : FwCmd, cmdCode c = 0x12 ∧ codeLen (cmdCode c) = some c.words.length ∧ c.sender = 2 ∧ cmdWord c 1 = 0xE5A5) ∧
    (∃ c : FwCmd, cmdCode c = 0x12 ∧ codeLen (cmdCode c) = some c.words.length ∧ ¬ (c.sender = 1 ∨ c.sender = 2)) ∧
    (∃ c : FwCmd, cmdCode c = 0x18 ∧ codeLen (cmdCode c) = some c.words.length) ∧
    (∃ c : FwCmd, cmdCode c = 0x22 ∧ codeLen (cmdCode c) = some c.words.length ∧ (cmdWord c 1).toNat = 4) ∧
    (∃ c : FwCmd, cmdCode c = 0x20 ∧ codeLen (cmdCode c) = some c.words.length ∧ (cmdWord c 1).toNat = 3) ∧
    (∃ c : FwCmd, cmdCode c = 0x21 ∧ codeLen (cmdCode c) = some c.words.length ∧ (cmdWord c 1).toNat = 3 ∧ badInterval c = false) ∧
    (∃ c : FwCmd, cmdCode c = 0x23 ∧ codeLen (cmdCode c) = some c.words.length ∧ (cmdWord c 1).toNat = 3) ∧
    ((on [(R.ALM_BIND 3, 0x8000), (R.TSI_PTPCFG0 + 3, 0x8000)]).hw.b (R.ALM_BIND 3) 15 = true ∧
      ((on [(R.ALM_BIND 3, 0x8000), (R.TSI_PTPCFG0 + 3, 0x8000)]).hw.ptpCfg 3).getLsbD 15 = true) ∧
    (∃ s : State, s.hw.fw.reply = some (7, [0x0100]) ∧ s.hw.fw.sleep = false ∧ s.hw.boxFull 7 = false ∧ s.hw.boxClosed 7 = false) ∧
    (∃ s : State, s.hw.fw.reply = some (7, [0x0100]) ∧ s.hw.fw.sleep = false ∧ s.hw.boxFull 7 = true) ∧
    (∃ s : State, s.hw.up .core = true ∧ s.hw.fw.reply = some (7, [0x1800]) ∧ s.hw.fw.sleep = true ∧ s.hw.receiver 7 ≠ 1 ∧
      s.hw.boxFull 7 = false ∧ s.hw.boxClosed 7 = false) ∧
    (∃ s : State, s.hw.up .core = true ∧ s.hw.fw.reply = some (7, [0x0100]) ∧ s.hw.fw.sleep = false ∧ s.hw.receiver 7 = 1) ∧
    up.hw.nvs.job = none ∧
    ∃ s : State, s.hw.nvs.job = some .erase ∧ s.hw.keyBusy = false ∧ s.hw.fw.cmd = none ∧ s.hw.vigil = true ∧
      0 < (s.hw.jobSteps .erase).length :=
  ⟨by decide +kernel,
    ⟨at' (upHw.setBox 1 { msg := some (0x0110, [0x0100]), lastSnd := 1, count := 1 }), by decide +kernel⟩,
    ⟨⟨1, [0x0107]⟩, by decide +kernel⟩, by decide +kernel, ⟨⟨1, [0x1000, 7]⟩, by decide +kernel⟩,
    ⟨⟨1, [0x1100]⟩, by decide +kernel⟩, by decide +kernel, by decide +kernel,
    ⟨at' { upHw with nvs := { upHw.nvs with job := some .erase } }, by decide +kernel⟩,
    ⟨pw fun p => { p with vinWarn := true }, by decide +kernel⟩,
    ⟨⟨2, [0x1200, 0xE5A5]⟩, by decide +kernel⟩, ⟨⟨3, [0x1200, 0xE5A5]⟩, by decide +kernel⟩,
    ⟨⟨1, [0x1800]⟩, by decide +kernel⟩, ⟨⟨1, [0x2200, 4]⟩, by decide +kernel⟩, ⟨⟨1, [0x2000, 3, 0, 0, 0]⟩, by decide +kernel⟩,
    ⟨⟨1, [0x2100, 3, 0x0100, 0, 0x0003]⟩, by decide +kernel⟩, ⟨⟨1, [0x2300, 3]⟩, by decide +kernel⟩, by decide +kernel,
    ⟨at' { upHw with fw := { upHw.fw with reply := some (7, [0x0100]) } }, by decide +kernel⟩,
    ⟨at' { (upHw.setBox 7 { msg := some (0, []), lastSnd := 1, count := 1 }) with
      fw := { upHw.fw with reply := some (7, [0x0100]) } }, by decide +kernel⟩,
    ⟨at' { upHw with fw := { upHw.fw with reply := some (7, [0x1800]), sleep := true } }, by decide +kernel⟩,
    ⟨at' { (upHw.setReg R.MBX_RCV 0x4000) with fw := { upHw.fw with reply := some (7, [0x0100]) } }, by decide +kernel⟩,
    by decide +kernel,
    at' { upHw with nvs := { upHw.nvs with job := some .erase } }, by decide +kernel⟩

def entry (n : Word) : Entry := ⟨12, false, 0, n, 0, 0, 0, 0, 0, 0⟩

/-- INT0 in pulse mode with a pending flag; a full diary, one entry less, and one entry below the watermark. -/
theorem witness_InterruptPinsAndDiary :
    (∃ s : State, s.hw.partyUp .spi = true ∧ s.hw.vigil = true ∧ s.hw.intEn 0 = true ∧ s.hw.intPulse 0 = true ∧
      s.hw.aggregate 0 = true) ∧
    ((on [(R.IRQ_CFG, 0)]).hw.intEn 0 = false ∧ up.hw.accepts .spi R.IRQ_CFG 0x0090 ∧ (0x0090 : Word).getLsbD (8 * 0 + 7) = true ∧
      (0x0090 : Word).getLsbD (8 * 0 + 4) = true ∧ up.hw.aggregate 0 = false) ∧
    (∃ s : State, s.hw.vigil = true ∧ (s.hw.intPin 0).stop = s.hw.now) ∧
    (∃ s : State, s.hw.vigil = true ∧ (s.hw.intPin 0).stop = s.hw.now + 1) ∧
    (∃ h : Hw, h.padsOn = false ∧ h.tap.pads = false) ∧
    (∃ s : State, s.hw.accepts .spi R.IRQ_CFG 0x0090 ∧ s.hw.intEn 0 = false ∧ s.hw.aggregate 0 = true) ∧
    (up.hw.accepts .spi R.DIARY_NOTE 1 ∧ up.hw.accepts .spi R.DIARY_POP 1 ∧ up.hw.diary.entries = []) ∧
    (∃ s : State, s.hw.diary.entries = [entry 1] ∧ (entry 1).num = 1) ∧
    (upHw.vigil = true ∧ low.hw.up .time = false ∧ upHw.up .time = true) ∧
    (∃ h : Hw, h.diary.entries.length = 256) ∧ (∃ h : Hw, h.diary.entries.length = 255) ∧
    ∃ h : Hw, h.f R.DIARY_WM 8 0 ≠ 0 ∧ h.diary.entries.length + 1 = h.f R.DIARY_WM 8 0 := by
  refine ⟨⟨on [(R.IRQ_CFG, 0x0090), (R.PWR_IFLAG, 1), (R.PWR_IEN0, 1)], by decide +kernel⟩, ?_,
    ⟨at' (upHw.setIntPin 0 { upHw.intPin 0 with stop := upHw.now }), by decide +kernel⟩,
    ⟨at' (upHw.setIntPin 0 { upHw.intPin 0 with stop := upHw.now + 1 }), by decide +kernel⟩,
    ⟨(pw fun p => { p with vio := .out }).hw, by decide +kernel⟩,
    ⟨on [(R.IRQ_CFG, 0), (R.PWR_IFLAG, 1), (R.PWR_IEN0, 1)], ?_⟩, ?_,
    ⟨at' { upHw with diary := { entries := [entry 1], num := 2 } }, rfl, rfl⟩, by decide +kernel,
    ⟨{ upHw with diary := { entries := List.replicate 256 (entry 0), num := 0 } }, List.length_replicate⟩,
    ⟨{ upHw with diary := { entries := List.replicate 255 (entry 0), num := 0 } }, List.length_replicate⟩,
    ⟨upHw.setReg R.DIARY_WM 1, by decide +kernel⟩⟩ <;> (unfold Hw.accepts; decide +kernel)

theorem witness_PortWritesAndPinLines :
    (up.hw.partyUp .spi = true ∧ up.hw.partyUp .twi0 = true ∧ up.hw.vigil = true ∧ up.hw.locked (0x40 + 2) = false ∧
      slot .spi < slot .twi0) ∧
    (∃ s : State, s.hw.padsOn = true ∧ (s.hw.lcfg 7).getLsbD 15 = true ∧ s.hw.pins.lines[7].lockout = false ∧
      s.hw.pins.lines[7].level = !true ∧ edgeSelected (s.hw.lcfg 7) true = true ∧ s.hw.b R.PWR_WAKEEN 7 = true) ∧
    (∃ s : State, s.hw.padsOn = true ∧ (s.hw.lcfg 7).getLsbD 15 = true ∧ s.hw.pins.lines[7].lockout = false ∧
      s.hw.pins.lines[7].level = !true ∧ edgeSelected (s.hw.lcfg 7) true = true ∧ s.hw.b R.PWR_WAKEEN 7 = false ∧
      fld (s.hw.lcfg 7) 10 9 = 0) ∧
    (∃ s : State, s.hw.padsOn = true ∧ (s.hw.lcfg 7).getLsbD 15 = true ∧ s.hw.pins.lines[7].lockout = false ∧
      s.hw.pins.lines[7].level = !true ∧ edgeSelected (s.hw.lcfg 7) true = false) ∧
    (∀ lvl : Bool, ∃ s : State, s.hw.padsOn = true ∧ (s.hw.lcfg 7).getLsbD 15 = true ∧ s.hw.pins.lines[7].lockout = true ∧
      s.hw.pins.lines[7].level = lvl) ∧
    (∃ s : State, s.hw.padsOn = true ∧ (s.hw.lcfg 7).getLsbD 15 = true ∧ s.hw.pins.lines[7].lockout = true ∧
      s.hw.pins.lines[7].level = !false) ∧
    (up.hw.accepts .spi (R.PINT_LCFG 7) 0x6000 ∧ fld 0x6000 14 13 = 3 ∧ fld 0x0600 10 9 = 3 ∧
      up.hw.accepts .spi (R.PINT_LCFG 7) 0xDDFF ∧ fld 0xDDFF 14 13 ≠ 3 ∧ fld 0xDDFF 10 9 ≠ 3) ∧
    ∃ h : Hw, h.vigil = true ∧ h.inConflict 2 = true ∧ h.pins.conf.getLsbD 2 = false := by
  refine ⟨by decide +kernel, ⟨on [(R.PINT_LCFG 7, 0x8800), (R.PWR_WAKEEN, 0x0080)], by decide +kernel⟩,
    ⟨on [(R.PINT_LCFG 7, 0x8800)], by decide +kernel⟩, ⟨on [(R.PINT_LCFG 7, 0x9000)], by decide +kernel⟩,
    fun l => ⟨at' ((upHw.setReg (R.PINT_LCFG 7) 0x8C00).setLine 7 { level := l, lockout := true }), by revert l; decide +kernel⟩,
    ⟨at' ((upHw.setReg (R.PINT_LCFG 7) 0x8C00).setLine 7 { level := true, lockout := true }), by decide +kernel⟩, ?_,
    ⟨(on [(R.BUF_BCFG, 2), (R.STRM_CFG, 0x0010), (R.TSU_CCFG 0, 0x8040)]).hw, by decide +kernel⟩⟩
  unfold Hw.accepts; decide +kernel

/-! ### Keys, proof, test port -/

/-- `up` with key slot 7 selected. -/
def key7 (l : List (Nat × Word)) : State := on ((R.KEYS_KSEL, 7) :: l)

theorem witness_KeysAreWrittenOrZeroized :
    (up.hw.partyUp .core = true ∧ up.hw.vigil = true ∧ kdataSlot .core = some 2) ∧
    (up.hw.accepts .core R.KEYS_KCMD 1 ∧ up.hw.accepts .core R.KEYS_KCMD 2 ∧ up.hw.accepts .core R.KEYS_KCMD 3 ∧
      up.hw.keyBusy = false) ∧
    ((key7 [(R.KEYS_KLOCK, 0x80)]).hw.b R.KEYS_KLOCK ((key7 [(R.KEYS_KLOCK, 0x80)]).hw.f R.KEYS_KSEL 2 0) = true ∧
      ¬ ((key7 []).hw.b R.KEYS_STAT 11 = true ∨ (key7 []).hw.keys.zeroizing = true ∨
        (key7 []).hw.b R.KEYS_KLOCK ((key7 []).hw.f R.KEYS_KSEL 2 0) = true ∨ (key7 []).hw.storeBusy = true ∨
        (key7 []).hw.pwr.vinWarn = true)) ∧
    (∃ s : State, s.hw.nvs.job = some (.key noKeys) ∧ s.hw.vigil = true) ∧
    (∃ s : State, s.hw.keys.zeroizing = true ∧ s.hw.vigil = true) ∧
    ((∃ h : Hw, h.b R.KEYS_STAT 11 = true) ∧ ∃ h : Hw, h.keys.zeroizing = true) ∧
    (∃ v : Vector (Copy KeySlots) 2, v[0].st = .good ∧ v[1].seq = v[0].seq) ∧
    (∃ v : Vector (Copy KeySlots) 2, v[1].st = .good ∧ v[0].seq < v[1].seq) ∧
    ∃ v : Vector (Copy KeySlots) 2, v[0].st = .erased ∧ v[1].st = .erased := by
  refine ⟨by decide +kernel, ?_, by decide +kernel,
    ⟨at' { upHw with nvs := { upHw.nvs with job := some (.key noKeys) } }, by decide +kernel⟩,
    ⟨at' { upHw with keys := { upHw.keys with zeroizing := true } }, by decide +kernel⟩,
    ⟨⟨upHw.setReg R.KEYS_STAT 0x0800, by decide +kernel⟩, { upHw with keys := { upHw.keys with zeroizing := true } }, rfl⟩,
    ⟨#v[⟨.good, 1, []⟩, ⟨.good, 1, []⟩], by decide⟩, ⟨#v[⟨.good, 0, []⟩, ⟨.good, 1, []⟩], by decide⟩,
    ⟨#v[⟨.erased, 0, []⟩, ⟨.erased, 0, []⟩], by decide⟩⟩
  unfold Hw.accepts; decide +kernel

theorem witness_ProofRunsSlicesInOrder :
    (up.hw.vigil = true ∧ up.hw.partyUp .spi = true ∧ up.hw.reg R.PROOF_RUN = 0 ∧ up.hw.proof.active = false) ∧
    (∃ s : State, s.hw.vigil = true ∧ s.hw.pwr.draft = false ∧ s.hw.proof.active = false ∧ s.hw.reg R.PROOF_RUN ≠ 0) ∧
    (∀ k : Fin 7, ∀ f : Bool, ∃ s : State, s.hw.vigil = true ∧ s.hw.proof.active = true ∧ s.hw.proof.cur = k + 1 ∧
      s.hw.proof.failed = f) ∧
    (∃ s : State, s.hw.vigil = true ∧ s.hw.proof.active = true ∧ s.hw.proof.cur = 8 ∧ s.hw.stBusy = false ∧
      s.hw.b R.AFE_STSTAT 15 = true) ∧
    (∃ s : State, s.hw.vigil = true ∧ s.hw.proof.active = true ∧ s.hw.proof.cur = 8 ∧ s.hw.stBusy = false ∧
      s.hw.b R.AFE_STSTAT 15 = false ∧ s.hw.b R.AFE_STSTAT 13 = true) ∧
    (∃ s : State, s.hw.vigil = true ∧ s.hw.proof.active = true ∧ s.hw.proof.cur = 8 ∧ s.hw.stBusy = false ∧
      s.hw.b R.AFE_STSTAT 15 = false ∧ s.hw.b R.AFE_STSTAT 13 = false ∧ s.hw.proof.failed = false) ∧
    (∃ s : State, s.hw.vigil = true ∧ s.hw.proof.active = true ∧ s.hw.proof.quick = true) ∧
    (upHw.proof.todo = 0 ∧ upHw.proof.quick = false) ∧
    ∃ h : Hw, h.vigil = true ∧ (∀ j, j < 0 + 1 → h.proof.todo.testBit j = false) ∧ h.proof.todo.testBit (0 + 1) = true ∧
      h.sliceUp (0 + 1) = true ∧ h.sliceCond (0 + 1) = true :=
  ⟨by decide +kernel, ⟨on [(R.PROOF_RUN, 2)], by decide +kernel⟩,
    fun k f => ⟨at' { upHw with proof := { upHw.proof with active := true, cur := k + 1, failed := f } }, by
      revert f k; decide +kernel⟩,
    ⟨at' { upHw.setReg R.AFE_STSTAT 0x8000 with proof := { upHw.proof with active := true, cur := 8 } }, by decide +kernel⟩,
    ⟨at' { upHw.setReg R.AFE_STSTAT 0x2000 with proof := { upHw.proof with active := true, cur := 8 } }, by decide +kernel⟩,
    ⟨at' { upHw.setReg R.AFE_STSTAT 0x4001 with proof := { upHw.proof with active := true, cur := 8, failed := false } },
      by decide +kernel⟩,
    ⟨at' { upHw with proof := { upHw.proof with active := true, quick := true } }, by decide +kernel⟩, by decide +kernel,
    ⟨{ upHw with proof := { upHw.proof with todo := 2, vddcOk := true, tOk := true } }, by decide +kernel⟩⟩

/-- `up` with this instruction current. -/
def tp (ir : TapIr) : State := at' { upHw with tap := { upHw.tap with ir := ir } }

theorem witness_TestPortSelectsInstructions :
    (up.hw.pwr.running = true ∧ up.hw.pwr.vigilUp = true ∧ (pw fun p => { p with vigilUp := false, held := true }).hw.pwr.held = true) ∧
    ((tp .extest).hw.tap.ir ≠ .priv ∧ (tp .extest).hw.tap.ir ≠ .idcode ∧ (tp .extest).hw.tap.ir ≠ .bypass ∧
      (tp .extest).hw.tap.ir ≠ .sample ∧ (tp .extest).hw.tap.ir = .extest) ∧
    ((tp .bypass).hw.tap.ir = .bypass ∧ (on [(R.KEYS_SCANLOCK, 1)]).hw.b R.KEYS_SCANLOCK 0 = true) ∧
    ((tp .bypass).hw.b R.KEYS_SCANLOCK 0 = false ∧ (tp .bypass).hw.tap.ir ≠ .extest ∧ (tp .bypass).hw.keyBusy = false) ∧
    (tp .priv).hw.tap.ir = .priv := by decide +kernel

end Sys2Proof.Tests
end

/-! ## Proofs: the register arbiter (O12, O13, O14) -/

namespace Sys2Proof.Machine
namespace Hw

/-! ### Words and masks -/

theorem getLsbD_wd (n i : Nat) (hi : i < 16) : (wd n).getLsbD i = n.testBit i := by
  simp only [wd, BitVec.getLsbD_ofNat, hi, decide_true, Bool.true_and]

@[simp] theorem wd_toNat (a : Word) : wd a.toNat = a := by simp [wd]

@[simp] theorem reg_setBits_same (h : Hw) (a m : Nat) : (h.setBits a m).reg a = h.reg a ||| wd m := reg_setReg_same _ _ _

theorem reg_setBits_ne (h : Hw) (a m b : Nat) (hb : b ≠ a) : (h.setBits a m).reg b = h.reg b := reg_setReg_ne _ _ _ _ hb

/-! ### Changes of registers alone, which leave power and parties -/

/-- `g` differs from `h` in registers alone. -/
def RegsOnly (h g : Hw) : Prop := g = { h with regs := g.regs }

theorem regsOnly_setReg (h : Hw) (a : Nat) (v : Word) : RegsOnly h (h.setReg a v) := rfl

theorem regsOnly_raise (h : Hw) (pg bit : Nat) : RegsOnly h (h.raise pg bit) := by
  unfold raise; split <;> rfl

theorem RegsOnly.trans {h g f : Hw} (hg : RegsOnly h g) (hf : RegsOnly g f) : RegsOnly h f := by
  unfold RegsOnly at *; rw [hf, hg]

theorem RegsOnly.pageUp {h g : Hw} (hg : RegsOnly h g) (pg : Nat) : g.pageUp pg = h.pageUp pg := by rw [hg]; rfl

theorem RegsOnly.partyUp {h g : Hw} (hg : RegsOnly h g) (p : Party) : g.partyUp p = h.partyUp p := by
  rw [hg]; cases p <;> rfl

/-- `g` differs from `h` in the register at `a` alone. -/
def OnlyReg (h g : Hw) (a : Nat) : Prop := RegsOnly h g ∧ ∀ b, b ≠ a → g.reg b = h.reg b

theorem onlyReg_setReg (h : Hw) (a : Nat) (v : Word) : OnlyReg h (h.setReg a v) a :=
  ⟨regsOnly_setReg _ _ _, fun _ hb => reg_setReg_ne _ _ _ _ hb⟩

theorem OnlyReg.trans {h g f : Hw} {a : Nat} (hg : OnlyReg h g a) (hf : OnlyReg g f a) : OnlyReg h f a :=
  ⟨hg.1.trans hf.1, fun b hb => (hf.2 b hb).trans (hg.2 b hb)⟩

theorem OnlyReg.locked {h g : Hw} {a : Nat} (hg : OnlyReg h g a) (pg : Nat) (ha : a ≠ pg * 256 + 8) :
    g.locked pg = h.locked pg := by
  simp [Hw.locked, b, hg.2 _ ha.symm]

@[simp] theorem pageUp_setReg (h : Hw) (a : Nat) (v : Word) (pg : Nat) : (h.setReg a v).pageUp pg = h.pageUp pg := rfl

/-- A powered page of the map lies under a VIGIL that is up. -/
theorem vigil_of_pageUp (h : Hw) (pg : Nat) (hk : (kindOf pg).isSome = true) (hu : h.pageUp pg = true) : h.vigil = true := by
  obtain ⟨k, hk⟩ := Option.isSome_iff_exists.1 hk
  simp only [pageUp, hk, up, Bool.and_eq_true] at hu
  exact hu.1

/-- While VIGIL is up the logic of a VIGIL page runs. -/
theorem pageLive_of_vigil (h : Hw) (pg : Nat) (k : Kind) (hk : kindOf pg = some k) (hd : k.dom = .vigil)
    (hv : h.vigil = true) : h.pageLive pg = true := by
  simp [pageLive, hk, hd, live, domState, hv]

/-! ### The plain effect of a write -/

/-- What a register holds after the plain effect of a write (R6). -/
def plainWord (d : RegDesc) (old v : Word) : Word :=
  ((old &&& ~~~(wd d.rw ||| wd d.rwl)) &&& ~~~(v &&& wd d.w1c)) ||| (v &&& (wd d.rw ||| wd d.rwl))

theorem plainWrite_eq (h : Hw) (a : Nat) (v : Word) (d : RegDesc) (hd : descOf a = some d) :
    h.plainWrite a v = h.setReg a (plainWord d (h.reg a) v) := by
  simp [plainWrite, hd, plainWord]

theorem getLsbD_plainWord (d : RegDesc) (old v : Word) (i : Nat) (hi : i < 16) :
    (plainWord d old v).getLsbD i =
      if (d.rw ||| d.rwl).testBit i then v.getLsbD i
      else if d.w1c.testBit i then old.getLsbD i && !v.getLsbD i
      else old.getLsbD i := by
  simp only [plainWord, BitVec.getLsbD_or, BitVec.getLsbD_and, BitVec.getLsbD_not, getLsbD_wd _ _ hi, hi, decide_true,
    Bool.true_and, Nat.testBit_or]
  cases d.rw.testBit i <;> cases d.rwl.testBit i <;> cases d.w1c.testBit i <;> simp

/-! ### One party's write, by the kind of register -/

theorem etchBarred_samePage (p : Party) (a b : Nat) (h : a / 256 = b / 256) : etchBarred p a = etchBarred p b := by
  cases p <;> simp [etchBarred, etchForbidden, h]

theorem aside_of_etchBarred (p : Party) (a : Nat) (h15 : a % 256 ≠ 15) (hb : etchBarred p a = none) :
    aside a p = false := by
  simp [aside, pselAccess, h15, hb]

/-- Outside the mailbox groups a write to a powered page is no bus error (R11, R480). -/
theorem writeReg_noBusErr (h : Hw) (p : Party) (a : Nat) (v : Word) (hu : h.pageUp (a / 256) = true)
    (h6 : a / 256 ≠ 6 ∨ groupAt a = none) : (h.writeReg p a v).2 = false := by
  unfold writeReg
  simp only [hu, Bool.not_true, Bool.false_eq_true, if_false]
  split
  · rfl
  · rfl
  · split_ifs
    case neg =>
      split
      · rename_i hg
        split_ifs
        · rfl
        · have h6' : a / 256 ≠ 6 := h6.resolve_right (by simp [hg])
          unfold commit
          simp only [← ‹a = _›, h6', if_false]
          split_ifs <;> rfl
        · rfl
      · rfl
    all_goals rfl

/-- STAT, the interrupt registers, LOCK and EVSEL (R95, R96). -/
theorem writeReg_common (h : Hw) (p : Party) (a : Nat) (v : Word) (k : Kind) (hk : kindOf (a / 256) = some k)
    (hu : h.pageUp (a / 256) = true) (hb : etchBarred p a = none) (h3 : 3 ≤ a % 256) (h15 : a % 256 < 15) :
    h.writeReg p a v = (h.commonWrite (a / 256) k (a % 256) v, false) := by
  unfold writeReg
  simp [hk, hb, hu, pselAccess, show a % 256 ≠ 15 by omega, show ¬ a % 256 < 2 by omega, show a % 256 ≠ 2 by omega,
    show a % 256 < 16 by omega]

theorem blockReg_iff (a : Nat) (k : Kind) : blockReg a k = true ↔
    kindOf (a / 256) = some k ∧ (∃ d, k.desc (a % 256) = some d) ∧ 16 ≤ a % 256 ∧ groupAt a = none ∧
      portMaskedReg a = false ∧ portSetReg a = false := by
  simp only [blockReg, Bool.and_eq_true, beq_iff_eq, decide_eq_true_eq, Bool.not_eq_true', Option.isNone_iff_eq_none,
    Option.isSome_iff_exists, and_assoc]

/-- A block register outside the wide groups and the port rules. -/
theorem writeReg_blockReg (h : Hw) (p : Party) (a : Nat) (v : Word) (k : Kind) (hr : blockReg a k = true)
    (hu : h.pageUp (a / 256) = true) (hb : etchBarred p a = none) :
    h.writeReg p a v = (h.fieldWrite p k a v, false) := by
  obtain ⟨hk, -, ho, hg, hm, hs⟩ := (blockReg_iff a k).1 hr
  unfold writeReg
  simp [hk, hb, hu, hg, hm, hs, pselAccess, show a % 256 ≠ 15 by omega, show ¬ a % 256 < 2 by omega,
    show a % 256 ≠ 2 by omega, show ¬ a % 256 < 16 by omega]

/-! ### The arbiter with one writer and with two -/

theorem regsOnly_collide (h : Hw) (a : Nat) (p q : Party) : RegsOnly h (h.collide a p q) :=
  (((regsOnly_setReg _ _ _).trans (regsOnly_raise _ _ _)).trans (regsOnly_setReg _ _ _)).trans (regsOnly_setReg _ _ _)

/-- A write that comes alone at a register of a powered page, aside from the bus errors of the mailboxes (R112). -/
theorem arbitrate_alone (h : Hw) (p : Party) (a : Nat) (v : Word) (hp : h.partyUp p = true) (ha : aside a p = false)
    (hk : (kindOf (a / 256)).isSome = true) (hu : h.pageUp (a / 256) = true) (hrel : a ≠ R.MBX_REL)
    (hm : portMaskedReg a = false) (h6 : a / 256 ≠ 6 ∨ groupAt a = none) :
    h.arbitrate a [(p, v)] = (h.writeReg p a v).1 := by
  have hf := writeReg_noBusErr h p a v hu h6
  unfold arbitrate
  simp [hp, ha, ranked, insertRank, asideWrites, Option.isSome_iff_ne_none.1 hk, readErr, hu, hrel, hm, hf]

/-- Of two writes at a register without a rule of its own the one of the party ranked higher is applied, after the
collision is recorded (R112). -/
theorem arbitrate_two (h : Hw) (p q : Party) (a : Nat) (v w : Word) (hpq : slot p < slot q) (hp : h.partyUp p = true)
    (hq : h.partyUp q = true) (hpa : aside a p = false) (hqa : aside a q = false)
    (hk : (kindOf (a / 256)).isSome = true) (hu : h.pageUp (a / 256) = true) (hrel : a ≠ R.MBX_REL)
    (hm : portMaskedReg a = false) (hs : portSetReg a = false) (ho : orReg a = false) (h6 : a / 256 ≠ 6) :
    h.arbitrate a [(q, w), (p, v)] = ((h.collide a p q).writeReg p a v).1 := by
  have hu' : (h.collide a p q).pageUp (a / 256) = true := ((regsOnly_collide h a p q).pageUp _).trans hu
  have hf := writeReg_noBusErr (h.collide a p q) p a v hu' (.inl h6)
  unfold arbitrate
  simp [hp, hq, hpa, hqa, ranked, insertRank, Nat.not_le.2 hpq, asideWrites, Option.isSome_iff_ne_none.1 hk, readErr, hu,
    hrel, hm, hs, ho, h6, hf]

/-- REGISTER_WRITE, whatever writes it carries, while they name each party once (R112, R114). -/
theorem exec_registerWrite (s : State) (a : Word) (ws : List (Party × Word)) (t : Tie) (hw : wellSent ws = true) :
    exec (.registerWrite a ws t) s = .next (s.after (s.hw.arbitrateTie a.toNat ws t)) := by
  show execRegisterWrite a ws s t = _
  simp [execRegisterWrite, hw, done_eq]

@[simp] theorem arbitrateTie_none (h : Hw) (a : Nat) (ws : List (Party × Word)) :
    h.arbitrateTie a ws Tie.none = h.arbitrate a ws := by
  simp [arbitrateTie]

/-! ### Registers that only hold what is written to them -/

/-- The registers of `storesOnly` outside the common layout are block registers whose write has no effect but the plain
one. -/
theorem blockReg_of_storesOnly (a : Nat) (hs : storesOnly a = true) (hc : a % 256 ∉ [3, 4, 5, 6, 9]) :
    ∃ k, kindOf (a / 256) = some k ∧ blockReg a k = true ∧
      ∀ (h : Hw) (p : Party) (v : Word), h.blockWrite p k a v = h.plainWrite a v := by
  simp only [storesOnly, Bool.or_eq_true, List.contains_iff_mem, hc, false_or] at hs
  fin_cases hs <;> exact ⟨_, rfl, by decide, fun _ _ _ => rfl⟩

/-- No group lies in the common layout. -/
theorem groupAt_common (a : Nat) (ha : a % 256 < 16) : groupAt a = none := by
  have hlow : ∀ k : Kind, ∀ g ∈ k.groups, 16 ≤ g.1 := by intro k; cases k <;> decide
  unfold groupAt
  split
  · rfl
  · rename_i k _
    rw [List.find?_eq_none.2, Option.map_none]
    intro g hg
    have := hlow k g hg
    simp; omega

/-- No port rule reaches into the common layout. -/
theorem portMaskedReg_common (a : Nat) (ha : a % 256 < 16) : portMaskedReg a = false := by
  simp [portMaskedReg]; omega

theorem ne_rel_of_common (a : Nat) (ha : a % 256 < 16) : a ≠ R.MBX_REL := by
  rintro rfl; exact absurd ha (by decide)

/-- No register of `storesOnly` has a rule of its own at the arbiter, nor is it LOCK or CTRL. -/
theorem storesOnly_noRule (a : Nat) (hs : storesOnly a = true) :
    a % 256 ≠ 15 ∧ a % 256 ≠ 8 ∧ a % 256 ≠ 2 ∧ a ≠ R.MBX_REL ∧ portMaskedReg a = false ∧ groupAt a = none := by
  by_cases hc : a % 256 ∈ [3, 4, 5, 6, 9]
  · simp only [List.mem_cons, List.not_mem_nil, or_false] at hc
    exact ⟨by omega, by omega, by omega, ne_rel_of_common a (by omega), portMaskedReg_common a (by omega),
      groupAt_common a (by omega)⟩
  · obtain ⟨k, -, hb, -⟩ := blockReg_of_storesOnly a hs hc
    obtain ⟨-, -, ho, hg, hm, -⟩ := (blockReg_iff a k).1 hb
    refine ⟨by omega, by omega, by omega, ?_, hm, hg⟩
    rintro rfl
    exact absurd hs (by decide)

/-- An accepted write to a register that only holds what is written to it has the plain effect. -/
theorem writeReg_storesOnly (h : Hw) (p : Party) (a : Nat) (v : Word) (hs : storesOnly a = true)
    (hk : (kindOf (a / 256)).isSome = true) (ha : h.accepts p a v) : h.writeReg p a v = (h.plainWrite a v, false) := by
  obtain ⟨-, hu, hl, hb⟩ := ha
  by_cases hc : a % 256 ∈ [3, 4, 5, 6, 9]
  · obtain ⟨k, hk⟩ := Option.isSome_iff_exists.1 hk
    simp only [List.mem_cons, List.not_mem_nil, or_false] at hc
    rw [writeReg_common h p a v k hk hu hb (by omega) (by omega)]
    simp [commonWrite, show a % 256 ≠ 7 by omega, show a % 256 ≠ 8 by omega, show a / 256 * 256 + a % 256 = a by omega]
  · obtain ⟨k, hk, hr, hw⟩ := blockReg_of_storesOnly a hs hc
    rw [writeReg_blockReg h p a v k hr hu hb, ← hw h p v]
    simp only [fieldWrite, Prod.mk.injEq, and_true]
    obtain ⟨-, ⟨d, hd⟩, -⟩ := (blockReg_iff a k).1 hr
    simp only [rwlMask, descOf, hk, hd, Option.map_some, Option.getD_some] at hl
    simp only [hd]
    split
    · rename_i hx
      simp only [Bool.and_eq_true, bne_iff_ne, ne_eq] at hx
      exact absurd (hl hx.1) hx.2
    · rfl

theorem kindOf_of_descOf {a : Nat} {d : RegDesc} (hd : descOf a = some d) : ∃ k, kindOf (a / 256) = some k ∧
    k.desc (a % 256) = some d := by
  unfold descOf at hd
  split at hd
  · cases hd
  · exact ⟨_, ‹_›, hd⟩

/-- At the arbiter an accepted write that comes alone to such a register stores its new value and does nothing else. -/
theorem arbitrate_storesOnly (h : Hw) (p : Party) (a : Nat) (v : Word) (d : RegDesc) (hd : descOf a = some d)
    (hs : storesOnly a = true) (ha : h.accepts p a v) :
    h.arbitrate a [(p, v)] = h.setReg a (plainWord d (h.reg a) v) := by
  obtain ⟨k, hk, -⟩ := kindOf_of_descOf hd
  have hk' : (kindOf (a / 256)).isSome = true := by simp [hk]
  obtain ⟨h15, -, -, hrel, hm, hg⟩ := storesOnly_noRule a hs
  rw [arbitrate_alone h p a v ha.1 (aside_of_etchBarred p a h15 ha.2.2.2) hk' ha.2.1 hrel hm (.inr hg),
    writeReg_storesOnly h p a v hs hk' ha]
  exact plainWrite_eq h a v d hd

/-! ### A block and a party in one cycle (R114) -/

/-- No W1C bit of the map is an RW or RWL bit. -/
theorem w1c_disjoint {a : Nat} {d : RegDesc} (hd : descOf a = some d) (i : Nat) (hi : d.w1c.testBit i = true) :
    (d.rw ||| d.rwl).testBit i = false := by
  have rows : ∀ k : Kind, ∀ d ∈ k.commonRows ++ k.rows, d.w1c &&& (d.rw ||| d.rwl) = 0 := by
    intro k; cases k <;> decide +kernel
  obtain ⟨k, -, hd⟩ := kindOf_of_descOf hd
  have hm : d ∈ k.commonRows ++ k.rows := by
    rcases (Option.orElse_eq_some _ _ _).1 hd with h | ⟨-, h⟩
    · exact List.mem_append_left _ (List.mem_of_find?_eq_some h)
    · exact List.mem_append_right _ (List.mem_of_find?_eq_some h)
  have := congrArg (·.testBit i) (rows k d hm)
  simpa [hi] using this

/-- The W1C bits that a block sets are those of the register's row. -/
theorem w1cMask_eq {a : Nat} {d : RegDesc} (hd : descOf a = some d) : w1cMask a = wd d.w1c := by
  obtain ⟨k, hk, hr⟩ := kindOf_of_descOf hd
  unfold w1cMask
  simp only [hk, hd, Option.map_some, Option.getD_some]
  split
  · rename_i h4
    rw [h4] at hr
    cases hr
    rfl
  · rfl

/-- The register as the block leaves it for the parties of its cycle: W1S bits cleared, RW and RWL bits given. -/
def tieStart (h : Hw) (a : Nat) (t : Tie) : Hw :=
  let h1 := h.clrBits a (t.clears &&& w1sMask a).toNat
  match t.value with
  | none => h1
  | some v => h1.setReg a ((h1.reg a &&& ~~~(rwMask a ||| rwlMask a)) ||| (v &&& (rwMask a ||| rwlMask a)))

/-- With a change by the block the parties' writes come after it, and the flags that it sets stay set. -/
theorem arbitrateTie_some (h : Hw) (a : Nat) (ws : List (Party × Word)) (t : Tie) (ht : t ≠ Tie.none)
    (hu : h.pageUp (a / 256) = true) :
    h.arbitrateTie a ws t =
      if ((h.tieStart a t).arbitrate a ws).pageUp (a / 256) = true then
        ((h.tieStart a t).arbitrate a ws).setBits a (t.sets &&& w1cMask a).toNat
      else (h.tieStart a t).arbitrate a ws := by
  simp only [arbitrateTie, ht, hu, tieStart]
  rfl

theorem tieStart_onlyReg (h : Hw) (a : Nat) (t : Tie) : OnlyReg h (h.tieStart a t) a := by
  unfold tieStart
  split
  · exact onlyReg_setReg _ _ _
  · exact (onlyReg_setReg _ _ _).trans (onlyReg_setReg _ _ _)

/-- Bits that the parties cannot write keep their value under a block's change, in a register without W1S bits. -/
theorem tieStart_getLsbD (h : Hw) (a : Nat) (t : Tie) (d : RegDesc) (hd : descOf a = some d) (hc : a ≠ R.CLK_CTRL)
    (i : Nat) (hi : i < 16) (hb : (d.rw ||| d.rwl).testBit i = false) :
    ((h.tieStart a t).reg a).getLsbD i = (h.reg a).getLsbD i := by
  rw [Nat.testBit_or, Bool.or_eq_false_iff] at hb
  have h1 : (h.clrBits a (t.clears &&& w1sMask a).toNat).reg a = h.reg a := by
    rw [clrBits, reg_setReg_same, wd_toNat, w1sMask, if_neg hc, BitVec.ofNat_eq_ofNat, BitVec.and_zero, BitVec.not_zero,
      BitVec.and_allOnes]
  unfold tieStart
  split
  · rw [h1]
  · simp only [reg_setReg_same, h1, rwMask, rwlMask, hd, Option.map_some, Option.getD_some, BitVec.getLsbD_or,
      BitVec.getLsbD_and, BitVec.getLsbD_not, getLsbD_wd _ _ hi, hi, hb.1, hb.2]
    simp

/-- An accepted write stays accepted when the register alone changes and none of its fields is locked. -/
theorem OnlyReg.accepts {h g : Hw} {p : Party} {a : Nat} {v : Word} (hg : OnlyReg h g a) (ha : h.accepts p a v)
    (h8 : a % 256 ≠ 8) (hl : h.locked (a / 256) = false ∨ rwlMask a = 0) : g.accepts p a v := by
  obtain ⟨hp, hu, -, hb⟩ := ha
  refine ⟨(hg.1.partyUp p).trans hp, (hg.1.pageUp _).trans hu, fun hlk => ?_, hb⟩
  rw [hg.locked _ (by omega)] at hlk
  have hr : rwlMask a = 0 := hl.resolve_left (by simp [hlk])
  rw [hr, BitVec.ofNat_eq_ofNat, BitVec.and_zero]

/-- A block's change and an accepted write in one cycle, at a register that only holds what is written to it: the register
alone changes, RW and RWL bits take the party's value, and a W1C flag that the block sets stays set. -/
theorem arbitrateTie_storesOnly (h : Hw) (p : Party) (a : Nat) (v : Word) (t : Tie) (d : RegDesc)
    (hd : descOf a = some d) (hs : storesOnly a = true) (ha : h.accepts p a v)
    (hl : h.locked (a / 256) = false ∨ d.rwl = 0) :
    OnlyReg h (h.arbitrateTie a [(p, v)] t) a ∧
      ∀ i, i < 16 → ((h.arbitrateTie a [(p, v)] t).reg a).getLsbD i =
        if (d.rw ||| d.rwl).testBit i then v.getLsbD i
        else if d.w1c.testBit i then ((h.reg a).getLsbD i && !v.getLsbD i) || t.sets.getLsbD i
        else (h.reg a).getLsbD i := by
  by_cases ht : t = Tie.none
  · subst ht
    rw [arbitrateTie_none, arbitrate_storesOnly h p a v d hd hs ha]
    refine ⟨onlyReg_setReg _ _ _, fun i hi => ?_⟩
    simp [getLsbD_plainWord _ _ _ _ hi, Tie.none]
  · obtain ⟨-, h8, h2, -⟩ := storesOnly_noRule a hs
    have hc : a ≠ R.CLK_CTRL := by rintro rfl; exact h2 rfl
    have h0 := tieStart_onlyReg h a t
    have hr : h.locked (a / 256) = false ∨ rwlMask a = 0 := hl.imp_right fun e => by simp [rwlMask, hd, e, wd]
    rw [arbitrateTie_some h a _ t ht ha.2.1, arbitrate_storesOnly _ p a v d hd hs (h0.accepts ha h8 hr), pageUp_setReg,
      h0.1.pageUp, if_pos ha.2.1]
    refine ⟨(h0.trans (onlyReg_setReg _ _ _)).trans (onlyReg_setReg _ _ _), fun i hi => ?_⟩
    rw [reg_setBits_same, reg_setReg_same, wd_toNat, w1cMask_eq hd, BitVec.getLsbD_or, BitVec.getLsbD_and,
      getLsbD_wd _ _ hi, getLsbD_plainWord _ _ _ _ hi]
    by_cases hm : (d.rw ||| d.rwl).testBit i = true
    · have hw : d.w1c.testBit i = false := by
        by_contra hw
        simp [w1c_disjoint hd i (by simpa using hw)] at hm
      simp [hm, hw]
    · rw [Bool.not_eq_true] at hm
      rw [tieStart_getLsbD h a t d hd hc i hi hm]
      cases hw : d.w1c.testBit i <;> simp [hm]

theorem b_setBits_same (h : Hw) (a m i : Nat) (hi : i < 16) (hm : m.testBit i = true) : (h.setBits a m).b a i = true := by
  simp only [b, reg_setBits_same, BitVec.getLsbD_or, getLsbD_wd _ _ hi, hm, Bool.or_true]

/-- A RECAL that the party sets is set, whatever the register held before (R92). -/
theorem arbitrate_recal (h : Hw) (p : Party) (v : Word) (hp : h.partyUp p = true)
    (hu : h.pageUp (R.CLK_CTRL / 256) = true) (hb : etchBarred p R.CLK_CTRL = none) (h1 : v.getLsbD 1 = true)
    (h15 : v.getLsbD 15 = false) : (h.arbitrate R.CLK_CTRL [(p, v)]).b R.CLK_CTRL 1 = true := by
  rw [arbitrate_single h p R.CLK_CTRL v hp hu (by decide) (by decide) (by decide) (by decide) hb,
    show R.CLK_CTRL = 2 * 256 + 2 from rfl, writeRow_ctrl h p 2 v .clk rfl hp hu hb]
  simp only [ctrlWrite, h15, Bool.false_and, Bool.false_eq_true, if_false, ctrlActions, h1, if_true]
  exact b_setBits_same _ _ _ _ (by decide) (by decide)

/-- A set of RECAL in the cycle in which the block clears it leaves it set (R92, R114). -/
theorem arbitrateTie_recal (h : Hw) (p : Party) (v : Word) (t : Tie) (ha : h.accepts p R.CLK_CTRL v)
    (h1 : v.getLsbD 1 = true) (h15 : v.getLsbD 15 = false) :
    (h.arbitrateTie R.CLK_CTRL [(p, v)] t).b R.CLK_CTRL 1 = true := by
  obtain ⟨hp, hu, -, hb⟩ := ha
  by_cases ht : t = Tie.none
  · rw [ht, arbitrateTie_none]
    exact arbitrate_recal h p v hp hu hb h1 h15
  · have h0 := tieStart_onlyReg h R.CLK_CTRL t
    have hr := arbitrate_recal (h.tieStart R.CLK_CTRL t) p v ((h0.1.partyUp p).trans hp) ((h0.1.pageUp _).trans hu) hb h1 h15
    rw [arbitrateTie_some h _ _ t ht hu]
    split
    · simp only [b, reg_setBits_same, BitVec.getLsbD_or] at hr ⊢
      rw [hr, Bool.true_or]
    · exact hr

/-! ### Locked writes -/

theorem b_setBits_mono (h : Hw) (a m c i : Nat) (hb : h.b c i = true) : (h.setBits a m).b c i = true := by
  by_cases e : c = a
  · subst e
    simp only [b, reg_setBits_same, BitVec.getLsbD_or] at hb ⊢
    rw [hb, Bool.true_or]
  · simpa [b, reg_setBits_ne _ _ _ _ e] using hb

theorem b_setReg_ne (h : Hw) (a c i : Nat) (v : Word) (hc : c ≠ a) : (h.setReg a v).b c i = h.b c i := by
  simp [b, reg_setReg_ne _ _ _ _ hc]

/-- The registers that a locked write reports in (R111). -/
def lockRegs (a : Nat) : List Nat := [R.IDENT_STAT, R.IDENT_IFLAG, R.IDENT_LKVADDR, a / 256 * 256 + 3]

/-- A locked write sets LKV in IDENT.STAT, IDENT.IFLAG and the page's STAT, gives the address, and changes nothing else
(R111). -/
theorem lockHit_spec (h : Hw) (a : Nat) (hv : h.vigil = true) :
    (h.lockHit a).b R.IDENT_STAT 13 = true ∧ (h.lockHit a).b R.IDENT_IFLAG 0 = true ∧
      (h.lockHit a).b (a / 256 * 256 + 3) 13 = true ∧ (h.lockHit a).reg R.IDENT_LKVADDR = wd a ∧
      (∀ c, c ∉ lockRegs a → (h.lockHit a).reg c = h.reg c) ∧ RegsOnly h (h.lockHit a) := by
  have hl : (h.setBits R.IDENT_STAT 0x2000).pageLive 0 = true := pageLive_of_vigil _ 0 .ident rfl rfl hv
  have hlkv : R.IDENT_LKVADDR = 25 := rfl
  unfold lockHit
  refine ⟨?_, ?_, ?_, reg_setReg_same _ _ _, fun c hc => ?_, ?_⟩
  · rw [b_setReg_ne _ _ _ _ _ (by decide)]
    exact b_setBits_mono _ _ _ _ _ (raise_b_mono _ _ _ _ _ (b_setBits_same _ _ _ _ (by decide) (by decide)))
  · rw [b_setReg_ne _ _ _ _ _ (by decide)]
    exact b_setBits_mono _ _ _ _ _ (raise_b_same _ 0 0 (by decide) hl)
  · rw [b_setReg_ne _ _ _ _ _ (by omega)]
    exact b_setBits_same _ _ _ _ (by decide) (by decide)
  · simp only [lockRegs, List.mem_cons, List.not_mem_nil, or_false, not_or] at hc
    obtain ⟨h1, h2, h3, h4⟩ := hc
    rw [reg_setReg_ne _ _ _ _ h3, reg_setBits_ne _ _ _ _ h4, reg_raise_ne _ _ _ _ h2, reg_setBits_ne _ _ _ _ h1]
  · exact (((regsOnly_setReg _ _ _).trans (regsOnly_raise _ _ _)).trans (regsOnly_setReg _ _ _)).trans
      (regsOnly_setReg _ _ _)

/-- A locked write to a block register (R7, R14): the report, and RW fields beside the locked ones are written. -/
theorem fieldWrite_locked (h : Hw) (p : Party) (k : Kind) (a : Nat) (v : Word) (d : RegDesc)
    (hd : k.desc (a % 256) = some d) (hl : h.locked (a / 256) = true) (hx : (h.reg a ^^^ v) &&& wd d.rwl ≠ 0) :
    h.fieldWrite p k a v = if d.rw = 0 then h.lockHit a
      else (h.lockHit a).plainWrite a ((v &&& ~~~(wd d.rwl)) ||| (h.reg a &&& wd d.rwl)) := by
  simp only [fieldWrite, hd, hl, Bool.true_and, bne_iff_ne.2 hx, if_true]

/-- What a write with the old value in the RWL bits leaves in them, and in the RW bits beside them (R7). -/
theorem plainWord_locked (d : RegDesc) (old v : Word) :
    plainWord d old ((v &&& ~~~(wd d.rwl)) ||| (old &&& wd d.rwl)) &&& wd d.rwl = old &&& wd d.rwl ∧
      plainWord d old ((v &&& ~~~(wd d.rwl)) ||| (old &&& wd d.rwl)) &&& (wd d.rw &&& ~~~(wd d.rwl)) =
        v &&& (wd d.rw &&& ~~~(wd d.rwl)) := by
  constructor
  all_goals
    refine BitVec.eq_of_getLsbD_eq fun i hi => ?_
    simp only [BitVec.getLsbD_and, BitVec.getLsbD_or, BitVec.getLsbD_not, getLsbD_plainWord _ _ _ _ hi, getLsbD_wd _ _ hi,
      Nat.testBit_or, hi, decide_true, Bool.true_and]
    cases d.rw.testBit i <;> cases d.rwl.testBit i <;> simp

/-- A register with an RWL field is neither REL nor LKVADDR. -/
theorem ne_of_rwl {a : Nat} {k : Kind} {d : RegDesc} (hk : kindOf (a / 256) = some k) (hd : k.desc (a % 256) = some d)
    (hr : d.rwl ≠ 0) : a ≠ R.MBX_REL ∧ a ≠ R.IDENT_LKVADDR := by
  constructor
  all_goals
    rintro rfl
    cases hk
    cases hd
    exact hr rfl

/-- A block register that holds an RWL field is none of those that report the locked write. -/
theorem not_mem_lockRegs {a : Nat} (ho : 16 ≤ a % 256) (hlkv : a ≠ R.IDENT_LKVADDR) : a ∉ lockRegs a := by
  simp only [lockRegs, List.mem_cons, List.not_mem_nil, or_false, not_or]
  exact ⟨by rintro rfl; exact absurd ho (by decide), by rintro rfl; exact absurd ho (by decide), hlkv, by omega⟩

/-- A locked write to a block register, at the arbiter (R7, R111). -/
theorem arbitrate_locked (h : Hw) (p : Party) (a : Nat) (v : Word) (k : Kind) (d : RegDesc)
    (hr : blockReg a k = true) (hd : k.desc (a % 256) = some d) (hp : h.partyUp p = true)
    (hu : h.pageUp (a / 256) = true) (hb : etchBarred p a = none) (hl : h.locked (a / 256) = true)
    (hx : (h.reg a ^^^ v) &&& wd d.rwl ≠ 0) :
    h.arbitrate a [(p, v)] = if d.rw = 0 then h.lockHit a
      else (h.lockHit a).setReg a (plainWord d (h.reg a) ((v &&& ~~~(wd d.rwl)) ||| (h.reg a &&& wd d.rwl))) := by
  obtain ⟨hk, -, ho, hg, hm, -⟩ := (blockReg_iff a k).1 hr
  have hk' : (kindOf (a / 256)).isSome = true := by simp [hk]
  have hrwl : d.rwl ≠ 0 := fun e => hx (by simp [e, wd])
  obtain ⟨hrel, hlkv⟩ := ne_of_rwl hk hd hrwl
  rw [arbitrate_alone h p a v hp (aside_of_etchBarred p a (by omega) hb) hk' hu hrel hm (.inr hg),
    writeReg_blockReg h p a v k hr hu hb, fieldWrite_locked h p k a v d hd hl hx]
  have hdesc : descOf a = some d := by simp [descOf, hk, hd]
  obtain ⟨-, -, -, -, hkeep, -⟩ := lockHit_spec h a (vigil_of_pageUp h _ hk' hu)
  rw [plainWrite_eq _ _ _ d hdesc, hkeep a (not_mem_lockRegs ho hlkv)]

end Hw

/-- Settles O12: the arbiter hands an accepted write to the plain effect. -/
theorem writesFollowAccessCodes : Obligations.WritesFollowAccessCodes := by
  intro s p a v d hd hs ha
  refine ⟨Hw.plainWord d (s.hw.reg a.toNat) v, ?_, fun i hi => Hw.getLsbD_plainWord _ _ _ _ hi⟩
  rw [Hw.exec_registerWrite s a _ _ rfl, Hw.arbitrateTie_none, Hw.arbitrate_storesOnly s.hw p _ v d hd hs ha]


namespace Hw

/-- What a locked write leaves: the report of R111, the RWL fields as they were, the RW fields beside them written. -/
theorem arbitrate_locked_spec (h : Hw) (p : Party) (a : Nat) (v : Word) (k : Kind) (d : RegDesc)
    (hr : blockReg a k = true) (hd : k.desc (a % 256) = some d) (hp : h.partyUp p = true)
    (hu : h.pageUp (a / 256) = true) (hb : etchBarred p a = none) (hl : h.locked (a / 256) = true)
    (hx : (h.reg a ^^^ v) &&& wd d.rwl ≠ 0) (g : Hw) (hg : g = h.arbitrate a [(p, v)]) :
    g.b R.IDENT_STAT 13 = true ∧ g.b R.IDENT_IFLAG 0 = true ∧ g.b (a / 256 * 256 + 3) 13 = true ∧
      g.reg R.IDENT_LKVADDR = wd a ∧ g.reg a &&& wd d.rwl = h.reg a &&& wd d.rwl ∧
      g.reg a &&& (wd d.rw &&& ~~~wd d.rwl) = v &&& (wd d.rw &&& ~~~wd d.rwl) ∧
      (∀ c, c ∉ lockRegs a → c ≠ a → g.reg c = h.reg c) ∧ RegsOnly h g := by
  obtain ⟨hk, -, ho, -⟩ := (blockReg_iff a k).1 hr
  have hrwl : d.rwl ≠ 0 := fun e => hx (by simp [e, wd])
  have ha := not_mem_lockRegs ho (ne_of_rwl hk hd hrwl).2
  obtain ⟨hstat, hflag, hpage, haddr, hkeep, honly⟩ :=
    lockHit_spec h a (vigil_of_pageUp h _ (by simp [hk]) hu)
  rw [arbitrate_locked h p a v k d hr hd hp hu hb hl hx] at hg
  split at hg
  · rename_i h0
    subst hg
    rw [hkeep a ha]
    exact ⟨hstat, hflag, hpage, haddr, rfl, by simp [h0, wd], fun c hc _ => hkeep c hc, honly⟩
  · subst hg
    obtain ⟨hrw, hrest⟩ := plainWord_locked d (h.reg a) v
    simp only [lockRegs, List.mem_cons, List.not_mem_nil, or_false, not_or] at ha
    obtain ⟨h1, h2, h3, h4⟩ := ha
    rw [b_setReg_ne _ _ _ _ _ (Ne.symm h1), b_setReg_ne _ _ _ _ _ (Ne.symm h2), b_setReg_ne _ _ _ _ _ (Ne.symm h4),
      reg_setReg_ne _ _ _ _ (Ne.symm h3), reg_setReg_same]
    exact ⟨hstat, hflag, hpage, haddr, hrw, hrest, fun c hc hca => (reg_setReg_ne _ _ _ _ hca).trans (hkeep c hc),
      honly.trans (regsOnly_setReg _ _ _)⟩

/-- A write to LOCK or IFORCE at the arbiter (R96, R108). -/
theorem writeReg_lock (h : Hw) (p : Party) (pg : Nat) (k : Kind) (v : Word) (hk : kindOf pg = some k)
    (hu : h.pageUp pg = true) (hb : etchBarred p (pg * 256) = none) :
    h.writeReg p (pg * 256 + 8) v = (h.lockWrite (pg * 256 + 8) v, false) := by
  have e : (pg * 256 + 8) / 256 = pg := by omega
  have e' : (pg * 256 + 8) % 256 = 8 := by omega
  rw [writeReg_common h p _ v k (by rwa [e]) (by rwa [e])
    ((etchBarred_samePage p _ (pg * 256) (by omega)).trans hb) (by omega) (by omega), e, e']
  rfl

theorem writeReg_iforce (h : Hw) (p : Party) (pg : Nat) (k : Kind) (v : Word) (hk : kindOf pg = some k)
    (hu : h.pageUp pg = true) (hb : etchBarred p (pg * 256) = none) :
    h.writeReg p (pg * 256 + 7) v =
      (h.setReg (pg * 256 + 4) (h.reg (pg * 256 + 4) ||| (v &&& wd k.ifMask)), false) := by
  have e : (pg * 256 + 7) / 256 = pg := by omega
  have e' : (pg * 256 + 7) % 256 = 7 := by omega
  have hm : wd (v.toNat &&& k.ifMask) = v &&& wd k.ifMask := by
    rw [wd, wd, BitVec.ofNat_and, BitVec.ofNat_toNat, BitVec.setWidth_eq]
  rw [writeReg_common h p _ v k (by rwa [e]) (by rwa [e])
    ((etchBarred_samePage p _ (pg * 256) (by omega)).trans hb) (by omega) (by omega), e, e']
  simp only [commonWrite, if_true, setBits, hm]

/-- A write row that meets no bus error is the party's write. -/
theorem writeRow_of_writeReg (h g : Hw) (p : Party) (a : Nat) (v : Word) (hp : h.partyUp p = true)
    (hw : h.writeReg p a v = (g, false)) : h.writeRow p a v = g := by
  simp [writeRow, hp, hw]

end Hw

/-- Settles O13: a locked write takes the branch of `fieldWrite` that reports it; LOCK and IFORCE are common registers. -/
theorem locksHoldFieldsAndForcedFlagsSet : Obligations.LocksHoldFieldsAndForcedFlagsSet := by
  refine ⟨?_, fun s p pg k hk hp hu hb => ⟨?_, fun v hv => ?_, fun v => ?_⟩⟩
  · intro s p a v k d hr _ hd hp hu hb hl hx
    obtain ⟨hstat, hflag, hpage, haddr, hrwl, hrw, hkeep, honly⟩ :=
      Hw.arbitrate_locked_spec s.hw p a.toNat v k d hr hd hp hu hb hl hx _ rfl
    refine ⟨_, by rw [Hw.exec_registerWrite s a _ _ rfl, Hw.arbitrateTie_none], hstat, hflag, hpage,
      haddr.trans (Hw.wd_toNat a), hrwl, hrw, fun c hc => ?_, honly⟩
    simp only [List.mem_cons, List.not_mem_nil, or_false, not_or] at hc
    obtain ⟨h1, h2, h3, h4, h5⟩ := hc
    exact hkeep c (by simp [Hw.lockRegs, h1, h2, h3, h4]) h5
  · show execPageLock p pg s = _
    rw [execPageLock, done_eq, Hw.writeRow_of_writeReg _ _ _ _ _ hp (Hw.writeReg_lock s.hw p pg.toNat k _ hk hu hb)]
    rfl
  · have ha : (BitVec.ofNat 16 (pg.toNat * 256 + 8)).toNat = pg.toNat * 256 + 8 := by
      rw [BitVec.toNat_ofNat]; omega
    have e : (pg.toNat * 256 + 8) / 256 = pg.toNat := by omega
    rw [Hw.exec_registerWrite s _ _ _ rfl, Hw.arbitrateTie_none, ha,
      Hw.arbitrate_alone s.hw p _ v hp (Hw.aside_of_etchBarred p _ (by omega)
        ((Hw.etchBarred_samePage p _ (pg.toNat * 256) (by omega)).trans hb)) (by simp [e, hk]) (by rwa [e])
        (Hw.ne_rel_of_common _ (by omega)) (Hw.portMaskedReg_common _ (by omega)) (.inr (Hw.groupAt_common _ (by omega))),
      Hw.writeReg_lock s.hw p pg.toNat k v hk hu hb, Hw.lockWrite, if_neg hv]
  · show execIforceWrite p pg v s = _
    rw [execIforceWrite, done_eq, Hw.writeRow_of_writeReg _ _ _ _ _ hp (Hw.writeReg_iforce s.hw p pg.toNat k v hk hu hb)]

namespace Hw

/-- A party whose logic does not run writes nothing. -/
theorem arbitrate_partyDown (h : Hw) (p : Party) (a : Nat) (v : Word) (hp : h.partyUp p = false) :
    h.arbitrate a [(p, v)] = h := by
  simp [arbitrate, asideWrites, hp, ranked]

/-- A write to a page without power is a bus error, told to its party and nothing else (R11, R12). -/
theorem arbitrate_pageDown (h : Hw) (p : Party) (a : Nat) (v : Word) (hp : h.partyUp p = true) (ha : aside a p = false)
    (hk : (kindOf (a / 256)).isSome = true) (hu : h.pageUp (a / 256) = false) :
    h.arbitrate a [(p, v)] = h.busErrTo a p := by
  unfold arbitrate
  simp [hp, ha, ranked, insertRank, asideWrites, Option.isSome_iff_ne_none.1 hk, readErr, hu]

/-- A read of a page without power (R11, R12, R149). -/
theorem readBus_pageDown (h : Hw) (p : Party) (a : Nat) (hu : h.pageUp (a / 256) = false)
    (hp : p ≠ .twi0 ∨ a % 256 ≠ 15) : h.readBus p a = (none, h) := by
  have hc : (decide (p = .twi0) && decide (a % 256 = 0x0F) && (kindOf (a / 256)).isSome) = false := by
    rcases hp with hp | hp <;> simp [hp]
  simp [readBus, hc, readErr, hu]

/-- What a collision records and leaves (R112). -/
theorem collide_spec (h : Hw) (a : Nat) (p q : Party) (hv : h.vigil = true) :
    (h.collide a p q).b R.IDENT_STAT 11 = true ∧ (h.collide a p q).b R.IDENT_IFLAG 1 = true ∧
      (h.collide a p q).reg R.IDENT_COLLADDR = wd a ∧
      (h.collide a p q).reg R.IDENT_COLLWHO = wd (q.code * 256 + p.code) ∧
      ∀ c, c ∉ [R.IDENT_STAT, R.IDENT_IFLAG, R.IDENT_COLLADDR, R.IDENT_COLLWHO] →
        (h.collide a p q).reg c = h.reg c := by
  have hl : (h.setBits R.IDENT_STAT 0x0800).pageLive 0 = true := pageLive_of_vigil _ 0 .ident rfl rfl hv
  unfold collide
  refine ⟨?_, ?_, ?_, reg_setReg_same _ _ _, fun c hc => ?_⟩
  · rw [b_setReg_ne _ _ _ _ _ (by decide), b_setReg_ne _ _ _ _ _ (by decide)]
    exact raise_b_mono _ _ _ _ _ (b_setBits_same _ _ _ _ (by decide) (by decide))
  · rw [b_setReg_ne _ _ _ _ _ (by decide), b_setReg_ne _ _ _ _ _ (by decide)]
    exact raise_b_same _ 0 1 (by decide) hl
  · rw [reg_setReg_ne _ _ _ _ (by decide), reg_setReg_same]
  · simp only [List.mem_cons, List.not_mem_nil, or_false, not_or] at hc
    obtain ⟨h1, h2, h3, h4⟩ := hc
    rw [reg_setReg_ne _ _ _ _ h4, reg_setReg_ne _ _ _ _ h3, reg_raise_ne _ _ _ _ h2, reg_setBits_ne _ _ _ _ h1]

/-- Two writers act as the one ranked higher alone, once the collision is recorded (R112). -/
theorem arbitrate_two_eq_alone (h : Hw) (p q : Party) (a : Nat) (v w : Word) (hpq : slot p < slot q)
    (hp : h.partyUp p = true) (hq : h.partyUp q = true) (hpa : aside a p = false) (hqa : aside a q = false)
    (hk : (kindOf (a / 256)).isSome = true) (hu : h.pageUp (a / 256) = true) (hrel : a ≠ R.MBX_REL)
    (hm : portMaskedReg a = false) (hs : portSetReg a = false) (ho : orReg a = false) (h6 : a / 256 ≠ 6) :
    h.arbitrate a [(q, w), (p, v)] = (h.collide a p q).arbitrate a [(p, v)] := by
  have hc := regsOnly_collide h a p q
  rw [arbitrate_two h p q a v w hpq hp hq hpa hqa hk hu hrel hm hs ho h6,
    arbitrate_alone _ p a v ((hc.partyUp p).trans hp) hpa hk ((hc.pageUp _).trans hu) hrel hm (.inl h6)]

/-- A write to a page without power, party by party (R11, R12, R42). -/
theorem exec_registerWrite_pageDown (s : State) (a v : Word) (p : Party) (hk : (kindOf (a.toNat / 256)).isSome = true)
    (hu : s.hw.pageUp (a.toNat / 256) = false) (hp : s.hw.partyUp p = true) (ha : aside a.toNat p = false) :
    exec (.registerWrite a [(p, v)] Tie.none) s = .next (s.after (s.hw.busErrTo a.toNat p)) := by
  rw [exec_registerWrite s a _ _ rfl, arbitrateTie_none, arbitrate_pageDown s.hw p _ v hp ha hk hu]

theorem exec_registerWrite_partyDown (s : State) (a v : Word) (p : Party) (hp : s.hw.partyUp p = false) :
    exec (.registerWrite a [(p, v)] Tie.none) s = .next (s.after s.hw) := by
  rw [exec_registerWrite s a _ _ rfl, arbitrateTie_none, arbitrate_partyDown s.hw p _ v hp]

end Hw

/-- Settles O14: bus errors are `arbitrate_pageDown`, collisions `arbitrate_two_eq_alone`, ties
`arbitrateTie_storesOnly`. -/
theorem arbiterRejectsUnpoweredAndLosingWrites : Obligations.ArbiterRejectsUnpoweredAndLosingWrites := by
  refine ⟨fun s a v hk hu => ⟨?_, ?_, ?_, ?_, ?_, ?_⟩, ?_, fun s p v t => ⟨?_, ?_⟩⟩
  · intro hv
    rw [Hw.exec_registerWrite_pageDown s a v .spi hk hu hv rfl]
    simp [Hw.busErrTo, Hw.spiBusErr, Hw.hostBusErr, Hw.count, Hw.countBy]
  · intro hv h15
    rw [Hw.exec_registerWrite_pageDown s a v .twi0 hk hu hv (Hw.aside_of_etchBarred _ _ h15 rfl)]
    simp [Hw.busErrTo, Hw.hostBusErr]
  · intro p hp
    cases hup : s.hw.partyUp p with
    | false => exact Hw.exec_registerWrite_partyDown s a v p hup
    | true =>
      rcases hp with rfl | rfl
      · exact Hw.exec_registerWrite_pageDown s a v .core hk hu hup rfl
      · exact Hw.exec_registerWrite_pageDown s a v .remote hk hu hup rfl
  · intro n hn hb
    exact Hw.exec_registerWrite_pageDown s a v (.etch n) hk hu hn (by simp [Hw.aside, Hw.pselAccess, hb])
  · intro p hp
    exact Hw.exec_registerWrite_partyDown s a v p hp
  · intro p hp
    exact Hw.readBus_pageDown s.hw p _ hu hp
  · intro s p q a v w hpq hp hq hpa hqa hk hu hrel hm hs ho h6
    obtain ⟨hstat, hflag, haddr, hwho, hkeep⟩ :=
      Hw.collide_spec s.hw a.toNat p q (Hw.vigil_of_pageUp s.hw _ hk hu)
    refine ⟨?_, hstat, hflag, haddr.trans (Hw.wd_toNat a), hwho, hkeep⟩
    have hsent : Hw.wellSent [(q, w), (p, v)] = true := by simp [Hw.wellSent, hpq.ne']
    rw [Hw.exec_registerWrite s a _ _ hsent, Hw.exec_registerWrite _ a _ _ rfl, Hw.arbitrateTie_none,
      Hw.arbitrateTie_none, Hw.arbitrate_two_eq_alone s.hw p q _ v w hpq hp hq hpa hqa hk hu hrel hm hs ho h6]
    rfl
  · intro a d hd hs ha hl
    obtain ⟨⟨honly, hkeep⟩, hbits⟩ := Hw.arbitrateTie_storesOnly s.hw p a.toNat v t d hd hs ha hl
    exact ⟨_, Hw.exec_registerWrite s a _ _ rfl, honly, hkeep, hbits⟩
  · intro ha h1 h15
    exact ⟨_, Hw.exec_registerWrite s _ _ _ rfl, Hw.arbitrateTie_recal s.hw p v t ha h1 h15⟩

end Sys2Proof.Machine

/-! ## Proofs: VIGIL up and the two loads (O10) -/

namespace Sys2Proof.Machine
namespace Hw

/-- What the ends of the two loads are judged by: the store, the boot marks, draft, the flags of the NVS page and the
registers of the boot record. -/
structure LoadView where
  nvs : Nvs
  bootLoaded : Bool
  bootDef : Bool
  draft : Bool
  regs : List Word

/-- The registers of the view. -/
def viewRegs : List Nat := R.NVS_IFLAG :: bootRegs

/-- The view once draft has ended (R57). -/
def LoadView.noDraft (v : LoadView) : LoadView := { v with draft := false }

def loadView (h : Hw) : LoadView :=
  { nvs := h.nvs, bootLoaded := h.pwr.bootLoaded, bootDef := h.pwr.bootDef, draft := h.pwr.draft,
    regs := viewRegs.map h.reg }

/-! ### The view under the smallest operations -/

theorem reg_of_loadView {h g : Hw} (hv : g.loadView = h.loadView) {a : Nat} (ha : a ∈ viewRegs) : g.reg a = h.reg a :=
  List.map_inj_left.1 (congrArg LoadView.regs hv) a ha

theorem nvs_of_loadView {h g : Hw} (hv : g.loadView = h.loadView) : g.nvs = h.nvs := congrArg LoadView.nvs hv

theorem bootLoaded_of_loadView {h g : Hw} (hv : g.loadView = h.loadView) : g.pwr.bootLoaded = h.pwr.bootLoaded :=
  congrArg LoadView.bootLoaded hv

theorem bootDef_of_loadView {h g : Hw} (hv : g.loadView = h.loadView) : g.pwr.bootDef = h.pwr.bootDef :=
  congrArg LoadView.bootDef hv

theorem setReg_loadView (h : Hw) (a : Nat) (v : Word) (ha : a ∉ viewRegs) : (h.setReg a v).loadView = h.loadView := by
  have : viewRegs.map (h.setReg a v).reg = viewRegs.map h.reg :=
    List.map_congr_left fun c hc => reg_setReg_ne _ _ _ _ fun e => ha (e ▸ hc)
  simp [loadView, this]

theorem setBits_loadView (h : Hw) (a m : Nat) (ha : a ∉ viewRegs) : (h.setBits a m).loadView = h.loadView :=
  setReg_loadView _ _ _ ha

theorem clrBits_loadView (h : Hw) (a m : Nat) (ha : a ∉ viewRegs) : (h.clrBits a m).loadView = h.loadView :=
  setReg_loadView _ _ _ ha

theorem setF_loadView (h : Hw) (a hi lo v : Nat) (ha : a ∉ viewRegs) : (h.setF a hi lo v).loadView = h.loadView :=
  setReg_loadView _ _ _ ha

theorem countBy_loadView (h : Hw) (a n : Nat) (ha : a ∉ viewRegs) : (h.countBy a n).loadView = h.loadView :=
  setReg_loadView _ _ _ ha

theorem count_loadView (h : Hw) (a : Nat) (ha : a ∉ viewRegs) : (h.count a).loadView = h.loadView :=
  setReg_loadView _ _ _ ha

theorem raise_loadView (h : Hw) (pg bit : Nat) (hpg : pg ≠ 9) : (h.raise pg bit).loadView = h.loadView := by
  have hflag : ∀ a ∈ viewRegs, a % 256 = 4 → a = 0x0904 := by decide
  have ha : pg * 256 + 4 ∉ viewRegs := fun hm => by
    have := hflag _ hm (by omega)
    omega
  unfold raise
  split
  · exact setBits_loadView _ _ _ ha
  · rfl

theorem raiseIf_loadView (h : Hw) (c : Bool) (pg bit : Nat) (hpg : pg ≠ 9) :
    (h.raiseIf c pg bit).loadView = h.loadView := by
  cases c
  · rfl
  · exact raise_loadView h pg bit hpg

@[simp] theorem event_loadView (h : Hw) (e : Nat) : (h.event e).loadView = h.loadView := by
  rw [event_eq]; rfl

@[simp] theorem diaryAdd_loadView (h : Hw) (src : Nat) (x y : Word) : (h.diaryAdd src x y).loadView = h.loadView := by
  unfold diaryAdd
  rw [raiseIf_loadView _ _ _ _ (by decide), raise_loadView _ _ _ (by decide)]
  split
  · rw [raise_loadView _ _ _ (by decide), count_loadView _ _ (by decide)]; rfl
  · rfl

theorem setPwr_loadView (h : Hw) (p : Pwr) (hl : p.bootLoaded = h.pwr.bootLoaded) (hd : p.bootDef = h.pwr.bootDef)
    (hf : p.draft = h.pwr.draft) : (h.setPwr p).loadView = h.loadView := by
  simp only [loadView, setPwr, hl, hd, hf]; rfl

@[simp] theorem setDom_loadView (h : Hw) (d : Dom) (s : DomState) : (h.setDom d s).loadView = h.loadView := by
  cases d <;> exact setPwr_loadView _ _ rfl rfl rfl

@[simp] theorem setAlm_loadView (h : Hw) (n : Nat) (a : Alm) : (h.setAlm n a).loadView = h.loadView := rfl

@[simp] theorem setPort_loadView (h : Hw) (n : Fin 2) (p : Port) : (h.setPort n p).loadView = h.loadView := rfl

/-- What both branches leave, the choice between them leaves. -/
theorem ite_loadView {c : Prop} [Decidable c] {x y h : Hw} (hx : x.loadView = h.loadView) (hy : y.loadView = h.loadView) :
    (if c then x else y).loadView = h.loadView := by
  split
  · exact hx
  · exact hy

/-- What every step of a fold leaves, the fold leaves. -/
theorem foldl_loadView {α : Type} (f : Hw → α → Hw) (hf : ∀ g x, (f g x).loadView = g.loadView) (l : List α) (h : Hw) :
    (l.foldl f h).loadView = h.loadView := by
  induction l generalizing h with
  | nil => rfl
  | cons x t ih => exact (ih _).trans (hf h x)

/-! ### The first steps of the sequences -/

@[simp] theorem holdPins_loadView (h : Hw) (d : Dom) : (h.holdPins d).loadView = h.loadView := by
  unfold holdPins
  extract_lets ownedBy
  refine foldl_loadView _ (fun g i => ?_) _ _
  split <;> rfl

@[simp] theorem onStart_loadView (h : Hw) (d : Dom) : (h.onStart d).loadView = h.loadView := by
  rw [← setDom_loadView h d .rising]
  cases d <;> rfl

@[simp] theorem snapStep_loadView (h : Hw) : h.snapStep.loadView = h.loadView := by
  unfold snapStep
  dsimp only
  split
  · rfl
  · split
    · rw [event_loadView, bufFlag, raise_loadView _ _ _ (by decide)]; rfl
    · rfl

/-- An overrun of a port is counted and flagged. -/
theorem countOverrun_loadView (g : Hw) (n a bit : Nat) (ha : a ∉ viewRegs) :
    (if n = 0 then g else (g.countBy a n).bufFlag bit).loadView = g.loadView := by
  split
  · rfl
  · rw [bufFlag, raise_loadView _ _ _ (by decide), countBy_loadView _ _ _ ha]

theorem overrunPorts_loadView (h : Hw) : h.overrunPorts.loadView = h.loadView := by
  -- Unfolded as a function: against its value at `h` the kernel would evaluate `wp - bufCap` in unary.
  rw [show overrunPorts = _ by delta overrunPorts; rfl]
  generalize h.overrun h.buf.portA = x
  generalize h.overrun h.buf.portB = y
  obtain ⟨a, pa⟩ := x
  obtain ⟨b, pb⟩ := y
  dsimp -zeta only
  extract_lets _ h1 h2
  have e1 : h1.loadView = h.loadView := rfl
  clear_value h1
  have e2 : h2.loadView = h1.loadView := countOverrun_loadView h1 _ _ _ (by decide)
  clear_value h2
  exact (countOverrun_loadView h2 _ _ _ (by decide)).trans (e2.trans e1)

@[simp] theorem writeRecord_loadView (h : Hw) (d : Draft) : (h.writeRecord d).loadView = h.loadView := by
  unfold writeRecord
  split
  · rfl
  · split
    · rw [dropRecord, bufFlag, raise_loadView _ _ _ (by decide), count_loadView _ _ (by decide)]; rfl
    · rw [snapStep_loadView]
      unfold putRecord
      dsimp only
      split
      · rw [overrunPorts_loadView]; rfl
      · rfl

theorem watermarks_loadView (h : Hw) (x y : Nat) : (h.watermarks x y).loadView = h.loadView := by
  unfold watermarks
  dsimp only
  split
  · rw [event_loadView, raiseIf_loadView _ _ _ _ (by decide), raiseIf_loadView _ _ _ _ (by decide)]
  · rw [raiseIf_loadView _ _ _ _ (by decide), raiseIf_loadView _ _ _ _ (by decide)]

theorem markOut_loadView (h : Hw) : h.markOut.loadView = h.loadView := by
  unfold markOut
  split
  · rfl
  · extract_lets recover lead _ h1 h2 h3 _ h4 _ h5
    have e1 : h1.loadView = h.loadView := rfl
    clear_value h1
    have e2 : h2.loadView = h.loadView := (foldl_loadView _ writeRecord_loadView _ _).trans e1
    clear_value h2
    have e3 : h3.loadView = h.loadView := (writeRecord_loadView _ _).trans e2
    clear_value h3
    have e4 : h4.loadView = h.loadView := e3
    clear_value h4
    have e5 : h5.loadView = h.loadView := ite_loadView ((snapStep_loadView _).trans e4) e4
    exact (watermarks_loadView _ _ _).trans e5

theorem marksOut_loadView (k : Nat) (h : Hw) : (marksOut k h).loadView = h.loadView := by
  induction k generalizing h with
  | zero => rfl
  | succ k ih => exact (ih _).trans (markOut_loadView h)

@[simp] theorem bufSenseOff_loadView (h : Hw) : h.bufSenseOff.loadView = h.loadView := by
  unfold bufSenseOff
  split
  · extract_lets h1 _ _ h2 _
    have e1 : h1.loadView = h.loadView := marksOut_loadView 16 h
    clear_value h1
    rw [← e1]
    have e2 : h2.loadView = h1.loadView := ite_loadView rfl rfl
    exact e2
  · rfl

@[simp] theorem glockFall_loadView (h : Hw) : h.glockFall.loadView = h.loadView := by
  unfold glockFall
  dsimp only
  split
  · rw [decFlag, raise_loadView _ _ _ (by decide)]; rfl
  · rfl

@[simp] theorem stAbort_loadView (h : Hw) : h.stAbort.loadView = h.loadView := by
  unfold stAbort; split <;> rfl

theorem etchIdle_loadView (h : Hw) (n : Fin 8) : (h.etchIdle n).loadView = h.loadView := by
  unfold etchIdle
  dsimp only
  split
  · rfl
  · rw [etchFlag, raise_loadView _ _ _ (by decide)]; rfl

@[simp] theorem etchStopAll_loadView (h : Hw) : h.etchStopAll.loadView = h.loadView := by
  refine foldl_loadView _ (fun g n => ?_) _ _
  unfold etchStop
  dsimp only
  split
  · rfl
  · rfl
  · exact etchIdle_loadView g n

@[simp] theorem replyDrop_loadView (h : Hw) : h.replyDrop.loadView = h.loadView := by
  unfold replyDrop
  split
  · rfl
  · rw [setBits_loadView _ _ _ (by decide), count_loadView _ _ (by decide)]; rfl

theorem rungLost_loadView (h : Hw) (n : Nat) (r : Rung) : (h.rungLost n r).loadView = h.loadView := by
  unfold rungLost
  extract_lets a run
  split
  · rfl
  · split <;> rfl

@[simp] theorem servoCoreOff_loadView (h : Hw) : h.servoCoreOff.loadView = h.loadView := by
  refine foldl_loadView _ (fun g n => ?_) _ _
  split
  · have hoff : ∀ a ∈ viewRegs, a % 256 ≠ 0x2B := by decide
    have ha : R.ALM_SERVO n ∉ viewRegs := fun hm => hoff _ hm (by simp only [R.ALM_SERVO]; omega)
    rw [servoLost, rungLost_loadView, setAlm_loadView, clrBits_loadView _ _ _ ha]
  · rfl

theorem corrAdd_loadView (h : Hw) (c d : Int) : (h.corrAdd c d).2.loadView = h.loadView := by
  unfold corrAdd
  extract_lets s
  split
  · rfl
  · rw [raise_loadView _ _ _ (by decide), count_loadView _ _ (by decide)]

theorem insertPtp_loadView (h : Hw) (n : Fin 2) (f : Frame) (p : Ptp) :
    (h.insertPtp n f p).2.loadView = h.loadView := by
  unfold insertPtp
  split
  · rfl
  · exact corrAdd_loadView _ _ _
  · exact corrAdd_loadView _ _ _
  · rfl
  · rfl

theorem transmit_loadView (h : Hw) (n : Fin 2) (f : Frame) : (h.transmit n f).loadView = h.loadView := by
  have hok : R.MAC_TXOK n ∉ viewRegs := by revert n; decide
  unfold transmit
  extract_lets _ r p h1
  have er : r.2.loadView = h.loadView := by
    unfold r
    split
    · exact insertPtp_loadView _ _ _ _
    · split <;> rfl
  clear_value r
  have e1 : h1.loadView = r.2.loadView := count_loadView _ _ hok
  clear_value h1
  split
  · rw [raise_loadView _ _ _ (by decide), e1, er]
  · rw [e1, er]

theorem txDrop_loadView (h : Hw) (n : Fin 2) (k : Nat) : (h.txDrop n k).loadView = h.loadView := by
  have hd : R.MAC_TXDROP n ∉ viewRegs := by revert n; decide
  exact countBy_loadView _ _ _ hd

theorem flushPort_loadView (h : Hw) (n : Fin 2) : (h.flushPort n).loadView = h.loadView := txDrop_loadView h n _

theorem storeAlarm_loadView (h : Hw) (n : Fin 2) (q : AlarmReq) : (h.storeAlarm n q).loadView = h.loadView := by
  unfold storeAlarm
  extract_lets l
  split <;> rfl

theorem netStopPort_loadView (h : Hw) (n : Fin 2) : (h.netStopPort n).loadView = h.loadView := by
  unfold netStopPort
  extract_lets q _ h1 h2
  have e1 : h1.loadView = h.loadView := rfl
  have e2 : h2.loadView = h1.loadView := by
    refine foldl_loadView _ (fun g f => ?_) _ _
    split
    · split
      · exact transmit_loadView _ _ _
      · rw [transmit_loadView, raise_loadView _ _ _ (by decide), count_loadView _ _ (by decide)]
    · exact storeAlarm_loadView _ _ _
  rw [flushPort_loadView, e2, e1]

@[simp] theorem netStop_loadView (h : Hw) : h.netStop.loadView = h.loadView :=
  (netStopPort_loadView _ _).trans (netStopPort_loadView _ _)

@[simp] theorem offStart_loadView (h : Hw) (d : Dom) : (h.offStart d).loadView = h.loadView := by
  have e1 : ((h.holdPins d).setDom d .falling).loadView = h.loadView := by simp
  cases d with
  | vigil => rfl
  | time => exact e1
  | sense =>
    unfold offStart
    extract_lets h1 h2 _
    have e1' : h1.loadView = h.loadView := e1
    clear_value h1
    have e2 : h2.loadView = h1.loadView := by simp [h2]
    clear_value h2
    exact (setPwr_loadView _ _ rfl rfl rfl).trans (e2.trans e1')
  | net => exact (netStop_loadView _).trans e1
  | core =>
    unfold offStart
    extract_lets h1 _ _ h2 h3 _ _
    have e1' : h1.loadView = h.loadView := e1
    clear_value h1
    have e3 : h3.loadView = h1.loadView := by
      simp [h3, h2, setReg_loadView _ _ _ (show R.TSI_SRVRUN ∉ viewRegs by decide)]
    clear_value h3
    exact (setPwr_loadView _ _ rfl rfl rfl).trans (e3.trans e1')

/-- The next sequence touches neither the store nor what the boot record holds (R44). -/
@[simp] theorem seqStart_loadView (h : Hw) : h.seqStart.loadView = h.loadView := by
  unfold seqStart
  split
  · rfl
  · extract_lets _ h1
    have e1 : h1.loadView = h.loadView := setPwr_loadView _ _ rfl rfl rfl
    clear_value h1
    split <;> simp [e1]

/-! ### The VIN comparator -/

/-- The comparator changes its own state, and with it the registers and the diary (R32). -/
theorem vinEval_eq (h : Hw) : h.vinEval = { h with
    pwr := { h.pwr with vinWarn := h.vinEval.pwr.vinWarn }, regs := h.vinEval.regs, diary := h.vinEval.diary } := by
  unfold vinEval
  split
  · rfl
  · split
    · split <;> rfl
    · split
      · rw [diaryAdd_eq, pwrFlag, raise_eq]; split <;> rfl
      · rfl

theorem vinEval_pwr (h : Hw) : h.vinEval.pwr = { h.pwr with vinWarn := h.vinEval.pwr.vinWarn } := by
  conv_lhs => rw [vinEval_eq]

@[simp] theorem vinEval_pins (h : Hw) : h.vinEval.pins = h.pins := by rw [vinEval_eq]
@[simp] theorem vinEval_gang (h : Hw) : h.vinEval.gang = h.gang := by rw [vinEval_eq]
@[simp] theorem vinEval_host (h : Hw) : h.vinEval.host = h.host := by rw [vinEval_eq]

@[simp] theorem vinEval_loadView (h : Hw) : h.vinEval.loadView = h.loadView := by
  unfold vinEval
  split
  · rfl
  · split
    · split
      · exact setPwr_loadView _ _ rfl rfl rfl
      · rfl
    · split
      · exact (diaryAdd_loadView _ _ _ _).trans
          ((raise_loadView _ 1 8 (by decide)).trans (setPwr_loadView _ _ rfl rfl rfl))
      · rfl

/-! ### VIGIL up and the boot record -/

theorem vigilStart_spec (h : Hw) (straps : BitVec 4) (addr0 : Bool) (hr : h.pwr.running = true)
    (hd : h.pwr.vigilUp = false ∨ h.pwr.held = true) (hv : h.pwr.vio ≠ .out) (hb : h.pwr.buckFault = false)
    (ht : h.tap.ir ≠ .priv) :
    (h.vigilStart straps addr0).vigil = true ∧ (h.vigilStart straps addr0).pins.straps = straps ∧
      (h.vigilStart straps addr0).gang.gid = straps ∧ (h.vigilStart straps addr0).host.addr0 = addr0 ∧
      (h.vigilStart straps addr0).pwr.vio33 = (h.pwr.vio == .v33) ∧ (h.vigilStart straps addr0).pwr.held = false := by
  have hc : (!h.pwr.running || (h.pwr.vigilUp && !h.pwr.held) || h.pwr.vio = .out || h.pwr.buckFault ||
      h.tap.ir = .priv) = false := by
    rcases hd with hd | hd <;> simp [hr, hd, hv, hb, ht]
  unfold vigilStart
  rw [if_neg (by simp only [hc]; decide)]
  extract_lets _ h1 h2 h3
  have e3 : h3.pwr = h1.pwr ∧ h3.pins = h1.pins ∧ h3.gang = h1.gang ∧ h3.host = h1.host := by
    unfold h3 h2
    split <;> simp
  obtain ⟨hpwr, hpins, hgang, hhost⟩ := e3
  rw [vinEval_pins, vinEval_gang, vinEval_host, vigil, vinEval_pwr, hpwr, hpins, hgang, hhost]
  refine ⟨?_, rfl, rfl, rfl, rfl, rfl⟩
  show (h.pwr.running && true && !false) = true
  rw [hr]; rfl

/-- Without a boot record nothing of it takes effect (R8, R58). -/
theorem bootApply_loadView (h : Hw) (hn : h.nvs.bootIn = none) : h.bootApply.loadView = h.loadView := by
  unfold bootApply
  rw [hn]
  rfl

/-- Stored values leave the store and the power state. -/
theorem foldl_nvPut_eq (l : List (Nat × Word)) (h : Hw) : l.foldl nvPut h = { h with regs := (l.foldl nvPut h).regs } := by
  induction l generalizing h with
  | nil => rfl
  | cons x t ih => rw [List.foldl_cons, ih]; rfl

theorem bootApply_nvs (h : Hw) : h.bootApply.nvs = h.nvs := by
  unfold bootApply
  extract_lets fs g
  unfold g
  rw [foldl_nvPut_eq]
  rfl

theorem bootApply_pwr (h : Hw) : h.bootApply.pwr = h.pwr := by
  unfold bootApply
  extract_lets fs g
  unfold g
  rw [foldl_nvPut_eq]
  rfl

/-- The end of the boot load (R56, R58, R543). -/
theorem bootComplete_spec (h : Hw) (hv : h.vigil = true) (hl : h.pwr.bootLoaded = false) :
    h.bootComplete.pwr.bootLoaded = true ∧ h.bootComplete.pwr.bootDef = (pickCopy h.nvs.boot).isNone ∧
      (pickCopy h.nvs.boot = none → ∀ a ∈ bootRegs, h.bootComplete.reg a = h.reg a) ∧
      h.bootComplete.nvs.bootIn = (pickCopy h.nvs.boot).map (·.data) := by
  unfold bootComplete
  rw [if_neg (by simp [hv, hl])]
  extract_lets h1 _ h2
  have hin : h2.nvs.bootIn = (pickCopy h.nvs.boot).map (·.data) := rfl
  have hreg : ∀ a, h2.reg a = h.reg a := fun _ => rfl
  have hpwr : h2.pwr.bootLoaded = true ∧ h2.pwr.bootDef = (pickCopy h.nvs.boot).isNone := by
    refine ⟨rfl, ?_⟩
    show ((pickCopy h.nvs.boot).map (·.data)).isNone = _
    rw [Option.isNone_map]
  clear_value h2
  have hview : h2.bootApply.vinEval.seqStart.loadView = h2.bootApply.loadView := by simp
  refine ⟨?_, ?_, fun hn a ha => ?_, ?_⟩
  · rw [bootLoaded_of_loadView hview, bootApply_pwr, hpwr.1]
  · rw [bootDef_of_loadView hview, bootApply_pwr, hpwr.2]
  · rw [hn] at hin
    rw [← hreg a]
    exact reg_of_loadView (hview.trans (bootApply_loadView h2 hin)) (List.mem_cons_of_mem _ ha)
  · rw [nvs_of_loadView hview, bootApply_nvs, hin]

/-! ### What the blocks do at the end of the store load -/

@[simp] theorem linePresent_loadView (h : Hw) (n : Nat) : (h.linePresent n).loadView = h.loadView := rfl

@[simp] theorem setIntPin_loadView (h : Hw) (k : Nat) (p : IntPin) : (h.setIntPin k p).loadView = h.loadView := by
  unfold setIntPin; split <;> rfl

theorem irqCfgSet_loadView (h : Hw) (v : Word) : (h.irqCfgSet v).loadView = h.loadView := by
  unfold irqCfgSet
  extract_lets h1 on
  have e1 : h1.loadView = h.loadView := setReg_loadView _ _ _ (by decide)
  rw [← e1]
  refine foldl_loadView _ (fun g k => ?_) _ _
  split
  · exact setIntPin_loadView _ _ _
  · split
    · exact setIntPin_loadView _ _ _
    · rfl

theorem bufBegin_loadView (h : Hw) : h.bufBegin.loadView = h.loadView := by
  unfold bufBegin
  extract_lets h1
  split <;> rfl

theorem strmStart_loadView (h : Hw) : h.strmStart.loadView = h.loadView := by
  have e : h.restartB.loadView = h.loadView := by
    unfold restartB
    extract_lets p
    split
    · rfl
    · rw [strmFlag, raise_loadView _ _ _ (by decide)]; rfl
  exact (setBits_loadView h.restartB R.STRM_CTRL 1 (by decide)).trans e

theorem linkSet_loadView (h : Hw) (n : Fin 2) (up : Bool) : (h.linkSet n up).loadView = h.loadView := by
  have hpg : 0x30 + n.val ≠ 9 := by omega
  unfold linkSet
  extract_lets p h1 h2
  have e1 : h1.loadView = h.loadView := rfl
  clear_value h1
  have e2 : h2.loadView = h.loadView := by
    rw [event_loadView, raise_loadView _ _ _ (by decide), macFlag, raise_loadView _ _ _ hpg, e1]
  exact ite_loadView rfl (ite_loadView e2 ((flushPort_loadView _ _).trans e2))

theorem macChanged_loadView (old h : Hw) (n : Fin 2) : (macChanged old h n).loadView = h.loadView := by
  unfold macChanged
  extract_lets h1
  have e1 : h1.loadView = h.loadView := by
    unfold h1
    split
    · rfl
    · exact linkSet_loadView _ _ _
  clear_value h1
  split
  · rw [flushPort_loadView, e1]
  · exact e1

theorem enqueue_loadView (h : Hw) (n : Fin 2) (event : Bool) (f : Frame) : (h.enqueue n event f).loadView = h.loadView := by
  unfold enqueue
  extract_lets p
  split
  · exact txDrop_loadView _ _ _
  · split
    · split
      · exact txDrop_loadView _ _ _
      · rfl
    · split
      · exact txDrop_loadView _ _ _
      · rfl

theorem arpAsk_loadView (h : Hw) (stream : Bool) : (h.arpAsk stream).loadView = h.loadView := by
  unfold arpAsk
  split
  · rfl
  · refine ite_loadView rfl ?_
    exact foldl_loadView _ (fun g n => ite_loadView (enqueue_loadView _ _ _ _) rfl) _ _

theorem hopChanged_loadView (h : Hw) : h.hopChanged.loadView = h.loadView :=
  (arpAsk_loadView _ _).trans (arpAsk_loadView _ _)

theorem rolesChanged_loadView (h : Hw) (was : Word) : (h.rolesChanged was).loadView = h.loadView := by
  unfold rolesChanged
  extract_lets _ h1
  have e1 : h1.loadView = h.loadView := ite_loadView rfl rfl
  clear_value h1
  rw [← e1]
  exact ite_loadView rfl rfl

theorem gangStop_loadView (h : Hw) : h.gangStop.loadView = h.loadView := by
  unfold gangStop
  extract_lets g _ h1
  have e1 : h1.loadView = h.loadView := rfl
  clear_value h1
  rw [← e1]
  unfold gangState
  split
  · rfl
  · extract_lets _ h2 h3
    have e2 : h2.loadView = h1.loadView := raise_loadView _ 0x3A 0 (by decide)
    clear_value h2
    rw [if_neg (by decide), ← e2]
    exact ite_loadView (diaryAdd_loadView _ _ _ _) rfl

theorem loadEffects_loadView (old h : Hw) : (loadEffects old h).loadView = h.loadView := by
  unfold loadEffects
  extract_lets h1 h2 _ g1 g2 _ g3 _ g4 g5 h3 _ h4 h5 h6
  have e1 : h1.loadView = h.loadView := foldl_loadView _ (fun g n => ite_loadView (linePresent_loadView g n) rfl) _ _
  clear_value h1
  have e2 : h2.loadView = h.loadView :=
    (irqCfgSet_loadView _ _).trans ((setReg_loadView _ _ _ (by decide)).trans e1)
  clear_value h2
  have eg1 : g1.loadView = h.loadView := e2
  clear_value g1
  have eg3 : g3.loadView = h.loadView := (raiseIf_loadView g1 _ 0x10 12 (by decide)).trans eg1
  clear_value g3
  have eg4 : g4.loadView = h.loadView := ite_loadView eg3 eg3
  clear_value g4
  have eg5 : g5.loadView = h.loadView := ite_loadView ((bufBegin_loadView _).trans eg4) eg4
  clear_value g5
  have e3 : h3.loadView = h.loadView :=
    ite_loadView (ite_loadView ((strmStart_loadView _).trans eg5) (ite_loadView eg5 eg5)) e2
  clear_value h3
  have e4 : h4.loadView = h.loadView := ite_loadView e3 e3
  clear_value h4
  have e5 : h5.loadView = h.loadView :=
    ite_loadView ((hopChanged_loadView _).trans
      ((macChanged_loadView _ _ _).trans ((macChanged_loadView _ _ _).trans e4))) e4
  clear_value h5
  have e6 : h6.loadView = h.loadView := ite_loadView ((rolesChanged_loadView _ _).trans e5) e5
  clear_value h6
  exact ite_loadView ((gangStop_loadView _).trans e6) e6

/-! ### The proof run that a load starts -/

theorem setResult_loadView (h : Hw) (k v : Nat) : (h.setResult k v).loadView = h.loadView := by
  unfold setResult
  extract_lets i a
  refine setF_loadView _ _ _ _ _ ?_
  unfold a
  split <;> decide

theorem setResult_proof (h : Hw) (k v : Nat) : (h.setResult k v).proof = h.proof := by
  rw [setResult, setF, setReg_proof]

theorem stStart_loadView (h : Hw) (v : Word) : (h.stStart v).loadView = h.loadView := by
  unfold stStart
  extract_lets gyr h1
  have e1 : h1.loadView = h.loadView := setReg_loadView _ _ _ (by decide)
  clear_value h1
  exact ite_loadView rfl (ite_loadView (raise_loadView h 0x10 7 (by decide)) e1)

theorem stStart_proof (h : Hw) (v : Word) : (h.stStart v).proof = h.proof := by
  unfold stStart
  extract_lets gyr h1
  split
  · rfl
  · split
    · exact raise_proof _ _ _
    · rfl

theorem warmStart_loadView (h : Hw) (gs : BitVec 4) (empty : Bool) : (h.warmStart gs empty).loadView = h.loadView := by
  unfold warmStart; rfl

theorem emptyAll_loadView (h : Hw) : h.emptyAll.loadView = h.loadView := by
  rw [← warmStart_loadView h 0xF#4 true, emptyAll]
  generalize h.warmStart 0xF#4 true = g
  rfl

theorem recInit_loadView (h : Hw) : h.recInit.loadView = h.loadView := rfl

/-- The end of draft ends draft, and touches nothing else of the view (R57). -/
theorem draftEnd_loadView (h : Hw) : h.draftEnd.loadView = h.loadView.noDraft := by
  unfold draftEnd
  split
  · rename_i hd
    have : h.pwr.draft = false := by simpa using hd
    simp [loadView, LoadView.noDraft, this]
  · extract_lets _ h1 h2 _ g _
    have e1 : h1.loadView = h.loadView.noDraft := raise_loadView _ 1 9 (by decide)
    clear_value h1
    have e2 : h2.loadView = h1.loadView := ite_loadView (diaryAdd_loadView _ _ _ _) rfl
    clear_value h2
    have eg : g.loadView = h2.loadView := (recInit_loadView _).trans (emptyAll_loadView _)
    clear_value g
    rw [← e1, ← e2]
    exact ite_loadView eg rfl

/-- The end of a quick run ends draft (R556). -/
theorem proofEnd_quick_loadView (h : Hw) (hq : h.proof.quick = true) :
    h.proofEnd.loadView = h.loadView.noDraft := by
  unfold proofEnd
  extract_lets quick h1 h2 _ h3
  have e2 : h2.loadView = h.loadView :=
    (raiseIf_loadView _ _ 7 3 (by decide)).trans ((raiseIf_loadView _ _ 7 2 (by decide)).trans
      ((raiseIf_loadView _ _ 7 1 (by decide)).trans (raise_loadView _ 7 0 (by decide))))
  clear_value h2
  have e3 : h3.loadView = h.loadView := e2
  clear_value h3
  rw [if_pos hq, draftEnd_loadView, e3]

/-- A quick run from a state with the view `v` goes on with a slice, or it has ended and draft with it. -/
def QuickRunFrom (v : LoadView) (g : Hw) : Prop :=
  (g.proof.active = true ∧ g.loadView = v) ∨ g.loadView = v.noDraft

/-- The choice of the next slice keeps a quick run going or ends it (R554 to R556). -/
theorem proofNext_quick (n : Nat) (v : LoadView) (h : Hw) (ha : h.proof.active = true) (hq : h.proof.quick = true)
    (hv : h.loadView = v) : QuickRunFrom v (proofNext n h) := by
  induction n generalizing h with
  | zero => exact .inr (hv ▸ proofEnd_quick_loadView h hq)
  | succ n ih =>
    unfold proofNext
    split
    · exact .inr (hv ▸ proofEnd_quick_loadView h hq)
    · rename_i k _
      extract_lets _ h1 busy h2
      have e1 : h1.loadView = v := hv
      have ha1 : h1.proof.active = true := ha
      have hq1 : h1.proof.quick = true := hq
      clear_value h1
      have e2 : h2.loadView = v := (stStart_loadView _ _).trans e1
      have hp2 : h2.proof = h1.proof := stStart_proof _ _
      clear_value h2
      have skip : ∀ (g : Hw) (k r : Nat), g.proof = h1.proof → g.loadView = v →
          QuickRunFrom v (proofNext n (g.setResult k r)) := fun g k r hp hg =>
        ih _ (by rw [setResult_proof, hp, ha1]) (by rw [setResult_proof, hp, hq1]) ((setResult_loadView _ _ _).trans hg)
      split
      · exact skip _ _ _ rfl e1
      · split
        · exact skip _ _ _ rfl e1
        · split
          · split
            · exact .inl ⟨(congrArg ProofRun.active hp2).trans ha1, e2⟩
            · exact skip _ _ _ hp2 e2
          · exact .inl ⟨ha1, e1⟩

/-- The start of a quick run (R556). -/
theorem proofStart_quick (h : Hw) (mask : Nat) : QuickRunFrom h.loadView (h.proofStart mask true) := by
  unfold proofStart
  extract_lets h1 h2
  have e1 : h1.loadView = h.loadView := foldl_loadView _ (fun g i => ite_loadView (setResult_loadView _ _ _) rfl) _ _
  clear_value h1
  have e2 : h2.loadView = h.loadView := (setReg_loadView _ _ _ (by decide)).trans e1
  clear_value h2
  exact proofNext_quick 9 _ _ rfl rfl e2

/-- Of the store and the NVS page's flags a quick run changes nothing; its end ends draft. -/
theorem QuickRunFrom.spec {h g : Hw} (hg : QuickRunFrom h.loadView g) :
    g.nvs = h.nvs ∧ g.reg R.NVS_IFLAG = h.reg R.NVS_IFLAG ∧ (g.proof.active = true ∨ g.pwr.draft = false) := by
  rcases hg with ⟨ha, hv⟩ | hv
  · exact ⟨nvs_of_loadView hv, reg_of_loadView hv (List.mem_cons_self ..), .inl ha⟩
  · exact ⟨congrArg LoadView.nvs hv, List.map_inj_left.1 (congrArg LoadView.regs hv) _ (List.mem_cons_self ..),
      .inr (congrArg LoadView.draft hv)⟩

/-! ### The store load -/

/-- A stored value never changes a flag of the NVS page, which holds no NV field. -/
theorem foldl_nvPut_iflag (l : List (Nat × Word)) (h : Hw) : (l.foldl nvPut h).reg R.NVS_IFLAG = h.reg R.NVS_IFLAG := by
  induction l generalizing h with
  | nil => rfl
  | cons x t ih =>
    rw [List.foldl_cons, ih]
    unfold nvPut
    extract_lets m
    by_cases e : x.1 = R.NVS_IFLAG
    · have hm : m = 0 := by unfold m; rw [e]; decide
      rw [e, reg_setReg_same, hm, BitVec.ofNat_eq_ofNat, BitVec.and_zero, BitVec.not_zero, BitVec.and_allOnes, BitVec.or_zero]
    · exact reg_setReg_ne _ _ _ _ (Ne.symm e)

theorem loadReport_pwr (h : Hw) : h.loadReport.pwr = h.pwr := by
  simp only [loadReport, raiseIf_pwr, setF, setReg_pwr]

theorem loadReport_nvs (h : Hw) : h.loadReport.nvs = h.nvs := by
  simp only [loadReport, raiseIf_nvs, setF, setReg_nvs]

/-- The end of the store load (R543 to R545, R556). -/
theorem loadComplete_spec (h : Hw) (hv : h.vigil = true) (hb : h.pwr.bootLoaded = true) (hl : h.nvs.loaded = false)
    (hj : h.nvs.job = none) :
    h.loadComplete.nvs.loaded = true ∧ h.loadComplete.nvs.image = (pickCopy h.nvs.body).map (·.data) ∧
      h.loadComplete.b R.NVS_IFLAG 0 = true ∧ (h.loadComplete.proof.active = true ∨ h.loadComplete.pwr.draft = false) := by
  unfold loadComplete
  rw [if_neg (by simp [hv, hb, hl, hj])]
  extract_lets _ h1 h2 h3 h4
  have hn2 : h2.nvs = h1.nvs := (raise_nvs _ _ _).trans (loadReport_nvs h1)
  have hf2 : h2.b R.NVS_IFLAG 0 = true := by
    refine raise_b_same _ 9 0 (by decide) (pageLive_of_vigil _ 9 .nvs rfl rfl ?_)
    rw [vigil, loadReport_pwr]
    exact hv
  have hn1 : h1.nvs.loaded = true ∧ h1.nvs.image = (pickCopy h.nvs.body).map (·.data) := ⟨rfl, rfl⟩
  clear_value h1 h2
  have h3' : h3.nvs = h2.nvs ∧ h3.reg R.NVS_IFLAG = h2.reg R.NVS_IFLAG := by
    unfold h3
    split <;> exact ⟨rfl, rfl⟩
  clear_value h3
  have h4' : h4.nvs = h3.nvs ∧ h4.reg R.NVS_IFLAG = h3.reg R.NVS_IFLAG := by
    have hv4 : h4.loadView = (h3.nvApply h3.pageUp).loadView := loadEffects_loadView _ _
    refine ⟨(nvs_of_loadView hv4).trans ?_, (reg_of_loadView hv4 (List.mem_cons_self ..)).trans (foldl_nvPut_iflag _ _)⟩
    rw [nvApply, foldl_nvPut_eq]
  clear_value h4
  obtain ⟨hn3, hr3⟩ := h3'
  obtain ⟨hn4, hr4⟩ := h4'
  have hn : h4.nvs = h1.nvs := by rw [hn4, hn3, hn2]
  have hf : h4.reg R.NVS_IFLAG = h2.reg R.NVS_IFLAG := hr4.trans hr3
  have hq := proofStart_quick h4.vinEval (h4.f R.PROOF_QUICK 7 1 * 2)
  rw [vinEval_loadView] at hq
  obtain ⟨hn5, hr5, hend⟩ := hq.spec
  refine ⟨?_, ?_, ?_, hend⟩
  · rw [hn5, hn, hn1.1]
  · rw [hn5, hn, hn1.2]
  · rw [b, hr5, hf]
    exact hf2

end Hw

/-- Settles O10: `vigilStart_spec`, `bootComplete_spec` and `loadComplete_spec`. -/
theorem vigilStartsAndLoadsStore : Obligations.VigilStartsAndLoadsStore := by
  intro s
  refine ⟨fun straps addr0 hr hd hv hb ht => ?_, fun hv hl => ?_, fun hv hb hl hj => ?_⟩
  · exact ⟨rfl, Hw.vigilStart_spec s.hw straps addr0 hr hd hv hb ht⟩
  · exact ⟨rfl, Hw.bootComplete_spec s.hw hv hl⟩
  · exact ⟨rfl, Hw.loadComplete_spec s.hw hv hb hl hj⟩

end Sys2Proof.Machine

/-! ## Proofs: what follows a command (O7) -/

namespace Sys2Proof.Machine
namespace Hw

/-- What nothing that follows a command reaches (O7), and the index of the free values. -/
structure Bystanders where
  shadows : Cells (Option Word)
  staging : Cells (Option Word)
  now : Nat
  free : Nat
  prog : Cells (BitVec 32)
  eprog : Vector EprogWin 3
  host : HostPort
  alm : Vector Alm 4
  cal : Cal
  pps : PpsOut
  tim : Vector Timer 6
  twi : Vector TwiBus 2
  xfer : Xfer
  mbx : Vector Box 8
  fw : Firmware
  nvs : Nvs
  keys : KeyStore
  tap : Tap

def bystanders (h : Hw) : Bystanders where
  shadows := h.shadows
  staging := h.staging
  now := h.now
  free := h.free
  prog := h.prog
  eprog := h.eprog
  host := h.host
  alm := h.alm
  cal := h.cal
  pps := h.pps
  tim := h.tim
  twi := h.twi
  xfer := h.xfer
  mbx := h.mbx
  fw := h.fw
  nvs := h.nvs
  keys := h.keys
  tap := h.tap

/-- The bystanders with the power state, the clocks, the pins and the latch: what an operation of the consumers alone
leaves. -/
structure StillView where
  rest : Bystanders
  pwr : Pwr
  clk : Clk
  pins : Pins
  latch : Latch

def still (h : Hw) : StillView :=
  { rest := h.bystanders, pwr := h.pwr, clk := h.clk, pins := h.pins, latch := h.latch }

/-- The view once draft has ended (R57). -/
def StillView.noDraft (v : StillView) : StillView := { v with pwr := { v.pwr with draft := false } }

/-! ### The smallest operations -/

@[simp] theorem setBits_still (h : Hw) (a m : Nat) : (h.setBits a m).still = h.still := rfl
@[simp] theorem setResult_still (h : Hw) (k v : Nat) : (h.setResult k v).still = h.still := rfl

@[simp] theorem raise_still (h : Hw) (pg bit : Nat) : (h.raise pg bit).still = h.still := by
  unfold raise; split <;> rfl

@[simp] theorem raiseIf_still (h : Hw) (c : Bool) (pg bit : Nat) : (h.raiseIf c pg bit).still = h.still := by
  cases c
  · rfl
  · exact raise_still h pg bit

@[simp] theorem bufFlag_still (h : Hw) (bit : Nat) : (h.bufFlag bit).still = h.still := raise_still _ _ _

@[simp] theorem event_still (h : Hw) (e : Nat) : (h.event e).still = h.still := by rw [event_eq]; rfl

@[simp] theorem diaryAdd_still (h : Hw) (src : Nat) (x y : Word) : (h.diaryAdd src x y).still = h.still := by
  rw [diaryAdd_eq]; rfl

@[simp] theorem setIntPin_still (h : Hw) (k : Nat) (p : IntPin) : (h.setIntPin k p).still = h.still := by
  unfold setIntPin; split <;> rfl

/-- What both branches leave, the choice between them leaves. -/
theorem ite_still {c : Prop} [Decidable c] {x y : Hw} {v : StillView} (hx : x.still = v) (hy : y.still = v) :
    (if c then x else y).still = v := by
  split
  · exact hx
  · exact hy

/-- What every step of a fold leaves, the fold leaves. -/
theorem foldl_still {α : Type} (f : Hw → α → Hw) (hf : ∀ g x, (f g x).still = g.still) (l : List α) (h : Hw) :
    (l.foldl f h).still = h.still := by
  induction l generalizing h with
  | nil => rfl
  | cons x t ih => exact (ih _).trans (hf h x)

/-! ### The buffer writer (R335, R342, R346) -/

@[simp] theorem snapStep_still (h : Hw) : h.snapStep.still = h.still := by
  unfold snapStep
  refine ite_still rfl (ite_still ?_ rfl)
  rw [event_still, bufFlag_still]; rfl

/-- An overrun of a port is counted and flagged. -/
theorem countOverrun_still (g : Hw) (n a bit : Nat) :
    (if n = 0 then g else (g.countBy a n).bufFlag bit).still = g.still :=
  ite_still rfl (bufFlag_still _ _)

theorem overrunPorts_still (h : Hw) : h.overrunPorts.still = h.still := by
  -- As in `overrunPorts_loadView`: the overruns are generalized before the kernel could evaluate `wp - bufCap`.
  rw [show overrunPorts = _ by delta overrunPorts; rfl]
  generalize h.overrun h.buf.portA = x
  generalize h.overrun h.buf.portB = y
  obtain ⟨a, pa⟩ := x
  obtain ⟨b, pb⟩ := y
  exact (countOverrun_still _ _ _ _).trans
    (countOverrun_still { h with buf := { h.buf with portA := pa, portB := pb } } _ _ _)

theorem dropRecord_still (h : Hw) : h.dropRecord.still = h.still := by rw [dropRecord, bufFlag_still]; rfl

theorem putRecord_still (h : Hw) (d : Draft) : (h.putRecord d).still = h.still := by
  unfold putRecord
  extract_lets _ _ _ _ _ _ h1
  have e1 : h1.still = h.still := rfl
  clear_value h1
  exact ite_still ((overrunPorts_still h1).trans e1) e1

theorem writeRecord_still (h : Hw) (d : Draft) : (h.writeRecord d).still = h.still :=
  ite_still rfl (ite_still (dropRecord_still h) ((snapStep_still _).trans (putRecord_still h d)))

theorem watermarks_still (h : Hw) (x y : Nat) : (h.watermarks x y).still = h.still := by
  unfold watermarks
  extract_lets _ _ _ h1
  have e1 : h1.still = h.still := (raiseIf_still _ _ _ _).trans (raiseIf_still _ _ _ _)
  exact ite_still ((event_still _ _).trans e1) e1

theorem markIn_still (h : Hw) (m : Mark) : (h.markIn m).still = h.still := ite_still rfl (bufFlag_still _ _)

theorem markOut_still (h : Hw) : h.markOut.still = h.still := by
  unfold markOut
  split
  · rfl
  · extract_lets _ lead _ h1 h2 h3 _ h4 _ h5
    have e2 : h2.still = h.still := foldl_still _ writeRecord_still lead h1
    have e4 : h4.still = h.still := (writeRecord_still h2 _).trans e2
    have e5 : h5.still = h.still := ite_still ((snapStep_still _).trans e4) e4
    exact (watermarks_still _ _ _).trans e5

theorem snapTrigger_still (h : Hw) (e : Nat) : (h.snapTrigger e).still = h.still := by
  unfold snapTrigger
  extract_lets _ _ h1 h2
  have e2 : h2.still = h.still := markIn_still h1 _
  exact ite_still rfl (ite_still ((snapStep_still h2).trans e2) e2)

theorem bufEvents_still (h : Hw) (r : BitVec 64) : (h.bufEvents r).still = h.still := by
  unfold bufEvents
  extract_lets _ h0 _ _ _ h1 h2 _
  have e0 : h0.still = h.still := ite_still rfl rfl
  have e1 : h1.still = h0.still :=
    foldl_still _ (fun g e => ite_still (snapTrigger_still g e) (ite_still (markIn_still _ _) rfl)) _ _
  have e2 : h2.still = h.still := (markOut_still h1).trans (e1.trans e0)
  exact ite_still e0 e2

/-- The words that the stream takes are taken from port B. -/
theorem takeB_still (n : Nat) (h : Hw) : (takeB n h).2.still = h.still := by
  induction n generalizing h with
  | zero => rfl
  | succ n ih =>
    unfold takeB
    split
    · rfl
    · exact ih _

theorem strmCollect_still (h : Hw) : h.strmCollect.still = h.still :=
  ite_still (takeB_still _ h) rfl

/-! ### Etchers, interrupts, diary -/

theorem countBound_still (h : Hw) (r : BitVec 64) : (h.countBound r).still = h.still := rfl

theorem irqEvents_still (h : Hw) (r : BitVec 64) : (h.irqEvents r).still = h.still :=
  ite_still rfl ((raise_still _ _ _).trans (foldl_still _ (fun g _ => setBits_still g _ _) _ _))

theorem diaryEvents_still (h : Hw) (r : BitVec 64) : (h.diaryEvents r).still = h.still :=
  ite_still rfl (foldl_still _ (fun _ _ => diaryAdd_still _ _ _ _) _ _)

theorem settleInt_still (h : Hw) (k : Nat) : (h.settleInt k).still = h.still := by
  unfold settleInt
  extract_lets a g
  exact (setIntPin_still g k _).trans (ite_still (setIntPin_still h k _) rfl)

/-! ### Requests to the gang engine and to NET (R289, R466) -/

theorem gangSendAll_still (h : Hw) (typ : Nat) (dsts : List Nat) (p : List Byte) :
    (h.gangSendAll typ dsts p).still = h.still :=
  foldl_still (fun g k => g.gangSend typ k p) (fun _ _ => rfl) dsts h

theorem gangWakeRequest_still (h : Hw) : h.gangWakeRequest.still = h.still :=
  ite_still ((raise_still _ _ _).trans (gangSendAll_still h _ _ _))
    (ite_still ((raise_still _ _ _).trans (gangSendAll_still h _ _ _)) rfl)

theorem sendWake_still (h : Hw) : h.sendWake.still = h.still := ite_still (gangWakeRequest_still _) rfl

theorem enqueueAlarm_still (h : Hw) (n : Fin 2) (f : Frame) : (h.enqueueAlarm n f).still = h.still := by
  unfold enqueueAlarm
  extract_lets p q
  exact ite_still (ite_still rfl (raise_still _ _ _)) rfl

theorem alarmRequest_still (h : Hw) (t : Nat) : (h.alarmRequest t).still = h.still := by
  unfold alarmRequest
  extract_lets aseq h1 f
  exact ite_still (raise_still _ _ _)
    (ite_still (foldl_still _ (fun g n => ite_still (enqueueAlarm_still g n f) rfl) _ h1) rfl)

theorem sendAlarm_still (h : Hw) : h.sendAlarm.still = h.still := by
  unfold sendAlarm
  split
  · rfl
  · exact alarmRequest_still _ _

theorem settleWarm_still (h : Hw) : h.settleWarm.still = h.still := by
  unfold settleWarm
  extract_lets _ _ g
  exact ite_still (raise_still g _ _) rfl

/-! ### A proof run whose slice cannot go on (R554, R555) -/

theorem stAbort_still (h : Hw) : h.stAbort.still = h.still := ite_still rfl rfl

theorem stStart_still (h : Hw) (v : Word) : (h.stStart v).still = h.still :=
  ite_still rfl (ite_still (raise_still _ _ _) rfl)

theorem warmStart_still (h : Hw) (gs : BitVec 4) (empty : Bool) : (h.warmStart gs empty).still = h.still := by
  unfold warmStart; rfl

theorem emptyAll_still (h : Hw) : h.emptyAll.still = h.still := by
  have pass (g : Hw) : (g.dropFlight.gapMark 6).still = g.still := rfl
  exact (pass _).trans (warmStart_still h 0xF#4 true)

theorem recInit_still (h : Hw) : h.recInit.still = h.still := rfl

/-- The end of draft ends draft and leaves the rest of the view (R57). -/
theorem draftEnd_still (h : Hw) : h.draftEnd.still = h.still.noDraft := by
  unfold draftEnd
  split
  · rename_i hd
    have : h.pwr.draft = false := by simpa using hd
    rw [StillView.noDraft, still, ← this]
  · extract_lets _ h1 h2 _ g _
    have e1 : h1.still = h.still.noDraft := raise_still _ _ _
    have e2 : h2.still = h.still.noDraft := ite_still ((diaryAdd_still _ _ _ _).trans e1) e1
    have eg : g.still = h.still.noDraft := (recInit_still _).trans ((emptyAll_still _).trans e2)
    clear_value g
    exact ite_still eg e2

theorem proofEnd_still (h : Hw) : h.proofEnd.still = h.still ∨ h.proofEnd.still = h.still.noDraft := by
  unfold proofEnd
  extract_lets quick h1 h2 _ h3
  have e3 : h3.still = h.still :=
    (raiseIf_still _ _ _ _).trans ((raiseIf_still _ _ _ _).trans ((raiseIf_still _ _ _ _).trans (raise_still h _ _)))
  clear_value h3
  split
  · exact .inr (e3 ▸ draftEnd_still h3)
  · exact .inl e3

/-- The choice of the next slice leaves the view, or the run ends and draft with it (R554 to R556). -/
theorem proofNext_still (n : Nat) (v : StillView) (h : Hw) (hv : h.still = v) :
    (proofNext n h).still = v ∨ (proofNext n h).still = v.noDraft := by
  induction n generalizing h with
  | zero => exact hv ▸ proofEnd_still h
  | succ n ih =>
    unfold proofNext
    split
    · exact hv ▸ proofEnd_still h
    · extract_lets _ h1 busy h2
      have e1 : h1.still = v := hv
      clear_value h1
      have e2 : h2.still = v := (stStart_still h1 _).trans e1
      clear_value h2
      split
      · exact ih _ ((setResult_still _ _ _).trans e1)
      · split
        · exact ih _ ((setResult_still _ _ _).trans e1)
        · split
          · split
            · exact .inl e2
            · exact ih _ ((setResult_still _ _ _).trans e2)
          · exact .inl e1

theorem sliceStop_still (h : Hw) (v : Nat) :
    (h.sliceStop v).still = h.still ∨ (h.sliceStop v).still = h.still.noDraft :=
  proofNext_still 9 _ _ ((setResult_still _ _ _).trans (ite_still (stAbort_still h) rfl))

theorem proofCheck_still (h : Hw) : h.proofCheck.still = h.still ∨ h.proofCheck.still = h.still.noDraft := by
  unfold proofCheck
  split
  · exact .inl rfl
  · split
    · exact sliceStop_still h 4
    · split
      · exact sliceStop_still h 3
      · exact .inl rfl

/-! ### What may follow a command -/

/-- What may follow a command (O7): of the power state the ends of draft and of a recorded opposite sequence, of the
clocks the fall of XOK, of the pins a new set of conflicts, of the latch that a released one is set. -/
structure FollowsFrom (h g : Hw) : Prop where
  rest : g.bystanders = h.bystanders
  pins : g.pins = { h.pins with conf := g.pins.conf }
  pwr : g.pwr = { h.pwr with draft := g.pwr.draft, opposite := g.pwr.opposite }
  draft : g.pwr.draft = true → h.pwr.draft = true
  opposite : g.pwr.opposite = h.pwr.opposite ∨ g.pwr.opposite = none
  clk : g.clk = { h.clk with xok := g.clk.xok }
  xok : g.clk.xok = true → h.clk.xok = true
  latch : h.latch.set = true → g.latch = h.latch

namespace FollowsFrom

theorem refl (h : Hw) : FollowsFrom h h := ⟨rfl, rfl, rfl, id, .inl rfl, rfl, id, fun _ => rfl⟩

theorem trans {h g f : Hw} (hg : FollowsFrom h g) (hf : FollowsFrom g f) : FollowsFrom h f where
  rest := hf.rest.trans hg.rest
  pins := hf.pins.trans (by rw [hg.pins])
  pwr := hf.pwr.trans (by rw [hg.pwr])
  draft hd := hg.draft (hf.draft hd)
  opposite := hf.opposite.elim (fun e => e ▸ hg.opposite) .inr
  clk := hf.clk.trans (by rw [hg.clk])
  xok hx := hg.xok (hf.xok hx)
  latch hs := by
    have e := hg.latch hs
    rw [hf.latch (e ▸ hs), e]

theorem of_still {h g : Hw} (e : g.still = h.still) : FollowsFrom h g := by
  have hr : g.bystanders = h.bystanders := congrArg StillView.rest e
  have hp : g.pwr = h.pwr := congrArg StillView.pwr e
  have hc : g.clk = h.clk := congrArg StillView.clk e
  have hn : g.pins = h.pins := congrArg StillView.pins e
  have hl : g.latch = h.latch := congrArg StillView.latch e
  exact ⟨hr, by rw [hn], by rw [hp], fun hd => hp ▸ hd, .inl (by rw [hp]), by rw [hc], fun hx => hc ▸ hx, fun _ => hl⟩

theorem of_noDraft {h g : Hw} (e : g.still = h.still.noDraft) : FollowsFrom h g :=
  trans (g := { h with pwr := { h.pwr with draft := false } })
    ⟨rfl, rfl, rfl, fun hd => Bool.noConfusion hd, .inl rfl, rfl, id, fun _ => rfl⟩ (of_still e)

theorem ite {c : Prop} [Decidable c] {h x y : Hw} (hx : FollowsFrom h x) (hy : FollowsFrom h y) :
    FollowsFrom h (if c then x else y) := by
  split
  · exact hx
  · exact hy

end FollowsFrom

/-! ### The stages of `settle` -/

/-- A latch that is set stays as it is (R284); a released one is set and nothing else of the view changes. -/
theorem setLatch_follows (h : Hw) (typ ev t : Nat) : FollowsFrom h (h.setLatch typ ev t) := by
  unfold setLatch
  split
  · exact .refl h
  · rename_i hs
    extract_lets _ h1 h2
    have e1 : FollowsFrom h h1 := ⟨rfl, rfl, rfl, id, .inl rfl, rfl, id, fun hl => absurd hl hs⟩
    have e2 : h2.still = h1.still := diaryAdd_still _ _ _ _
    refine e1.trans (.of_still (ite_still ?_ e2))
    exact (event_still _ _).trans ((raise_still h2 _ _).trans e2)

theorem reflexFire_follows (h : Hw) (typ ev t : Nat) : FollowsFrom h (h.reflexFire typ ev t) :=
  .ite (.of_still (raise_still _ _ _)) (setLatch_follows h typ ev t)

theorem matrix_follows (h : Hw) (r : BitVec 64) : FollowsFrom h (h.matrix r) :=
  .ite (.refl h) (reflexFire_follows _ _ _ _)

/-- Of the consumers of a pulse only the reflex matrix reaches the latch (R281). -/
theorem fabricCycle_follows (h : Hw) : FollowsFrom h h.fabricCycle := by
  unfold fabricCycle
  extract_lets r h1
  refine .ite (.refl h) ?_
  have e1 : (h1.countBound r).still = h.still := countBound_still h1 r
  refine (FollowsFrom.of_still e1).trans ((matrix_follows _ r).trans (.of_still ?_))
  rw [bufEvents_still, diaryEvents_still, irqEvents_still]

theorem fabricRun_follows (n : Nat) (h : Hw) : FollowsFrom h (fabricRun n h) := by
  induction n generalizing h with
  | zero => exact .refl h
  | succ n ih => exact (fabricCycle_follows h).trans (ih _)

theorem proofCheck_follows (h : Hw) : FollowsFrom h h.proofCheck :=
  h.proofCheck_still.elim .of_still .of_noDraft

theorem settlePins_follows (h : Hw) : FollowsFrom h h.settlePins := by
  unfold settlePins
  extract_lets c
  have e : FollowsFrom h (h.raiseIf (c &&& ~~~h.pins.conf != 0) 0x43 0) := .of_still (raiseIf_still _ _ _ _)
  exact ⟨e.rest, rfl, e.pwr, e.draft, e.opposite, e.clk, e.xok, e.latch⟩

theorem settleXok_follows (h : Hw) : FollowsFrom h h.settleXok :=
  .ite ⟨rfl, rfl, rfl, id, .inl rfl, rfl, fun hx => Bool.noConfusion hx, fun _ => rfl⟩ (.refl h)

theorem settleOpposite_follows (h : Hw) : FollowsFrom h h.settleOpposite :=
  .ite ⟨rfl, rfl, rfl, id, .inr rfl, rfl, id, fun _ => rfl⟩ (.refl h)

/-- What follows a command, but for the index of the free values, is one of the things that may. -/
theorem settle_follows (h : Hw) : ∃ g, FollowsFrom h g ∧ h.settle = g.nextFree := by
  refine ⟨_, ?_, rfl⟩
  have start : FollowsFrom h h.sendWake.proofCheck.strmCollect :=
    (FollowsFrom.of_still (sendWake_still h)).trans ((proofCheck_follows _).trans (.of_still (strmCollect_still _)))
  have sent := (start.trans (fabricRun_follows 24 _)).trans (.of_still (sendAlarm_still _))
  have seen := ((sent.trans (settlePins_follows _)).trans (settleXok_follows _)).trans (settleOpposite_follows _)
  exact seen.trans (.of_still ((settleInt_still _ 1).trans ((settleInt_still _ 0).trans (settleWarm_still _))))

end Hw

/-- Settles O7: `Hw.settle_follows`, each stage of `settle` by its own lemma. -/
theorem followUpTouchesOnlyConsumers : Obligations.FollowUpTouchesOnlyConsumers := by
  refine ⟨fun h => ?_, fun h hs => ?_⟩
  · obtain ⟨g, hg, e⟩ := h.settle_follows
    have hr {α : Type} (f : Hw.Bystanders → α) : f g.bystanders = f h.bystanders := congrArg f hg.rest
    rw [e]
    exact ⟨hr (·.now), hr (·.alm), hr (·.cal), hr (·.pps), hr (·.tim), hr (·.host), hr (·.twi), hr (·.xfer), hr (·.mbx),
      hr (·.fw), hr (·.nvs), hr (·.keys), hr (·.tap), hr (·.prog), hr (·.eprog), hr (·.shadows), hr (·.staging),
      hg.pins, hg.pwr, hg.draft, hg.opposite, hg.clk, hg.xok, congrArg (· + 1) (hr (·.free))⟩
  · obtain ⟨g, hg, e⟩ := h.settle_follows
    rw [e]
    exact hg.latch hs

end Sys2Proof.Machine

/-! ## Proofs: the state after reset (O4) -/

namespace Sys2Proof.Machine

/-- Of all registers only the flags of the DIARY page do not hold their reset value: the start has written entries. LASTRST
resets to the code of a power-on reset. -/
theorem reset_regs : State.reset.hw.regs = [(R.DIARY_IFLAG, 1)] := by decide +kernel

/-- Settles O4: the start is a closed term, and `reset_regs` says which cells it holds. -/
theorem resetIsPowerOnWithLatchSet : Obligations.ResetIsPowerOnWithLatchSet := by
  have hstate : State.reset.hw.vigil = true ∧ State.reset.hw.latch.set = true ∧ State.reset.hw.latch.typ = 4 ∧
      State.reset.hw.pwr.draft = true := by decide +kernel
  have hoff : State.reset.hw.domState .time = .off ∧ State.reset.hw.domState .sense = .off ∧
      State.reset.hw.domState .net = .off ∧ State.reset.hw.domState .core = .off := by decide +kernel
  have hinit : State.reset.hw.diary.entries.map (·.src) = [1, 6] ∧ State.reset.hw.host.queue = [] ∧
      State.reset.hw.buf = Buf.init ∧ State.reset.hw.mbx = Vector.replicate 8 Box.init := by decide +kernel
  obtain ⟨hv, hset, htyp, hd⟩ := hstate
  obtain ⟨ht, hs, hn, hc⟩ := hoff
  obtain ⟨hdiary, hq, hb, hm⟩ := hinit
  have hreg (a : Nat) (ha : a ≠ R.DIARY_IFLAG) : State.reset.hw.reg a = resetOf a := by
    rw [Hw.reg, reset_regs, Cells.get, if_neg ha, Cells.get]
  exact ⟨rfl, hv, hreg R.PWR_LASTRST (by decide), hset, htyp, hd, ht, hs, hn, hc, hdiary, hq, hb, hm,
    fun a _ ha => hreg a ha⟩

end Sys2Proof.Machine

/-! ## Proofs: supply events and the VIN comparator (O8) -/

namespace Sys2Proof.Machine

/-- A command ends with what its own effect is equal to. -/
theorem done_congr {s : State} {g g' : Hw} (e : g = g') : done s g = .next (s.after g') := by rw [e, done_eq]

namespace Hw

/-- A loss of power touches nothing but the store (R546). -/
theorem storePowerLoss_eq (h : Hw) : h.storePowerLoss = { h with nvs := h.storePowerLoss.nvs } := by
  unfold storePowerLoss
  split
  · rfl
  · extract_lets n
    split <;> rfl

@[simp] theorem storePowerLoss_pwr (h : Hw) : h.storePowerLoss.pwr = h.pwr := by rw [storePowerLoss_eq]

/-- Below the threshold a comparator at rest trips (R32). -/
theorem vinEval_trip (h : Hw) (hv : h.vigil = true) (hw : h.pwr.vinWarn = false) (hm : h.pwr.vin < h.vinThreshold) :
    h.vinEval = ((h.setPwr { h.pwr with vinWarn := true }).raise 1 8).diaryAdd 2 (h.reg R.PWR_VINMON) 0 := by
  simp only [vinEval, hv, hw, hm, pwrFlag, Bool.not_true, Bool.false_eq_true, if_false, if_true]

/-- Above the threshold plus 0.5 V a comparator that has tripped releases (R32). -/
theorem vinEval_release (h : Hw) (hv : h.vigil = true) (hw : h.pwr.vinWarn = true)
    (hm : h.vinThreshold + 500 < h.pwr.vin) : h.vinEval = h.setPwr { h.pwr with vinWarn := false } := by
  simp only [vinEval, hv, hw, hm, Bool.not_true, Bool.false_eq_true, if_false, if_true]

/-- Between the two the comparator keeps its state (R32). -/
theorem vinEval_keep (h : Hw) (hm : (h.pwr.vinWarn = false ∧ h.vinThreshold ≤ h.pwr.vin) ∨
    (h.pwr.vinWarn = true ∧ h.pwr.vin ≤ h.vinThreshold + 500)) : h.vinEval = h := by
  rcases hm with ⟨hw, hm⟩ | ⟨hw, hm⟩
  · simp only [vinEval, hw, Nat.not_lt.2 hm, Bool.false_eq_true, if_false, ite_self]
  · simp only [vinEval, hw, Nat.not_lt.2 hm, if_false, if_true, ite_self]

end Hw

/-- Settles O8: each event by its guard, the comparator by `vinEval_trip`, `vinEval_release` and `vinEval_keep`. -/
theorem supplyEventsAndVinWarning : Obligations.SupplyEventsAndVinWarning := by
  refine ⟨fun s => ⟨fun h => ?_, fun h => ?_, fun vaux h => ?_, fun h hf => ?_, fun h => ?_, fun h => ⟨?_, ?_⟩, rfl, rfl,
    rfl⟩, fun s mv c hv hc => ?_⟩
  · exact done_congr (by rw [Hw.powerOn, h]; rfl)
  · exact done_congr (by simp only [Hw.uvloStop, h, Hw.storePowerLoss_pwr]; rfl)
  · exact done_congr (by rw [Hw.brownOut, h]; rfl)
  · exact done_congr (by rw [Hw.buckRestart, h, hf]; rfl)
  · exact done_congr (by rw [Hw.buckGridEntry, h]; rfl)
  · exact done_congr (by rw [Hw.overStop, h]; rfl)
  · exact done_congr (by rw [Hw.overRestart, h]; rfl)
  · have hexec : exec c s = .next (s.after (s.hw.vinLevel mv)) := by rcases hc with rfl | rfl <;> rfl
    rw [hexec]
    refine ⟨fun hw hm => ?_, fun hw hm => ?_, fun hm => ?_, fun v => ?_⟩
    · exact done_congr (Hw.vinEval_trip (s.hw.setPwr { s.hw.pwr with vin := mv }) hv hw hm)
    · exact done_congr (Hw.vinEval_release (s.hw.setPwr { s.hw.pwr with vin := mv }) hv hw hm)
    · exact done_congr (Hw.vinEval_keep (s.hw.setPwr { s.hw.pwr with vin := mv }) hm)
    · exact done_congr (by rw [Hw.vinmonUpdate, hv]; rfl)

end Sys2Proof.Machine

/-! ## Proofs: the resets (O9) -/

namespace Sys2Proof.Machine
namespace Hw

/-- The registers that survive a pin or command reset (R62). -/
def warmRegs : List Nat := [R.KEYS_KLOCK, R.KEYS_SCANLOCK, R.DIARY_LOST]

/-- What a register holds after a write to one register. -/
theorem reg_setReg (h : Hw) (a b : Nat) (v : Word) : (h.setReg a v).reg b = if b = a then v else h.reg b := by
  split
  · rename_i e
    rw [e, reg_setReg_same]
  · exact reg_setReg_ne _ _ _ _ ‹_›

/-- Before VIGIL up the switched domains are off and VIGIL is not up. -/
theorem domains_off_of_pwr {h : Hw} (ht : h.pwr.time = .off) (hs : h.pwr.sense = .off) (hn : h.pwr.net = .off)
    (hc : h.pwr.core = .off) (d : Dom) (hd : d ≠ .vigil) : h.domState d = .off := by
  cases d with
  | vigil => exact absurd rfl hd
  | time => exact ht
  | sense => exact hs
  | net => exact hn
  | core => exact hc

/-- A power-on reset leaves one register written (R62). -/
theorem reg_powerReset (h : Hw) (code a : Nat) :
    (h.powerReset code).reg a = if a = R.PWR_LASTRST then wd code else resetOf a := reg_setReg _ _ _ _

/-- With no write under way a power-on reset leaves the regions of the store (R59, R546). -/
theorem powerReset_store (h : Hw) (code : Nat) (hj : h.nvs.job = none) :
    (h.powerReset code).nvs.boot = h.nvs.boot ∧ (h.powerReset code).nvs.body = h.nvs.body ∧
      (h.powerReset code).nvs.factory = h.nvs.factory ∧ (h.powerReset code).nvs.keys = h.nvs.keys := by
  have e : h.storePowerLoss = h := by rw [storePowerLoss, hj]
  unfold powerReset
  rw [e]
  exact ⟨rfl, rfl, rfl, rfl⟩

/-- The registers after a pin or command reset, but for ZEROED (R62, R552). -/
theorem reg_warmReset (h : Hw) (code a : Nat) (ha : a ≠ R.KEYS_STAT) :
    (h.warmReset code).reg a =
      if a = R.PWR_LASTRST then wd code else if a ∈ warmRegs then h.reg a else resetOf a := by
  unfold warmReset
  extract_lets s scan _ _ _ h1 h2 h3
  have e3 : h3.reg a = if a = R.PWR_LASTRST then wd code else if a ∈ warmRegs then h.reg a else resetOf a := by
    have e1 : h1.reg a = resetOf a := rfl
    clear_value h1
    simp only [h3, h2, reg_setReg, e1, warmRegs, List.mem_cons, List.not_mem_nil, or_false]
    split_ifs <;> simp_all
  rw [← e3]
  split
  · exact reg_setBits_ne _ _ _ _ ha
  · rfl

/-- What a pin or command reset keeps and where it leaves the domains (R60, R62). -/
theorem warmReset_spec (h : Hw) (code : Nat) :
    (h.warmReset code).diary = h.diary ∧ (h.warmReset code).clk.vsec = h.clk.vsec ∧
      (h.warmReset code).latch = { h.latch with why := 0 } ∧ (h.warmReset code).vigil = false ∧
      ∀ d, d ≠ Dom.vigil → (h.warmReset code).domState d = .off := by
  unfold warmReset
  extract_lets s scan _ _ _ h1 h2 h3
  split <;> exact ⟨rfl, rfl, rfl, rfl, domains_off_of_pwr rfl rfl rfl rfl⟩

/-- A word at IDENT.RESET (R61, R118). -/
theorem blockWrite_identReset (h : Hw) (p : Party) (v : Word) :
    h.blockWrite p .ident R.IDENT_RESET v = if v = 0xD1A5 then h.commandReset else h := rfl

end Hw

/-- Settles O9: `reg_powerReset` and `reg_warmReset` say what every register holds, `warmReset_spec` what stays beside
them. -/
theorem resetsKeepWhatSurvives : Obligations.ResetsKeepWhatSurvives := by
  have hb : Hw.blockReg R.IDENT_RESET .ident = true := by decide
  refine ⟨fun h code => ?_, fun s => ⟨fun hr hv => ?_, fun p ha => ?_, fun p v hv ha => ?_, fun code => ?_⟩⟩
  · refine ⟨?_, fun a ha => ?_, rfl, rfl, rfl, rfl, rfl, rfl, Hw.domains_off_of_pwr rfl rfl rfl rfl,
      h.powerReset_store code⟩
    · rw [Hw.reg_powerReset, if_pos rfl]
    · rw [Hw.reg_powerReset, if_neg ha]
  · have hc : (s.hw.pwr.running && (s.hw.pwr.vigilUp || s.hw.pwr.held)) = true := by simpa [hr] using hv
    exact done_congr (by rw [Hw.pinReset, if_pos hc])
  · have hv := Hw.vigil_of_pageUp s.hw _ rfl ha.2.1
    exact done_congr (by
      rw [Hw.writeRow_block _ _ _ _ _ hb ha, Hw.blockWrite_identReset, if_pos rfl, Hw.commandReset, if_pos hv])
  · rw [Hw.exec_registerWrite_block s p _ v _ hb ha (by decide) (by decide) (by decide), Hw.blockWrite_identReset,
      if_neg hv]
  · obtain ⟨hd, hc, hl, hv, hoff⟩ := s.hw.warmReset_spec code
    refine ⟨hd, hc, hl, hv, hoff, fun a ha => ?_, ?_, fun a ha => ?_⟩
    · have hne : a ≠ R.KEYS_STAT ∧ a ≠ R.PWR_LASTRST := by
        simp only [List.mem_cons, List.not_mem_nil, or_false] at ha
        rcases ha with rfl | rfl | rfl <;> decide
      rw [Hw.reg_warmReset _ _ _ hne.1, if_neg hne.2, Hw.warmRegs, if_pos ha]
    · rw [Hw.reg_warmReset _ _ _ (by decide), if_pos rfl]
    · simp only [List.mem_cons, List.not_mem_nil, or_false, not_or] at ha
      obtain ⟨h1, h2, h3, h4, h5⟩ := ha
      rw [Hw.reg_warmReset _ _ _ h5, if_neg h4, if_neg (by simp [Hw.warmRegs, h1, h2, h3])]

end Sys2Proof.Machine

/-! ## Proofs: the power sequences (O11) -/

namespace Sys2Proof.Machine
namespace Hw

/-! ### Domains as the power state tells them -/

/-- What every step of a fold over the list leaves, the fold leaves. -/
theorem foldl_keeps_of_mem {α β : Type} (φ : Hw → β) (f : Hw → α → Hw) (l : List α)
    (hf : ∀ g, ∀ x ∈ l, φ (f g x) = φ g) (h : Hw) : φ (l.foldl f h) = φ h := by
  induction l generalizing h with
  | nil => rfl
  | cons x t ih =>
    exact (ih (fun g y hy => hf g y (List.mem_cons_of_mem x hy)) _).trans (hf h x (List.mem_cons_self ..))

theorem foldl_keeps {α β : Type} (φ : Hw → β) (f : Hw → α → Hw) (hf : ∀ g x, φ (f g x) = φ g) (l : List α) (h : Hw) :
    φ (l.foldl f h) = φ h := foldl_keeps_of_mem φ f l (fun g x _ => hf g x) h

theorem vigil_of_pwr {h g : Hw} (hp : g.pwr = h.pwr) : g.vigil = h.vigil := by rw [vigil, hp, vigil]

theorem domState_of_pwr {h g : Hw} (hp : g.pwr = h.pwr) (d : Dom) : g.domState d = h.domState d := by
  cases d with
  | vigil => exact congrArg (fun b => if b = true then DomState.on else .off) (vigil_of_pwr hp)
  | time => exact congrArg Pwr.time hp
  | sense => exact congrArg Pwr.sense hp
  | net => exact congrArg Pwr.net hp
  | core => exact congrArg Pwr.core hp

/-- A change of the recorded opposite or the stored power state moves no domain. -/
theorem domState_setPwr_opposite (h : Hw) (ps : BitVec 3) (o : Option Dom) (d : Dom) :
    (h.setPwr { h.pwr with pstate := ps, opposite := o }).domState d = h.domState d := by
  cases d <;> rfl

theorem domState_setDom_same (h : Hw) (d : Dom) (s : DomState) (hd : d ≠ .vigil) : (h.setDom d s).domState d = s := by
  cases d with
  | vigil => exact absurd rfl hd
  | time | sense | net | core => rfl

theorem domState_setDom_ne (h : Hw) (d e : Dom) (s : DomState) (he : e ≠ d) : (h.setDom d s).domState e = h.domState e := by
  cases d with
  | vigil => cases e <;> rfl
  | time => cases e with
    | time => exact absurd rfl he
    | vigil | sense | net | core => rfl
  | sense => cases e with
    | sense => exact absurd rfl he
    | vigil | time | net | core => rfl
  | net => cases e with
    | net => exact absurd rfl he
    | vigil | time | sense | core => rfl
  | core => cases e with
    | core => exact absurd rfl he
    | vigil | time | sense | net => rfl

@[simp] theorem vigil_setDom (h : Hw) (d : Dom) (s : DomState) : (h.setDom d s).vigil = h.vigil := by cases d <;> rfl

@[simp] theorem opposite_setDom (h : Hw) (d : Dom) (s : DomState) : (h.setDom d s).pwr.opposite = h.pwr.opposite := by
  cases d <;> rfl

/-! ### What leaves the power state -/

theorem pwr_of_still {h g : Hw} (hs : g.still = h.still) : g.pwr = h.pwr := congrArg StillView.pwr hs

@[simp] theorem holdPins_pwr (h : Hw) (d : Dom) : (h.holdPins d).pwr = h.pwr := by
  unfold holdPins
  extract_lets ownedBy
  refine foldl_keeps Hw.pwr _ (fun g i => ?_) _ _
  split <;> rfl

@[simp] theorem endHolds_pwr (h : Hw) (d : Dom) : (h.endHolds d).pwr = h.pwr := by
  refine foldl_keeps Hw.pwr _ (fun g i => ?_) _ _
  split <;> rfl

@[simp] theorem marksOut_pwr (k : Nat) (h : Hw) : (marksOut k h).pwr = h.pwr := by
  induction k generalizing h with
  | zero => rfl
  | succ k ih => exact (ih _).trans (pwr_of_still (markOut_still h))

@[simp] theorem bufSenseOff_pwr (h : Hw) : h.bufSenseOff.pwr = h.pwr := by
  unfold bufSenseOff
  split
  · extract_lets h1 _ _ h2 _
    have e1 : h1.pwr = h.pwr := marksOut_pwr 16 h
    have e2 : h2.pwr = h1.pwr := by unfold h2; split <;> rfl
    exact e2.trans e1
  · rfl

@[simp] theorem glockFall_pwr (h : Hw) : h.glockFall.pwr = h.pwr := by
  unfold glockFall
  extract_lets _ h1
  split
  · exact raise_pwr _ _ _
  · rfl

@[simp] theorem etchIdle_pwr (h : Hw) (n : Fin 8) : (h.etchIdle n).pwr = h.pwr := by
  unfold etchIdle
  extract_lets e h1
  split
  · rfl
  · exact raise_pwr _ _ _

@[simp] theorem etchStopAll_pwr (h : Hw) : h.etchStopAll.pwr = h.pwr := by
  refine foldl_keeps Hw.pwr _ (fun g n => ?_) _ _
  unfold etchStop
  extract_lets e
  split
  · rfl
  · rfl
  · exact etchIdle_pwr g n

@[simp] theorem stAbort_pwr (h : Hw) : h.stAbort.pwr = h.pwr := pwr_of_still (stAbort_still h)

@[simp] theorem replyDrop_pwr (h : Hw) : h.replyDrop.pwr = h.pwr := by
  unfold replyDrop; split <;> rfl

theorem rungLost_pwr (h : Hw) (n : Nat) (r : Rung) : (h.rungLost n r).pwr = h.pwr := by
  unfold rungLost
  extract_lets a run
  split
  · rfl
  · split <;> rfl

@[simp] theorem servoCoreOff_pwr (h : Hw) : h.servoCoreOff.pwr = h.pwr := by
  refine foldl_keeps Hw.pwr _ (fun g n => ?_) _ _
  split
  · exact rungLost_pwr _ _ _
  · rfl

theorem corrAdd_pwr (h : Hw) (c d : Int) : (h.corrAdd c d).2.pwr = h.pwr := by
  unfold corrAdd
  extract_lets s
  split
  · rfl
  · exact raise_pwr _ _ _

theorem insertPtp_pwr (h : Hw) (n : Fin 2) (f : Frame) (p : Ptp) : (h.insertPtp n f p).2.pwr = h.pwr := by
  unfold insertPtp
  split
  · rfl
  · exact corrAdd_pwr _ _ _
  · exact corrAdd_pwr _ _ _
  · rfl
  · rfl

@[simp] theorem transmit_pwr (h : Hw) (n : Fin 2) (f : Frame) : (h.transmit n f).pwr = h.pwr := by
  unfold transmit
  extract_lets _ r p h1
  have er : r.2.pwr = h.pwr := by
    unfold r
    split
    · exact insertPtp_pwr _ _ _ _
    · split <;> rfl
  have e1 : h1.pwr = h.pwr := er
  split
  · exact (raise_pwr _ _ _).trans e1
  · exact e1

@[simp] theorem flushPort_pwr (h : Hw) (n : Fin 2) : (h.flushPort n).pwr = h.pwr := rfl

@[simp] theorem storeAlarm_pwr (h : Hw) (n : Fin 2) (q : AlarmReq) : (h.storeAlarm n q).pwr = h.pwr := by
  unfold storeAlarm
  extract_lets l
  split <;> rfl

theorem netStopPort_pwr (h : Hw) (n : Fin 2) : (h.netStopPort n).pwr = h.pwr := by
  unfold netStopPort
  extract_lets q _ h1 h2
  have e2 : h2.pwr = h1.pwr := by
    refine foldl_keeps Hw.pwr _ (fun g f => ?_) _ _
    split
    · split
      · exact transmit_pwr _ _ _
      · exact (transmit_pwr _ _ _).trans (raise_pwr _ _ _)
    · exact storeAlarm_pwr _ _ _
  exact (flushPort_pwr _ _).trans e2

@[simp] theorem netStop_pwr (h : Hw) : h.netStop.pwr = h.pwr := (netStopPort_pwr _ _).trans (netStopPort_pwr _ _)

@[simp] theorem calComplete_pwr (h : Hw) : h.calComplete.pwr = h.pwr := by
  unfold calComplete
  split
  · rfl
  · extract_lets _ h1 h2
    split
    · rfl
    · exact raise_pwr _ _ _

@[simp] theorem synthOnComplete_pwr (h : Hw) : h.synthOnComplete.pwr = h.pwr := by
  unfold synthOnComplete
  extract_lets h1
  have e1 : h1.pwr = h.pwr := calComplete_pwr h
  split
  · exact e1
  · split
    · exact e1
    · split <;> exact (raise_pwr _ _ _).trans e1

@[simp] theorem clearDomain_pwr (h : Hw) (d : Dom) : (h.clearDomain d).pwr = h.pwr := by
  unfold clearDomain
  extract_lets g
  split <;> rfl

@[simp] theorem nvApply_pwr (h : Hw) (p : Nat → Bool) : (h.nvApply p).pwr = h.pwr := by
  rw [nvApply, foldl_nvPut_eq]

@[simp] theorem timeInit_pwr (h : Hw) : h.timeInit.pwr = h.pwr := by
  unfold timeInit
  extract_lets h1
  exact foldl_keeps Hw.pwr (fun g n => g.almRestart n) (fun _ _ => rfl) _ h1

@[simp] theorem emptyAll_pwr (h : Hw) : h.emptyAll.pwr = h.pwr := pwr_of_still (emptyAll_still h)

@[simp] theorem xbDriven_pwr (h : Hw) : h.xbDriven.pwr = h.pwr := by
  unfold xbDriven; split <;> rfl

@[simp] theorem snapStart_pwr (h : Hw) : h.snapStart.pwr = h.pwr := by
  unfold snapStart; split <;> rfl

@[simp] theorem bufSenseOn_pwr (h : Hw) : h.bufSenseOn.pwr = h.pwr := by
  unfold bufSenseOn
  split
  · extract_lets b h1 h2 _
    exact (pwr_of_still (snapStep_still _)).trans (snapStart_pwr h1)
  · exact snapStart_pwr _

@[simp] theorem restartB_pwr (h : Hw) : h.restartB.pwr = h.pwr := by
  unfold restartB
  extract_lets p
  split
  · rfl
  · exact raise_pwr _ _ _

@[simp] theorem strmStart_pwr (h : Hw) : h.strmStart.pwr = h.pwr := restartB_pwr h

@[simp] theorem senseInit_pwr (h : Hw) : h.senseInit.pwr = h.pwr := by
  have e1 : h.afeStart.decStart.xbDriven.pwr = h.pwr := (xbDriven_pwr _).trans (emptyAll_pwr _)
  unfold senseInit
  extract_lets h1 h2 h3
  have e3 : h3.pwr = h.pwr := (bufSenseOn_pwr h2).trans e1
  split
  · exact (strmStart_pwr h3).trans e3
  · exact e3

/-- The start of a domain's blocks leaves the power state (R49). -/
@[simp] theorem domainInit_pwr (h : Hw) (d : Dom) : (h.domainInit d).pwr = h.pwr := by
  unfold domainInit
  extract_lets h0 _ h1 h2
  have e0 : h0.pwr = h.pwr := clearDomain_pwr h d
  have e1 : h1.pwr = h.pwr := by
    unfold h1
    split
    · exact e0
    · exact e0
  have e2 : h2.pwr = h.pwr := (nvApply_pwr h1 _).trans e1
  cases d with
  | vigil => exact e2
  | time => exact (timeInit_pwr h2).trans e2
  | sense => exact (senseInit_pwr h2).trans e2
  | net => exact e2
  | core => exact e2

@[simp] theorem linkSet_pwr (h : Hw) (n : Fin 2) (up : Bool) : (h.linkSet n up).pwr = h.pwr := by
  unfold linkSet
  extract_lets p h1 h2
  have e2 : h2.pwr = h.pwr := (event_pwr _ _).trans ((raise_pwr _ _ _).trans (raise_pwr _ _ _))
  split
  · rfl
  · split
    · exact e2
    · exact (flushPort_pwr _ _).trans e2

@[simp] theorem almOvr_pwr (h : Hw) (n : Fin 2) (k : Nat) : (h.almOvr n k).pwr = h.pwr := by
  unfold almOvr
  split
  · rfl
  · exact raise_pwr _ _ _

@[simp] theorem netStart_pwr (h : Hw) : h.netStart.pwr = h.pwr := by
  unfold netStart
  extract_lets _ h1
  refine foldl_keeps Hw.pwr _ (fun g n => ?_) _ h1
  extract_lets lost reqs _ g1 g2
  have e2 : g2.pwr = g.pwr := by
    unfold g2
    split
    · rfl
    · exact linkSet_pwr _ _ _
  exact (foldl_keeps Hw.pwr _ (fun k q => pwr_of_still (enqueueAlarm_still k n _)) _ _).trans ((almOvr_pwr _ _ _).trans e2)

@[simp] theorem domainEntry_pwr (h : Hw) (d : Dom) (up : Bool) : (h.domainEntry d up).pwr = h.pwr := by
  unfold domainEntry
  split
  · exact diaryAdd_pwr _ _ _ _
  · rfl

/-! ### The choice of the next sequence (R44) -/

theorem mem_switched (d : Dom) : d ∈ switched ↔ d ≠ .vigil := by cases d <;> decide

/-- What the next sequence is: the recorded opposite; or, with nothing recorded, the domain to lower with the highest
number; or, with nothing to lower, the domain to raise with the lowest number. -/
theorem nextSeq_some {h : Hw} {d : Dom} {up : Bool} (hn : h.nextSeq = some (d, up)) :
    h.vigil = true ∧ h.pwr.bootLoaded = true ∧ h.seqRuns = false ∧
      ((h.pwr.opposite = some d ∧ (h.mustLower d = true ∨ h.mustRaise d = true) ∧ up = h.mustRaise d) ∨
        (up = false ∧ [Dom.core, .net, .sense, .time].find? h.mustLower = some d) ∨
        (up = true ∧ [Dom.core, .net, .sense, .time].find? h.mustLower = none ∧
          [Dom.time, .sense, .net, .core].find? h.mustRaise = some d)) := by
  unfold nextSeq at hn
  split at hn
  · cases hn
  · rename_i hc
    simp only [Bool.or_eq_true, Bool.not_eq_true', not_or, Bool.not_eq_false, Bool.not_eq_true] at hc
    obtain ⟨⟨hv, hb⟩, hs⟩ := hc
    refine ⟨hv, hb, hs, ?_⟩
    split at hn
    · rename_i e he
      obtain ⟨ho, hm⟩ := Option.filter_eq_some_iff.1 he
      cases hn
      exact .inl ⟨ho, by simpa using hm, rfl⟩
    · split at hn
      · cases hn
        exact .inr (.inl ⟨rfl, ‹_›⟩)
      · obtain ⟨e, he, heq⟩ := Option.map_eq_some_iff.1 hn
        cases heq
        exact .inr (.inr ⟨rfl, ‹_›, he⟩)

theorem mustLower_vigil {h : Hw} : h.mustLower .vigil = false := by simp [mustLower, effReq]

theorem mustRaise_vigil {h : Hw} (hv : h.vigil = true) : h.mustRaise .vigil = false := by
  simp [mustRaise, domState, hv]

/-- The next sequence is one of a switched domain that must be raised or lowered. -/
theorem nextSeq_must {h : Hw} {d : Dom} {up : Bool} (hn : h.nextSeq = some (d, up)) :
    (up = true → h.mustRaise d = true) ∧ (up = false → h.mustLower d = true) := by
  obtain ⟨-, -, -, hcase⟩ := nextSeq_some hn
  rcases hcase with ⟨-, hm, rfl⟩ | ⟨rfl, hf⟩ | ⟨rfl, -, hf⟩
  · exact ⟨id, fun hr => hm.resolve_right (by rw [hr]; decide)⟩
  · exact ⟨fun e => Bool.noConfusion e, fun _ => List.find?_some hf⟩
  · exact ⟨fun _ => List.find?_some hf, fun e => Bool.noConfusion e⟩

theorem nextSeq_switched {h : Hw} {d : Dom} {up : Bool} (hn : h.nextSeq = some (d, up)) : d ≠ .vigil := by
  rintro rfl
  obtain ⟨hv, -⟩ := nextSeq_some hn
  obtain ⟨hr, hl⟩ := nextSeq_must hn
  cases up with
  | true => exact absurd (hr rfl) (by rw [mustRaise_vigil hv]; decide)
  | false => exact absurd (hl rfl) (by rw [mustLower_vigil]; decide)

/-- In an ordered list `find?` names the first that satisfies the predicate. -/
theorem find?_first {α : Type} {r : α → α → Prop} (hasymm : ∀ a b, r a b → ¬ r b a) {p : α → Bool} {l : List α} {d e : α}
    (hl : l.Pairwise r) (hf : l.find? p = some d) (he : e ∈ l) (hr : r e d) : p e = false := by
  obtain ⟨-, as, bs, rfl, has⟩ := List.find?_eq_some_iff_append.1 hf
  rcases List.mem_append.1 he with h | h
  · simpa using has e h
  · rcases List.mem_cons.1 h with rfl | h
    · exact absurd hr (hasymm _ _ hr)
    · exact absurd hr (hasymm _ _ (List.rel_of_pairwise_cons (List.pairwise_append.1 hl).2.1 h))

/-- With nothing recorded nothing is raised while a domain must be lowered, and each kind goes in its order (R44). -/
theorem nextSeq_order {h : Hw} {d : Dom} {up : Bool} (hn : h.nextSeq = some (d, up)) (ho : h.pwr.opposite = none) :
    (up = true → (∀ e ∈ switched, h.mustLower e = false) ∧
      ∀ e ∈ switched, domBit e < domBit d → h.mustRaise e = false) ∧
    (up = false → ∀ e ∈ switched, domBit d < domBit e → h.mustLower e = false) := by
  have down (e : Dom) (he : e ∈ switched) : e ∈ [Dom.core, .net, .sense, .time] := by revert he; cases e <;> decide
  obtain ⟨-, -, -, hcase⟩ := nextSeq_some hn
  rcases hcase with ⟨hs, -⟩ | ⟨rfl, hf⟩ | ⟨rfl, hnone, hf⟩
  · rw [ho] at hs
    cases hs
  · refine ⟨fun e => Bool.noConfusion e, fun _ e he hlt => ?_⟩
    exact find?_first (r := fun a b => domBit b < domBit a) (fun _ _ => lt_asymm) (by decide) hf (down e he) hlt
  · refine ⟨fun _ => ⟨fun e he => ?_, fun e he hlt => ?_⟩, fun e => Bool.noConfusion e⟩
    · simpa using List.find?_eq_none.1 hnone e (down e he)
    · exact find?_first (r := fun a b => domBit a < domBit b) (fun _ _ => lt_asymm) (by decide) hf he hlt

/-! ### The sequences -/

/-- A sequence touches the state of its own domain alone. -/
def OnlyDom (h g : Hw) (d : Dom) (s : DomState) : Prop :=
  g.domState d = s ∧ (∀ e, e ≠ d → g.domState e = h.domState e) ∧ g.pwr.opposite = h.pwr.opposite

theorem onlyDom_setDom (h : Hw) (d : Dom) (s : DomState) (hd : d ≠ .vigil) : OnlyDom h (h.setDom d s) d s :=
  ⟨domState_setDom_same h d s hd, fun e he => domState_setDom_ne h d e s he, opposite_setDom h d s⟩

/-- Only the power state decides. -/
theorem OnlyDom.of_pwr {h h' g g' : Hw} {d : Dom} {s : DomState} (hs : OnlyDom h g d s) (hh : h'.pwr = h.pwr)
    (hg : g'.pwr = g.pwr) : OnlyDom h' g' d s := by
  obtain ⟨hd, he, ho⟩ := hs
  exact ⟨(domState_of_pwr hg d).trans hd, fun e hne => by rw [domState_of_pwr hg, he e hne, domState_of_pwr hh],
    by rw [hg, ho, hh]⟩

theorem onStart_pwr (h : Hw) (d : Dom) : (h.onStart d).pwr = (h.setDom d .rising).pwr := by cases d <;> rfl

theorem onStart_onlyDom (h : Hw) (d : Dom) (hd : d ≠ .vigil) : OnlyDom h (h.onStart d) d .rising :=
  (onlyDom_setDom h d .rising hd).of_pwr rfl (onStart_pwr h d)

/-- What an off-sequence does after its domain has begun to fall moves no domain (R49, R50). -/
theorem offStart_onlyDom (h : Hw) (d : Dom) (hd : d ≠ .vigil) : OnlyDom h (h.offStart d) d .falling := by
  have e1 : OnlyDom h ((h.holdPins d).setDom d .falling) d .falling :=
    (onlyDom_setDom (h.holdPins d) d .falling hd).of_pwr (holdPins_pwr h d).symm rfl
  cases d with
  | vigil => exact absurd rfl hd
  | time => exact e1
  | net => exact e1.of_pwr rfl (netStop_pwr _)
  | sense =>
    unfold offStart
    extract_lets h1 h2 _
    have e2 : OnlyDom h h2 .sense .falling := e1.of_pwr rfl (by simp [h2, h1])
    clear_value h2
    exact ⟨e2.1, fun e he => by rw [← e2.2.1 e he]; cases e <;> rfl, e2.2.2⟩
  | core =>
    unfold offStart
    extract_lets h1 _ _ h2 h3 _ _
    have e3 : OnlyDom h h3 .core .falling := e1.of_pwr rfl (by simp [h3, h2, h1])
    clear_value h3
    exact ⟨e3.1, fun e he => by rw [← e3.2.1 e he]; cases e <;> rfl, e3.2.2⟩

/-- An entry touches no register but the flags and LOST of the diary (R510, R514). -/
theorem reg_diaryAdd_ne (h : Hw) (src : Nat) (x y : Word) (a : Nat) (h1 : a ≠ R.DIARY_IFLAG) (h2 : a ≠ R.DIARY_LOST) :
    (h.diaryAdd src x y).reg a = h.reg a := by
  unfold diaryAdd
  extract_lets _ _ _ _ _ _ _ g1 g2
  have e1 : g1.reg a = h.reg a := rfl
  have e2 : g2.reg a = h.reg a := by
    unfold g2
    split
    · rw [reg_raise_ne _ _ _ _ h1, count, countBy, reg_setReg_ne _ _ _ _ h2, e1]
    · exact e1
  rw [reg_raiseIf_ne _ _ _ _ _ h1, reg_raise_ne _ _ _ _ h1, e2]

theorem reg_domainEntry_ne (h : Hw) (d : Dom) (up : Bool) (a : Nat) (h1 : a ≠ R.DIARY_IFLAG) (h2 : a ≠ R.DIARY_LOST) :
    (h.domainEntry d up).reg a = h.reg a := by
  unfold domainEntry
  split
  · exact reg_diaryAdd_ne _ _ _ _ _ h1 h2
  · rfl

/-- The flag that the end of a sequence sets stays over the DOMAIN entry that follows it (R52, R510). -/
theorem flag_before_domainEntry (h : Hw) (bit : Nat) (d : Dom) (up : Bool) (hb : bit < 16) (hv : h.vigil = true) :
    ((h.pwrFlag bit).domainEntry d up).b R.PWR_IFLAG bit = true := by
  rw [b, reg_domainEntry_ne _ _ _ _ (by decide) (by decide)]
  exact raise_b_same h 1 bit hb (pageLive_of_vigil h 1 .pwr rfl rfl hv)

theorem domBit_lt (d : Dom) : domBit d < 5 := by cases d <;> decide

/-- The last step of an on-sequence: the domain is on and its flag is set (R49, R52). -/
theorem onComplete_spec (h : Hw) (d : Dom) (hv : h.vigil = true) (hr : h.risingDom = some d) :
    h.onComplete.domState d = .on ∧ h.onComplete.b R.PWR_IFLAG (domBit d) = true := by
  have hd : d ≠ .vigil := (mem_switched d).1 (List.mem_of_find?_eq_some hr)
  unfold onComplete
  rw [hr]
  dsimp -zeta only
  extract_lets _ h0 h1 g h2 h3 _
  have e0 : h0.pwr = h.pwr := by
    unfold h0
    split
    · exact synthOnComplete_pwr h
    · split <;> rfl
  have e1 : h1.pwr = ((h0.domainInit d).setDom d .on).pwr := endHolds_pwr _ _
  have hon : h1.domState d = .on := (domState_of_pwr e1 d).trans (domState_setDom_same _ d .on hd)
  have hv1 : h1.vigil = true := by
    rw [vigil_of_pwr e1, vigil_setDom, vigil_of_pwr (domainInit_pwr h0 d), vigil_of_pwr e0, hv]
  clear_value h1
  have e2 : h2.pwr = h1.pwr := by
    unfold h2
    cases d with
    | vigil => rfl
    | time => rfl
    | sense => exact raiseIf_pwr _ _ _ _
    | net => exact netStart_pwr h1
    | core => exact diaryAdd_pwr _ _ _ _
  clear_value h2
  have e3 : h3.pwr = h1.pwr := (domainEntry_pwr _ _ _).trans ((raise_pwr _ _ _).trans e2)
  have hflag : h3.b R.PWR_IFLAG (domBit d) = true :=
    flag_before_domainEntry h2 _ d true (by have := domBit_lt d; omega) ((vigil_of_pwr e2).trans hv1)
  clear_value h3
  split
  · exact ⟨(domState_of_pwr e3 d).trans hon, hflag⟩
  · exact ⟨(domState_setPwr_opposite h3 _ _ d).trans ((domState_of_pwr e3 d).trans hon), hflag⟩

/-- The registers of a page that is cleared hold their reset values (R62). -/
theorem reg_clearDomain (h : Hw) (d : Dom) (a : Nat) (ha : inDom d (a / 256) = true) :
    (h.clearDomain d).reg a = resetOf a := by
  have e : (h.clearPages (inDom d)).reg a = resetOf a :=
    Cells.get_clear_in resetOf (fun x => inDom d (x / 256)) h.regs a ha
  unfold clearDomain
  extract_lets g
  split <;> exact e

theorem reg_domainGone (h : Hw) (d : Dom) (a : Nat) (ha : inDom d (a / 256) = true) :
    (h.domainGone d).reg a = resetOf a := by
  rw [← reg_clearDomain h d a ha]
  cases d <;> rfl

theorem domainGone_pwr (h : Hw) (d : Dom) : (h.domainGone d).pwr = ((h.clearDomain d).setDom d .off).pwr := by
  cases d <;> rfl

/-- A switched domain holds none of VIGIL's pages. -/
theorem ne_of_inDom {d : Dom} {a c : Nat} (hd : d ≠ .vigil) (ha : inDom d (a / 256) = true) (hc : inDom .vigil (c / 256) = true) :
    a ≠ c := by
  rintro rfl
  unfold inDom at ha hc
  cases hk : kindOf (a / 256) with
  | none => simp [hk] at ha
  | some k =>
    simp only [hk, beq_iff_eq] at ha hc
    exact hd (ha ▸ hc)

/-- The last step of an off-sequence: the domain is off, its flag is set and its registers hold their reset values (R52,
R64). -/
theorem offComplete_spec (h : Hw) (d : Dom) (hv : h.vigil = true) (hf : h.fallingDom = some d) :
    h.offComplete.domState d = .off ∧ h.offComplete.b R.PWR_IFLAG (4 + domBit d) = true ∧
      ∀ a, inDom d (a / 256) = true → h.offComplete.reg a = resetOf a := by
  have hd : d ≠ .vigil := (mem_switched d).1 (List.mem_of_find?_eq_some hf)
  unfold offComplete
  rw [hf]
  dsimp -zeta only
  extract_lets h1 h2 _
  have hoff : h1.domState d = .off := (domState_of_pwr (domainGone_pwr h d) d).trans (domState_setDom_same _ d .off hd)
  have hv1 : h1.vigil = true := by
    rw [vigil_of_pwr (domainGone_pwr h d), vigil_setDom, vigil_of_pwr (clearDomain_pwr h d), hv]
  have hreg : ∀ a, inDom d (a / 256) = true → h1.reg a = resetOf a := fun a ha => reg_domainGone h d a ha
  clear_value h1
  have e2 : h2.pwr = h1.pwr := (domainEntry_pwr _ _ _).trans (raise_pwr _ _ _)
  have hflag : h2.b R.PWR_IFLAG (4 + domBit d) = true :=
    flag_before_domainEntry h1 _ d false (by have := domBit_lt d; omega) hv1
  have hreg2 : ∀ a, inDom d (a / 256) = true → h2.reg a = resetOf a := fun a ha => by
    rw [← hreg a ha]
    exact (reg_domainEntry_ne _ _ _ _ (ne_of_inDom hd ha (by decide)) (ne_of_inDom hd ha (by decide))).trans
      (reg_raise_ne _ _ _ _ (ne_of_inDom hd ha (by decide)))
  clear_value h2
  split
  · exact ⟨(domState_setPwr_opposite h2 _ _ d).trans ((domState_of_pwr e2 d).trans hoff), hflag, hreg2⟩
  · exact ⟨(domState_of_pwr e2 d).trans hoff, hflag, hreg2⟩

end Hw

/-- Settles O11: the order by `nextSeq_order`, the first steps by `onStart_onlyDom` and `offStart_onlyDom`, the last ones by
`onComplete_spec` and `offComplete_spec`. -/
theorem powerSequencesRunInOrder : Obligations.PowerSequencesRunInOrder := by
  refine ⟨fun h d up hn => ?_, fun s => ⟨fun p v ha => ?_, fun d hn => ?_, fun d hn => ?_, fun hn => ?_, fun d hv hr => ?_,
    fun d hv hf => ?_, fun hv hc hf => ?_⟩, fun s hv => ⟨fun hw => ?_, fun hw => ?_⟩⟩
  · obtain ⟨hv, hb, hs, -⟩ := Hw.nextSeq_some hn
    obtain ⟨hr, hl⟩ := Hw.nextSeq_must hn
    exact ⟨hv, hb, hs, hr, hl, fun ho => (Hw.nextSeq_order hn ho).1, fun ho => (Hw.nextSeq_order hn ho).2⟩
  · exact done_congr (by rw [Hw.writeRow_block _ _ _ _ .pwr (by decide) ha]; rfl)
  · obtain ⟨hd, he, ho⟩ :=
      Hw.onStart_onlyDom (s.hw.setPwr { s.hw.pwr with pstate := BitVec.ofNat 3 s.hw.pstateNow, opposite := none }) d
        (Hw.nextSeq_switched hn)
    refine ⟨_, done_congr (by rw [Hw.seqStart, hn]; rfl), rfl, hd, fun e hne => ?_, ho⟩
    rw [he e hne, Hw.domState_setPwr_opposite]
  · obtain ⟨hd, he, ho⟩ :=
      Hw.offStart_onlyDom (s.hw.setPwr { s.hw.pwr with pstate := BitVec.ofNat 3 s.hw.pstateNow, opposite := none }) d
        (Hw.nextSeq_switched hn)
    refine ⟨_, done_congr (by rw [Hw.seqStart, hn]; rfl), rfl, hd, fun e hne => ?_, ho⟩
    rw [he e hne, Hw.domState_setPwr_opposite]
  · exact done_congr (by rw [Hw.seqStart, hn])
  · exact ⟨rfl, Hw.onComplete_spec s.hw d hv hr⟩
  · exact ⟨rfl, Hw.offComplete_spec s.hw d hv hf⟩
  · exact done_congr (by rw [Hw.forcedStop, hv, hc, hf]; rfl)
  · have hlt : s.hw.f R.PWR_WAKEPROF 3 0 % 16 = s.hw.f R.PWR_WAKEPROF 3 0 := Nat.mod_eq_of_lt (Nat.mod_lt _ (by decide))
    refine done_congr ?_
    rw [Hw.wakeN, hv, hw]
    show s.hw.wake 1 0 s.hw.wakeProfile = _
    rw [Hw.wake, Hw.wakeProfile, hlt]
    rfl
  · exact done_congr (by rw [Hw.wakeN, hv, hw]; rfl)

end Sys2Proof.Machine

/-! ## Proofs: ports, queues and the switch (O50) -/

namespace Sys2Proof.Machine
namespace Hw

/-! ### The receive counters -/

/-- RXOK or RXERR of a port. -/
def IsRxCount (a : Nat) : Prop := (a / 256 = 0x30 ∨ a / 256 = 0x31) ∧ (a % 256 = 0x18 ∨ a % 256 = 0x19)

theorem IsRxCount.ne {a c : Nat} (ha : IsRxCount a) (hc : (c / 256 ≠ 0x30 ∧ c / 256 ≠ 0x31) ∨ (c % 256 ≠ 0x18 ∧ c % 256 ≠ 0x19)) :
    a ≠ c := by
  rintro rfl
  obtain ⟨hp, ho⟩ := ha
  omega

theorem isRxCount_ok (n : Fin 2) : IsRxCount (R.MAC_RXOK n) := by
  unfold IsRxCount R.MAC_RXOK; omega

theorem isRxCount_err (n : Fin 2) : IsRxCount (R.MAC_RXERR n) := by
  unfold IsRxCount R.MAC_RXERR; omega

section
variable {a : Nat} (ha : IsRxCount a)
include ha

theorem raise_rx (h : Hw) (pg bit : Nat) : (h.raise pg bit).reg a = h.reg a :=
  reg_raise_ne _ _ _ _ (ha.ne (.inr (by omega)))

theorem setReg_rx (h : Hw) (c : Nat) (v : Word)
    (hc : (c / 256 ≠ 0x30 ∧ c / 256 ≠ 0x31) ∨ (c % 256 ≠ 0x18 ∧ c % 256 ≠ 0x19)) : (h.setReg c v).reg a = h.reg a :=
  reg_setReg_ne _ _ _ _ (ha.ne hc)

theorem count_rx (h : Hw) (c : Nat)
    (hc : (c / 256 ≠ 0x30 ∧ c / 256 ≠ 0x31) ∨ (c % 256 ≠ 0x18 ∧ c % 256 ≠ 0x19)) : (h.count c).reg a = h.reg a :=
  setReg_rx ha _ _ _ hc

theorem txDrop_rx (h : Hw) (n : Fin 2) (k : Nat) : (h.txDrop n k).reg a = h.reg a :=
  setReg_rx ha _ _ _ (.inr (by rw [R.MAC_TXDROP]; omega))

theorem enqueue_rx (h : Hw) (n : Fin 2) (event : Bool) (f : Frame) : (h.enqueue n event f).reg a = h.reg a := by
  unfold enqueue
  extract_lets p
  split
  · exact txDrop_rx ha _ _ _
  · split
    · split
      · exact txDrop_rx ha _ _ _
      · rfl
    · split
      · exact txDrop_rx ha _ _ _
      · rfl

theorem enqueueMask_rx (h : Hw) (m : Nat) (event : Bool) (f : Frame) : (h.enqueueMask m event f).reg a = h.reg a := by
  refine foldl_keeps (fun g => g.reg a) _ (fun g n => ?_) _ _
  split
  · exact enqueue_rx ha _ _ _ _
  · rfl

theorem learn_rx (h : Hw) (n : Fin 2) (src : BitVec 48) : (h.learn n src).reg a = h.reg a := by
  unfold learn
  split
  · rfl
  · split
    · rfl
    · split
      · exact raise_rx ha _ _ _
      · rfl

theorem ipDrop_rx (h : Hw) : h.ipDrop.reg a = h.reg a :=
  (raise_rx ha _ _ _).trans (count_rx ha _ _ (.inl (by decide)))

theorem arpReceive_rx (h : Hw) (n : Fin 2) (f : Frame) (hop : BitVec 32 → BitVec 32) :
    (h.arpReceive n f hop).reg a = h.reg a := by
  unfold arpReceive
  split
  · rfl
  · split
    · exact enqueue_rx ha _ _ _ _
    · split <;> rfl

theorem ipReceive_rx (h : Hw) (n : Fin 2) (f : Frame) : (h.ipReceive n f).reg a = h.reg a := by
  unfold ipReceive
  split
  · rfl
  · split
    · exact ipDrop_rx ha _
    · split
      · split
        · exact ipDrop_rx ha _
        · exact enqueue_rx ha _ _ _ _
      · rfl

/-! The servo and the leap flags (R163, R186) -/

theorem tgtCheck_rx (h : Hw) (n : Nat) (late : Bool) : (h.tgtCheck n late).reg a = h.reg a := by
  unfold tgtCheck
  extract_lets x period
  split
  · rfl
  · split
    · rfl
    · extract_lets next h1
      have e1 : h1.reg a = h.reg a := (raise_rx ha _ _ _).trans (event_reg _ _ _)
      split
      · exact (raise_rx ha _ _ _).trans e1
      · exact e1

theorem almStepTo_rx (h : Hw) (n : Nat) (units : Int) (known : Bool) : (h.almStepTo n units known).reg a = h.reg a := by
  unfold almStepTo
  extract_lets h1 x g1 _ g2 g3
  have e1 : g1.reg a = h.reg a := raise_rx ha _ _ _
  have e2 : g2.reg a = h.reg a := by unfold g2; split <;> exact e1
  have e3 : g3.reg a = h.reg a := by unfold g3; split <;> exact e2
  exact (tgtCheck_rx ha _ _ _).trans e3

theorem switchCommit_rx (h : Hw) (n : Nat) (hn : n < 4) : (h.switchCommit n).reg a = h.reg a := by
  unfold switchCommit
  extract_lets x m h1 y
  split
  · rfl
  · have e1 : h1.reg a = h.reg a := by
      unfold h1
      split
      · exact (setReg_rx ha _ _ _ (.inl (by rw [R.ALM_ADD_H]; omega))).trans
          ((setReg_rx ha _ _ _ (.inl (by rw [R.ALM_ADD_M]; omega))).trans
            (setReg_rx ha _ _ _ (.inl (by rw [R.ALM_ADD_L]; omega))))
      · rfl
    exact (raise_rx ha _ _ _).trans e1

omit ha in
theorem slewEnded_reg (h : Hw) (n : Nat) : (h.slewEnded n).reg a = h.reg a := by
  unfold slewEnded
  extract_lets x
  split <;> rfl

theorem servoSlew_rx (h : Hw) (n : Nat) (hn : n < 4) (amount : Int) : (h.servoSlew n amount).reg a = h.reg a := by
  have start (g : Hw) : (g.startSlew n amount).reg a = g.reg a := by
    unfold startSlew
    extract_lets _ g1
    split
    · exact slewEnded_reg g1 n
    · rfl
  unfold servoSlew
  extract_lets x
  rw [start]
  split
  · exact switchCommit_rx ha h n hn
  · rfl

theorem servoCorrect_rx (h : Hw) (n : Nat) (hn : n < 4) (off : Int) : (h.servoCorrect n off).reg a = h.reg a := by
  unfold servoCorrect
  extract_lets ns sec
  split
  · unfold almStepSet
    extract_lets ns' sec' off' x h1
    have e1 : h1.reg a = h.reg a := by
      refine foldl_keeps_of_mem (fun g => g.reg a) _ _ (fun g i hi => ?_) _
      have hi5 : i < 5 := List.mem_range.1 hi
      exact setReg_rx ha _ _ _ (.inl (by rw [R.ALM_STEP_NL]; omega))
    split
    · exact raise_rx ha _ _ _
    · split
      · exact raise_rx ha _ _ _
      · split
        · exact (servoSlew_rx ha _ n hn _).trans e1
        · exact (almStepTo_rx ha _ _ _ _).trans e1
  · unfold almSlewSet
    extract_lets v
    split
    · exact raise_rx ha _ _ _
    · exact servoSlew_rx ha _ n hn _

theorem leapCopy_rx (h : Hw) (flags : BitVec 2) (ofs : Int) : (h.leapCopy flags ofs).reg a = h.reg a := by
  unfold leapCopy leapWrite
  split
  · exact (raise_rx ha _ _ _).trans ((setReg_rx ha _ _ _ (.inl (by decide))).trans (setReg_rx ha _ _ _ (.inl (by decide))))
  · exact (setReg_rx ha _ _ _ (.inl (by decide))).trans (setReg_rx ha _ _ _ (.inl (by decide)))

theorem ptpServo_rx (h : Hw) (p : Ptp) : (h.ptpServo p).reg a = h.reg a := by
  unfold ptpServo
  split
  · rfl
  · rename_i m hm
    have hlt : m < 4 := List.mem_range.1 (List.mem_of_find?_eq_some hm)
    split
    · rfl
    · extract_lets h1
      have e1 : h1.reg a = h.reg a := by
        unfold h1
        split
        · exact servoCorrect_rx ha h m hlt _
        · rfl
      split
      · split
        · exact (leapCopy_rx ha _ _ _).trans e1
        · exact e1
      · exact e1

theorem ptpSend_rx (h : Hw) (m mask : Nat) (f : Frame) : (h.ptpSend m mask f).reg a = h.reg a := by
  unfold ptpSend
  extract_lets ids ev
  split
  · split
    · rfl
    · exact enqueueMask_rx ha _ _ _ _
  · exact enqueueMask_rx ha _ _ _ _

theorem ptpAnswer_rx (h : Hw) (n : Fin 2) (f : Frame) (p : Ptp) : (h.ptpAnswer n f p).reg a = h.reg a := by
  unfold ptpAnswer
  split
  · rfl
  · split
    · rfl
    · split
      · exact ptpSend_rx ha _ _ _ _
      · split
        · exact ptpSend_rx ha _ _ _ _
        · rfl

theorem ptpReceive_rx (h : Hw) (n : Fin 2) (f : Frame) (p : Ptp) : (h.ptpReceive n f p).reg a = h.reg a := by
  unfold ptpReceive
  extract_lets port h1 bad
  split
  · exact (raise_rx ha _ _ _).trans (count_rx ha _ _ (.inr (by rw [R.MAC_PTPLIM]; omega)))
  · have e1 : h1.reg a = h.reg a := by unfold h1; split <;> rfl
    split
    · exact (count_rx ha _ _ (.inl (by decide))).trans e1
    · split
      · exact (raise_rx ha _ _ _).trans ((count_rx ha _ _ (.inl (by decide))).trans e1)
      · exact (ptpAnswer_rx ha _ _ _ _).trans ((ptpServo_rx ha _ _).trans e1)

theorem deliver_rx (h : Hw) (n : Fin 2) (f : Frame) : (h.deliver n f).reg a = h.reg a := by
  unfold deliver
  split
  · exact ptpReceive_rx ha _ _ _ _
  · extract_lets _ h1
    split
    · exact arpReceive_rx ha h1 _ _ _
    · split
      · exact ipReceive_rx ha h1 _ _
      · rfl

end

/-- A frame that a port takes in is counted once in RXOK, whatever becomes of it (R389, R392). -/
theorem frameReceive_good (h : Hw) (n : Fin 2) (f : Frame) (hl : h.live .net = true)
    (he : h.enabled (0x30 + n) = true) (hg : f.good = true) (h1 : 64 ≤ f.len) (h2 : f.len ≤ 1522) (a : Nat)
    (ha : IsRxCount a) : (h.frameReceive n f).reg a = (h.count (R.MAC_RXOK n)).reg a := by
  unfold frameReceive
  rw [if_neg (by simp [hl, he]), if_neg (by simp [hg, Nat.not_lt.2 h1, Nat.not_lt.2 h2])]
  extract_lets f' g1 r g2
  have e1 : g1.reg a = (h.count (R.MAC_RXOK n)).reg a := learn_rx ha _ _ _
  have e2 : g2.reg a = (h.count (R.MAC_RXOK n)).reg a := by
    unfold g2
    split
    · exact (enqueue_rx ha _ _ _ _).trans e1
    · exact e1
  split
  · exact (deliver_rx ha _ _ _).trans e2
  · split
    · exact (ipDrop_rx ha _).trans e2
    · exact e2

/-- A frame that is not whole, or of a length that is none of a frame (R389). -/
theorem frameReceive_bad (h : Hw) (n : Fin 2) (f : Frame) (hl : h.live .net = true)
    (he : h.enabled (0x30 + n) = true) (hb : f.good = false ∨ f.len < 64 ∨ 1522 < f.len) :
    h.frameReceive n f = (h.count (R.MAC_RXERR n)).raise (0x30 + n) 1 := by
  have hbad : (!f.good || decide (f.len < 64) || decide (1522 < f.len)) = true := by simpa [or_assoc] using hb
  unfold frameReceive
  rw [if_neg (by simp [hl, he]), if_pos hbad]
  rfl

theorem frameTaken_bad (h : Hw) (n : Fin 2) (f : Frame) (hb : f.good = false ∨ f.len < 64 ∨ 1522 < f.len) :
    h.frameTaken n f = false := by
  rcases hb with hb | hb | hb
  · simp [frameTaken, hb]
  · simp [frameTaken, Nat.not_le.2 hb]
  · simp [frameTaken, Nat.not_le.2 hb]

/-! ### Ports -/

theorem netPort_setPort_same (h : Hw) (n : Fin 2) (p : Port) : (h.setPort n p).netPort n = p := by
  simp [netPort, setPort]

theorem netPort_setPort_ne (h : Hw) (n m : Fin 2) (p : Port) (hm : m ≠ n) : (h.setPort n p).netPort m = h.netPort m := by
  have hv : n.val ≠ m.val := fun e => hm (Fin.ext e.symm)
  simp [netPort, setPort, Vector.getElem_set_ne, hv]

theorem netPort_of_net {h g : Hw} (hn : g.net = h.net) (n : Fin 2) : g.netPort n = h.netPort n := by
  rw [netPort, hn, netPort]

theorem other_ne (n : Fin 2) : 1 - n ≠ n := by revert n; decide

theorem enqueue_netPort_ne (h : Hw) (n m : Fin 2) (event : Bool) (f : Frame) (hm : m ≠ n) :
    (h.enqueue n event f).netPort m = h.netPort m := by
  unfold enqueue
  extract_lets p
  split
  · rfl
  · split
    · split
      · rfl
      · exact netPort_setPort_ne _ _ _ _ hm
    · split
      · rfl
      · exact netPort_setPort_ne _ _ _ _ hm

/-! ### Departure (R394, R409) -/

/-- The head of a queue may not leave now. -/
def HeadHeld (h : Hw) (q : List Frame) : Prop := ∀ x, q.head? = some x → h.mayLeave x = false

theorem head_filter_some {h : Hw} {q : List Frame} {k j : Nat} {f : Frame}
    (hq : ((q.head?.filter h.mayLeave).map fun f => (k, f)) = some (j, f)) :
    j = k ∧ q.head? = some f ∧ h.mayLeave f = true := by
  obtain ⟨g, hg, e⟩ := Option.map_eq_some_iff.1 hq
  cases e
  exact ⟨rfl, Option.filter_eq_some_iff.1 hg⟩

theorem head_filter_none {h : Hw} {q : List Frame} {k : Nat}
    (hq : ((q.head?.filter h.mayLeave).map fun f => (k, f)) = none) : HeadHeld h q := by
  intro x hx
  have := Option.filter_eq_none_iff.1 (Option.map_eq_none_iff.1 hq) x hx
  simpa using this

/-- The next frame is the head of the first queue whose head may leave, in strict priority (R394). -/
theorem nextFrame_some {h : Hw} {n : Fin 2} {k : Nat} {f : Frame} (hn : h.nextFrame n = some (k, f)) :
    h.mayLeave f = true ∧
      ((k = 0 ∧ (h.netPort n).qAlarm.head? = some f) ∨
        (k = 1 ∧ (h.netPort n).qEvent.head? = some f ∧ HeadHeld h (h.netPort n).qAlarm) ∨
        (k = 2 ∧ (h.netPort n).qNormal.head? = some f ∧ HeadHeld h (h.netPort n).qAlarm ∧
          HeadHeld h (h.netPort n).qEvent)) := by
  unfold nextFrame at hn
  rcases (Option.orElse_eq_some _ _ _).1 hn with hn | ⟨h01, h2⟩
  · rcases (Option.orElse_eq_some _ _ _).1 hn with h0 | ⟨h0, h1⟩
    · obtain ⟨hk, hq, hm⟩ := head_filter_some h0
      exact ⟨hm, .inl ⟨hk, hq⟩⟩
    · obtain ⟨hk, hq, hm⟩ := head_filter_some h1
      exact ⟨hm, .inr (.inl ⟨hk, hq, head_filter_none h0⟩)⟩
  · obtain ⟨h0, h1⟩ := (Option.orElse_eq_none _ _).1 h01
    obtain ⟨hk, hq, hm⟩ := head_filter_some h2
    exact ⟨hm, .inr (.inr ⟨hk, hq, head_filter_none h0, head_filter_none h1⟩)⟩

/-- The frames that wait at a port. -/
def waiting (p : Port) : Nat := p.qAlarm.length + p.qEvent.length + p.qNormal.length

theorem length_drop_head {q : List Frame} {f : Frame} (hq : q.head? = some f) : (q.drop 1).length + 1 = q.length := by
  cases q with
  | nil => cases hq
  | cons x t => rfl

/-- The queue of the next frame gets shorter by one. -/
theorem waiting_popQueue {h : Hw} {n : Fin 2} {k : Nat} {f : Frame} (hn : h.nextFrame n = some (k, f)) :
    waiting ((h.popQueue n k).netPort n) + 1 = waiting (h.netPort n) := by
  obtain ⟨-, hcase⟩ := nextFrame_some hn
  unfold popQueue waiting
  rw [netPort_setPort_same]
  rcases hcase with ⟨rfl, hq⟩ | ⟨rfl, hq, -⟩ | ⟨rfl, hq, -⟩ <;> have := length_drop_head hq
  · simp only [if_true]; omega
  · simp only [if_true, if_neg (show (1 : Nat) ≠ 0 by decide)]; omega
  · simp only [if_neg (show (2 : Nat) ≠ 0 by decide), if_neg (show (2 : Nat) ≠ 1 by decide)]; omega

theorem corrAdd_spec (h : Hw) (c d : Int) :
    RegsOnly h (h.corrAdd c d).2 ∧ ∀ a, a ≠ R.TSI_TCSAT → a ≠ R.TSI_IFLAG → (h.corrAdd c d).2.reg a = h.reg a := by
  unfold corrAdd
  extract_lets s
  split
  · exact ⟨rfl, fun _ _ _ => rfl⟩
  · exact ⟨(regsOnly_setReg _ _ _).trans (regsOnly_raise _ _ _),
      fun a h1 h2 => (reg_raise_ne _ _ _ _ h2).trans (reg_setReg_ne _ _ _ _ h1)⟩

/-- The insertion unit writes no register but its saturation counter and the flag of that (R403). -/
theorem insertPtp_spec (h : Hw) (n : Fin 2) (f : Frame) (p : Ptp) :
    RegsOnly h (h.insertPtp n f p).2 ∧
      ∀ a, a ≠ R.TSI_TCSAT → a ≠ R.TSI_IFLAG → (h.insertPtp n f p).2.reg a = h.reg a := by
  unfold insertPtp
  split
  · exact ⟨rfl, fun _ _ _ => rfl⟩
  · exact corrAdd_spec _ _ _
  · exact corrAdd_spec _ _ _
  · exact ⟨rfl, fun _ _ _ => rfl⟩
  · exact ⟨rfl, fun _ _ _ => rfl⟩

/-- A frame that leaves is counted in TXOK; the queues stay, and without driven pads it reaches no wire (R39, R397). -/
theorem transmit_spec (h : Hw) (n : Fin 2) (f : Frame) :
    (h.transmit n f).reg (R.MAC_TXOK n) = wd (min 0xFFFF ((h.reg (R.MAC_TXOK n)).toNat + 1)) ∧
      waiting ((h.transmit n f).netPort n) = waiting (h.netPort n) ∧
      (h.padsOn = false → ((h.transmit n f).netPort n).sent = none) := by
  unfold transmit
  extract_lets _ r p h1
  have er : RegsOnly h r.2 ∧ r.2.reg (R.MAC_TXOK n) = h.reg (R.MAC_TXOK n) := by
    unfold r
    split
    · obtain ⟨ho, hk⟩ := insertPtp_spec h n f _
      exact ⟨ho, hk _ (by rw [R.MAC_TXOK, R.TSI_TCSAT]; omega) (by rw [R.MAC_TXOK, R.TSI_IFLAG]; omega)⟩
    · split <;> exact ⟨rfl, rfl⟩
  obtain ⟨honly, htx⟩ := er
  have hp : p = h.netPort n := netPort_of_net (by rw [honly]) n
  clear_value r p
  subst hp
  have e1 : h1.reg (R.MAC_TXOK n) = wd (min 0xFFFF ((h.reg (R.MAC_TXOK n)).toNat + 1)) := by
    rw [← htx]
    exact reg_setReg_same _ _ _
  have hport : waiting (h1.netPort n) = waiting (h.netPort n) ∧ (h.padsOn = false → (h1.netPort n).sent = none) := by
    have e : h1.netPort n = _ := netPort_setPort_same _ _ _
    rw [e]
    exact ⟨rfl, fun hpads => by simp [hpads]⟩
  clear_value h1
  split
  · refine ⟨(reg_raise_ne _ _ _ _ (by rw [R.MAC_TXOK]; omega)).trans e1, ?_⟩
    rw [netPort_of_net (raise_net h1 _ _)]
    exact hport
  · exact ⟨e1, hport⟩

/-! ### Links (R390, R391) -/

theorem pageLive_of_live (h : Hw) (pg : Nat) (k : Kind) (hk : kindOf pg = some k) (hl : h.live k.dom = true) :
    h.pageLive pg = true := by
  rw [pageLive, hk]
  exact hl

theorem kindOf_mac (n : Fin 2) : kindOf (0x30 + n.val) = some .mac := by revert n; decide

/-- What a flush leaves of a port (R391), and of every register but TXDROP. -/
theorem flushPort_spec (h : Hw) (n : Fin 2) :
    (h.flushPort n).netPort n = { h.netPort n with qEvent := [], qNormal := [] } ∧
      (h.flushPort n).netPort (1 - n) = h.netPort (1 - n) ∧
      ∀ a i, a ≠ R.MAC_TXDROP n → (h.flushPort n).b a i = h.b a i :=
  ⟨netPort_setPort_same _ _ _, netPort_setPort_ne _ _ _ _ (other_ne n), fun _ _ ha => b_setReg_ne _ _ _ _ _ ha⟩

/-- A port whose link changes: the flags are set; one that falls keeps its alarms and drops the rest; the other port stays. -/
theorem linkSet_spec (h : Hw) (n : Fin 2) (up : Bool) (hl : h.live .net = true) (hne : (h.netPort n).link ≠ up) :
    ((h.linkSet n up).netPort n).link = up ∧ (h.linkSet n up).b (R.MAC_IFLAG n) 0 = true ∧
      (h.linkSet n up).b R.SWITCH_IFLAG n = true ∧
      ((h.linkSet n up).netPort n).qAlarm.length = (h.netPort n).qAlarm.length ∧
      (h.linkSet n up).netPort (1 - n) = h.netPort (1 - n) ∧
      (up = false → ((h.linkSet n up).netPort n).qEvent = [] ∧ ((h.linkSet n up).netPort n).qNormal = []) := by
  unfold linkSet
  extract_lets p h1 h2
  rw [if_neg (by simpa using hne)]
  have hport1 : (h1.netPort n).link = up ∧ (h1.netPort n).qAlarm.length = p.qAlarm.length := by
    rw [show h1.netPort n = _ from netPort_setPort_same _ _ _]
    exact ⟨rfl, by cases up <;> simp⟩
  have hoth1 : h1.netPort (1 - n) = h.netPort (1 - n) := netPort_setPort_ne _ _ _ _ (other_ne n)
  have hl1 : h1.live .net = true := hl
  clear_value h1
  have hflags : h2.b (R.MAC_IFLAG n) 0 = true ∧ h2.b R.SWITCH_IFLAG n = true := by
    simp only [h2, b, event_reg]
    refine ⟨raise_b_mono _ _ _ _ _ (raise_b_same h1 _ 0 (by decide) (pageLive_of_live h1 _ _ (kindOf_mac n) hl1)), ?_⟩
    refine raise_b_same (h1.macFlag n 0) 0x32 n (by omega) (pageLive_of_live _ _ .switch rfl ?_)
    have hp : (h1.macFlag n 0).pwr = h1.pwr := raise_pwr _ _ _
    rw [live, domState_of_pwr hp, vigil_of_pwr hp]
    exact hl1
  have hport2 (m : Fin 2) : h2.netPort m = h1.netPort m := netPort_of_net (by simp [h2, macFlag]) m
  clear_value h2
  obtain ⟨hlink, hlen⟩ := hport1
  obtain ⟨hm, hs⟩ := hflags
  split
  · rename_i hup
    rw [hport2, hport2]
    exact ⟨hlink, hm, hs, hlen, hoth1, fun e => absurd (e ▸ hup) (by decide)⟩
  · obtain ⟨hpf, hof, hbf⟩ := flushPort_spec h2 n
    have hne1 : R.MAC_IFLAG n ≠ R.MAC_TXDROP n := by rw [R.MAC_IFLAG, R.MAC_TXDROP]; omega
    have hne2 : R.SWITCH_IFLAG ≠ R.MAC_TXDROP n := by rw [R.SWITCH_IFLAG, R.MAC_TXDROP]; omega
    rw [hpf, hof, hbf _ _ hne1, hbf _ _ hne2, hport2, hport2]
    exact ⟨hlink, hm, hs, hlen, hoth1, fun _ => ⟨rfl, rfl⟩⟩

/-! ### The hold rule (R410) -/

/-- The flags and counters of the TSI page do not decide whether a port may transmit. -/
theorem txOn_hold (h : Hw) (n : Fin 2) (p : Port) (hp : p.link = (h.netPort n).link) :
    (((h.setPort n p).count R.TSI_HOLDUNK).raise 0x33 1).txOn n = h.txOn n := by
  have hreg (a : Nat) (h1 : a ≠ R.TSI_HOLDUNK) (h2 : a ≠ R.TSI_IFLAG) :
      (((h.setPort n p).count R.TSI_HOLDUNK).raise 0x33 1).reg a = h.reg a :=
    (reg_raise_ne _ _ _ _ h2).trans (reg_setReg_ne _ _ _ _ h1)
  have hlive : (((h.setPort n p).count R.TSI_HOLDUNK).raise 0x33 1).live .net = h.live .net := by
    have e : (((h.setPort n p).count R.TSI_HOLDUNK).raise 0x33 1).pwr = h.pwr := raise_pwr _ _ _
    rw [live, domState_of_pwr e, vigil_of_pwr e, live]
  have hport : ((((h.setPort n p).count R.TSI_HOLDUNK).raise 0x33 1).netPort n).link = (h.netPort n).link := by
    rw [netPort_of_net (raise_net _ _ _)]
    exact (congrArg Port.link (netPort_setPort_same h n p)).trans hp
  have hclk : (((h.setPort n p).count R.TSI_HOLDUNK).raise 0x33 1).clk = h.clk := raise_clk _ _ _
  simp only [txOn, linkUp, enabled, b]
  rw [hlive, hport, hclk, hreg _ (by rw [R.TSI_HOLDUNK]; omega) (by rw [R.TSI_IFLAG]; omega),
    hreg _ (by rw [R.TSI_HOLDUNK, R.MAC_CFG]; omega) (by rw [R.TSI_IFLAG, R.MAC_CFG]; omega)]

/-- A PTP message that was held 2 ms is discarded. -/
theorem holdTimeout_plain (h : Hw) (n : Fin 2) (f : Frame) (t : List Frame) (hl : h.live .net = true)
    (hs : h.clk.settled = false) (hq : (h.netPort n).qEvent = f :: t) (ho : f.op ≠ .none) (hc : f.carry = .plain)
    (hh : f.held = false) : h.holdTimeout n false =
      ((h.setPort n { h.netPort n with qEvent := t }).count R.TSI_HOLDDROP).raise 0x33 0 := by
  unfold holdTimeout
  simp only [Bool.false_eq_true, if_false]
  rw [hq]
  dsimp only
  rw [if_neg (by simp [Frame.holds, hs, hh, hl, ho]), if_pos hc]

/-- An alarm datagram that was held 2 ms keeps its place, marked, and leaves if its port may transmit. -/
theorem holdTimeout_alarm (h : Hw) (n : Fin 2) (f : Frame) (t : List Frame) (hl : h.live .net = true)
    (hs : h.clk.settled = false) (hq : (h.netPort n).qAlarm = f :: t) (ho : f.op ≠ .none) (hc : f.carry = .alarm)
    (hh : f.held = false) (g : Hw)
    (hg : g = ((h.setPort n { h.netPort n with qAlarm := { f with held := true } :: t }).count R.TSI_HOLDUNK).raise 0x33 1) :
    h.holdTimeout n true =
      if h.txOn n = true then (g.popQueue n 0).transmit n { f with held := true } else g := by
  have ht : g.txOn n = h.txOn n := by
    rw [hg]
    exact txOn_hold h n _ rfl
  unfold holdTimeout
  simp only [if_true]
  rw [hq]
  dsimp only
  rw [if_neg (by simp [Frame.holds, hs, hh, hl, ho]), if_neg (by rw [hc]; decide), ← ht, hg]

/-! ### The switch (R392, R393) -/

/-- A group address has bit 40, and so have the link-local ones, the broadcast address and the one of PTP. -/
theorem not_group {dst : BitVec 48} (hd : dst.getLsbD 40 = false) :
    dst >>> 4 ≠ 0x0180C200000#48 ∧ dst ≠ macBroadcast ∧ dst ≠ macPtp := by
  refine ⟨fun e => ?_, ?_, ?_⟩
  · have := congrArg (fun x : BitVec 48 => x.getLsbD 36) e
    have hbit : dst.getLsbD 40 = true := by simpa using this
    exact absurd (hd.symm.trans hbit) (by decide)
  · rintro rfl; exact absurd hd (by decide)
  · rintro rfl; exact absurd hd (by decide)

/-- Link-local addresses stay at the endpoint. -/
theorem route_linkLocal (h : Hw) (n : Fin 2) (f : Frame) (hd : f.dst >>> 4 = 0x0180C200000#48) :
    h.route n f = (true, false) := by
  simp only [route, hd, if_true]

/-- The bit that enables forwarding rules every row that forwards. -/
theorem route_noForward (h : Hw) (n : Fin 2) (f : Frame) (hb : h.b R.SWITCH_FWD 0 = false) : (h.route n f).2 = false := by
  unfold route
  extract_lets u
  split_ifs <;> simp only [hb]

/-- The endpoint's own address is never forwarded. -/
theorem route_own (h : Hw) (n : Fin 2) (f : Frame) (hd : f.dst = h.ownMac) (hl : f.dst >>> 4 ≠ 0x0180C200000#48) :
    (h.route n f).2 = false := by
  unfold route
  extract_lets u
  rw [if_neg hl, if_pos hd]
  split <;> rfl

/-- A tagged frame reaches the endpoint by the two link-local rows alone. -/
theorem route_delivered (h : Hw) (n : Fin 2) (f : Frame) (hr : (h.route n f).1 = true) :
    f.tagged = false ∨ f.dst >>> 4 = 0x0180C200000#48 ∨ f.dstIp = 0xE000006B := by
  unfold route at hr
  extract_lets u at hr
  split_ifs at hr with h1 h2 h3 h4 h5 h6
  · exact .inr (.inl h1)
  · exact .inr (.inr (by simpa using (Bool.and_eq_true_iff.1 h2).2))
  · exact .inl (by simpa using hr)
  · exact .inl (by simpa using hr)

/-- A frame toward an address learned at its own port goes nowhere (R393). -/
theorem route_learned (h : Hw) (n : Fin 2) (f : Frame) (hd : f.dst.getLsbD 40 = false) (ho : f.dst ≠ h.ownMac)
    (h1 : f.udp ≠ 319) (h2 : f.udp ≠ 320) (hl : h.net.learned.any (fun l => l.mac == f.dst && l.port == n.val + 1) = true) :
    h.route n f = (false, false) := by
  obtain ⟨hg, hb, hp⟩ := not_group hd
  have hu : (decide (f.etype = 0x0800) && decide (f.proto = 17) && (decide (f.udp = 319) || decide (f.udp = 320)) &&
      !f.opts) = false := by simp [h1, h2]
  unfold route
  simp only [hu, Bool.false_and, Bool.or_false]
  rw [if_neg hg, if_neg (by decide), if_neg ho, if_neg (by simp only [hb, hp, decide_false]; decide),
    if_neg (by rw [hd]; decide), if_pos hl]

end Hw

/-- Settles O50: what a port takes in by `frameReceive_good` and `frameReceive_bad`, what leaves it by `nextFrame_some` and
`transmit_spec`, its link by `linkSet_spec`, the hold rule by `holdTimeout_plain` and `holdTimeout_alarm`, the switch by the
lemmas on `route`. -/
theorem netPortsReceiveQueueAndSend : Obligations.NetPortsReceiveQueueAndSend := by
  refine ⟨fun s n => ⟨fun f hl he => ⟨fun hb => ?_, fun hg h1 h2 hr => ?_, fun hg h1 h2 hr => ?_⟩,
    fun htx => ⟨fun k f hn => ?_, fun hn => ?_⟩, fun up hl hc hb => ⟨fun hup => ?_, fun hup => ?_⟩, fun mac => rfl,
    fun hl hs => ⟨fun f t hq ho hc hh => ?_, fun f t hq ho hc hh g hg => ⟨fun htx => ?_, fun htx => ?_⟩⟩⟩,
    fun h n f => ⟨?_, ?_, ?_, ?_, ?_, ?_, ?_⟩⟩
  · refine done_congr ?_
    rw [Hw.frameIn, if_neg (by simp [Hw.isRa, Hw.frameTaken_bad _ _ _ hb]), Hw.frameReceive_bad _ _ _ hl he hb]
  · exact done_congr (by rw [Hw.frameIn, if_pos hr])
  · refine ⟨_, done_congr (by rw [Hw.frameIn, if_neg (by simp [hr])]), ?_, ?_⟩
    · rw [Hw.frameReceive_good _ _ _ hl he hg h1 h2 _ (Hw.isRxCount_ok n)]
      exact Hw.reg_setReg_same _ _ _
    · rw [Hw.frameReceive_good _ _ _ hl he hg h1 h2 _ (Hw.isRxCount_err n)]
      exact Hw.reg_setReg_ne _ _ _ _ (by rw [R.MAC_RXERR, R.MAC_RXOK]; omega)
  · obtain ⟨hok, hw, hsent⟩ := Hw.transmit_spec (s.hw.popQueue n k) n f
    have hq := Hw.waiting_popQueue hn
    refine ⟨_, done_congr (by simp only [Hw.frameDepart, htx, hn]; rfl), rfl, hok, ?_, fun hpads => hsent hpads⟩
    unfold Hw.waiting at hw hq
    omega
  · exact done_congr (by simp only [Hw.frameDepart, htx, hn]; rfl)
  · exact done_congr (by simp only [Hw.linkPoll, hl, hc, hb, Hw.linkSet, hup]; simp)
  · exact ⟨_, done_congr (by simp only [Hw.linkPoll, hl, hc, hb]; rfl), Hw.linkSet_spec s.hw n up hl hup⟩
  · exact done_congr (Hw.holdTimeout_plain s.hw n f t hl hs hq ho hc hh)
  · exact done_congr (by rw [Hw.holdTimeout_alarm s.hw n f t hl hs hq ho hc hh g hg, if_neg (by simp [htx])])
  · exact done_congr (by rw [Hw.holdTimeout_alarm s.hw n f t hl hs hq ho hc hh g hg, if_pos htx])
  · exact Hw.enqueue_netPort_ne _ _ _ _ _ (Hw.other_ne n).symm
  · exact Hw.route_noForward h n f
  · exact Hw.route_linkLocal h n f
  · exact Hw.route_own h n f
  · exact Hw.route_delivered h n f
  · exact Hw.route_learned h n f
  · intro k g hn
    obtain ⟨hm, hcase⟩ := Hw.nextFrame_some hn
    refine ⟨hm, ?_⟩
    rcases hcase with ⟨rfl, hq⟩ | ⟨rfl, hq, ha⟩ | ⟨rfl, hq, ha, he⟩
    · exact ⟨fun _ => hq, fun e => absurd e (by decide), fun e => absurd e (by decide)⟩
    · exact ⟨fun e => absurd e (by decide), fun _ => ⟨hq, ha⟩, fun e => absurd e (by decide)⟩
    · exact ⟨fun e => absurd e (by decide), fun e => absurd e (by decide), fun _ => ⟨hq, ha, he⟩⟩

end Sys2Proof.Machine

/-! ## Proofs: what follows a command leaves one register and the analog front end -/

namespace Sys2Proof.Machine
namespace Hw

/-- What no consumer of a pulse and no settling of the pins reaches: the register SOLID of the gang (R464) and the analog
front end with its self-test run (R212). -/
def apart (h : Hw) : Word × Afe := (h.reg R.GANG_SOLID, h.afe)

/-! ### The smallest operations -/

theorem setReg_apart (h : Hw) (a : Nat) (v : Word) (ha : a ≠ R.GANG_SOLID) : (h.setReg a v).apart = h.apart :=
  congrArg (·, h.afe) (reg_setReg_ne h a R.GANG_SOLID v ha.symm)

theorem countBy_apart (h : Hw) (a n : Nat) (ha : a ≠ R.GANG_SOLID) : (h.countBy a n).apart = h.apart :=
  setReg_apart h a _ ha

theorem raise_apart (h : Hw) (pg bit : Nat) : (h.raise pg bit).apart = h.apart := by
  have ha : pg * 256 + 4 ≠ R.GANG_SOLID := by rw [R.GANG_SOLID]; omega
  unfold raise
  split
  · exact setReg_apart h _ _ ha
  · rfl

/-- What both branches leave, the choice between them leaves. -/
theorem ite_apart {c : Prop} [Decidable c] {x y : Hw} {v : Word × Afe} (hx : x.apart = v) (hy : y.apart = v) :
    (if c then x else y).apart = v := by
  split
  · exact hx
  · exact hy

theorem raiseIf_apart (h : Hw) (c : Bool) (pg bit : Nat) : (h.raiseIf c pg bit).apart = h.apart :=
  ite_apart (raise_apart h pg bit) rfl

theorem bufFlag_apart (h : Hw) (bit : Nat) : (h.bufFlag bit).apart = h.apart := raise_apart _ _ _

theorem event_apart (h : Hw) (e : Nat) : (h.event e).apart = h.apart := by rw [event_eq]; rfl

theorem diaryAdd_apart (h : Hw) (src : Nat) (x y : Word) : (h.diaryAdd src x y).apart = h.apart :=
  Prod.ext (reg_diaryAdd_ne h src x y _ (by decide) (by decide)) (by rw [apart, diaryAdd_eq]; rfl)

theorem setIntPin_apart (h : Hw) (k : Nat) (p : IntPin) : (h.setIntPin k p).apart = h.apart := ite_apart rfl rfl

/-! ### The buffer writer (R335, R342, R346) -/

theorem snapStep_apart (h : Hw) : h.snapStep.apart = h.apart := by
  unfold snapStep
  refine ite_apart rfl (ite_apart ?_ rfl)
  rw [event_apart, bufFlag_apart]; rfl

/-- An overrun of a port is counted at one of the counters of BUF and flagged. -/
theorem countOverrun_apart (g : Hw) (n a bit : Nat) (ha : a ≠ R.GANG_SOLID) :
    (if n = 0 then g else (g.countBy a n).bufFlag bit).apart = g.apart :=
  ite_apart rfl ((bufFlag_apart _ _).trans (countBy_apart g a n ha))

theorem overrunPorts_apart (h : Hw) : h.overrunPorts.apart = h.apart := by
  -- As in `overrunPorts_still`: the overruns are generalized before the kernel could evaluate `wp - bufCap`.
  rw [show overrunPorts = _ by delta overrunPorts; rfl]
  generalize h.overrun h.buf.portA = x
  generalize h.overrun h.buf.portB = y
  obtain ⟨a, pa⟩ := x
  obtain ⟨b, pb⟩ := y
  exact (countOverrun_apart _ _ _ _ (by decide)).trans
    (countOverrun_apart { h with buf := { h.buf with portA := pa, portB := pb } } _ _ _ (by decide))

theorem dropRecord_apart (h : Hw) : h.dropRecord.apart = h.apart :=
  (bufFlag_apart _ _).trans (countBy_apart _ _ _ (by decide))

theorem putRecord_apart (h : Hw) (d : Draft) : (h.putRecord d).apart = h.apart := by
  unfold putRecord
  extract_lets _ _ _ _ _ _ h1
  have e1 : h1.apart = h.apart := rfl
  clear_value h1
  exact ite_apart ((overrunPorts_apart h1).trans e1) e1

theorem writeRecord_apart (h : Hw) (d : Draft) : (h.writeRecord d).apart = h.apart :=
  ite_apart rfl (ite_apart (dropRecord_apart h) ((snapStep_apart _).trans (putRecord_apart h d)))

theorem watermarks_apart (h : Hw) (x y : Nat) : (h.watermarks x y).apart = h.apart := by
  unfold watermarks
  extract_lets _ _ _ h1
  have e1 : h1.apart = h.apart := (raiseIf_apart _ _ _ _).trans (raiseIf_apart _ _ _ _)
  exact ite_apart ((event_apart _ _).trans e1) e1

theorem markIn_apart (h : Hw) (m : Mark) : (h.markIn m).apart = h.apart :=
  ite_apart rfl ((bufFlag_apart _ _).trans (countBy_apart _ _ _ (by decide)))

theorem markOut_apart (h : Hw) : h.markOut.apart = h.apart := by
  unfold markOut
  split
  · rfl
  · extract_lets _ lead _ h1 h2 h3 _ h4 _ h5
    have e2 : h2.apart = h.apart := foldl_keeps apart _ writeRecord_apart lead h1
    have e4 : h4.apart = h.apart := (writeRecord_apart h2 _).trans e2
    have e5 : h5.apart = h.apart := ite_apart ((snapStep_apart _).trans e4) e4
    exact (watermarks_apart _ _ _).trans e5

theorem snapTrigger_apart (h : Hw) (e : Nat) : (h.snapTrigger e).apart = h.apart := by
  unfold snapTrigger
  extract_lets _ _ h1 h2
  have e2 : h2.apart = h.apart := markIn_apart h1 _
  exact ite_apart rfl (ite_apart ((snapStep_apart h2).trans e2) e2)

theorem bufEvents_apart (h : Hw) (r : BitVec 64) : (h.bufEvents r).apart = h.apart := by
  unfold bufEvents
  extract_lets _ h0 _ _ _ h1 h2 _
  have e0 : h0.apart = h.apart := ite_apart rfl rfl
  have e1 : h1.apart = h0.apart := foldl_keeps apart _
    (fun g e => ite_apart (snapTrigger_apart g e) (ite_apart (markIn_apart _ _) rfl)) _ _
  have e2 : h2.apart = h.apart := (markOut_apart h1).trans (e1.trans e0)
  exact ite_apart e0 e2

theorem takeB_apart (n : Nat) (h : Hw) : (takeB n h).2.apart = h.apart := by
  induction n generalizing h with
  | zero => rfl
  | succ n ih =>
    unfold takeB
    split
    · rfl
    · exact ih _

theorem strmCollect_apart (h : Hw) : h.strmCollect.apart = h.apart := ite_apart (takeB_apart _ h) rfl

/-! ### A cycle of the fabric (R281, R310, R505, R510) -/

theorem reflexFire_apart (h : Hw) (typ ev t : Nat) : (h.reflexFire typ ev t).apart = h.apart := by
  refine ite_apart ((raise_apart _ _ _).trans (countBy_apart _ _ _ (by decide))) ?_
  unfold setLatch
  split
  · rfl
  · extract_lets _ h1 h2
    have e2 : h2.apart = h.apart := diaryAdd_apart h1 _ _ _
    exact ite_apart ((event_apart _ _).trans ((raise_apart h2 _ _).trans e2)) e2

theorem irqEvents_apart (h : Hw) (r : BitVec 64) : (h.irqEvents r).apart = h.apart :=
  ite_apart rfl ((raise_apart _ _ _).trans (foldl_keeps_of_mem apart _ _
    (fun g i hi => setReg_apart g _ _ (by have := List.mem_range.1 hi; rw [R.GANG_SOLID, R.IRQ_EVF0]; omega)) _))

theorem diaryEvents_apart (h : Hw) (r : BitVec 64) : (h.diaryEvents r).apart = h.apart :=
  ite_apart rfl (foldl_keeps apart _ (fun _ _ => diaryAdd_apart _ _ _ _) _ _)

theorem fabricRun_apart (n : Nat) (h : Hw) : (fabricRun n h).apart = h.apart := by
  induction n generalizing h with
  | zero => rfl
  | succ n ih =>
    refine (ih _).trans ?_
    unfold fabricCycle
    extract_lets r h1
    refine ite_apart rfl ?_
    have em (g : Hw) : (g.matrix r).apart = g.apart := ite_apart rfl (reflexFire_apart g _ _ _)
    rw [bufEvents_apart, diaryEvents_apart, irqEvents_apart, em]
    rfl

/-! ### Requests to the gang engine and to NET (R289, R466) -/

theorem gangWakeRequest_apart (h : Hw) : h.gangWakeRequest.apart = h.apart := by
  have send (g : Hw) (typ : Nat) (p : List Byte) : (g.gangSendAll typ g.known p).apart = g.apart :=
    foldl_keeps apart (fun g k => g.gangSend typ k p) (fun _ _ => rfl) _ g
  exact ite_apart ((raise_apart _ _ _).trans (send h _ _)) (ite_apart ((raise_apart _ _ _).trans (send h _ _)) rfl)

theorem sendWake_apart (h : Hw) : h.sendWake.apart = h.apart := ite_apart (gangWakeRequest_apart _) rfl

theorem sendAlarm_apart (h : Hw) : h.sendAlarm.apart = h.apart := by
  have enqueue (g : Hw) (n : Fin 2) (f : Frame) : (g.enqueueAlarm n f).apart = g.apart := by
    unfold enqueueAlarm
    extract_lets p q
    have ha : R.MAC_ALMOVR n ≠ R.GANG_SOLID := by rw [R.MAC_ALMOVR, R.GANG_SOLID]; omega
    exact ite_apart (ite_apart rfl ((raise_apart _ _ _).trans (countBy_apart _ _ _ ha))) rfl
  unfold sendAlarm
  split
  · rfl
  · unfold alarmRequest
    extract_lets aseq h1 f
    have e1 : h1.apart = h.apart := setReg_apart _ _ _ (by decide)
    exact ite_apart ((raise_apart _ _ _).trans (countBy_apart _ _ _ (by decide)))
      (ite_apart ((foldl_keeps apart _ (fun g n => ite_apart (enqueue g n f) rfl) _ h1).trans e1) e1)

/-! ### The stages of `settle` -/

theorem settleInt_apart (h : Hw) (k : Nat) : (h.settleInt k).apart = h.apart := by
  unfold settleInt
  extract_lets a g
  exact (setIntPin_apart g k _).trans (ite_apart (setIntPin_apart h k _) rfl)

/-- But for a proof run, which may abort a self-test run (R216, R555), what follows a command leaves both. -/
theorem settle_apart (h : Hw) : h.settle.apart = h.sendWake.proofCheck.apart := by
  have pins (g : Hw) : g.settlePins.apart = g.apart := by
    unfold settlePins
    extract_lets c
    exact raiseIf_apart g _ _ _
  have xok (g : Hw) : g.settleXok.apart = g.apart := ite_apart rfl rfl
  have opposite (g : Hw) : g.settleOpposite.apart = g.apart := ite_apart rfl rfl
  have warm (g : Hw) : g.settleWarm.apart = g.apart := by
    unfold settleWarm
    extract_lets _ _ k
    exact ite_apart (raise_apart k _ _) rfl
  calc h.settle.apart = _ := settleInt_apart _ 1
    _ = _ := settleInt_apart _ 0
    _ = _ := warm _
    _ = _ := opposite _
    _ = _ := xok _
    _ = _ := pins _
    _ = _ := sendAlarm_apart _
    _ = _ := fabricRun_apart 24 _
    _ = _ := strmCollect_apart _

end Hw
end Sys2Proof.Machine

/-! ## Proofs: SOLID after a proposal (O53) -/

namespace Sys2Proof.Machine
namespace Hw

/-! ### A proof run leaves SOLID (R464, R553) -/

/-- What leaves `apart` leaves SOLID. -/
theorem solid_of_apart {h g : Hw} (e : g.apart = h.apart) : g.reg R.GANG_SOLID = h.reg R.GANG_SOLID := congrArg Prod.fst e

theorem solid_setResult (h : Hw) (k v : Nat) : (h.setResult k v).reg R.GANG_SOLID = h.reg R.GANG_SOLID := by
  unfold setResult
  extract_lets i a
  refine reg_setReg_ne _ _ _ _ ?_
  unfold a
  split <;> decide

theorem solid_stAbort (h : Hw) : h.stAbort.reg R.GANG_SOLID = h.reg R.GANG_SOLID := by
  unfold stAbort
  split <;> rfl

theorem solid_stStart (h : Hw) (v : Word) : (h.stStart v).reg R.GANG_SOLID = h.reg R.GANG_SOLID := by
  unfold stStart
  split
  · rfl
  · extract_lets gyr h1
    split
    · exact solid_of_apart (raise_apart _ _ _)
    · exact reg_setReg_ne h R.AFE_STSTAT R.GANG_SOLID 0 (by decide)

theorem solid_recInit (h : Hw) : h.recInit.reg R.GANG_SOLID = h.reg R.GANG_SOLID := rfl

theorem solid_emptyAll (h : Hw) : h.emptyAll.reg R.GANG_SOLID = h.reg R.GANG_SOLID := rfl

theorem solid_draftEnd (h : Hw) : h.draftEnd.reg R.GANG_SOLID = h.reg R.GANG_SOLID := by
  unfold draftEnd
  split
  · rfl
  · extract_lets _ h1 h2 _ g _
    have e1 : h1.reg R.GANG_SOLID = h.reg R.GANG_SOLID :=
      congrArg Prod.fst (raise_apart { h with pwr := { h.pwr with draft := false } } 1 9)
    have e2 : h2.reg R.GANG_SOLID = h.reg R.GANG_SOLID :=
      (solid_of_apart (ite_apart (diaryAdd_apart h1 _ _ _) rfl)).trans e1
    clear_value h2
    have eg : g.reg R.GANG_SOLID = h.reg R.GANG_SOLID := (solid_recInit _).trans ((solid_emptyAll _).trans e2)
    clear_value g
    split
    · exact eg
    · exact e2

theorem solid_proofEnd (h : Hw) : h.proofEnd.reg R.GANG_SOLID = h.reg R.GANG_SOLID := by
  unfold proofEnd
  extract_lets quick h1 h2 _ h3
  have e3 : h3.reg R.GANG_SOLID = h.reg R.GANG_SOLID :=
    solid_of_apart ((raiseIf_apart _ _ _ _).trans ((raiseIf_apart _ _ _ _).trans
      ((raiseIf_apart _ _ _ _).trans (raise_apart h _ _))))
  clear_value h3
  split
  · exact (solid_draftEnd h3).trans e3
  · exact e3

theorem solid_proofNext (n : Nat) (h : Hw) : (proofNext n h).reg R.GANG_SOLID = h.reg R.GANG_SOLID := by
  induction n generalizing h with
  | zero => exact solid_proofEnd h
  | succ n ih =>
    unfold proofNext
    split
    · exact solid_proofEnd h
    · extract_lets _ h1 busy h2
      have e1 : h1.reg R.GANG_SOLID = h.reg R.GANG_SOLID := rfl
      have e2 : h2.reg R.GANG_SOLID = h.reg R.GANG_SOLID := (solid_stStart h1 _).trans e1
      have next (g : Hw) (k v : Nat) (e : g.reg R.GANG_SOLID = h.reg R.GANG_SOLID) :
          (proofNext n (g.setResult k v)).reg R.GANG_SOLID = h.reg R.GANG_SOLID :=
        (ih _).trans ((solid_setResult g k v).trans e)
      split
      · exact next h1 _ 4 e1
      · split
        · exact next h1 _ 3 e1
        · split
          · split
            · exact e2
            · exact next h2 8 7 e2
          · exact e1

theorem solid_sliceStop (h : Hw) (v : Nat) : (h.sliceStop v).reg R.GANG_SOLID = h.reg R.GANG_SOLID := by
  unfold sliceStop
  extract_lets k h1
  have e1 : h1.reg R.GANG_SOLID = h.reg R.GANG_SOLID := by
    unfold h1
    split
    · exact solid_stAbort h
    · rfl
  exact (solid_proofNext 9 _).trans ((solid_setResult h1 _ _).trans e1)

theorem solid_proofCheck (h : Hw) : h.proofCheck.reg R.GANG_SOLID = h.reg R.GANG_SOLID := by
  unfold proofCheck
  split
  · rfl
  · split
    · exact solid_sliceStop h 4
    · split
      · exact solid_sliceStop h 3
      · rfl

/-- What follows a command leaves SOLID. -/
theorem solid_settle (h : Hw) : h.settle.reg R.GANG_SOLID = h.reg R.GANG_SOLID :=
  (solid_of_apart (settle_apart h)).trans ((solid_proofCheck _).trans (solid_of_apart (sendWake_apart h)))

/-! ### A proposal after a rejected one -/

/-- A leader in CONCORD with full service, whose last request was rejected with WHY 1. -/
def whyLeader : Hw :=
  let h := Hw.start Nvs.shipped .v33 34000 0 0
  { h with
    regs := [(R.GANG_CTRL, 1), (R.GANG_SOLCFG, 0x8000), (R.GANG_SOLID, 0x0100)]
    pwr := { h.pwr with vigilUp := true, draft := false }
    gang := { h.gang with leader := some 0, st := .concord, backoff := false } }

end Hw

/-- A command that ends with its effect `g` has no other outcome: what follows `g'` is what follows `g`. -/
theorem settle_of_done {s : State} {g g' : Hw} (e : done s g = .next (s.after g')) : g.settle = g'.settle :=
  congrArg State.hw (Host.Outcome.next.inj (done_eq s g ▸ e))

theorem exec_solreq (p : Party) (v : Word) (s : State) : exec (.solreq p v) s = done s (s.hw.ctrlRow p 0x3A v 8) := rfl

/-- Refutes O53: an accepted SOLREQ writes the number of the proposal and leaves the WHY of an earlier rejected one (bits
11:8) in SOLID, which so reads 0x0101 and not 0x0001. -/
theorem not_gangSolsticeTimeCheckAndRelay : ¬ Obligations.GangSolsticeTimeCheckAndRelay := by
  intro h
  have hs : Hw.whyLeader.vigil = true ∧ Hw.whyLeader.partyUp .spi = true ∧ Hw.whyLeader.locked 0x3A = false ∧
      Hw.whyLeader.enabled 0x3A = true ∧ Hw.whyLeader.isStopping 0x3A = false ∧ Hw.whyLeader.solWhy = none := by
    decide +kernel
  obtain ⟨hv, hp, hl, he, hst, hw⟩ := hs
  obtain ⟨hsol, -⟩ := h { State.reset with hw := Hw.whyLeader } hv
  obtain ⟨-, hnone⟩ := hsol .spi 1 hp hl he hst (by decide)
  obtain ⟨g, hexec, -, hreg, -⟩ := hnone hw
  have hsame : (Hw.whyLeader.ctrlRow .spi 0x3A 1 8).settle = g.settle :=
    settle_of_done (exec_solreq .spi 1 _ ▸ hexec)
  have hboth : (Hw.whyLeader.ctrlRow .spi 0x3A 1 8).reg R.GANG_SOLID = g.reg R.GANG_SOLID := by
    rw [← Hw.solid_settle, hsame, Hw.solid_settle]
  have hran : (Hw.whyLeader.ctrlRow .spi 0x3A 1 8).reg R.GANG_SOLID = 0x0101 := by decide +kernel
  have hid : Hw.whyLeader.f R.GANG_SOLID 7 0 = 0 := by decide +kernel
  rw [hran, hreg, hid] at hboth
  exact absurd hboth (by decide)

end Sys2Proof.Machine

/-! ## Proofs: a write to EN of AFE during a self-test (O18) -/

namespace Sys2Proof.Machine
namespace Hw

theorem gangSendAll_proof (h : Hw) (typ : Nat) (dsts : List Nat) (p : List Byte) :
    (h.gangSendAll typ dsts p).proof = h.proof :=
  foldl_keeps Hw.proof (fun g k => g.gangSend typ k p) (fun _ _ => rfl) dsts h

theorem sendWake_proof (h : Hw) : h.sendWake.proof = h.proof := by
  unfold sendWake
  split
  · unfold gangWakeRequest
    split
    · exact (raise_proof _ _ _).trans (gangSendAll_proof _ _ _ _)
    · split
      · exact (raise_proof _ _ _).trans (gangSendAll_proof _ _ _ _)
      · rfl
  · rfl

/-- Without a proof run, what follows a command leaves the analog front end. -/
theorem settle_afe (h : Hw) (hp : h.proof.active = false) : h.settle.afe = h.afe := by
  have hcheck : h.sendWake.proofCheck = h.sendWake := by simp [proofCheck, sendWake_proof, hp]
  have e : h.settle.apart = h.apart := by rw [settle_apart, hcheck, sendWake_apart]
  exact congrArg Prod.snd e

/-- SENSE is powered, AFE is enabled and a self-test run is in its first phase (R213). -/
def selfTesting : Hw :=
  let h := Hw.start Nvs.shipped .v33 34000 0 0
  { h with
    regs := [(R.AFE_CTRL, 1)]
    pwr := { h.pwr with vigilUp := true, time := .on, sense := .on }
    afe := { h.afe with st := { h.afe.st with phase := 1, abortDue := false } } }

end Hw

theorem exec_blockEnableWrite (p : Party) (pg : BitVec 8) (on : Bool) (s : State) :
    exec (.blockEnableWrite p pg on) s = done s (s.hw.writeRow p (pg.toNat * 256 + 2) (if on then 1 else 0)) := rfl

/-- Refutes O18: EN of AFE is written with the value that it holds while a self-test runs. The write aborts the run (R216),
so it changes more than registers and latched enables. -/
theorem not_enableStopAndBlockReset : ¬ Obligations.EnableStopAndBlockReset := by
  intro h
  obtain ⟨hen, -⟩ := h
  obtain ⟨hwrite, -⟩ := hen { State.reset with hw := Hw.selfTesting } 0x10 .afe rfl rfl
  have hacc : Hw.selfTesting.accepts .spi (0x10 * 256 + 2) 1 := by unfold Hw.accepts; decide +kernel
  have hs : Hw.selfTesting.isStopping 0x10 = false ∧ Hw.selfTesting.enabled 0x10 = true ∧
      Hw.selfTesting.proof.active = false ∧ Hw.selfTesting.afe.st.abortDue = false := by decide +kernel
  have hran : (Hw.selfTesting.writeRow .spi (0x10 * 256 + 2) 1).afe.st.abortDue = true ∧
      (Hw.selfTesting.writeRow .spi (0x10 * 256 + 2) 1).proof.active = false := by decide +kernel
  obtain ⟨hst, he, hp, hno⟩ := hs
  obtain ⟨habort, hp'⟩ := hran
  obtain ⟨g, hexec, -, -, hkeep, -⟩ := hwrite .spi true hacc
  have hg : g = { Hw.selfTesting with regs := g.regs, pendEn := g.pendEn } := hkeep (by decide) hst he
  have hafe : g.afe = Hw.selfTesting.afe := by rw [hg]
  have hpg : g.proof.active = false := by rw [hg]; exact hp
  have hsame : (Hw.selfTesting.writeRow .spi (0x10 * 256 + 2) 1).settle = g.settle :=
    settle_of_done (exec_blockEnableWrite .spi 0x10 true _ ▸ hexec)
  have hboth : (Hw.selfTesting.writeRow .spi (0x10 * 256 + 2) 1).afe = g.afe := by
    rw [← Hw.settle_afe _ hp', hsame, Hw.settle_afe _ hpg]
  rw [hboth, hafe, hno] at habort
  exact Bool.noConfusion habort

end Sys2Proof.Machine

/-! ## Proofs: interrupt pins and the diary (O56) -/

namespace Sys2Proof.Machine

/-- Bit `i` of a field is bit `lo + i` of its word. -/
theorem testBit_fld (w : Word) (hi lo i : Nat) (h : i < hi + 1 - lo) : (fld w hi lo).testBit i = w.getLsbD (lo + i) := by
  rw [fld, Nat.testBit_mod_two_pow, Nat.testBit_div_two_pow, BitVec.getLsbD]
  simp [h, Nat.add_comm]

/-- The low `n + 1` bits of a field are a field. -/
theorem fld_mod (w : Word) (hi lo n : Nat) (h : lo + n ≤ hi) : fld w hi lo % 2 ^ (n + 1) = fld w (lo + n) lo := by
  have e : lo + n + 1 - lo = n + 1 := by omega
  rw [fld, fld, e, Nat.mod_mod_of_dvd _ (Nat.pow_dvd_pow 2 (by omega))]

/-- An access that is not one of an Etcher to its own pages is not barred (R315). -/
theorem etchBarred_none (p : Party) (a : Nat) (ha : Hw.etchForbidden a = false) : Hw.etchBarred p a = none := by
  cases p with
  | etch n => simp [Hw.etchBarred, ha]
  | spi | twi0 | core | remote => rfl

namespace Hw

/-! ### The aggregates (R502, R503) -/

theorem aggregate_iff (h : Hw) (k : Nat) : h.aggregate k = true ↔
    ∃ pg ∈ allPages, h.pageUp pg = true ∧ h.reg (pg * 256 + 4) &&& h.reg (pg * 256 + 5 + k) ≠ 0 := by
  simp [aggregate, pending]

/-- The first pending page is an assigned one, or 0xFF says that there is none (R503). -/
theorem aggregate_false_iff (h : Hw) (k : Nat) : h.aggregate k = false ↔ h.firstPage k = 0xFF := by
  unfold firstPage
  cases hf : allPages.find? (h.pending k) with
  | none =>
    have hall : h.aggregate k = false := List.any_eq_false.2 fun pg hpg => by simpa using List.find?_eq_none.1 hf pg hpg
    simp [hall]
  | some pg =>
    have hmem : pg ∈ allPages := List.mem_of_find?_eq_some hf
    have hne : pg ≠ 0xFF := by
      rintro rfl
      exact absurd hmem (by decide)
    have hany : h.aggregate k = true := List.any_eq_true.2 ⟨pg, hmem, List.find?_some hf⟩
    simp [hany, hne]

/-! ### The pins (R506 to R508) -/

theorem intEn_eq (h : Hw) (k : Fin 2) : h.intEn k = (h.reg R.IRQ_CFG).getLsbD (8 * k + 7) :=
  testBit_fld _ _ _ _ (by omega)

theorem intPulse_eq (h : Hw) (k : Fin 2) : h.intPulse k = (h.reg R.IRQ_CFG).getLsbD (8 * k + 4) :=
  testBit_fld _ _ _ _ (by omega)

/-- PW is the low half of the pin's byte. -/
theorem intCfg_mod (h : Hw) (k : Fin 2) : h.intCfg k % 16 = h.f R.IRQ_CFG (8 * k + 3) (8 * k) :=
  fld_mod _ _ _ 3 (by omega)

theorem intStart_eq (h : Hw) (k : Fin 2) : h.intStart k = h.setIntPin k { h.intPin k with
    pulse := true, stop := h.now + 1 + 8 * (h.f R.IRQ_CFG (8 * k + 3) (8 * k) + 1) } := by
  rw [intStart, intCfg_mod]

theorem intPin_setIntPin_same (h : Hw) (k : Nat) (p : IntPin) : (h.setIntPin k p).intPin k = p := by
  unfold setIntPin intPin
  split <;> rfl

theorem reg_setIntPin (h : Hw) (k a : Nat) (p : IntPin) : (h.setIntPin k p).reg a = h.reg a := by
  unfold setIntPin
  split <;> rfl

/-- The pin is enabled in pulse mode. -/
def pulses (h : Hw) (k : Nat) : Bool := h.intEn k && h.intPulse k

/-- What settling makes of a pin: it takes the aggregate, and a rise in pulse mode starts a pulse (R507, R508). -/
theorem settleInt_spec (h : Hw) (k : Nat) : (h.settleInt k).reg R.IRQ_CFG = h.reg R.IRQ_CFG ∧
    ((h.settleInt k).intPin k).agg = h.aggregate k ∧
    ((h.settleInt k).intPin k).pulse =
      ((h.intPin k).pulse || (h.aggregate k && !(h.intPin k).agg && h.intEn k && h.intPulse k)) := by
  unfold settleInt
  extract_lets a g
  have eg : g.reg R.IRQ_CFG = h.reg R.IRQ_CFG := by
    unfold g
    split
    · exact reg_setIntPin _ _ _ _
    · rfl
  have hp : (g.intPin k).pulse =
      ((h.intPin k).pulse || (h.aggregate k && !(h.intPin k).agg && h.intEn k && h.intPulse k)) := by
    cases hc : a && !(h.intPin k).agg && h.intEn k && h.intPulse k with
    | false => rw [show g = h from if_neg (by rw [hc]; decide), Bool.or_false]
    | true =>
      rw [show g = h.intStart k from if_pos hc, intStart, intPin_setIntPin_same, Bool.or_true]
  refine ⟨(reg_setIntPin _ _ _ _).trans eg, by rw [intPin_setIntPin_same], ?_⟩
  rw [intPin_setIntPin_same]
  exact hp

theorem intActive_settleInt (h : Hw) (k : Nat) : (h.settleInt k).intActive k = (h.intEn k && (if h.intPulse k = true then
    (h.intPin k).pulse || (h.aggregate k && !(h.intPin k).agg) else h.aggregate k)) := by
  obtain ⟨hreg, hagg, hpulse⟩ := h.settleInt_spec k
  have hen : (h.settleInt k).intEn k = h.intEn k := by rw [intEn, intCfg, f, hreg]; rfl
  have hmode : (h.settleInt k).intPulse k = h.intPulse k := by rw [intPulse, intCfg, f, hreg]; rfl
  rw [intActive, hen, hmode, hagg, hpulse]
  cases h.intEn k with
  | false => rfl
  | true =>
    cases hm : h.intPulse k with
    | false => rfl
    | true => simp

/-! ### A write to IRQ.CFG (R506, R508) -/

/-- What a write to `IRQ.CFG` makes of a pin: `h` is what stood before it, `g` holds the new value. -/
def cfgPin (h g : Hw) (k : Nat) : IntPin :=
  if g.pulses k && !h.pulses k && h.aggregate k then
    { h.intPin k with pulse := true, stop := h.now + 1 + 8 * (g.intCfg k % 16 + 1) }
  else if !g.pulses k then { h.intPin k with pulse := false }
  else h.intPin k

/-- The write's step for one pin. -/
def cfgStep (h g f : Hw) (k : Nat) : Hw :=
  if g.pulses k && !h.pulses k && h.aggregate k then f.intStart k
  else if !g.pulses k then f.setIntPin k { f.intPin k with pulse := false }
  else f

theorem setIntPin_intPin (h : Hw) (k : Nat) : h.setIntPin k (h.intPin k) = h := by
  unfold setIntPin intPin
  split <;> rfl

theorem cfgStep_eq (h g f : Hw) (k : Nat) (hp : f.intPin k = h.intPin k) (hn : f.now = h.now)
    (hc : f.intCfg k = g.intCfg k) : cfgStep h g f k = f.setIntPin k (cfgPin h g k) := by
  unfold cfgStep cfgPin
  by_cases hon : (g.pulses k && !h.pulses k && h.aggregate k) = true
  · rw [if_pos hon, if_pos hon, intStart, hp, hn, hc]
  · rw [if_neg hon, if_neg hon]
    by_cases hoff : (!g.pulses k) = true
    · rw [if_pos hoff, if_pos hoff, hp]
    · rw [if_neg hoff, if_neg hoff, ← hp, setIntPin_intPin]

/-- The two pins are judged apart. -/
theorem irqCfgSet_eq (h : Hw) (v : Word) :
    h.irqCfgSet v = { h.setReg R.IRQ_CFG v with
      int0 := h.cfgPin (h.setReg R.IRQ_CFG v) 0, int1 := h.cfgPin (h.setReg R.IRQ_CFG v) 1 } := by
  have e0 := cfgStep_eq h (h.setReg R.IRQ_CFG v) (h.setReg R.IRQ_CFG v) 0 rfl rfl rfl
  have e1 (p : IntPin) := cfgStep_eq h (h.setReg R.IRQ_CFG v) { h.setReg R.IRQ_CFG v with int0 := p } 1 rfl rfl rfl
  calc h.irqCfgSet v = cfgStep h (h.setReg R.IRQ_CFG v) (cfgStep h (h.setReg R.IRQ_CFG v) (h.setReg R.IRQ_CFG v) 0) 1 := rfl
    _ = cfgStep h (h.setReg R.IRQ_CFG v)
          { h.setReg R.IRQ_CFG v with int0 := h.cfgPin (h.setReg R.IRQ_CFG v) 0 } 1 := by rw [e0]; rfl
    _ = _ := by rw [e1]; rfl

theorem intPin_irqCfgSet (h : Hw) (v : Word) (k : Fin 2) :
    (h.irqCfgSet v).intPin k = h.cfgPin (h.setReg R.IRQ_CFG v) k := by
  rw [irqCfgSet_eq]
  match k with
  | 0 => rfl
  | 1 => rfl

theorem reg_irqCfgSet (h : Hw) (v : Word) (a : Nat) : (h.irqCfgSet v).reg a = (h.setReg R.IRQ_CFG v).reg a := by
  rw [irqCfgSet_eq]
  rfl

/-- The mode that a write gives to a pin. -/
theorem pulses_setReg (h : Hw) (v : Word) (k : Fin 2) :
    (h.setReg R.IRQ_CFG v).pulses k = (v.getLsbD (8 * k + 7) && v.getLsbD (8 * k + 4)) := by
  rw [pulses, intEn_eq, intPulse_eq, reg_setReg_same]

/-- A write that puts a pending pin into pulse mode counts as a rise (R508). -/
theorem cfgPin_rise (h : Hw) (v : Word) (k : Fin 2) (h7 : v.getLsbD (8 * k + 7) = true) (h4 : v.getLsbD (8 * k + 4) = true)
    (hno : h.intEn k = false ∨ h.intPulse k = false) (hag : h.aggregate k = true) :
    h.cfgPin (h.setReg R.IRQ_CFG v) k =
      { h.intPin k with pulse := true, stop := h.now + 1 + 8 * (fld v (8 * k + 3) (8 * k) + 1) } := by
  have hoff : h.pulses k = false := by rcases hno with e | e <;> simp [pulses, e]
  rw [cfgPin, pulses_setReg, h7, h4, hoff, hag, intCfg_mod, f, reg_setReg_same]
  rfl

/-- A pin that a write leaves out of pulse mode ends its pulse. -/
theorem cfgPin_off (h : Hw) (v : Word) (k : Fin 2) (hno : v.getLsbD (8 * k + 7) = false ∨ v.getLsbD (8 * k + 4) = false) :
    h.cfgPin (h.setReg R.IRQ_CFG v) k = { h.intPin k with pulse := false } := by
  have hoff : (h.setReg R.IRQ_CFG v).pulses k = false := by rw [pulses_setReg]; rcases hno with e | e <;> simp [e]
  rw [cfgPin, hoff]
  rfl

/-- CTRL of the IRQ page has action bits alone (R508). -/
theorem ctrlWrite_irq (h : Hw) (v : Word) (hv : v.getLsbD 15 = false) : h.ctrlWrite 4 .irq v = h.ctrlActions 4 .irq v := by
  have hm : rwlMask (4 * 256 + 2) = 0 := by decide
  unfold ctrlWrite
  rw [hv]
  simp [hm, hasEnable]

/-- A write of 1 to EOIk (R508). -/
theorem ctrlRow_eoi (h : Hw) (p : Party) (k : Fin 2) (hp : h.partyUp p = true) (hv : h.vigil = true) :
    h.ctrlRow p 0x04 0 (if k = 0 then 2 else 4) = h.eoi k := by
  have hup : h.pageUp 4 = true := by simp [pageUp, kindOf, Kind.dom, up, domState, hv]
  have hb : etchBarred p (4 * 256 + 2) = none := etchBarred_none p _ (by decide)
  match k with
  | 0 =>
    rw [ctrlRow, writeRow_ctrl h p 4 _ .irq rfl hp hup hb, ctrlWrite_irq h _ (by decide)]
    rfl
  | 1 =>
    rw [ctrlRow, writeRow_ctrl h p 4 _ .irq rfl hp hup hb, ctrlWrite_irq h _ (by decide)]
    rfl

/-! ### Diary entries (R510 to R516) -/

/-- The entry that is written (R511, R512): without TIME it carries V time. -/
theorem diaryAdd_entry (h : Hw) (src : Nat) (arg arg2 : Word) :
    ∃ e, (h.diaryAdd src arg arg2).diary.entries =
        (if 256 ≤ h.diary.entries.length then h.diary.entries.drop 1 else h.diary.entries) ++ [e] ∧
      e.src = src ∧ e.num = h.diary.num ∧ e.arg = arg ∧ e.arg2 = arg2 ∧
      (h.up .time = false → e.coarse = true ∧ e.qual = 3 ∧ e.t0 = wd h.clk.vms ∧ e.t1 = 0 ∧
        e.t2 = wd h.clk.vsec.toNat ∧ e.t3 = wd (h.clk.vsec.toNat / 65536)) ∧
      (h.up .time = true → e.coarse = false ∧ e.qual = almQuality (h.almOf (h.f R.DIARY_CFG 1 0))) := by
  unfold diaryAdd
  extract_lets n ns e full before kept wm h1 h2
  have e2 : h2.diary = h1.diary := by
    unfold h2
    split
    · exact raise_diary _ _ _
    · rfl
  have hd : ((h2.raise 5 0).raiseIf (wm != 0 && decide (before < wm) && decide (wm ≤ before + 1) && !decide full) 5 1).diary =
      h1.diary := (raiseIf_diary _ _ _ _).trans ((raise_diary _ _ _).trans e2)
  refine ⟨e, congrArg Diary.entries hd, ?_⟩
  cases ht : h.up .time with
  | true =>
    rw [show e = _ from if_pos ht]
    exact ⟨rfl, rfl, rfl, rfl, fun hf => Bool.noConfusion hf, fun _ => ⟨rfl, rfl⟩⟩
  | false =>
    rw [show e = _ from if_neg (by rw [ht]; decide)]
    exact ⟨rfl, rfl, rfl, rfl, fun _ => ⟨rfl, rfl, rfl, rfl, rfl, rfl⟩, fun hf => Bool.noConfusion hf⟩

/-- NUM counts, and the flags and LOST tell of the new entry, of a lost one and of the rise past WM (R510, R514 to R516). -/
theorem diaryAdd_flags (h : Hw) (src : Nat) (arg arg2 : Word) (hv : h.vigil = true) :
    (h.diaryAdd src arg arg2).diary.num = h.diary.num + 1 ∧ (h.diaryAdd src arg arg2).b R.DIARY_IFLAG 0 = true ∧
    (256 ≤ h.diary.entries.length → (h.diaryAdd src arg arg2).b R.DIARY_IFLAG 2 = true ∧
      (h.diaryAdd src arg arg2).reg R.DIARY_LOST = wd (min 0xFFFF ((h.reg R.DIARY_LOST).toNat + 1))) ∧
    (h.diary.entries.length < 256 → (h.diaryAdd src arg arg2).reg R.DIARY_LOST = h.reg R.DIARY_LOST ∧
      (h.f R.DIARY_WM 8 0 ≠ 0 → h.diary.entries.length + 1 = h.f R.DIARY_WM 8 0 →
        (h.diaryAdd src arg arg2).b R.DIARY_IFLAG 1 = true)) := by
  have live (g : Hw) (hg : g.pwr = h.pwr) : g.pageLive 5 = true :=
    pageLive_of_vigil g 5 .diary rfl rfl ((vigil_of_pwr hg).trans hv)
  unfold diaryAdd
  extract_lets n ns e full before kept wm h1 h2
  have hp1 : h1.pwr = h.pwr := rfl
  have hreg1 : h1.reg R.DIARY_LOST = h.reg R.DIARY_LOST := rfl
  have hnum1 : h1.diary.num = h.diary.num + 1 := rfl
  clear_value h1
  have hp2 : h2.pwr = h.pwr := by
    unfold h2
    split
    · rw [raise_pwr]
      exact hp1
    · exact hp1
  have hnum2 : h2.diary.num = h1.diary.num := by
    unfold h2
    split
    · rw [raise_diary]
      rfl
    · rfl
  have hfull (hf : 256 ≤ h.diary.entries.length) : h2.b R.DIARY_IFLAG 2 = true ∧
      h2.reg R.DIARY_LOST = wd (min 0xFFFF ((h.reg R.DIARY_LOST).toNat + 1)) := by
    rw [show h2 = _ from if_pos hf]
    refine ⟨raise_b_same _ 5 2 (by decide) (live _ hp1), ?_⟩
    rw [reg_raise_ne _ _ _ _ (by decide), count, countBy, reg_setReg_same, hreg1]
  have hroom (hf : h.diary.entries.length < 256) : h2.reg R.DIARY_LOST = h.reg R.DIARY_LOST := by
    rw [show h2 = _ from if_neg (Nat.not_le.2 hf)]
    exact hreg1
  clear_value h2
  have hlost (c : Bool) : ((h2.raise 5 0).raiseIf c 5 1).reg R.DIARY_LOST = h2.reg R.DIARY_LOST := by
    rw [reg_raiseIf_ne _ _ _ _ _ (by decide), reg_raise_ne _ _ _ _ (by decide)]
  have hmono (g : Hw) (c : Bool) (i : Nat) (hb : g.b R.DIARY_IFLAG i = true) :
      (g.raiseIf c 5 1).b R.DIARY_IFLAG i = true := by
    cases c with
    | false => exact hb
    | true => exact raise_b_mono _ _ _ _ _ hb
  refine ⟨?_, hmono _ _ _ (raise_b_same _ 5 0 (by decide) (live _ hp2)), fun hf => ⟨?_, ?_⟩, fun hf => ⟨?_, fun hw0 hw => ?_⟩⟩
  · rw [raiseIf_diary, raise_diary, hnum2, hnum1]
  · exact hmono _ _ _ (raise_b_mono _ _ _ _ _ (hfull hf).1)
  · exact (hlost _).trans (hfull hf).2
  · exact (hlost _).trans (hroom hf)
  · have hc : (wm != 0 && decide (before < wm) && decide (wm ≤ before + 1) && !decide full) = true := by
      simp only [wm, before, full, Bool.and_eq_true, bne_iff_ne, decide_eq_true_eq, Bool.not_eq_true', decide_eq_false_iff_not]
      omega
    rw [hc]
    exact raise_b_same _ 5 1 (by decide) (live _ ((raise_pwr _ _ _).trans hp2))

end Hw

/-- Settles O56: the pins by `intStart_eq`, `irqCfgSet_eq` and `intActive_settleInt`, the diary by `diaryAdd_entry` and
`diaryAdd_flags`. -/
theorem interruptPinsAndDiary : Obligations.InterruptPinsAndDiary := by
  refine ⟨⟨fun s k p hp hv => ?_, fun h k => ?_⟩, fun s p v => ⟨fun ha => ?_, fun ha => ⟨fun e t he hn => ?_, fun hne => ?_⟩⟩,
    fun h src arg arg2 hv g hg => ?_⟩
  · have heoi : exec (.eoi p k) s = .next (s.after (s.hw.eoi k)) :=
      done_congr (s.hw.ctrlRow_eoi p k hp hv)
    refine ⟨fun hen hpu hag => ?_, fun hno => ?_, fun hle => ?_, fun hlt => ?_, fun v ha => ?_⟩
    · rw [heoi, Hw.eoi, hen, hpu, hag, ← Hw.intStart_eq]
      rfl
    · have hc : (s.hw.intEn k && s.hw.intPulse k && s.hw.aggregate k) = false := by
        rcases hno with e | e | e <;> simp [e]
      rw [heoi, Hw.eoi, hc]
      rfl
    · exact done_congr (by rw [Hw.intPulseEnd, if_pos hle])
    · exact done_congr (by rw [Hw.intPulseEnd, if_neg (Nat.not_le.2 hlt)])
    · have hcfg : s.hw.writeRow p R.IRQ_CFG v = s.hw.irqCfgSet v := by
        rw [Hw.writeRow_block _ _ _ _ .irq (by decide) ha]
        rfl
      refine ⟨_, done_congr hcfg, ?_, fun a hne => ?_, fun h7 h4 hno hag => ?_, fun hno => ?_⟩
      · rw [Hw.reg_irqCfgSet, Hw.reg_setReg_same]
      · rw [Hw.reg_irqCfgSet, Hw.reg_setReg_ne _ _ _ _ hne]
      · rw [Hw.intPin_irqCfgSet, Hw.cfgPin_rise _ _ _ h7 h4 hno hag]
        exact ⟨rfl, rfl⟩
      · rw [Hw.intPin_irqCfgSet, Hw.cfgPin_off _ _ _ hno]
  · refine ⟨h.aggregate_iff k, h.aggregate_false_iff k, h.intActive_settleInt k, fun hpad htap => ?_⟩
    simp [Hw.intDrive, htap, hpad]
  · exact done_congr (by rw [Hw.writeRow_block _ _ _ _ .diary (by decide) ha]; rfl)
  · refine done_congr ?_
    rw [Hw.writeRow_block _ _ _ _ .diary (by decide) ha, show s.hw.blockWrite p .diary R.DIARY_POP v = s.hw.diaryPop v from rfl,
      Hw.diaryPop, he]
    exact if_pos hn
  · refine done_congr ?_
    rw [Hw.writeRow_block _ _ _ _ .diary (by decide) ha, show s.hw.blockWrite p .diary R.DIARY_POP v = s.hw.diaryPop v from rfl,
      Hw.diaryPop]
    cases he : s.hw.diary.entries with
    | nil => rfl
    | cons e t => exact if_neg (hne e (by rw [he]; rfl))
  · subst hg
    obtain ⟨hnum, hnew, hfull, hroom⟩ := h.diaryAdd_flags src arg arg2 hv
    exact ⟨h.diaryAdd_entry src arg arg2, hnum, hnew, hfull, hroom,
      fun a h1 h2 => Hw.reg_diaryAdd_ne h src arg arg2 a h1 h2, Hw.diaryAdd_eq h src arg arg2⟩

end Sys2Proof.Machine

/-! ## Proofs: port writes and pin lines (O57) -/

namespace Sys2Proof.Machine
namespace Hw

/-! ### Several parties at a port register (R530 to R532) -/

/-- An Etcher's access to a port register is not barred (R315). -/
theorem etchBarred_port (p : Party) (a : Nat) (hk : kindOf (a / 256) = some .port) : etchBarred p a = none := by
  refine etchBarred_none p a ?_
  simp only [etchForbidden, Bool.or_eq_false_iff, decide_eq_false_iff_not]
  constructor <;> intro e <;> rw [e] at hk <;> cases hk

/-- No party's access to a port register is set aside before the arbiter (R97, R315). -/
theorem aside_port (p : Party) (a : Nat) (hk : kindOf (a / 256) = some .port) (h15 : a % 256 ≠ 15) : aside a p = false :=
  aside_of_etchBarred p a h15 (etchBarred_port p a hk)

theorem pageUp_port (h : Hw) (pg : Nat) (hk : kindOf pg = some .port) (hv : h.vigil = true) : h.pageUp pg = true := by
  simp [pageUp, hk, Kind.dom, up, domState, hv]

/-- Masked writes of parties whose logic runs meet in one value (R532). -/
theorem arbitrate_masked (h : Hw) (a : Nat) (ws : List (Party × Word)) (p : Party) (v : Word) (t : List (Party × Word))
    (hk : kindOf (a / 256) = some .port) (h15 : a % 256 ≠ 15) (hm : portMaskedReg a = true) (hv : h.vigil = true)
    (hup : ∀ w ∈ ws, h.partyUp w.1 = true) (hr : ranked ws = (p, v) :: t) :
    h.arbitrate a ws = h.portMasked a ((p, v) :: t) := by
  have ha (w : Party × Word) : aside a w.1 = false := aside_port w.1 a hk h15
  have hu : h.pageUp (a / 256) = true := pageUp_port h _ hk hv
  have hrel : a ≠ R.MBX_REL := by
    rintro rfl
    cases hk
  unfold arbitrate
  rw [List.filter_eq_self.2 hup]
  simp [asideWrites, ha, hr, hk, readErr, hu, hrel, hm]

theorem writeReg_portSet (h : Hw) (p : Party) (a : Nat) (v : Word) (hk : kindOf (a / 256) = some .port)
    (h15 : a % 256 ≠ 15) (h16 : 0x10 ≤ a % 256) (hm : portMaskedReg a = false) (hs : portSetReg a = true)
    (hv : h.vigil = true) : h.writeReg p a v = (h.portSet a v, false) := by
  have h2 : ¬ a % 256 < 2 ∧ a % 256 ≠ 2 ∧ ¬ a % 256 < 16 := by omega
  obtain ⟨hlt, hne, hge⟩ := h2
  unfold writeReg
  simp [hk, etchBarred_port p a hk, pselAccess, h15, pageUp_port h _ hk hv, hlt, hne, hge, hm, hs]

/-- Writes to OUTSET, OUTCLR and OUTTGL act as one write of their OR (R531, R532). -/
theorem arbitrate_portSet (h : Hw) (a : Nat) (ws : List (Party × Word)) (p : Party) (v : Word) (t : List (Party × Word))
    (hk : kindOf (a / 256) = some .port) (h15 : a % 256 ≠ 15) (hm : portMaskedReg a = false) (hs : portSetReg a = true)
    (h16 : 0x10 ≤ a % 256) (hv : h.vigil = true) (hup : ∀ w ∈ ws, h.partyUp w.1 = true) (hr : ranked ws = (p, v) :: t) :
    h.arbitrate a ws = h.portSet a (((p, v) :: t).foldl (fun m w => m ||| w.2) 0) := by
  have ha (w : Party × Word) : aside a w.1 = false := aside_port w.1 a hk h15
  have hu : h.pageUp (a / 256) = true := pageUp_port h _ hk hv
  have hrel : a ≠ R.MBX_REL := by
    rintro rfl
    cases hk
  unfold arbitrate
  rw [List.filter_eq_self.2 hup]
  simp [asideWrites, ha, hr, hk, readErr, hu, hrel, hm, hs, writeReg_portSet h p a _ hk h15 h16 hm hs hv]

/-- Two writers in their order (R112). -/
theorem ranked_two (p q : Party) (v u : Word) (hpq : slot p < slot q) : ranked [(q, u), (p, v)] = [(p, v), (q, u)] := by
  simp [ranked, insertRank, Nat.not_le.2 hpq]

theorem wellSent_two (p q : Party) (v u : Word) (hpq : slot p < slot q) : wellSent [(q, u), (p, v)] = true := by
  simp [wellSent, hpq.ne']

/-! ### Masked writes (R530, R532) -/

/-- A masked write takes its low byte where its high byte selects, and leaves the rest. -/
theorem maskedValue_bit (old : Word) (p : Party) (v : Word) (t : List (Party × Word)) (i : Nat) (hi : i < 16) :
    (maskedValue old ((p, v) :: t)).getLsbD i =
      if i < 8 ∧ v.getLsbD (i + 8) = true then v.getLsbD i else (maskedValue old t).getLsbD i := by
  have hmask : (((v >>> 8) &&& 0x00FF : Word)).getLsbD i = (decide (i < 8) && v.getLsbD (i + 8)) := by
    have hlow : (0x00FF : Word).getLsbD i = decide (i < 8) := by interval_cases i <;> rfl
    rw [BitVec.getLsbD_and, BitVec.getLsbD_ushiftRight, hlow, Bool.and_comm, Nat.add_comm]
  rw [maskedValue, BitVec.getLsbD_or, BitVec.getLsbD_and, BitVec.getLsbD_and, BitVec.getLsbD_not, hmask]
  by_cases hs : i < 8 ∧ v.getLsbD (i + 8) = true
  · simp [hs]
  · have hb : (decide (i < 8) && v.getLsbD (i + 8)) = false := by simpa using hs
    rw [if_neg hs, hb]
    simp [hi]

theorem maskClash_two (p q : Party) (v u : Word) :
    maskClash [(p, v), (q, u)] = if (v &&& u) >>> 8 = 0 then none else some (p, q) := by
  cases hb : (u &&& v) >>> 8 != 0 with
  | false =>
    have hc : (v &&& u) >>> 8 = 0 := by rw [BitVec.and_comm]; simpa using hb
    simp only [maskClash, List.find?, hb, if_pos hc]
  | true =>
    have hc : ¬ (v &&& u) >>> 8 = 0 := by rw [BitVec.and_comm]; simpa using hb
    simp only [maskClash, List.find?, hb, if_neg hc]

/-- A masked write that no lock holds back stores its value, and records a clash (R7, R532). -/
theorem portMasked_eq (h : Hw) (a : Nat) (ws : List (Party × Word)) (hl : a % 256 = 0x16 → h.locked (a / 256) = false) :
    h.portMasked a ws = (match maskClash ws with
      | some (w, l) => h.collide a w l
      | none => h).setReg a (maskedValue (h.reg a) ws) := by
  have hc : (a % 256 = 0x16 && h.locked (a / 256) && maskedValue (h.reg a) ws != h.reg a) = false := by
    by_cases e : a % 256 = 0x16 <;> simp [e, hl]
  unfold portMasked
  simp only [hc]
  rfl

/-! ### Pin lines (R46, R534 to R536) -/

theorem lineEdge_eq (h : Hw) (n : Fin 8) (lvl : Bool) (hp : h.padsOn = true) (hc : (h.lcfg n).getLsbD 15 = true) :
    h.lineEdge n lvl true = if h.pins.lines[n].lockout || h.pins.lines[n].level == lvl then h
      else h.lineRecognize n lvl (fld (h.lcfg n) 10 9 = 2) := by
  simp [lineEdge, hp, hc]

theorem lineRecognize_unselected (h : Hw) (n : Fin 8) (lvl lock : Bool) (he : edgeSelected (h.lcfg n) lvl = false) :
    h.lineRecognize n lvl lock = h.setLine n { level := lvl, lockout := lock } := by
  rw [lineRecognize, he]
  rfl

/-- WAKEEN is no register that the flag of a line touches. -/
theorem wakeen_raise (h : Hw) (n : Fin 8) (lvl lock : Bool) :
    ((h.setLine n { level := lvl, lockout := lock }).raise 0x44 n).b R.PWR_WAKEEN n = h.b R.PWR_WAKEEN n := by
  rw [b, reg_raise_ne _ _ _ _ (by decide)]
  rfl

theorem lineRecognize_quiet (h : Hw) (n : Fin 8) (lvl lock : Bool) (he : edgeSelected (h.lcfg n) lvl = true)
    (hw : h.b R.PWR_WAKEEN n = false) (g : Hw) (hg : g = h.setLine n { level := lvl, lockout := lock }) :
    h.lineRecognize n lvl lock =
      if fld (h.lcfg n) 10 9 = 0 then (g.raise 0x44 n).eventDirect n else (g.raise 0x44 n).event n := by
  subst hg
  rw [lineRecognize, he]
  dsimp only
  rw [if_pos rfl, wakeen_raise, hw]
  rfl

/-- A wake sets its bits of REQ and its flag, and leaves the flags of other pages (R46). -/
theorem wake_spec (h : Hw) (src line bits : Nat) (hv : h.vigil = true) :
    (h.wake src line bits).wakeReq = true ∧ (h.wake src line bits).reg R.PWR_REQ = (h.reg R.PWR_REQ ||| wd (bits % 16)) ∧
      (h.wake src line bits).b R.PWR_IFLAG 10 = true ∧
      ∀ a, a ≠ R.PWR_REQ → a ≠ R.PWR_IFLAG → a ≠ R.DIARY_IFLAG → a ≠ R.DIARY_LOST →
        (h.wake src line bits).reg a = h.reg a := by
  have hreg (a : Nat) : a ≠ R.DIARY_IFLAG → a ≠ R.DIARY_LOST →
      (h.wake src line bits).reg a = ((h.setBits R.PWR_REQ (bits % 16)).raise 1 10).reg a :=
    fun h1 h2 => reg_diaryAdd_ne _ _ _ _ _ h1 h2
  refine ⟨rfl, ?_, ?_, fun a h1 h2 h3 h4 => ?_⟩
  · rw [hreg _ (by decide) (by decide), reg_raise_ne _ _ _ _ (by decide), reg_setBits_same]
  · rw [b, hreg _ (by decide) (by decide)]
    exact raise_b_same _ 1 10 (by decide) (pageLive_of_vigil _ 1 .pwr rfl rfl hv)
  · rw [hreg a h3 h4, reg_raise_ne _ _ _ _ h2, reg_setBits_ne _ _ _ _ h1]

/-- A pulse driven directly leaves registers and requests alone (R19). -/
theorem eventDirect_wakeReq (h : Hw) (e : Nat) : (h.eventDirect e).wakeReq = h.wakeReq ∧ (h.eventDirect e).regs = h.regs := by
  unfold eventDirect
  split <;> exact ⟨rfl, rfl⟩

theorem lineRecognize_wake (h : Hw) (n : Fin 8) (lvl lock : Bool) (hv : h.vigil = true)
    (he : edgeSelected (h.lcfg n) lvl = true) (hw : h.b R.PWR_WAKEEN n = true) :
    (h.lineRecognize n lvl lock).b R.PINT_IFLAG n = true ∧ (h.lineRecognize n lvl lock).wakeReq = true ∧
      (h.lineRecognize n lvl lock).reg R.PWR_REQ = (h.reg R.PWR_REQ ||| wd (h.f R.PWR_WAKEPROF 3 0 % 16)) ∧
      (h.lineRecognize n lvl lock).b R.PWR_IFLAG 10 = true := by
  unfold lineRecognize
  extract_lets h1 h2 h3
  have h2v : h2.vigil = true := (vigil_of_pwr (raise_pwr h1 _ _)).trans hv
  have hflag : h2.b R.PINT_IFLAG n = true :=
    raise_b_same h1 0x44 n (by omega) (pageLive_of_vigil h1 0x44 .pint rfl rfl hv)
  have hreq : h2.reg R.PWR_REQ = h.reg R.PWR_REQ := reg_raise_ne _ _ _ _ (by decide)
  have hprof : h2.wakeProfile = h.f R.PWR_WAKEPROF 3 0 := congrArg (fld · 3 0) (reg_raise_ne _ _ _ _ (by decide))
  have hen : h2.b R.PWR_WAKEEN n = true := (wakeen_raise h n lvl lock).trans hw
  clear_value h2
  have e3 : h3 = h2.wake 2 n (h.f R.PWR_WAKEPROF 3 0) := by rw [← hprof]; exact if_pos hen
  obtain ⟨hwr, hr, hf, hother⟩ := h2.wake_spec 2 n (h.f R.PWR_WAKEPROF 3 0) h2v
  rw [← e3] at hwr hr hf hother
  have hpl : h3.b R.PINT_IFLAG n = true := by
    rw [b, hother _ (by decide) (by decide) (by decide) (by decide)]
    exact hflag
  rw [hreq] at hr
  clear_value h3
  rw [if_pos he]
  split
  · obtain ⟨ew, er⟩ := eventDirect_wakeReq h3 n
    simp only [b, reg, ew, er]
    exact ⟨hpl, hwr, hr, hf⟩
  · simp only [b, reg, event_wakeReq, event_regs]
    exact ⟨hpl, hwr, hr, hf⟩

/-! ### A write to LCFGn (R534) -/

theorem blockWrite_lcfg (h : Hw) (p : Party) (n : Fin 8) (v : Word) :
    h.blockWrite p .pint (R.PINT_LCFG n) v = h.lcfgWrite n v := by
  fin_cases n <;> rfl

/-- The line that is configured takes the present level without lockout, and the others stay. -/
theorem linePresent_spec (h : Hw) (n : Fin 8) :
    (h.linePresent n).pins.lines[n].lockout = false ∧
      (h.b (R.PINT_LCFG n) 15 = false → (h.linePresent n).pins.lines[n].level = false) ∧
      ∀ m : Fin 8, m ≠ n → (h.linePresent n).pins.lines[m] = h.pins.lines[m] := by
  have hn : n.val % 8 = n.val := Nat.mod_eq_of_lt n.isLt
  refine ⟨?_, fun hoff => ?_, fun m hm => ?_⟩
  · simp [linePresent, hn]
  · simp [linePresent, hn, hoff]
  · have hne : n.val ≠ m.val := fun e => hm (Fin.ext e.symm)
    simp [linePresent, hn, Vector.getElem_set_ne, hne]

/-! ### Pins in conflict (R527) -/

/-- A fold that collects the indices that satisfy a predicate sets exactly their bits. -/
theorem getLsbD_collect (p : Nat → Bool) (l : List Nat) (w : BitVec 24) (i : Nat) (hi : i < 24) :
    (l.foldl (fun w j => if p j then w ||| (1#24 <<< j) else w) w).getLsbD i = (w.getLsbD i || (decide (i ∈ l) && p i)) := by
  induction l generalizing w with
  | nil => simp
  | cons j t ih =>
    rw [List.foldl_cons, ih]
    by_cases hj : i = j
    · subst hj
      cases hp : p i <;> simp [hi]
    · have hbit : (1#24 <<< j).getLsbD i = false := by
        rw [BitVec.getLsbD_shiftLeft]
        by_cases hlt : i < j
        · simp [hlt]
        · have : i - j ≠ 0 := by omega
          simp [this]
      cases hp : p j <;> simp [hj, hbit]

theorem conflicts_bit (h : Hw) (i : Nat) (hi : i < 24) : h.conflicts.getLsbD i = h.inConflict i := by
  rw [conflicts, getLsbD_collect h.inConflict _ _ _ hi]
  simp [hi]

/-- A pin that enters conflict sets CONFLICT (R527). -/
theorem settlePins_flag (h : Hw) (i : Nat) (hi : i < 24) (hv : h.vigil = true) (hin : h.inConflict i = true)
    (hnew : h.pins.conf.getLsbD i = false) : h.settlePins.b R.PMUX_IFLAG 0 = true := by
  have hbit : (h.conflicts &&& ~~~h.pins.conf).getLsbD i = true := by
    rw [BitVec.getLsbD_and, BitVec.getLsbD_not, conflicts_bit h i hi, hin, hnew]
    simp [hi]
  have hc : (h.conflicts &&& ~~~h.pins.conf != 0) = true := by
    refine bne_iff_ne.2 fun e => ?_
    rw [e] at hbit
    simp at hbit
  have hraise : h.settlePins.b R.PMUX_IFLAG 0 = (h.raise 0x43 0).b R.PMUX_IFLAG 0 := by
    simp only [settlePins, hv, if_true, hc]
    rfl
  rw [hraise]
  exact raise_b_same h 0x43 0 (by decide) (pageLive_of_vigil h 0x43 .pmux rfl rfl hv)

end Hw
/-- The masked registers of a port are OUT, DIR and INV (R530). -/
theorem maskedReg_port (x k : Fin 3) :
    kindOf ((R.PORT_OUT x + [0, 4, 6].getD k 0) / 256) = some .port ∧ (R.PORT_OUT x + [0, 4, 6].getD k 0) % 256 ≠ 15 ∧
      Hw.portMaskedReg (R.PORT_OUT x + [0, 4, 6].getD k 0) = true ∧
      ((R.PORT_OUT x + [0, 4, 6].getD k 0) % 256 = 0x16 → k = 2) ∧
      (R.PORT_OUT x + [0, 4, 6].getD k 0) / 256 = 0x40 + x := by
  revert x k
  decide

theorem exec_portMaskedWrite (s : State) (x k : Fin 3) (a : Nat) (ha : a = R.PORT_OUT x + [0, 4, 6].getD k 0)
    (ws : List (Party × Word)) (p : Party) (v : Word) (t : List (Party × Word)) (hv : s.hw.vigil = true)
    (hl : k = 2 → s.hw.locked (0x40 + x) = false) (hws : Hw.wellSent ws = true) (hup : ∀ w ∈ ws, s.hw.partyUp w.1 = true)
    (hr : Hw.ranked ws = (p, v) :: t) :
    exec (.portMaskedWrite x k ws) s = .next (s.after ((match Hw.maskClash ((p, v) :: t) with
      | some (w, l) => s.hw.collide a w l
      | none => s.hw).setReg a (Hw.maskedValue (s.hw.reg a) ((p, v) :: t)))) := by
  obtain ⟨hk, h15, hm, hinv, hpg⟩ := maskedReg_port x k
  show execPortMaskedWrite x k ws s = _
  subst ha
  rw [execPortMaskedWrite, if_pos hws, Hw.arbitrate_masked _ _ ws p v t hk h15 hm hv hup hr,
    Hw.portMasked_eq _ _ _ (fun e => hpg ▸ hl (hinv e))]
  rfl

/-- Two parties, the first ranked higher: masks that overlap are a collision (R532). -/
theorem exec_portMaskedWrite_two (s : State) (x k : Fin 3) (a : Nat) (ha : a = R.PORT_OUT x + [0, 4, 6].getD k 0)
    (p q : Party) (v u : Word) (hv : s.hw.vigil = true) (hl : k = 2 → s.hw.locked (0x40 + x) = false)
    (hp : s.hw.partyUp p = true) (hq : s.hw.partyUp q = true) (hpq : Hw.slot p < Hw.slot q) :
    exec (.portMaskedWrite x k [(q, u), (p, v)]) s = .next (s.after
      ((if (v &&& u) >>> 8 = 0 then s.hw else s.hw.collide a p q).setReg a
        (Hw.maskedValue (s.hw.reg a) [(p, v), (q, u)]))) := by
  rw [exec_portMaskedWrite s x k a ha _ p v [(q, u)] hv hl (Hw.wellSent_two p q v u hpq) (by simp [hp, hq])
    (Hw.ranked_two p q v u hpq), Hw.maskClash_two]
  by_cases hc : (v &&& u) >>> 8 = 0
  · rw [if_pos hc, if_pos hc]
  · rw [if_neg hc, if_neg hc]

/-- The registers that set, clear and invert bits of OUT (R531). -/
theorem setReg_port (x : Fin 3) (off : Nat) (ho : off ∈ [0x11, 0x12, 0x13]) :
    kindOf (((0x40 + x) * 256 + off) / 256) = some .port ∧ ((0x40 + x) * 256 + off) % 256 ≠ 15 ∧
      Hw.portMaskedReg ((0x40 + x) * 256 + off) = false ∧ Hw.portSetReg ((0x40 + x) * 256 + off) = true ∧
      0x10 ≤ ((0x40 + x) * 256 + off) % 256 ∧ ((0x40 + x) * 256 + off) / 256 - 0x40 = x ∧
      ((0x40 + x) * 256 + off) % 256 = off := by
  simp only [List.mem_cons, List.not_mem_nil, or_false] at ho
  rcases ho with rfl | rfl | rfl <;> revert x <;> decide

/-- What one of them does to OUT with the OR of what is written. -/
def outWord (off : Nat) (w m : Word) : Word := if off = 0x11 then w ||| m else if off = 0x12 then w &&& ~~~m else w ^^^ m

theorem arbitrate_out (h : Hw) (x : Fin 3) (off : Nat) (ho : off ∈ [0x11, 0x12, 0x13]) (ws : List (Party × Word)) (p : Party)
    (v : Word) (t : List (Party × Word)) (hv : h.vigil = true) (hup : ∀ w ∈ ws, h.partyUp w.1 = true)
    (hr : Hw.ranked ws = (p, v) :: t) :
    h.arbitrate ((0x40 + x) * 256 + off) ws = h.setReg (R.PORT_OUT x)
      (outWord off (h.reg (R.PORT_OUT x)) ((t.foldl (fun m w => m ||| w.2) v) &&& 0x00FF)) := by
  have hor : ((p, v) :: t).foldl (fun m w => m ||| w.2) (0 : Word) = t.foldl (fun m w => m ||| w.2) v := by
    rw [List.foldl_cons, show (0 : Word) ||| v = v from BitVec.zero_or]
  obtain ⟨hk, h15, hm, hs, h16, hx, hoff⟩ := setReg_port x off ho
  rw [Hw.arbitrate_portSet h _ ws p v t hk h15 hm hs h16 hv hup hr, hor, Hw.portSet, hx, hoff]
  rfl

/-- The command of each of them, alone and with two parties: the second party's bits join the first's. -/
theorem exec_out (s : State) (x : Fin 3) (off : Nat) (ho : off ∈ [0x11, 0x12, 0x13]) (f : List (Party × Word) → Instr)
    (hf : ∀ ws, exec (f ws) s =
      if Hw.wellSent ws then done s (s.hw.arbitrate ((0x40 + x) * 256 + off) ws) else .fault .illFormed)
    (p : Party) (v : Word) (hp : s.hw.partyUp p = true) (hv : s.hw.vigil = true) :
    exec (f [(p, v)]) s = .next (s.after (s.hw.setReg (R.PORT_OUT x)
        (outWord off (s.hw.reg (R.PORT_OUT x)) (v &&& 0x00FF)))) ∧
      ∀ q u, Hw.slot p < Hw.slot q → s.hw.partyUp q = true → exec (f [(q, u), (p, v)]) s = exec (f [(p, v ||| u)]) s := by
  have one (w : Word) : exec (f [(p, w)]) s = .next (s.after (s.hw.setReg (R.PORT_OUT x)
      (outWord off (s.hw.reg (R.PORT_OUT x)) (w &&& 0x00FF)))) := by
    rw [hf, if_pos (show Hw.wellSent [(p, w)] = true from rfl),
      arbitrate_out s.hw x off ho _ p w [] hv (by simpa using hp) rfl, done_eq, List.foldl_nil]
  refine ⟨one v, fun q u hpq hq => ?_⟩
  rw [one, hf, if_pos (Hw.wellSent_two p q v u hpq),
    arbitrate_out s.hw x off ho _ p v [(q, u)] hv (by simp [hp, hq]) (Hw.ranked_two p q v u hpq), done_eq, List.foldl_cons,
    List.foldl_nil]

/-- A recognized edge, of either of its commands, goes through the V path of the line (R535, R536). -/
theorem exec_recognize (s : State) (n : Fin 8) (lvl lock : Bool) (i : Instr) (hpad : s.hw.padsOn = true)
    (hen : (s.hw.lcfg n).getLsbD 15 = true) (hlvl : s.hw.pins.lines[n].level = !lvl)
    (hi : (i = Instr.pinLineEdge n lvl true ∧ s.hw.pins.lines[n].lockout = false ∧
        lock = decide (fld (s.hw.lcfg n) 10 9 = 2)) ∨
      (i = .debounceEnd n lvl ∧ s.hw.pins.lines[n].lockout = true ∧ lock = true)) :
    exec i s = .next (s.after (s.hw.lineRecognize n lvl lock)) := by
  have hne : (s.hw.pins.lines[n].level == lvl) = false := by rw [hlvl]; cases lvl <;> rfl
  rcases hi with ⟨rfl, hlock, rfl⟩ | ⟨rfl, hlock, rfl⟩
  · refine done_congr ?_
    rw [Hw.lineEdge_eq _ _ _ hpad hen, hlock, hne]
    rfl
  · have hv : s.hw.vigil = true := ((Bool.and_eq_true _ _).mp hpad).1
    refine done_congr ?_
    simp only [Hw.debounceEnd, hv, hlock, hne]
    rfl

/-- A valid word of LCFGn (R534). -/
theorem lcfgWrite_valid (h : Hw) (n : Fin 8) (v : Word) (h1 : fld v 14 13 ≠ 3) (h2 : fld v 10 9 ≠ 3) :
    h.lcfgWrite n v = (h.setReg (R.PINT_LCFG n) (v &&& 0xFEFF)).linePresent n := by
  simp [Hw.lcfgWrite, h1, h2]

/-- Settles O57: the ports by `exec_portMaskedWrite`, `maskedValue_bit` and `exec_out`, the lines by `exec_recognize` and the
lemmas about `lineRecognize`, LCFG by `linePresent_spec`, the conflicts by `conflicts_bit`. -/
theorem portWritesAndPinLines : Obligations.PortWritesAndPinLines := by
  refine ⟨fun s x p v hp hv => ?_, fun s n lvl hpad hen => ?_, fun s p n v ha => ?_, fun h i hi => ?_⟩
  · obtain ⟨hset, hset2⟩ := exec_out s x 0x11 (by decide) (.outset x) (fun _ => rfl) p v hp hv
    obtain ⟨hclr, hclr2⟩ := exec_out s x 0x12 (by decide) (.outclr x) (fun _ => rfl) p v hp hv
    obtain ⟨htgl, htgl2⟩ := exec_out s x 0x13 (by decide) (.outtgl x) (fun _ => rfl) p v hp hv
    refine ⟨?_, fun w hw => hw ▸ ⟨hset, hclr, htgl⟩,
      fun q u hpq hq => ⟨hset2 q u hpq hq, hclr2 q u hpq hq, htgl2 q u hpq hq⟩⟩
    intro k a ha hl
    refine ⟨⟨_, exec_portMaskedWrite s x k a ha _ p v [] hv hl rfl (by simpa using hp) rfl, fun i hi => ?_⟩,
      fun q u hpq hq => ⟨_, exec_portMaskedWrite_two s x k a ha p q v u hv hl hp hq hpq, fun i hi => ?_⟩⟩
    · rw [Hw.maskedValue_bit _ _ _ _ _ hi]
      rfl
    · rw [Hw.maskedValue_bit _ p v [(q, u)] _ hi, Hw.maskedValue_bit _ q u [] _ hi]
      rfl
  · have hv : s.hw.vigil = true := ((Bool.and_eq_true _ _).mp hpad).1
    refine ⟨fun i lock hi hlvl g0 hg => ?_, fun hno => ?_, fun hmode he => ?_, fun hlock hlvl => ?_⟩
    · rw [exec_recognize s n lvl lock i hpad hen hlvl hi]
      refine ⟨fun he => ?_, fun he hw => ?_, fun he hw => ⟨_, rfl, Hw.lineRecognize_wake s.hw n lvl lock hv he hw⟩⟩
      · rw [Hw.lineRecognize_unselected _ _ _ _ he, hg]
      · rw [Hw.lineRecognize_quiet _ _ _ _ he hw g0 hg]
    · have hc : (s.hw.pins.lines[n].lockout || s.hw.pins.lines[n].level == lvl) = true := by simpa using hno
      exact done_congr (by rw [Hw.lineEdge_eq _ _ _ hpad hen, if_pos hc])
    · refine done_congr ?_
      simp [Hw.lineEdge, hpad, hen, hmode, he]
    · refine done_congr ?_
      simp only [Hw.debounceEnd, hv, hlock, hlvl, beq_self_eq_true]
      rfl
  · have hb : Hw.blockReg (R.PINT_LCFG n) .pint = true := by clear ha; revert n; decide
    have hrow : s.hw.writeRow p (R.PINT_LCFG n) v = s.hw.lcfgWrite n v := by
      rw [Hw.writeRow_block _ _ _ _ .pint hb ha, Hw.blockWrite_lcfg]
    refine ⟨fun hbad => done_congr ?_, fun h1 h2 => ?_⟩
    · rw [hrow, Hw.lcfgWrite, if_pos (by simpa using hbad)]
    · obtain ⟨hlock, hlevel, hothers⟩ := (s.hw.setReg (R.PINT_LCFG n) (v &&& 0xFEFF)).linePresent_spec n
      refine ⟨_, done_congr (hrow.trans (lcfgWrite_valid _ _ _ h1 h2)), Hw.reg_setReg_same _ _ _, hlock, fun hoff => hlevel ?_,
        hothers, fun a hne => Hw.reg_setReg_ne _ _ _ _ hne⟩
      rw [Hw.b, Hw.reg_setReg_same, BitVec.getLsbD_and, hoff, Bool.false_and]
  · refine ⟨?_, fun hv hin hnew => ?_⟩
    · cases hv : h.vigil <;> simp [Hw.settlePins, hv, Hw.conflicts_bit h i hi]
    · exact h.settlePins_flag i hi hv hin hnew

end Sys2Proof.Machine

/-! ## Proofs: a V-cycle with nothing commanded (O2) -/

namespace Sys2Proof.Machine
namespace Hw

/-! ### What the passing of time can touch -/

/-- `g` differs from `h` in what counts time alone: the almanacs, the 1 MHz ticks that wait, the clocks, the interval timers
and the E-cycles since the buffer's reference sample. -/
def OnlyTime (h g : Hw) : Prop :=
  ∃ alm cal clk etch since, g = { h with alm := alm, cal := cal, clk := clk, etch := etch, buf := { h.buf with since := since } }

theorem OnlyTime.refl (h : Hw) : OnlyTime h h := ⟨_, _, _, _, _, rfl⟩

theorem OnlyTime.trans {h g f : Hw} (hg : OnlyTime h g) (hf : OnlyTime g f) : OnlyTime h f := by
  obtain ⟨_, _, _, _, _, rfl⟩ := hg
  obtain ⟨_, _, _, _, _, rfl⟩ := hf
  exact ⟨_, _, _, _, _, rfl⟩

theorem OnlyTime.ite {h g f : Hw} {c : Prop} [Decidable c] (hg : OnlyTime h g) (hf : OnlyTime h f) :
    OnlyTime h (if c then g else f) := by
  split
  · exact hg
  · exact hf

theorem onlyTime_setClk (h : Hw) (c : Clk) : OnlyTime h (h.setClk c) := ⟨_, _, _, _, _, rfl⟩

/-- An almanac that counts T edges touches the almanacs and the 1 MHz ticks that wait (R156, R159, R165). -/
theorem almCount_eq (h : Hw) (n k : Nat) : ∃ alm cal, h.almCount n k = { h with alm := alm, cal := cal } := by
  unfold almCount slewEnded
  dsimp only
  split
  · split <;> exact ⟨_, _, rfl⟩
  · exact ⟨_, _, rfl⟩

theorem almTick_eq (h : Hw) (n : Nat) : ∃ alm cal, h.almTick n = { h with alm := alm, cal := cal } := by
  unfold almTick
  split
  · exact almCount_eq h n _
  · exact ⟨_, _, rfl⟩

theorem almTicks_eq (l : List Nat) (h : Hw) : ∃ alm cal, l.foldl almTick h = { h with alm := alm, cal := cal } := by
  induction l generalizing h with
  | nil => exact ⟨_, _, rfl⟩
  | cons n t ih =>
    obtain ⟨alm, cal, e⟩ := almTick_eq h n
    rw [List.foldl_cons, e]
    exact ih _

theorem vtimeTick_onlyTime (h : Hw) : OnlyTime h h.vtimeTick := by
  unfold vtimeTick
  exact .ite (onlyTime_setClk _ _) (.ite (onlyTime_setClk _ _) (onlyTime_setClk _ _))

theorem soffsStep_onlyTime (h : Hw) : OnlyTime h h.soffsStep := by
  unfold soffsStep
  exact .ite (onlyTime_setClk _ _) (.ite (onlyTime_setClk _ _) (.refl h))

/-! ### The S-loop offset (R79) -/

/-- The coarse second counter leaves the S-loop offset and its aim (R84). -/
theorem vtimeTick_soffs (h : Hw) : h.vtimeTick.clk.soffs = h.clk.soffs ∧ h.vtimeTick.clk.soffsTo = h.clk.soffsTo := by
  unfold vtimeTick
  dsimp only
  split
  · exact ⟨rfl, rfl⟩
  · split <;> exact ⟨rfl, rfl⟩

/-- The offset after one V-cycle: one unit nearer to its aim. -/
def soffsNext (c : Clk) : Int :=
  if c.soffs < c.soffsTo then c.soffs + 1 else if c.soffsTo < c.soffs then c.soffs - 1 else c.soffs

theorem soffsStep_soffs (h : Hw) : h.soffsStep.clk.soffs = soffsNext h.clk := by
  unfold soffsStep soffsNext
  dsimp only
  split
  · rfl
  · split <;> rfl

/-! ### The V-cycle -/

/-- What a V-cycle with nothing commanded leaves, and where the S-loop offset goes. -/
theorem idle_spec (h : Hw) : ∃ g, OnlyTime h g ∧ h.idle = { g with now := h.now + 1, fabric := 0, newSample := 0 } ∧
    g.clk.soffs = if h.live .sense = true then soffsNext h.clk else h.clk.soffs := by
  unfold idle
  extract_lets h1 h2 h3 h4
  have e1 : OnlyTime h h1 := .ite (vtimeTick_onlyTime h) (.refl h)
  have s1 : h1.clk.soffs = h.clk.soffs ∧ h1.clk.soffsTo = h.clk.soffsTo := by
    unfold h1
    split
    · exact vtimeTick_soffs h
    · exact ⟨rfl, rfl⟩
  clear_value h1
  obtain ⟨alm, cal, hfold⟩ : ∃ alm cal, h2 = { h1 with alm := alm, cal := cal } := almTicks_eq _ h1
  have e2 : OnlyTime h h2 := e1.trans ⟨_, _, _, _, _, hfold⟩
  have s2 : soffsNext h2.clk = soffsNext h.clk ∧ h2.clk.soffs = h.clk.soffs := by
    obtain ⟨hs, hto⟩ := s1
    rw [hfold]
    simp only [soffsNext, hs, hto, and_self]
  clear_value h2
  have e3 : OnlyTime h h3 :=
    e2.trans (.ite ((OnlyTime.trans ⟨_, _, _, _, _, rfl⟩ (soffsStep_onlyTime _)).trans ⟨_, _, _, _, _, rfl⟩) (.refl h2))
  have s3 : h3.clk.soffs = if h.live .sense = true then soffsNext h.clk else h.clk.soffs := by
    obtain ⟨hnext, hsame⟩ := s2
    rw [← hnext, ← hsame]
    unfold h3
    split
    · exact soffsStep_soffs _
    · rfl
  clear_value h3
  have e4 : OnlyTime h h4 := e3.trans (.ite (onlyTime_setClk _ _) (.refl h3))
  have s4 : h4.clk.soffs = h3.clk.soffs := by
    unfold h4
    split <;> rfl
  clear_value h4
  exact ⟨h4.payAll, e4.trans ⟨_, _, _, _, _, rfl⟩, rfl, s4.trans s3⟩

end Hw

/-- What waits after a V-cycle with nothing commanded: a 1 MHz tick and second ticks, while TIME runs. -/
theorem mem_idleStep_pending (s : State) (c : Instr) (hc : c ∈ (idleStep s).pending) :
    s.hw.live .time = true ∧ (c = .microsecondTick 0 ∨ ∃ n, c = .secondTick n) := by
  rcases List.mem_append.1 hc with hmicro | hsecond
  · split at hmicro
    · rename_i hdue
      simp only [Bool.and_eq_true] at hdue
      exact ⟨hdue.1, .inl (List.mem_singleton.1 hmicro)⟩
    · cases hmicro
  · obtain ⟨n, hn, rfl⟩ := List.mem_map.1 hsecond
    have hwrap := List.of_mem_filter hn
    simp only [Bool.and_eq_true] at hwrap
    exact ⟨hwrap.1, .inr ⟨n, rfl⟩⟩

/-- Settles O2, by `idle_spec` and `mem_idleStep_pending`. -/
theorem emptyQueueLetsOneVCyclePass : Obligations.EmptyQueueLetsOneVCyclePass := by
  intro s hq
  obtain ⟨g, ⟨alm, cal, clk, etch, since, rfl⟩, hidle, hsoffs⟩ := s.hw.idle_spec
  have hstep : step s = .next (idleStep s) := by rw [step, hq]
  have hnow : (idleStep s).hw = _ := hidle
  refine ⟨idleStep s, hstep, ?_⟩
  rw [hnow]
  refine ⟨rfl, rfl, rfl, rfl, rfl, rfl, rfl, rfl, rfl, ?_, fun hl hup => ?_, fun hl hdown => ?_, mem_idleStep_pending s⟩
  · show (clk.soffs - s.hw.clk.soffs).natAbs ≤ 1
    rw [show clk.soffs = _ from hsoffs, Hw.soffsNext]
    split_ifs <;> omega
  · show clk.soffs = _
    rw [show clk.soffs = _ from hsoffs, if_pos hl, Hw.soffsNext, if_pos hup]
  · show clk.soffs = _
    rw [show clk.soffs = _ from hsoffs, if_pos hl, Hw.soffsNext, if_neg (by omega), if_pos hdown]

end Sys2Proof.Machine

/-! ## Proofs: the synthesizer and the coarse second counter (O19) -/

namespace Sys2Proof.Machine
namespace Hw

/-! ### The clock state beside flags and registers -/

@[simp] theorem setClk_clk (h : Hw) (c : Clk) : (h.setClk c).clk = c := rfl

@[simp] theorem setClk_setClk (h : Hw) (c d : Clk) : (h.setClk c).setClk d = h.setClk d := rfl

theorem setReg_setClk (h : Hw) (c : Clk) (a : Nat) (v : Word) : (h.setClk c).setReg a v = (h.setReg a v).setClk c := rfl

theorem raise_setClk (h : Hw) (c : Clk) (pg bit : Nat) : (h.setClk c).raise pg bit = (h.raise pg bit).setClk c := by
  rw [raise_eq, raise_eq]
  by_cases hl : h.pageLive pg = true
  · rw [if_pos hl, if_pos (show (h.setClk c).pageLive pg = true from hl)]
    rfl
  · rw [if_neg hl, if_neg (show ¬ (h.setClk c).pageLive pg = true from hl)]

/-- A flag of the CLK page is set once it is raised: the page lies in VIGIL. -/
theorem clkFlag_set (h : Hw) (bit : Nat) (hb : bit < 16) (hv : h.vigil = true) : (h.clkFlag bit).b R.CLK_IFLAG bit = true :=
  raise_b_same h 2 bit hb (pageLive_of_vigil h 2 .clk rfl rfl hv)

/-! ### The synthesizer's moves (R71 to R73, R76) -/

/-- A move into LOCKED keeps SETTLED, and any other lets it fall (R72). -/
theorem synGo_locked (h : Hw) : h.synGo .locked = h.setClk { h.clk with synst := .locked, lockedOnce := true } := by
  simp [synGo]

theorem synGo_unlocked (h : Hw) (s : Synst) (hs : s ≠ .locked) :
    h.synGo s = h.setClk { h.clk with synst := s, settled := false } := by
  simp [synGo, hs]

theorem calComplete_ref (h : Hw) (hv : h.vigil = true) (hc : h.clk.synst = .cal) (hr : h.clk.refOk = true) :
    h.calComplete = (h.setReg R.CLK_CTRL (h.reg R.CLK_CTRL &&& ~~~2)).setClk { h.clk with
      needCal := false, calFree := false, synst := .locked, lockedOnce := true } := by
  simp only [calComplete, hc, hv, hr, synGo_locked]
  rfl

theorem calComplete_noRef (h : Hw) (hv : h.vigil = true) (hc : h.clk.synst = .cal) (hr : h.clk.refOk = false) :
    h.calComplete = ((h.setReg R.CLK_CTRL (h.reg R.CLK_CTRL &&& ~~~2)).setClk { h.clk with
      needCal := false, calFree := true, synst := .free, settled := false, lockedOnce := false }).raise 2 3 := by
  simp only [calComplete, hc, hv, hr, synGo_unlocked _ .free (by decide)]
  rfl

/-- Outside CAL the end of a calibration is no event. -/
theorem calComplete_other (h : Hw) (hc : h.clk.synst ≠ .cal) : h.calComplete = h := by
  simp [calComplete, hc]

/-- The acquisition at the end of a TIME on-sequence (R73): with the reference it locks; without it goes to FREE after a
calibration without one, and else to HOLD. -/
theorem synthOnComplete_acq (h : Hw) (hv : h.vigil = true) (hq : h.clk.synst = .acq) :
    (h.clk.refOk = true → h.synthOnComplete.clk.synst = .locked) ∧
      (h.clk.refOk = false → h.clk.lockedOnce = false → h.clk.calFree = true →
        h.synthOnComplete.clk.synst = .free ∧ h.synthOnComplete.b R.CLK_IFLAG 3 = true) ∧
      (h.clk.refOk = false → h.clk.lockedOnce = true ∨ h.clk.calFree = false →
        h.synthOnComplete.clk.synst = .hold ∧ h.synthOnComplete.b R.CLK_IFLAG 1 = true) := by
  have hgo (s : Synst) (bit : Nat) (hb : bit < 16) :
      ((h.synGo s).clkFlag bit).clk.synst = s ∧ ((h.synGo s).clkFlag bit).b R.CLK_IFLAG bit = true :=
    ⟨congrArg Clk.synst (raise_clk _ 2 bit), clkFlag_set _ bit hb hv⟩
  have e : h.calComplete = h := calComplete_other h (by rw [hq]; decide)
  refine ⟨fun hr => ?_, fun hr ho hf => ?_, fun hr hor => ?_⟩
  · simp [synthOnComplete, e, hq, hr, synGo]
  · rw [show h.synthOnComplete = (h.synGo .free).clkFlag 3 by simp [synthOnComplete, e, hq, hr, ho, hf]]
    exact hgo .free 3 (by decide)
  · have hnot : (!h.clk.lockedOnce && h.clk.calFree) = false := by
      rcases hor with ho | hf
      · rw [ho]; rfl
      · rw [hf, Bool.and_false]
    rw [show h.synthOnComplete = (h.synGo .hold).clkFlag 1 by simp [synthOnComplete, e, hq, hr, hnot]]
    exact hgo .hold 1 (by decide)

/-! ### The VCO (R71, R77) -/

/-- V against the VCO: within 1.6 % whatever the state of the synthesizer. -/
theorem vcoPeriods_bounds (h : Hw) : 738 ≤ h.vcoPeriods ∧ h.vcoPeriods ≤ 762 := by
  unfold vcoPeriods
  split <;> omega

theorem vcoPeriods_locked (h : Hw) (hl : h.clk.synst = .locked) : 742 ≤ h.vcoPeriods ∧ h.vcoPeriods ≤ 758 := by
  rw [vcoPeriods, if_pos (by simp [hl])]
  omega

theorem tEdges_bounds (h : Hw) : 15 ≤ h.tEdges ∧ h.tEdges ≤ 16 := by
  obtain ⟨hlo, hhi⟩ := h.vcoPeriods_bounds
  unfold tEdges vcoEdges
  omega

theorem eEdges_bounds (h : Hw) : 5 ≤ h.eEdges ∧ h.eEdges ≤ 7 := by
  obtain ⟨hlo, hhi⟩ := h.vcoPeriods_bounds
  unfold eEdges vcoEdges
  omega

/-! ### The coarse second counter (R86) -/

/-- The key word of a commit is the first of its words (R105). -/
theorem word_groupWords_key (h : Hw) (p : Party) (key : Nat) (v : Word) (hl : 0 < groupLenOf key) :
    word (h.groupWords p key v) 0 = v.toNat := by
  simp [word, groupWords, commitWords, hl]

end Hw

theorem exec_vtimeCommit (s : State) (p : Party) (v : Word) (ha : s.hw.acceptsKey p R.CLK_VTIME_MS v) :
    exec (.vtimeCommit p v) s =
      .next (s.after ((s.hw.vtimeSet (s.hw.groupWords p R.CLK_VTIME_MS v)).groupDone p R.CLK_VTIME_MS)) :=
  done_congr (Hw.writeRow_commit s.hw p _ 3 v (by decide) ha)

/-- Settles O19, by the equations of the synthesizer's moves, the bounds of the VCO and `exec_vtimeCommit`. -/
theorem synthesizerAndCoarseTime : Obligations.SynthesizerAndCoarseTime := by
  refine ⟨fun s hv => ⟨fun hc hr => ?_, fun hc hr => ?_, fun hq hr => ?_, fun hl hs => ?_, fun v hl => ?_,
    s.hw.synthOnComplete_acq hv, s.hw.vcoPeriods_locked, rfl, rfl, s.hw.tEdges_bounds.1, s.hw.tEdges_bounds.2,
    s.hw.eEdges_bounds.1, s.hw.eEdges_bounds.2⟩, fun s p v ha vs hvs => ?_⟩
  · exact done_congr (s.hw.calComplete_ref hv hc hr)
  · exact done_congr (s.hw.calComplete_noRef hv hc hr)
  · exact done_congr (by simp [Hw.synthLock, hv, hq, hr, Hw.synGo_locked])
  · exact done_congr (by simp [Hw.settledRise, hv, hl, hs, Hw.clkFlag])
  · exact done_congr (by simp [Hw.vcalUpdate, hv, hl])
  · subst hvs
    rw [exec_vtimeCommit s p v ha, Hw.vtimeSet, Hw.word_groupWords_key _ _ _ _ (by decide)]
    rfl

end Sys2Proof.Machine

/-! ## Proofs: TDEAD with the latch set (O20) -/

namespace Sys2Proof.Machine
namespace Hw

/-- TIME and SENSE are powered, and a release of the set latch was rejected with RELWHY 3 (R285). -/
def releaseRejected : Hw :=
  let h := Hw.start Nvs.shipped .v33 34000 0 0
  { h with
    pwr := { h.pwr with vigilUp := true, time := .on, sense := .on }
    latch := { h.latch with set := true, why := 3 } }

end Hw

/-- Refutes O20: when TDEAD takes the power of SENSE, RELWHY returns to its reset value 0 with the REFLEX page (R64, R283), so
a latch that is set does not stay as it is whole: its set bit and cause record do, and its RELWHY 3 does not. -/
theorem not_lostClocksAreReported : ¬ Obligations.LostClocksAreReported := by
  intro h
  have hs : Hw.releaseRejected.live .time = true ∧ Hw.releaseRejected.latch.set = true ∧
      Hw.releaseRejected.latch.why = 3 := by decide +kernel
  have hran : Hw.releaseRejected.tdead.latch.why = 0 := by decide +kernel
  obtain ⟨hlive, hset, hwhy⟩ := hs
  obtain ⟨-, htdead⟩ := h
  obtain ⟨-, -, -, hkeep, -⟩ := htdead { State.reset with hw := Hw.releaseRejected } hlive
  have hlatch : Hw.releaseRejected.tdead.latch = Hw.releaseRejected.latch := hkeep hset
  rw [hlatch, hwhy] at hran
  exact absurd hran (by decide)

end Sys2Proof.Machine

/-! ## Proofs: the sample grid (O36) -/

namespace Sys2Proof.Machine
namespace Hw

theorem live_of_pwr {h g : Hw} (hp : g.pwr = h.pwr) (d : Dom) : g.live d = h.live d := by
  rw [live, vigil_of_pwr hp, domState_of_pwr hp, live]

/-- A flag of the DEC page is set once it is raised while SENSE runs. -/
theorem decFlag_set (h : Hw) (bit : Nat) (hb : bit < 16) (hl : h.live .sense = true) :
    (h.decFlag bit).b R.DEC_IFLAG bit = true :=
  raise_b_same h 0x11 bit hb (pageLive_of_live h 0x11 .dec rfl hl)

/-! ### Writes (R232, R237, R249, R254) -/

/-- Rate codes are taken whole or rejected whole (R232). -/
theorem odrWrite_valid (h : Hw) (v : Word) (h0 : fld v 3 0 ≤ 8) (h1 : fld v 7 4 ≤ 6) (h2 : fld v 11 8 ≤ 8)
    (h3 : fld v 15 12 ≤ 8) : h.odrWrite v = h.setReg R.DEC_ODR v := by
  simp [odrWrite, Nat.not_lt.2 h0, Nat.not_lt.2 h1, Nat.not_lt.2 h2, Nat.not_lt.2 h3]

theorem odrWrite_invalid (h : Hw) (v : Word) (hbad : 8 < fld v 3 0 ∨ 6 < fld v 7 4 ∨ 8 < fld v 11 8 ∨ 8 < fld v 15 12) :
    h.odrWrite v = h.decFlag 5 := if_pos (by simpa [or_assoc] using hbad)

/-- Without ANCHOR an accepted grid offset is in force at once and starts a re-anchor (R249). -/
theorem gridofsSet_valid (h : Hw) (vs : List Word) (x : Nat) (hx : x = word vs 0 + 65536 * (word vs 1 % 128))
    (hle : x ≤ 7999999) (ha : h.b R.DEC_GRIDCFG 15 = false) : h.gridofsSet vs =
      { (h.setReg R.DEC_GRIDOFS_L (wd x)).setReg R.DEC_GRIDOFS_H (wd (x / 65536)) with
        dec := { h.dec with gridph := x, nextT := none, reanchor := true } } := by
  subst hx
  rw [gridofsSet, if_neg (Nat.not_lt.2 hle), ha]
  rfl

theorem gridofsSet_invalid (h : Hw) (vs : List Word) (hgt : 7999999 < word vs 0 + 65536 * (word vs 1 % 128)) :
    h.gridofsSet vs = h.decFlag 5 := if_pos hgt

/-- CTRL of the DEC page has action bits alone. -/
theorem ctrlWrite_dec (h : Hw) (v : Word) (hv : v.getLsbD 15 = false) : h.ctrlWrite 0x11 .dec v = h.ctrlActions 0x11 .dec v := by
  have hm : rwlMask (0x11 * 256 + 2) = 0 := by decide
  unfold ctrlWrite
  rw [hv]
  simp [hm, hasEnable]

theorem ctrlRow_resync (h : Hw) (p : Party) (v : Word) (hp : h.partyUp p = true) (hu : h.pageUp 0x11 = true) :
    h.ctrlRow p 0x11 v 2 = h.reanchor := by
  have h15 : ((v &&& 0x7FFF) ||| 2).getLsbD 15 = false := by simp
  have h1 : ((v &&& 0x7FFF) ||| 2).getLsbD 1 = true := by simp
  have hup : h.up .sense = true := hu
  rw [ctrlRow, writeRow_ctrl h p 0x11 _ .dec rfl hp hu (etchBarred_none p _ (by decide)), ctrlWrite_dec h _ h15]
  simp only [ctrlActions, h1, if_true, resync, hup]

/-! ### A measurement (R250 to R255) -/

theorem clampI_bounds (lo hi v : Int) (hle : lo ≤ hi) : lo ≤ clampI lo hi v ∧ clampI lo hi v ≤ hi := by
  unfold clampI
  split_ifs <;> omega

/-- The measured error is the distance to the nearest instant of the 125 Hz subgrid (R250). -/
theorem gridError_spec (h : Hw) : -4000000 < h.gridError ∧ h.gridError ≤ 4000000 ∧
    ((almNs (h.almOf h.sampAlm) : Int) - h.gridPhase - h.gridError) % 8000000 = 0 := by
  unfold gridError
  dsimp only
  split_ifs <;> omega

/-- The JUMP threshold is what GRIDCFG says. -/
theorem jumpLimit_congr {h g : Hw} (hr : g.reg R.DEC_GRIDCFG = h.reg R.DEC_GRIDCFG) : g.jumpLimit = h.jumpLimit := by
  rw [jumpLimit, f, hr, jumpLimit, f]

/-- The GLOCK rule touches its own counts and the flags of the DEC page (R251). -/
theorem glockStep_frame (h : Hw) (e : Int) : (h.glockStep e).clk = h.clk ∧ (h.glockStep e).dec.reanchor = h.dec.reanchor ∧
    ∀ a, a ≠ R.DEC_IFLAG → (h.glockStep e).reg a = h.reg a := by
  unfold glockStep
  extract_lets es whole sum inRun outRun _ h1
  split
  · exact ⟨raise_clk _ _ _, by rw [decFlag, raise_dec], fun a ha => reg_raise_ne _ _ _ _ ha⟩
  · split
    · exact ⟨raise_clk _ _ _, by rw [decFlag, raise_dec], fun a ha => reg_raise_ne _ _ _ _ ha⟩
    · exact ⟨rfl, rfl, fun _ _ => rfl⟩

/-- GLOCK falls, and the histories, the clocks and every register but the flags of the DEC page stay (R251). -/
theorem glockFall_frame (h : Hw) : h.glockFall.clk = h.clk ∧ h.glockFall.pwr = h.pwr ∧
    h.glockFall.dec.glock = false ∧ h.glockFall.dec.hist = h.dec.hist ∧
    ∀ a, a ≠ R.DEC_IFLAG → h.glockFall.reg a = h.reg a := by
  unfold glockFall
  dsimp only
  split
  · exact ⟨raise_clk _ _ _, raise_pwr _ _ _, by rw [decFlag, raise_dec], by rw [decFlag, raise_dec],
      fun a ha => reg_raise_ne _ _ _ _ ha⟩
  · exact ⟨rfl, rfl, rfl, rfl, fun _ _ => rfl⟩

/-- A re-anchor performed (R255): WARM and the gap mark of cause 2, GLOCK falls, the histories stay. -/
theorem anchorMove_spec (h : Hw) (e : Int) (hl : h.live .sense = true) : (h.anchorMove e).clk = h.clk ∧
    (h.anchorMove e).dec.reanchor = false ∧ (h.anchorMove e).dec.glock = false ∧ (h.anchorMove e).dec.gap = some 2 ∧
    (h.anchorMove e).dec.hist = h.dec.hist ∧ (h.anchorMove e).b R.DEC_IFLAG 2 = true ∧
    ∀ a, a ≠ R.DEC_IFLAG → (h.anchorMove e).reg a = h.reg a := by
  have hfall := h.glockFall_frame
  unfold anchorMove
  extract_lets now h1 _ h2
  have e1 : h1.clk = h.clk ∧ h1.pwr = h.pwr ∧ h1.dec.glock = false ∧ h1.dec.hist = h.dec.hist ∧
      ∀ a, a ≠ R.DEC_IFLAG → h1.reg a = h.reg a := hfall
  clear_value h1
  obtain ⟨hclk1, hpwr1, hglock1, hhist1, hreg1⟩ := e1
  have hl2 : ((h2.warmStart 0xF#4 false).gapMark 2).live .sense = true := (live_of_pwr (h := h) hpwr1 .sense).trans hl
  refine ⟨(raise_clk _ _ _).trans hclk1, ?_, ?_, ?_, ?_, decFlag_set _ 2 (by decide) hl2,
    fun a ha => (reg_raise_ne _ _ _ _ ha).trans (hreg1 a ha)⟩ <;> rw [decFlag, raise_dec]
  · rfl
  · exact hglock1
  · rfl
  · exact hhist1

/-- The sample almanac counts to the measured instant, unless a second tick comes first. -/
def gridCounted (h : Hw) (k : Nat) : Hw :=
  if (h.almOf h.sampAlm).sub + h.almGain h.sampAlm k < secUnits then h.almCount h.sampAlm k else h

theorem gridCounted_eq (h : Hw) (k : Nat) : ∃ alm cal, h.gridCounted k = { h with alm := alm, cal := cal } := by
  unfold gridCounted
  split
  · exact almCount_eq h _ _
  · exact ⟨_, _, rfl⟩

/-- The count and the stored error leave the clocks, the power state, the decimators and GRIDCFG. -/
theorem gridStored_frame (h : Hw) (k : Nat) (v : Word) (m : Hw) (hm : m = (h.gridCounted k).setReg R.DEC_GERR v) :
    m.clk = h.clk ∧ m.pwr = h.pwr ∧ m.dec = h.dec ∧ m.reg R.DEC_GERR = v ∧ m.reg R.DEC_GRIDCFG = h.reg R.DEC_GRIDCFG := by
  obtain ⟨alm, cal, hc⟩ := h.gridCounted_eq k
  subst hm
  refine ⟨by rw [hc]; rfl, by rw [hc]; rfl, by rw [hc]; rfl, reg_setReg_same _ _ _, ?_⟩
  rw [reg_setReg_ne _ _ _ _ (by decide), hc]
  rfl

/-- A measurement with a re-anchor waiting performs it (R255). -/
theorem gridMeasure_anchor (h : Hw) (k : Nat) (hl : h.live .sense = true) (hs : h.clk.slock = true)
    (hr : h.dec.reanchor = true) : h.gridMeasure k = ((h.gridCounted k).setReg R.DEC_GERR
      (wdI (clampI (-32767) 32767 (h.gridCounted k).gridError))).anchorMove (h.gridCounted k).gridError := by
  obtain ⟨alm, cal, hc⟩ := h.gridCounted_eq k
  have hr' : (h.gridCounted k).dec.reanchor = true := by rw [hc]; exact hr
  rw [gridMeasure, if_neg (by simp [hl, hs])]
  exact if_pos hr'

/-- The S-loop offset's aim and the sum of errors after a measurement without a re-anchor (R250). -/
def gridSteer (h : Hw) (e : Int) : Hw :=
  { h with
    clk := { h.clk with soffsTo := soffsLimit ((Config.gridKp (h.f R.DEC_GRIDCFG 1 0) * e
      + Config.gridKi (h.f R.DEC_GRIDCFG 1 0) * (h.dec.esum + e)) / 65536) }
    dec := { h.dec with esum := h.dec.esum + e } }

/-- A jump above the threshold starts a re-anchor (R254). -/
def jumpTest (h : Hw) (e : Int) : Hw :=
  match h.jumpLimit with
  | none => h
  | some l => if l < e.natAbs then h.reanchor else h

theorem gridMeasure_steer (h : Hw) (k : Nat) (hl : h.live .sense = true) (hs : h.clk.slock = true)
    (hr : h.dec.reanchor = false) : h.gridMeasure k = ((((h.gridCounted k).setReg R.DEC_GERR
      (wdI (clampI (-32767) 32767 (h.gridCounted k).gridError))).gridSteer (h.gridCounted k).gridError).glockStep
        (h.gridCounted k).gridError).jumpTest (h.gridCounted k).gridError := by
  obtain ⟨alm, cal, hc⟩ := h.gridCounted_eq k
  have hr' : ¬ (h.gridCounted k).dec.reanchor = true := by rw [hc]; exact ne_true_of_eq_false hr
  rw [gridMeasure, if_neg (by simp [hl, hs])]
  exact if_neg hr'

/-- The jump test touches the re-anchor alone. -/
theorem jumpTest_frame (h : Hw) (e : Int) : (h.jumpTest e).clk = h.clk ∧ (h.jumpTest e).regs = h.regs := by
  unfold jumpTest
  split
  · exact ⟨rfl, rfl⟩
  · split <;> exact ⟨rfl, rfl⟩

theorem jumpTest_reanchor (h : Hw) (e : Int) (hr : h.dec.reanchor = false) :
    (h.jumpTest e).dec.reanchor = true ↔ ∃ l, h.jumpLimit = some l ∧ l < e.natAbs := by
  unfold jumpTest
  cases hj : h.jumpLimit with
  | none => simp [hr]
  | some l =>
    by_cases hlt : l < e.natAbs
    · simp [hlt, reanchor]
    · simp [hlt, hr]

/-- A measurement without a re-anchor sets the aim of the S-loop offset within ±500 ppm and tests the jump. -/
theorem steered_spec (h : Hw) (e : Int) (hr : h.dec.reanchor = false) (g : Hw)
    (hg : g = ((h.gridSteer e).glockStep e).jumpTest e) : g.reg R.DEC_GERR = h.reg R.DEC_GERR ∧ g.clk.soffs = h.clk.soffs ∧
      -2147483 ≤ g.clk.soffsTo ∧ g.clk.soffsTo ≤ 2147483 ∧
      (g.dec.reanchor = true ↔ ∃ l, h.jumpLimit = some l ∧ l < e.natAbs) := by
  obtain ⟨hclk, hanchor, hreg⟩ := (h.gridSteer e).glockStep_frame e
  obtain ⟨jclk, jregs⟩ := ((h.gridSteer e).glockStep e).jumpTest_frame e
  have hsteer : g.clk = (h.gridSteer e).clk := by rw [hg, jclk, hclk]
  have haim : -2147483 ≤ g.clk.soffsTo ∧ g.clk.soffsTo ≤ 2147483 := by
    rw [hsteer]
    exact clampI_bounds _ _ _ (by decide)
  obtain ⟨hlo, hhi⟩ := haim
  refine ⟨?_, by rw [hsteer]; rfl, hlo, hhi, ?_⟩
  · rw [hg, reg, jregs]
    exact hreg _ (by decide)
  · rw [hg, jumpTest_reanchor _ e (hanchor.trans hr), jumpLimit_congr (hreg _ (by decide))]
    rfl

/-- What a measurement does: it stores e, and performs a waiting re-anchor or steers the S loop. -/
theorem gridMeasure_spec (h : Hw) (k : Nat) (hl : h.live .sense = true) (hs : h.clk.slock = true) (e : Int)
    (he : e = (h.gridCounted k).gridError) (g : Hw) (hg : g = h.gridMeasure k) :
    g.reg R.DEC_GERR = wdI (clampI (-32767) 32767 e) ∧ g.clk.soffs = h.clk.soffs ∧
      (h.dec.reanchor = true → g.dec.reanchor = false ∧ g.dec.glock = false ∧ g.dec.gap = some 2 ∧
        g.b R.DEC_IFLAG 2 = true ∧ g.clk = h.clk ∧ ∀ i : Fin 8, g.dec.hist[i] = h.dec.hist[i]) ∧
      (h.dec.reanchor = false → -2147483 ≤ g.clk.soffsTo ∧ g.clk.soffsTo ≤ 2147483 ∧
        (g.dec.reanchor = true ↔ ∃ l, h.jumpLimit = some l ∧ l < e.natAbs)) := by
  obtain ⟨hclk, hpwr, hdec, hgerr, hcfg⟩ := h.gridStored_frame k (wdI (clampI (-32767) 32767 e)) _ rfl
  cases hr : h.dec.reanchor with
  | true =>
    rw [gridMeasure_anchor h k hl hs hr, ← he] at hg
    generalize (h.gridCounted k).setReg R.DEC_GERR (wdI (clampI (-32767) 32767 e)) = m at *
    obtain ⟨eclk, eanchor, eglock, egap, ehist, eflag, ereg⟩ := m.anchorMove_spec e ((live_of_pwr hpwr .sense).trans hl)
    rw [← hg] at eclk eanchor eglock egap ehist eflag ereg
    rw [hclk] at eclk
    rw [hdec] at ehist
    exact ⟨(ereg _ (by decide)).trans hgerr, congrArg Clk.soffs eclk,
      fun _ => ⟨eanchor, eglock, egap, eflag, eclk, fun i => by rw [ehist]⟩, fun hno => Bool.noConfusion hno⟩
  | false =>
    rw [gridMeasure_steer h k hl hs hr, ← he] at hg
    generalize (h.gridCounted k).setReg R.DEC_GERR (wdI (clampI (-32767) 32767 e)) = m at *
    obtain ⟨egerr, esoffs, elo, ehi, ejump⟩ := m.steered_spec e (hdec ▸ hr) g hg
    rw [hclk] at esoffs
    rw [jumpLimit_congr hcfg] at ejump
    exact ⟨egerr.trans hgerr, esoffs, fun hno => Bool.noConfusion hno, fun _ => ⟨elo, ehi, ejump⟩⟩

/-! ### EPOCH (R256 to R258) -/

/-- The pulse of EV34 and the capture leave the registers, the power state and the sensing chain. -/
theorem gangCapture_frame (h : Hw) (g : Hw) (hg : g = (h.event 34).gangCapture) :
    g.regs = h.regs ∧ g.pwr = h.pwr ∧ g.afe = h.afe ∧ g.dec = h.dec ∧
      (h.up .time = true → g.gang.capture = some (almNs (h.almOf h.sampAlm), h.now)) := by
  rw [event_eq] at hg
  subst hg
  unfold gangCapture
  split
  · exact ⟨rfl, rfl, rfl, rfl, fun _ => rfl⟩
  · rename_i hno
    exact ⟨rfl, rfl, rfl, rfl, fun hup => absurd hup hno⟩

/-- The capture stays. -/
theorem decEpoch_gang (h : Hw) (dissent : Bool) (since : Nat) : (h.decEpoch dissent since).gang = h.gang := by
  have hab : h.emptyAll.stAbort.gang = h.gang := by
    unfold stAbort
    split <;> rfl
  unfold decEpoch
  split
  · rfl
  · split
    · exact raise_gang _ _ _
    · split
      · rfl
      · extract_lets h0 _ h1 ph _ h2 _ h3
        have e2 : h2.gang = h.gang := by
          unfold h2
          split <;> exact hab
        exact (raise_gang _ _ _).trans e2

/-- In DISSENT an edge sets EPIGN and resets nothing (R258). -/
theorem decEpoch_dissent (h : Hw) (since : Nat) (hl : h.live .sense = true) (he : h.b R.DEC_GRIDCFG 14 = true) :
    h.decEpoch true since = h.decFlag 4 := by simp [decEpoch, hl, he]

/-- An edge within 4 S-cycles of the reset before acts with it (R256). -/
theorem decEpoch_merged (h : Hw) (since : Nat) (hp : h.dec.epoch = true) (hlt : since < 4) : h.decEpoch false since = h := by
  simp [decEpoch, hp, hlt]

/-- What an EPOCH reset leaves in the decimators: the gap mark, the instants in flight, the histories, WARM. -/
def emptiness (d : Dec) : Option Nat × List Flight × Vector (List Int) 8 × Vector Nat 4 := (d.gap, d.flight, d.hist, d.warm)

theorem emptyAll_emptiness (h : Hw) : emptiness h.emptyAll.dec =
    (some 6, [], Vector.replicate 8 [], Vector.ofFn fun g : Fin 4 => h.groupLen g) := by
  have hhist : h.emptyAll.dec.hist = Vector.replicate 8 [] := by
    ext i hi : 1
    have hall : ∀ i, i < 8 → (0xF#4).getLsbD (chGroup i) = true := by decide
    simp [emptyAll, warmStart, dropFlight, gapMark, hall i hi]
  have hwarm : h.emptyAll.dec.warm = Vector.ofFn fun g : Fin 4 => h.groupLen g := by
    ext i hi : 1
    have hall : ∀ i, i < 4 → (0xF#4).getLsbD i = true := by decide
    simp [emptyAll, warmStart, dropFlight, gapMark, hall i hi]
  rw [emptiness, hhist, hwarm]
  rfl

/-- An EPOCH reset (R256): every history is emptied, with WARM and a gap mark of cause 6. -/
theorem decEpoch_reset (h : Hw) (since : Nat) (hl : h.live .sense = true) (he : h.b R.DEC_GRIDCFG 14 = true)
    (hn : ¬ (h.dec.epoch = true ∧ since < 4)) : (h.decEpoch false since).b R.DEC_IFLAG 3 = true ∧
      emptiness (h.decEpoch false since).dec =
        (some 6, [], Vector.replicate 8 [], Vector.ofFn fun k : Fin 4 => h.groupLen k) := by
  rw [← emptyAll_emptiness]
  have e0 : h.emptyAll.stAbort.pwr = h.pwr ∧ h.emptyAll.stAbort.dec = h.emptyAll.dec := by
    refine ⟨by simp, ?_⟩
    unfold stAbort
    split <;> rfl
  unfold decEpoch
  rw [if_neg (by simp [hl, he]), if_neg Bool.false_ne_true, if_neg (by simpa using hn)]
  extract_lets h0 _ h1 ph _ h2 _ h3
  have e2 : h2.pwr = h.pwr ∧ emptiness h2.dec = emptiness h.emptyAll.dec := by
    obtain ⟨hpwr, hdec⟩ := e0
    rw [← hdec]
    unfold h2
    split <;> exact ⟨hpwr, rfl⟩
  clear_value h2
  obtain ⟨hpwr, hdec⟩ := e2
  exact ⟨decFlag_set h3 3 (by decide) ((live_of_pwr (g := h3) hpwr .sense).trans hl),
    (congrArg emptiness (raise_dec h3 0x11 3)).trans hdec⟩

/-- The settling length of a group follows from the response, draft and the XB configuration in force (R236, R244). -/
theorem groupLen_congr {h g : Hw} (hp : g.pwr = h.pwr) (ha : g.afe = h.afe) (hd : g.dec = h.dec) (k : Nat) :
    g.groupLen k = h.groupLen k := by
  unfold groupLen groupResp groupReceived
  rw [hp, ha, hd]

/-- An EPOCH edge (R256, R258): the capture, and what the decimators do in DISSENT, with the reset before, and else. -/
theorem epochEdge_spec (h : Hw) (since : Nat) (hv : h.vigil = true) (g : Hw) (hg : g = h.epochEdge since) :
    (h.up .time = true → g.gang.capture = some (almNs (h.almOf h.sampAlm), h.now)) ∧
      (h.live .sense = true → h.b R.DEC_GRIDCFG 14 = true →
        (h.gang.st = .dissent → g.b R.DEC_IFLAG 4 = true ∧ g.dec = h.dec) ∧
        (h.gang.st ≠ .dissent → h.dec.epoch = true → since < 4 → g.dec = h.dec) ∧
        (h.gang.st ≠ .dissent → ¬ (h.dec.epoch = true ∧ since < 4) → g.b R.DEC_IFLAG 3 = true ∧
          g.dec.gap = some 6 ∧ g.dec.flight = [] ∧ (∀ i : Fin 8, g.dec.hist[i] = []) ∧
          ∀ k : Fin 4, g.dec.warm[k] = h.groupLen k)) := by
  have hedge : g = ((h.event 34).gangCapture).decEpoch (h.gang.st = .dissent) since := by
    rw [hg]
    simp [epochEdge, hv]
  obtain ⟨hregs, hpwr, hafe, hdec, hcap⟩ := h.gangCapture_frame _ rfl
  generalize (h.event 34).gangCapture = c at *
  subst hedge
  rw [decEpoch_gang]
  refine ⟨hcap, fun hl he => ?_⟩
  have hlc : c.live .sense = true := (live_of_pwr hpwr .sense).trans hl
  have hec : c.b R.DEC_GRIDCFG 14 = true := by rw [b, reg, hregs]; exact he
  refine ⟨fun hd => ?_, fun hd hp hlt => ?_, fun hd hn => ?_⟩
  · rw [decide_eq_true hd, decEpoch_dissent c since hlc hec]
    exact ⟨decFlag_set c 4 (by decide) hlc, (raise_dec _ _ _).trans hdec⟩
  · rw [decide_eq_false hd, decEpoch_merged c since (hdec ▸ hp) hlt, hdec]
  · rw [decide_eq_false hd]
    obtain ⟨hflag, hempty⟩ := decEpoch_reset c since hlc hec (hdec ▸ hn)
    simp only [emptiness, Prod.mk.injEq] at hempty
    obtain ⟨hgap, hflight, hhist, hwarm⟩ := hempty
    refine ⟨hflag, hgap, hflight, fun i => ?_, fun k => ?_⟩
    · rw [hhist]
      simp
    · rw [hwarm, ← groupLen_congr hpwr hafe hdec]
      simp

end Hw

/-- Settles O36: the writes by the lemmas about their rows, the measurement by `anchorMove_spec`, `glockStep_frame` and
`jumpTest_reanchor`, EPOCH by `gangCapture_frame` and the cases of `decEpoch`. -/
theorem gridCommandsFollowRules : Obligations.GridCommandsFollowRules := by
  intro s p v
  refine ⟨fun ha => ?_, fun ha => ?_, fun ha x hx => ?_, fun hp hu => ?_, fun k hl hs => ?_, fun hv since => ?_⟩
  · have hrow : s.hw.writeRow p R.DEC_ODR v = s.hw.odrWrite v := Hw.writeRow_block _ _ _ _ .dec (by decide) ha
    exact ⟨fun hbad => done_congr (hrow.trans (Hw.odrWrite_invalid _ _ hbad)),
      fun h0 h1 h2 h3 => done_congr (hrow.trans (Hw.odrWrite_valid _ _ h0 h1 h2 h3))⟩
  · exact done_congr (Hw.writeRow_block _ _ _ _ .dec (by decide) ha)
  · have hrow : s.hw.writeRow p R.DEC_GRIDOFS_L v =
        (s.hw.gridofsSet (s.hw.groupWords p R.DEC_GRIDOFS_L v)).groupDone p R.DEC_GRIDOFS_L :=
      Hw.writeRow_commit s.hw p _ 2 v (by decide) ha
    rw [← Hw.word_groupWords_key s.hw p R.DEC_GRIDOFS_L v (by decide)] at hx
    exact ⟨fun hgt => done_congr (by rw [hrow, Hw.gridofsSet_invalid _ _ (hx ▸ hgt)]; rfl),
      fun hle hc => done_congr (by rw [hrow, Hw.gridofsSet_valid _ _ x hx hle hc])⟩
  · exact done_congr (s.hw.ctrlRow_resync p v hp hu)
  · obtain ⟨hlo, hhi, hmod⟩ := (s.hw.gridCounted k).gridError_spec
    exact ⟨_, _, _, rfl, rfl, rfl, hlo, hhi, hmod, s.hw.gridMeasure_spec k hl hs _ rfl _ rfl⟩
  · exact ⟨_, rfl, s.hw.epochEdge_spec since hv _ rfl⟩

end Sys2Proof.Machine

/-! ## Proofs: which commands stop (O3) -/

namespace Sys2Proof.Machine

/-- Every arm of `exec` ends in `done`; the rows that carry writers or an address do so behind the check that
`Instr.wellFormed` states (log entry 83), and no arm refuses. -/
theorem exec_eq_done_or_illFormed (c : Instr) (s : State) :
    ∃ g : Hw, exec c s = if c.wellFormed = true then done s g else .fault .illFormed := by
  cases c <;> exact ⟨_, rfl⟩

/-- Settles O3, by `exec_eq_done_or_illFormed`. -/
theorem stopsExactlyOnIllFormedCommands : Obligations.StopsExactlyOnIllFormedCommands := by
  intro c s
  obtain ⟨g, hg⟩ := exec_eq_done_or_illFormed c s
  refine ⟨fun hw => ?_, fun hw => ⟨g, ?_, State.after_pending s g⟩⟩
  · rw [hg, hw]
    rfl
  · rw [hg, if_pos hw, done_eq]

end Sys2Proof.Machine

/-! ## Proofs: several parties at a flag register (O15) -/

namespace Sys2Proof.Machine
namespace Hw

/-! ### The order of the arbiter -/

theorem insertRank_perm (x : Party × Word) (l : List (Party × Word)) : (insertRank x l).Perm (x :: l) := by
  induction l with
  | nil => exact .refl _
  | cons y t ih =>
    unfold insertRank
    split
    · exact .refl _
    · exact (ih.cons y).trans (.swap x y t)

/-- The arbiter orders the writes of a V-cycle; it drops and adds none. -/
theorem ranked_perm (ws : List (Party × Word)) : (ranked ws).Perm ws := by
  induction ws with
  | nil => exact .refl _
  | cons x t ih => exact (insertRank_perm x (ranked t)).trans (ih.cons x)

/-- The OR of the written values. -/
def orOf (ws : List (Party × Word)) : Word := ws.foldl (fun m w => m ||| w.2) 0

/-- The OR does not depend on the order of the writes. -/
theorem orOf_ranked (ws : List (Party × Word)) : orOf (ranked ws) = orOf ws :=
  (ranked_perm ws).foldl_eq' (fun x _ y _ m => by
    rw [BitVec.or_assoc, BitVec.or_assoc, BitVec.or_comm x.2]) 0

theorem orOf_single (p : Party) (v : Word) : orOf [(p, v)] = v := by simp [orOf]

/-! ### The registers of R113 -/

/-- The port rules concern port pages alone. -/
theorem portRules_of_kind {a : Nat} {k : Kind} (hk : kindOf (a / 256) = some k) (hne : k ≠ .port) :
    portMaskedReg a = false ∧ portSetReg a = false := by
  have hpage : ¬ (0x40 ≤ a / 256 ∧ a / 256 ≤ 0x42) := fun hp => by
    have : kindOf (a / 256) = some .port := by
      obtain h | h | h : a / 256 = 0x40 ∨ a / 256 = 0x41 ∨ a / 256 = 0x42 := by omega
      all_goals rw [h]; rfl
    exact hne (Option.some.inj (hk.symm.trans this))
  constructor
  · simp only [portMaskedReg, Bool.and_eq_false_iff, decide_eq_false_iff_not]
    omega
  · simp only [portSetReg, Bool.and_eq_false_iff, decide_eq_false_iff_not]
    omega

/-- The offsets of a kind's W1C registers outside the common layout: the event flags of IRQ, KDROP, the capture states. -/
def flagOffsets : Kind → List Nat
  | .irq => [0x1C, 0x1D, 0x1E, 0x1F]
  | .etch => [0x11]
  | .tsu => [0x26, 0x2E, 0x36, 0x3E, 0x46, 0x4E, 0x56, 0x5E]
  | _ => []

theorem offset_of_w1cOnly {k : Kind} {o : Nat} {d : RegDesc} (hd : k.desc o = some d) (hw : d.w1c ≠ 0) (hrw : d.rw = 0)
    (hrwl : d.rwl = 0) : o = 3 ∨ o = 4 ∨ o ∈ flagOffsets k := by
  have rows : ∀ k : Kind, ∀ d ∈ k.commonRows ++ k.rows, d.w1c ≠ 0 → d.rw = 0 → d.rwl = 0 →
      d.off = 3 ∨ d.off = 4 ∨ d.off ∈ flagOffsets k := by
    intro k; cases k <;> decide +kernel
  have hm : d ∈ k.commonRows ++ k.rows ∧ d.off = o := by
    rcases (Option.orElse_eq_some _ _ _).1 hd with h | ⟨-, h⟩
    · exact ⟨List.mem_append_left _ (List.mem_of_find?_eq_some h), by simpa using List.find?_some h⟩
    · exact ⟨List.mem_append_right _ (List.mem_of_find?_eq_some h), by simpa using List.find?_some h⟩
  exact hm.2 ▸ rows k d hm.1 hw hrw hrwl

/-- The registers of `flagOffsets` are block registers, whose block adds nothing to the plain effect of a write. -/
theorem blockReg_of_flagOffset {a : Nat} {k : Kind} (hk : kindOf (a / 256) = some k) (ho : a % 256 ∈ flagOffsets k) :
    blockReg a k = true ∧ ∀ (h : Hw) (p : Party) (v : Word), h.blockWrite p k a v = h.plainWrite a v := by
  have hne : k ≠ .port := by rintro rfl; simp [flagOffsets] at ho
  have hrow : (k.desc (a % 256)).isSome = true ∧ 16 ≤ a % 256 ∧
      (k.groups.find? fun g => g.1 ≤ a % 256 && a % 256 < g.1 + g.2.1) = none := by
    revert ho
    generalize a % 256 = o
    revert o
    cases k <;> decide +kernel
  obtain ⟨hd, h16, hg⟩ := hrow
  refine ⟨(blockReg_iff a k).2 ⟨hk, Option.isSome_iff_exists.1 hd, h16, by simp [groupAt, hk, hg], portRules_of_kind hk hne⟩,
    fun h p v => ?_⟩
  cases k <;> simp only [flagOffsets, List.mem_cons, List.not_mem_nil, or_false] at ho
  case irq => simp [blockWrite, Kind.dom, writeVigil, show a % 256 ≠ 16 by omega]
  case etch => simp [blockWrite, Kind.dom, writeSense, ho]
  case tsu => simp [blockWrite, Kind.dom, writeTime, show a % 256 ≠ 16 by omega]

theorem desc_iflag (k : Kind) : k.desc 4 = some (rd 0x04 0 0 0 k.ifMask 0 0) := rfl

/-- A register of R113 beside IFORCE has a row without RW and RWL bits, and lies in the common layout or among
`flagOffsets`. -/
theorem row_of_orReg {a : Nat} {k : Kind} (hk : kindOf (a / 256) = some k) (ho : orReg a = true) (h7 : a % 256 ≠ 7) :
    ∃ d, k.desc (a % 256) = some d ∧ d.rw = 0 ∧ d.rwl = 0 ∧ (a % 256 = 3 ∨ a % 256 = 4 ∨ a % 256 ∈ flagOffsets k) := by
  by_cases h4 : a % 256 = 4
  · exact ⟨_, h4 ▸ desc_iflag k, rfl, rfl, .inr (.inl h4)⟩
  · simp only [orReg, h4, h7, decide_false, Bool.false_eq_true, if_false, Bool.or_self, descOf, hk] at ho
    split at ho
    · cases ho
    · rename_i d hd
      simp only [Bool.and_eq_true, bne_iff_ne, decide_eq_true_eq] at ho
      obtain ⟨⟨hw, hrw⟩, hrwl⟩ := ho
      exact ⟨d, hd, hrw, hrwl, offset_of_w1cOnly hd hw hrw hrwl⟩

/-- No register of R113 has another rule at the arbiter. -/
theorem orReg_noRule {a : Nat} {k : Kind} (hk : kindOf (a / 256) = some k) (ho : orReg a = true) :
    a ≠ R.MBX_REL ∧ portMaskedReg a = false := by
  refine ⟨?_, ?_⟩
  · rintro rfl
    exact absurd ho (by decide)
  · by_cases h7 : a % 256 = 7
    · exact portMaskedReg_common a (by omega)
    · obtain ⟨-, -, -, -, h3 | h4 | hf⟩ := row_of_orReg hk ho h7
      · exact portMaskedReg_common a (by omega)
      · exact portMaskedReg_common a (by omega)
      · exact ((blockReg_iff a k).1 (blockReg_of_flagOffset hk hf).1).2.2.2.2.1

/-- A write to a register of R113 clears bits of it, or sets bits of IFLAG through IFORCE (R96). -/
theorem writeReg_orReg (h : Hw) (p : Party) (a : Nat) (v : Word) (k : Kind) (hk : kindOf (a / 256) = some k)
    (hu : h.pageUp (a / 256) = true) (hb : etchBarred p a = none) (ho : orReg a = true) :
    (a % 256 = 7 ∧ ∃ w, h.writeReg p a v = (h.setReg (a / 256 * 256 + 4) w, false)) ∨
      ∃ d, d.rw = 0 ∧ d.rwl = 0 ∧ h.writeReg p a v = (h.setReg a (plainWord d (h.reg a) v), false) := by
  by_cases h7 : a % 256 = 7
  · have e := writeReg_common h p a v k hk hu hb (by omega) (by omega)
    rw [commonWrite, if_pos h7, setBits] at e
    exact .inl ⟨h7, _, e⟩
  · obtain ⟨d, hd, hrw, hrwl, hoff⟩ := row_of_orReg hk ho h7
    refine .inr ⟨d, hrw, hrwl, ?_⟩
    rw [← plainWrite_eq h a v d (by simp [descOf, hk, hd])]
    rcases or_assoc.2 hoff with hc | hf
    · rw [writeReg_common h p a v k hk hu hb (by omega) (by omega), commonWrite, if_neg h7, if_neg (by omega),
        show a / 256 * 256 + a % 256 = a by omega]
    · obtain ⟨hr, hw⟩ := blockReg_of_flagOffset hk hf
      rw [writeReg_blockReg h p a v k hr hu hb, fieldWrite, hd]
      simp [hrwl, wd, hw]

/-- Such a write never sets COLLIDE. -/
theorem collide_of_writeReg_orReg (h : Hw) (p : Party) (a : Nat) (v : Word) (k : Kind) (hk : kindOf (a / 256) = some k)
    (hu : h.pageUp (a / 256) = true) (hb : etchBarred p a = none) (ho : orReg a = true)
    (hc : (h.writeReg p a v).1.b R.IDENT_STAT 11 = true) : h.b R.IDENT_STAT 11 = true := by
  rcases writeReg_orReg h p a v k hk hu hb ho with ⟨-, w, e⟩ | ⟨d, hrw, hrwl, e⟩
  · rwa [e, b_setReg_ne _ _ _ _ _ (show 3 ≠ a / 256 * 256 + 4 by omega)] at hc
  · rw [e] at hc
    by_cases ha : R.IDENT_STAT = a
    · subst ha
      rw [b, reg_setReg_same, getLsbD_plainWord _ _ _ _ (by decide), hrw, hrwl] at hc
      simp only [Nat.or_self, Nat.zero_testBit, Bool.false_eq_true, if_false] at hc
      split at hc
      · exact (Bool.and_eq_true _ _ ▸ hc).1
      · exact hc
    · rwa [b_setReg_ne _ _ _ _ _ ha] at hc

/-! ### The arbiter at such a register -/

/-- Writes to a register of R113 act as one write of their OR by the party ranked highest. -/
theorem arbitrate_orReg (h : Hw) (a : Nat) (k : Kind) (ws : List (Party × Word)) (p : Party) (v : Word)
    (t : List (Party × Word)) (hk : kindOf (a / 256) = some k) (hu : h.pageUp (a / 256) = true) (ho : orReg a = true)
    (hup : ∀ w ∈ ws, h.partyUp w.1 = true) (ha : ∀ w ∈ ws, aside a w.1 = false) (hr : ranked ws = (p, v) :: t) :
    h.arbitrate a ws = (h.writeReg p a (orOf ws)).1 := by
  obtain ⟨hrel, hm⟩ := orReg_noRule hk ho
  have hin : ws.filter (fun w => !aside a w.1) = ws := List.filter_eq_self.2 fun w hw => by simp [ha w hw]
  have hout : ws.filter (fun w => aside a w.1) = [] := List.filter_eq_nil_iff.2 fun w hw => by simp [ha w hw]
  rw [← orOf_ranked ws, hr]
  unfold arbitrate
  simp [List.filter_eq_self.2 hup, asideWrites, hin, hout, hr, hk, readErr, hu, hrel, hm, ho, orOf]

/-- Nothing reaches an unassigned page (R94). -/
theorem arbitrate_unassigned (h : Hw) (a : Nat) (ws : List (Party × Word)) (hk : kindOf (a / 256) = none)
    (ha : ∀ w ∈ ws, aside a w.1 = false) : h.arbitrate a ws = h := by
  have hout : (ws.filter fun w => h.partyUp w.1).filter (fun w => aside a w.1) = [] :=
    List.filter_eq_nil_iff.2 fun w hw => by simp [ha w (List.mem_of_mem_filter hw)]
  unfold arbitrate
  simp only [asideWrites, hout, List.foldl_nil, hk, Option.isNone_none, if_true]
  split <;> rfl

theorem etchBarred_of_aside {a : Nat} {p : Party} (ha : aside a p = false) : etchBarred p a = none := by
  simpa using (Bool.or_eq_false_iff.1 ha).2

end Hw

/-- Settles O15: the arbiter by `arbitrate_orReg`, COLLIDE by `collide_of_writeReg_orReg`. -/
theorem flagWritesApplyTheOr : Obligations.FlagWritesApplyTheOr := by
  intro s a ws hsent hup ha ho hu
  have hne : ws ≠ [] := by rintro rfl; cases hsent
  obtain ⟨⟨p, v⟩, t, hr⟩ := List.exists_cons_of_ne_nil fun e => hne (List.Perm.nil_eq (e ▸ Hw.ranked_perm ws)).symm
  have hmem : (p, v) ∈ ws := (Hw.ranked_perm ws).mem_iff.1 (hr ▸ List.mem_cons_self)
  have hone : ∀ w ∈ [(p, Hw.orOf ws)], s.hw.partyUp w.1 = true ∧ Hw.aside a.toNat w.1 = false := by
    simpa using ⟨hup _ hmem, ha _ hmem⟩
  refine ⟨p, List.mem_map_of_mem hmem, s.hw.arbitrate a.toNat ws, ?_, ?_⟩
  · rw [Hw.exec_registerWrite s a ws _ hsent, Hw.arbitrateTie_none]
  · show exec (.registerWrite a [(p, Hw.orOf ws)] Tie.none) s = _ ∧ _
    rw [Hw.exec_registerWrite s a _ _ rfl, Hw.arbitrateTie_none]
    cases hk : kindOf (a.toNat / 256) with
    | none =>
      rw [Hw.arbitrate_unassigned _ _ _ hk fun w hw => (hone w hw).2, Hw.arbitrate_unassigned _ _ _ hk ha]
      exact ⟨rfl, id⟩
    | some k =>
      rw [Hw.arbitrate_orReg _ _ k _ _ _ _ hk hu ho (fun w hw => (hone w hw).1) (fun w hw => (hone w hw).2) rfl,
        Hw.arbitrate_orReg _ _ k _ _ _ _ hk hu ho hup ha hr, Hw.orOf_single]
      exact ⟨rfl, Hw.collide_of_writeReg_orReg _ _ _ _ k hk hu (Hw.etchBarred_of_aside (ha _ hmem)) ho⟩

end Sys2Proof.Machine

/-! ## Proofs: wide groups (O17) -/

namespace Sys2Proof.Machine

/-! ### Many cells written at once -/

theorem Cells.get_foldl_put_ne {α : Type} [DecidableEq α] (d : Nat → α) (k : Nat → Nat) (v : Nat → α) (x : Nat)
    (l : List Nat) (c : Cells α) (hx : ∀ i ∈ l, x ≠ k i) :
    Cells.get d (l.foldl (fun c i => Cells.put d c (k i) (v i)) c) x = Cells.get d c x := by
  induction l generalizing c with
  | nil => rfl
  | cons j t ih =>
    rw [List.foldl_cons, ih _ fun i hi => hx i (List.mem_cons_of_mem _ hi),
      Cells.get_put_ne _ _ _ _ _ (hx j List.mem_cons_self)]

theorem Cells.get_foldl_put_mem {α : Type} [DecidableEq α] (d : Nat → α) (k : Nat → Nat) (v : Nat → α)
    (hk : Function.Injective k) (i : Nat) (l : List Nat) (c : Cells α) (hi : i ∈ l) :
    Cells.get d (l.foldl (fun c i => Cells.put d c (k i) (v i)) c) (k i) = v i := by
  induction l generalizing c with
  | nil => cases hi
  | cons j t ih =>
    by_cases ht : i ∈ t
    · exact ih _ ht
    · obtain rfl : i = j := (List.mem_cons.1 hi).resolve_right ht
      rw [List.foldl_cons, Cells.get_foldl_put_ne d k v _ t _ fun m hm e => ht (by rwa [hk e]), Cells.get_put_same]

namespace Hw

/-! ### The group of an address -/

/-- The groups of a kind lie above the common layout and within the page, and no two overlap. -/
theorem groups_shape (k : Kind) (g : Nat × Nat × Bool) (hg : g ∈ k.groups) :
    16 ≤ g.1 ∧ 2 ≤ g.2.1 ∧ g.1 + g.2.1 ≤ 256 ∧
      ∀ i, i < g.2.1 → (k.groups.find? fun x => x.1 ≤ g.1 + i && g.1 + i < x.1 + x.2.1) = some g := by
  revert g
  cases k <;> decide +kernel

/-- What an address in a group says: where its group begins and ends, and that its other addresses name the same group. -/
theorem groupAt_spec {a key len : Nat} {ro : Bool} (hg : groupAt a = some (key, len, ro)) :
    (∃ k, kindOf (a / 256) = some k) ∧ key / 256 = a / 256 ∧ 16 ≤ key % 256 ∧ key % 256 + len ≤ 256 ∧ 2 ≤ len ∧
      key ≤ a ∧ a < key + len ∧ ∀ i, i < len → groupAt (key + i) = some (key, len, ro) := by
  unfold groupAt at hg
  cases hk : kindOf (a / 256) with
  | none => simp [hk] at hg
  | some k =>
    simp only [hk, Option.map_eq_some_iff, Prod.mk.injEq] at hg
    obtain ⟨⟨off, len', ro'⟩, hfind, hkey, rfl, rfl⟩ := hg
    obtain ⟨h16, h2, hend, hsame⟩ := groups_shape k _ (List.mem_of_find?_eq_some hfind)
    have hin := List.find?_some hfind
    simp only [Bool.and_eq_true, decide_eq_true_eq] at hin h16 h2 hend hsame
    obtain ⟨hlo, hhi⟩ := hin
    refine ⟨⟨k, rfl⟩, by omega, by omega, by omega, h2, by omega, by omega, fun i hi => ?_⟩
    have hpage : (key + i) / 256 = a / 256 := by omega
    have hoff : (key + i) % 256 = off + i := by omega
    simp only [groupAt, hpage, hk, hoff, hsame i hi, Option.map_some, hkey]

/-- No register of a group has a port rule. -/
theorem portRules_of_group {a key len : Nat} {ro : Bool} (hg : groupAt a = some (key, len, ro)) :
    portMaskedReg a = false ∧ portSetReg a = false := by
  obtain ⟨⟨k, hk⟩, -⟩ := groupAt_spec hg
  refine portRules_of_kind hk ?_
  rintro rfl
  simp [groupAt, hk, Kind.groups] at hg

/-! ### Reads -/

/-- A read of a group's register on a powered page (R104). -/
theorem readBus_group (h : Hw) (p : Party) {a key len : Nat} {ro : Bool} (hg : groupAt a = some (key, len, ro))
    (hu : h.pageUp (a / 256) = true) : h.readBus p a =
      if a = key then (some (h.live' p a), (h.latchGroup p key len).capRead key) else (some (h.shadow p key a), h) := by
  obtain ⟨-, hpage, h16, hend, -, hlo, hhi, -⟩ := groupAt_spec hg
  have h15 : a % 256 ≠ 15 := by omega
  have hnone : groupAt R.BUF_ADATA = none ∧ groupAt R.EPROG_STREAM = none := by decide
  have hbuf : a ≠ R.BUF_ADATA := by rintro rfl; simp [hnone] at hg
  have hprog : a ≠ R.EPROG_STREAM := by rintro rfl; simp [hnone] at hg
  simp only [readBus, h15, decide_false, Bool.and_false, Bool.false_and, Bool.false_eq_true, if_false, readErr, hu,
    Bool.not_true, readReg, hbuf, hprog, hg]
  split <;> rfl

/-- A read that its party may make and that meets no bus error. -/
theorem readRow_of_readBus (h g : Hw) (p : Party) (a : Nat) (w : Word) (hp : h.partyUp p = true)
    (hb : etchBarred p a = none) (hr : h.readBus p a = (some w, g)) : h.readRow p a = g := by
  simp [readRow, hp, hb, hr]

theorem copyKey_injective (p : Party) (key : Nat) : Function.Injective fun i => copyKey p (key + i) := fun i j e => by
  simp only [copyKey] at e
  omega

/-- A latched register is in the shadow. -/
theorem get_latchGroup (h : Hw) (p : Party) (key len i : Nat) (hi : i < len) :
    Cells.get (fun _ => none) (h.latchGroup p key len).shadows (copyKey p (key + i)) = some (h.live' p (key + i)) :=
  Cells.get_foldl_put_mem _ (fun i => copyKey p (key + i)) _ (copyKey_injective p key) i _ _ (List.mem_range.2 hi)

theorem shadow_of_latched (h : Hw) (p : Party) (key a : Nat) (w : Word)
    (hs : Cells.get (fun _ => none) h.shadows (copyKey p a) = some w) : h.shadow p key a = w := by
  simp [shadow, hs]

/-! ### Writes -/

/-- A write to a group's register on a powered page (R105, R383). -/
theorem writeReg_group (h : Hw) (p : Party) (v : Word) {a key len : Nat} {ro : Bool}
    (hg : groupAt a = some (key, len, ro)) (hu : h.pageUp (a / 256) = true) (hb : etchBarred p a = none) :
    h.writeReg p a v = if ro || h.captureReg a then (h, false)
      else if a = key then h.commit p key len v else (h.stage p a v, false) := by
  obtain ⟨⟨k, hk⟩, hpage, h16, hend, -, hlo, hhi, -⟩ := groupAt_spec hg
  obtain ⟨hm, hs⟩ := portRules_of_group hg
  unfold writeReg
  simp [hk, hb, hu, hm, hs, hg, pselAccess, show a % 256 ≠ 15 by omega, show ¬ a % 256 < 2 by omega,
    show a % 256 ≠ 2 by omega, show ¬ a % 256 < 16 by omega]

theorem isStaged_iff (a : Nat) : isStaged a = true ↔ ∃ key len, groupAt a = some (key, len, false) ∧ a ≠ key := by
  unfold isStaged
  split
  · rename_i k len ro hg
    cases ro <;> simp [hg]
  · rename_i hg
    simp [hg]

theorem groupKey_iff (a len : Nat) : groupKey a len = true ↔ groupAt a = some (a, len, false) ∧
    (kindOf (a / 256)).isSome = true ∧ 16 ≤ a % 256 ∧ a / 256 ≠ 6 ∧ portMaskedReg a = false ∧ portSetReg a = false := by
  simp only [groupKey, Bool.and_eq_true, beq_iff_eq, decide_eq_true_eq, Bool.not_eq_true', and_assoc]

theorem groupLenOf_eq {a len : Nat} {ro : Bool} (hg : groupAt a = some (a, len, ro)) : groupLenOf a = len := by
  simp [groupLenOf, hg]

/-- A commit that a lock bars is a locked write of the whole group, and the staging copy empties (R106). -/
theorem commit_locked (h : Hw) (p : Party) (v : Word) {a len : Nat} (hg : groupAt a = some (a, len, false))
    (h6 : a / 256 ≠ 6) (hl : h.commitLocked a (h.groupWords p a v) = true) :
    h.commit p a len v = ((h.lockHit a).groupDone p a, false) := by
  rw [groupWords, groupLenOf_eq hg] at hl
  simp [commit, h6, hl, groupDone, groupLenOf_eq hg]

/-- The words of a commit outside the mailboxes (R105). -/
theorem wordOf_groupWords (h : Hw) (p : Party) (v : Word) {a len : Nat} (hg : groupAt a = some (a, len, false))
    (h6 : a / 256 ≠ 6) (i : Nat) (hi : i < len) : wordOf (h.groupWords p a v) i = if i = 0 then v
      else (Cells.get (fun _ => none) h.staging (copyKey p (a + i))).getD (h.live' p (a + i)) := by
  rw [groupWords, groupLenOf_eq hg, wordOf, commitWords, List.getD_eq_getElem _ _ (by simpa using hi), List.getElem_map,
    List.getElem_range]
  split
  · rfl
  · cases Cells.get (fun _ => none) h.staging (copyKey p (a + i)) <;> rfl

theorem length_groupWords (h : Hw) (p : Party) (v : Word) {a len : Nat} (hg : groupAt a = some (a, len, false)) :
    (h.groupWords p a v).length = len := by
  simp [groupWords, groupLenOf_eq hg, commitWords]

theorem get_groupDone (h : Hw) (p : Party) {a len : Nat} (hg : groupAt a = some (a, len, false)) (i : Nat) (hi : i < len) :
    Cells.get (fun _ => none) (h.groupDone p a).staging (copyKey p (a + i)) = none := by
  refine Cells.get_clear_in _ (fun c => copyKey p a ≤ c && c < copyKey p a + groupLenOf a) _ _ ?_
  rw [groupLenOf_eq hg, Bool.and_eq_true]
  exact ⟨decide_eq_true (by simp only [copyKey]; omega), decide_eq_true (by simp only [copyKey]; omega)⟩

/-! ### The commands -/

theorem exec_keyRead (s : State) (p : Party) (a : Word) {len : Nat} {ro : Bool}
    (hg : groupAt a.toNat = some (a.toNat, len, ro)) :
    exec (.keyRead p a) s = .next (s.after (s.hw.readRow p a.toNat)) := by
  show execKeyRead p a s = _
  simp [execKeyRead, isKeyRead, hg, done_eq]

theorem exec_stagingWrite (s : State) (p : Party) (a v : Word) (hs : isStaged a.toNat = true) :
    exec (.stagingWrite p a v) s = .next (s.after (s.hw.writeRow p a.toNat v)) := by
  show execStagingWrite p a v s = _
  simp [execStagingWrite, hs, done_eq]

/-- A staging write is stored, or ignored at a capture channel (R105, R383). -/
theorem exec_stagingWrite_up (s : State) (p : Party) (a v : Word) (hs : isStaged a.toNat = true)
    (hp : s.hw.partyUp p = true) (hu : s.hw.pageUp (a.toNat / 256) = true) (hb : etchBarred p a.toNat = none) :
    exec (.stagingWrite p a v) s = .next (s.after (if s.hw.captureReg a.toNat = true then s.hw else s.hw.stage p a.toNat v)) := by
  obtain ⟨key, len, hg, hne⟩ := (isStaged_iff _).1 hs
  have e := writeReg_group s.hw p v hg hu hb
  rw [Bool.false_or, if_neg hne] at e
  rw [exec_stagingWrite s p a v hs, writeRow_of_writeReg _ _ p _ v hp (e.trans _)]
  split <;> rfl

/-- A commit by one party is its write to the key. -/
theorem exec_wideGroupCommit (s : State) (p : Party) (a v : Word) {len : Nat} (hk : groupKey a.toNat len = true)
    (hp : s.hw.partyUp p = true) (hu : s.hw.pageUp (a.toNat / 256) = true) (hb : etchBarred p a.toNat = none) :
    exec (.wideGroupCommit a [(p, v)]) s = .next (s.after (s.hw.writeRow p a.toNat v)) := by
  obtain ⟨hg, -, h16, h6, hm, -⟩ := (groupKey_iff _ _).1 hk
  have hrel : a.toNat ≠ R.MBX_REL := fun e => h6 (by rw [e]; decide)
  show execWideGroupCommit a [(p, v)] s = _
  simp [execWideGroupCommit, isKey, hg, wellSent, done_eq, arbitrate_single s.hw p _ v hp hu hrel hm h6 (by omega) hb]

end Hw

/-- Settles O17: reads by `readBus_group` and `get_latchGroup`, writes by `writeReg_group`, the words of a commit by
`wordOf_groupWords`. -/
theorem wideGroupsReadAndCommitWhole : Obligations.WideGroupsReadAndCommitWhole := by
  intro s p a v hp hu hb
  refine ⟨fun len ro hg => ⟨?_, fun i hi => ?_, fun h i w h0 hi hup hs => ?_⟩, fun hs hc => ?_, fun len hk hc => ?_,
    fun hs hc => ?_, fun len hk hc => ⟨fun hl => ?_, fun hl => ?_, ?_, ?_, fun i h0 hi => ?_, fun h i hi => ?_⟩⟩
  · have hr := Hw.readBus_group s.hw p hg hu
    rw [if_pos rfl] at hr
    rw [Hw.exec_keyRead s p a hg, Hw.readRow_of_readBus _ _ _ _ _ hp hb hr]
  · exact Hw.get_latchGroup s.hw p _ len i hi
  · obtain ⟨-, -, h16, hend, -, -, -, hsame⟩ := Hw.groupAt_spec hg
    rw [Hw.readBus_group h p (hsame i hi) (by rwa [show (a.toNat + i) / 256 = a.toNat / 256 by omega]),
      if_neg (by omega), Hw.shadow_of_latched h p _ _ w hs]
  · rw [Hw.exec_stagingWrite_up s p a v hs hp hu hb, hc]
    rfl
  · obtain ⟨hg, -⟩ := (Hw.groupKey_iff _ _).1 hk
    have e := Hw.writeReg_group s.hw p v hg hu hb
    rw [Bool.false_or, if_pos hc] at e
    rw [Hw.exec_wideGroupCommit s p a v hk hp hu hb, Hw.writeRow_of_writeReg _ _ _ _ _ hp e]
  · rw [Hw.exec_stagingWrite_up s p a v hs hp hu hb, if_pos hc]
  · rw [Hw.exec_wideGroupCommit s p a v hk hp hu hb,
      Hw.writeRow_commit s.hw p _ len v hk ⟨hp, hu, hl, hb, hc⟩]
  · obtain ⟨hg, -, -, h6, -⟩ := (Hw.groupKey_iff _ _).1 hk
    have e := Hw.writeReg_group s.hw p v hg hu hb
    rw [Bool.false_or, if_neg (by simp [hc]), if_pos rfl, Hw.commit_locked s.hw p v hg h6 hl] at e
    rw [Hw.exec_wideGroupCommit s p a v hk hp hu hb, Hw.writeRow_of_writeReg _ _ _ _ _ hp e]
  · exact Hw.length_groupWords s.hw p v ((Hw.groupKey_iff _ _).1 hk).1
  · obtain ⟨hg, -, -, h6, -⟩ := (Hw.groupKey_iff _ _).1 hk
    obtain ⟨-, -, -, -, h2, -⟩ := Hw.groupAt_spec hg
    rw [Hw.wordOf_groupWords s.hw p v hg h6 0 (by omega), if_pos rfl]
  · obtain ⟨hg, -, -, h6, -⟩ := (Hw.groupKey_iff _ _).1 hk
    rw [Hw.wordOf_groupWords s.hw p v hg h6 i hi, if_neg (by omega)]
  · exact Hw.get_groupDone h p ((Hw.groupKey_iff _ _).1 hk).1 i hi

end Sys2Proof.Machine

/-! ## Proofs: accesses of an Etcher (O43) -/

namespace Sys2Proof.Machine

/-- An Etcher as its entry into IDLE leaves it (R299). -/
def Etcher.idled (e : Etcher) : Etcher :=
  { e.paid with
    st := .idle, stopping := false, pend := none, access := none, it := e.paid.it.map fun t => { t with counting := false } }

@[simp] theorem Etcher.paid_idled (e : Etcher) : e.idled.paid = e.idled := Hw.paid_zero e.idled rfl

namespace Hw

/-! ### What changes one Etcher -/

theorem etcher_setEtcher_ne (h : Hw) (n m : Fin 8) (e : Etcher) (hm : m ≠ n) : (h.setEtcher n e).etcher m = h.etcher m := by
  have hne : (n : Nat) ≠ m := fun e => hm (Fin.ext e.symm)
  simp [etcher, setEtcher, hne]

theorem etcher_of_etch {h g : Hw} (he : g.etch = h.etch) (n : Fin 8) : g.etcher n = h.etcher n := by rw [etcher, he, etcher]

theorem etchError_etch (h : Hw) (n : Fin 8) (code pc : Nat) : (h.etchError n code pc).etch = h.etch := raise_etch _ _ _

/-- The cause of an error (R323). -/
theorem etchError_cause (h : Hw) (n : Fin 8) (code pc : Nat) (hp : pc < 1024) :
    (h.etchError n code pc).reg (R.ETCH_R n 5) = wd (code * 4096 + pc) := by
  rw [etchError, etchFlag, reg_raise_ne _ _ _ _ (by simp only [R.ETCH_R]; omega), reg_setReg_same, Nat.mod_eq_of_lt hp]

theorem etchError_flag (h : Hw) (n : Fin 8) (code pc : Nat) (hl : h.live .sense = true) :
    (h.etchError n code pc).b R.ETCH_IFLAG (8 + n) = true :=
  raise_b_same _ 0x16 _ (by omega) hl

theorem etchPc_lt (h : Hw) (n : Fin 8) : h.etchPc n < 1024 := (h.etcher n).pc.isLt

/-- The entry into IDLE sets HALTn, unless the Etcher was IDLE before (R299). -/
theorem etchIdle_eq (h : Hw) (n : Fin 8) : h.etchIdle n =
    if (h.etcher n).st = .idle then h.setEtcher n (h.etcher n).idled
    else (h.setEtcher n (h.etcher n).idled).raise 0x16 n := rfl

@[simp] theorem etchIdle_etcher (h : Hw) (n : Fin 8) : (h.etchIdle n).etcher n = (h.etcher n).idled := by
  rw [etchIdle_eq]
  split
  · exact etcher_setEtcher _ _ _
  · exact (etcher_of_etch (raise_etch _ _ _) n).trans (etcher_setEtcher _ _ _)

/-- `g` differs from `h` in Etcher `n` and the flags of the ETCH page, as far as Etchers and registers go. -/
def EtchOnly (n : Fin 8) (h g : Hw) : Prop :=
  (∀ k, k ≠ n → g.etcher k = h.etcher k) ∧ ∀ a, a ≠ R.ETCH_IFLAG → g.reg a = h.reg a

theorem EtchOnly.refl (n : Fin 8) (h : Hw) : EtchOnly n h h := ⟨fun _ _ => rfl, fun _ _ => rfl⟩

theorem EtchOnly.trans {n : Fin 8} {h g f : Hw} (hg : EtchOnly n h g) (hf : EtchOnly n g f) : EtchOnly n h f :=
  ⟨fun k hk => (hf.1 k hk).trans (hg.1 k hk), fun a ha => (hf.2 a ha).trans (hg.2 a ha)⟩

theorem EtchOnly.cause {n : Fin 8} {h g : Hw} (hg : EtchOnly n h g) : g.reg (R.ETCH_R n 5) = h.reg (R.ETCH_R n 5) :=
  hg.2 _ (by simp only [R.ETCH_R, R.ETCH_IFLAG]; omega)

theorem etchOnly_setEtcher (h : Hw) (n : Fin 8) (e : Etcher) : EtchOnly n h (h.setEtcher n e) :=
  ⟨fun _ hk => etcher_setEtcher_ne _ _ _ _ hk, fun _ _ => rfl⟩

theorem etchOnly_etchIdle (h : Hw) (n : Fin 8) : EtchOnly n h (h.etchIdle n) := by
  rw [etchIdle_eq]
  split
  · exact etchOnly_setEtcher _ _ _
  · exact (etchOnly_setEtcher _ _ _).trans
      ⟨fun k _ => etcher_of_etch (raise_etch _ _ _) k, fun a ha => reg_raise_ne _ _ _ _ ha⟩

/-- The entry into IDLE clears no flag. -/
theorem etchIdle_b_mono (h : Hw) (n : Fin 8) (a i : Nat) (hb : h.b a i = true) : (h.etchIdle n).b a i = true := by
  rw [etchIdle_eq]
  split
  · exact hb
  · exact raise_b_mono _ _ _ _ _ hb

/-! ### The instructions with an access -/

/-- An instruction that is fetched and that the command names is executed (R294, R317). -/
theorem etchDo_of_fetch {h g : Hw} {n : Fin 8} {op : EtchOp} {pick : EtchOp → Option Hw}
    (hf : h.etchFetch n = some op) (hp : pick op = some g) : h.etchDo n pick = g.etchPaid n := by
  obtain ⟨-, -, hin, -⟩ := etchFetch_some hf
  simp [etchDo, fetchFails, hin, hf, hp]

/-- The stall of an instruction with an access, once its cycle ends (R310, R315). -/
theorem etchStall_paid (h : Hw) (n : Fin 8) (x : Access) :
    ((h.etchSaw n).etchStall n x).etchPaid n = h.setEtcher n { (h.etcher n).paid with
      st := .stall, access := some x, seen := h.fabric, seenSample := h.newSample } := by
  simp only [etchSaw, etchStall, etchPaid, etcher_setEtcher, setEtcher_setEtcher]
  rfl

theorem etchSoftError_next (h : Hw) (n : Fin 8) (code : Nat) (hb : h.b (R.ETCH_R n 0) 14 = false) :
    h.etchSoftError n code = (h.etchError n code (h.etchPc n)).etchNext n := by
  unfold etchSoftError
  rw [hb]
  rfl

theorem etchSoftError_idle (h : Hw) (n : Fin 8) (code : Nat) (hb : h.b (R.ETCH_R n 0) 14 = true) :
    h.etchSoftError n code = (h.etchError n code (h.etchPc n)).etchIdle n := by
  unfold etchSoftError
  rw [hb]
  rfl

theorem etchNext_etcher (h : Hw) (n : Fin 8) : (h.etchNext n).etcher n =
    { h.etcher n with pc := BitVec.ofNat 10 (h.etchPc n + 1), st := .run } := etcher_setEtcher _ _ _

/-- An instruction whose access is barred, once its cycle ends: it records error 4 and goes on, or halts with ERRHALT
(R315, R323). -/
def barredAccess (h : Hw) (n : Fin 8) : Hw := ((h.etchSaw n).etchSoftError n 4).etchPaid n

/-- The state in which a barred access goes on or halts. -/
def barredError (h : Hw) (n : Fin 8) : Hw := (h.etchSaw n).etchError n 4 (h.etchPc n)

theorem barredError_etcher (h : Hw) (n : Fin 8) : (h.barredError n).etcher n =
    { h.etcher n with seen := h.fabric, seenSample := h.newSample } :=
  (etcher_of_etch (etchError_etch _ _ _ _) n).trans (etcher_setEtcher _ _ _)

theorem etchPc_etchSaw (h : Hw) (n : Fin 8) : (h.etchSaw n).etchPc n = h.etchPc n := by simp [etchPc, etchSaw]

theorem barredAccess_next (h : Hw) (n : Fin 8) (hb : h.b (R.ETCH_R n 0) 14 = false) :
    h.barredAccess n = ((h.barredError n).etchNext n).etchPaid n := by
  rw [barredAccess, etchSoftError_next (h.etchSaw n) n 4 hb, etchPc_etchSaw, barredError]

theorem barredAccess_idle (h : Hw) (n : Fin 8) (hb : h.b (R.ETCH_R n 0) 14 = true) :
    h.barredAccess n = ((h.barredError n).etchIdle n).etchPaid n := by
  rw [barredAccess, etchSoftError_idle (h.etchSaw n) n 4 hb, etchPc_etchSaw, barredError]

theorem barredAccess_spec (h : Hw) (n : Fin 8) (hl : h.live .sense = true) (g : Hw) (hg : g = h.barredAccess n) :
    g.reg (R.ETCH_R n 5) = wd (4 * 4096 + h.etchPc n) ∧ g.b R.ETCH_IFLAG (8 + n) = true ∧
      (g.etcher n).c = (h.etcher n).paid.c ∧
      (h.b (R.ETCH_R n 0) 14 = false → (g.etcher n).st = .run ∧ (g.etcher n).pc = BitVec.ofNat 10 (h.etchPc n + 1)) ∧
      (h.b (R.ETCH_R n 0) 14 = true → (g.etcher n).st = .idle ∧ (g.etcher n).pc = (h.etcher n).pc) := by
  have hcause : (h.barredError n).reg (R.ETCH_R n 5) = wd (4 * 4096 + h.etchPc n) :=
    etchError_cause _ _ _ _ (h.etchPc_lt n)
  have hflag : (h.barredError n).b R.ETCH_IFLAG (8 + n) = true := etchError_flag _ _ _ _ hl
  have hpc : (h.barredError n).etchPc n = h.etchPc n := congrArg (·.pc.toNat) (h.barredError_etcher n)
  cases hb : h.b (R.ETCH_R n 0) 14 with
  | false =>
    rw [h.barredAccess_next n hb] at hg
    subst hg
    rw [etchPaid_etcher, etchNext_etcher, barredError_etcher, hpc]
    exact ⟨hcause, hflag, rfl, fun _ => ⟨rfl, rfl⟩, fun hn => nomatch hn⟩
  | true =>
    rw [h.barredAccess_idle n hb] at hg
    subst hg
    rw [etchPaid_etcher, etchIdle_etcher, Etcher.paid_idled, barredError_etcher]
    exact ⟨(etchOnly_etchIdle _ n).cause.trans hcause, etchIdle_b_mono _ n _ _ hflag, rfl, (fun hn => nomatch hn),
      fun _ => ⟨rfl, rfl⟩⟩

theorem live_of_fetch {h : Hw} {n : Fin 8} {op : EtchOp} (hf : h.etchFetch n = some op) : h.live .sense = true := by
  obtain ⟨hu, -⟩ := etchFetch_some hf
  simp only [up, Bool.and_eq_true] at hu
  simp [live, hu.1, hu.2]

/-! ### The commands of the instructions with an access -/

theorem exec_actReg {s : State} {n : Fin 8} {c : Fin 4} {a : Nat} (hf : s.hw.etchFetch n = some (.actReg c a)) :
    exec (.actReg n) s = .next (s.after ((s.hw.doActReg n c a).etchPaid n)) :=
  done_congr (etchDo_of_fetch hf rfl)

theorem exec_ldr {s : State} {n : Fin 8} {c : Fin 4} {a : Nat} (hf : s.hw.etchFetch n = some (.ldr c a)) :
    exec (.ldr n) s = .next (s.after ((s.hw.doLdr n c a).etchPaid n)) :=
  done_congr (etchDo_of_fetch hf rfl)

theorem exec_actMbx {s : State} {n : Fin 8} {mb len : Nat} (hf : s.hw.etchFetch n = some (.actMbx mb len)) :
    exec (.actMbx n) s = .next (s.after ((s.hw.doActMbx n mb len).etchPaid n)) :=
  done_congr (etchDo_of_fetch hf rfl)

/-! ### The end of an access -/

/-- The Etcher as its access ends, before what follows: the error is recorded, and the pulses of the STALL have passed
(R296, R323). -/
def accessEnded (h : Hw) (n : Fin 8) (err : Bool) : Hw :=
  (if err then (h.etchSaw n).etchError n 1 (h.etchPc n) else h.etchSaw n).setEtcher n
    { h.etcher n with seen := h.fabric, seenSample := h.newSample, access := none }

theorem accessEnded_etcher (h : Hw) (n : Fin 8) (err : Bool) : (h.accessEnded n err).etcher n =
    { h.etcher n with seen := h.fabric, seenSample := h.newSample, access := none } := etcher_setEtcher _ _ _

theorem accessEnded_other (h : Hw) (n k : Fin 8) (err : Bool) (hk : k ≠ n) :
    (h.accessEnded n err).etcher k = h.etcher k := by
  have hsaw : (h.etchSaw n).etcher k = h.etcher k := etcher_setEtcher_ne _ _ _ _ hk
  rw [accessEnded, etcher_setEtcher_ne _ _ _ _ hk]
  cases err
  · exact hsaw
  · exact (etcher_of_etch (etchError_etch _ _ _ _) k).trans hsaw

theorem accessEnded_cause (h : Hw) (n : Fin 8) : (h.accessEnded n true).reg (R.ETCH_R n 5) = wd (1 * 4096 + h.etchPc n) :=
  etchError_cause _ _ _ _ (h.etchPc_lt n)

/-- What `accessFinish` does after the end of the access, by the latched controls and the error. -/
theorem accessFinish_eq (h : Hw) (n : Fin 8) (err : Bool) :
    (∀ a, (h.etcher n).pend = some a → ∃ g, EtchOnly n (h.accessEnded n err) g ∧
      h.accessFinish n err = g.etchBegin n a.toNat) ∧
    ((h.etcher n).pend = none → (h.etcher n).stopping = true ∨ (err = true ∧ h.b (R.ETCH_R n 0) 14 = true) →
      h.accessFinish n err = (h.accessEnded n err).etchIdle n) ∧
    ((h.etcher n).pend = none → (h.etcher n).stopping = false → err = false ∨ h.b (R.ETCH_R n 0) 14 = false →
      h.accessFinish n err = (h.accessEnded n err).etchNext n) := by
  have hsaw : (h.etchSaw n).etcher n = { h.etcher n with seen := h.fabric, seenSample := h.newSample } :=
    etcher_setEtcher _ _ _
  have herr : (if err then (h.etchSaw n).etchError n 1 (h.etchPc n) else h.etchSaw n).etcher n =
      { h.etcher n with seen := h.fabric, seenSample := h.newSample } := by
    cases err
    · exact hsaw
    · exact (etcher_of_etch (etchError_etch _ _ _ _) n).trans hsaw
  unfold accessFinish
  simp only [etchPc_etchSaw, herr]
  rw [← accessEnded]
  refine ⟨fun a hp => ?_, fun hp hs => ?_, fun hp hs he => ?_⟩
  · rw [hp]
    cases (h.etcher n).stopping with
    | false => exact ⟨_, .refl _ _, rfl⟩
    | true => exact ⟨_, etchOnly_etchIdle _ n, rfl⟩
  · rw [hp]
    rcases hs with hs | ⟨rfl, hb⟩
    · rw [hs]
      rfl
    · rw [hb]
      cases (h.etcher n).stopping <;> rfl
  · rw [hp]
    rcases he with rfl | hb
    · rw [hs]
      rfl
    · rw [hs, hb, Bool.and_false]
      rfl

/-- The three ways in which an access ends (R298, R299, R315, R323). -/
theorem accessFinish_cases (h : Hw) (n : Fin 8) (err : Bool) :
    (∃ a g, (h.etcher n).pend = some a ∧ EtchOnly n (h.accessEnded n err) g ∧
      h.accessFinish n err = g.etchBegin n a.toNat) ∨
    ((h.etcher n).pend = none ∧ h.accessFinish n err = (h.accessEnded n err).etchIdle n) ∨
    ((h.etcher n).pend = none ∧ (h.etcher n).stopping = false ∧ h.accessFinish n err = (h.accessEnded n err).etchNext n) := by
  obtain ⟨hstart, hidle, hnext⟩ := h.accessFinish_eq n err
  cases hp : (h.etcher n).pend with
  | some a =>
    obtain ⟨g, hg, e⟩ := hstart a hp
    exact .inl ⟨a, g, rfl, hg, e⟩
  | none =>
    by_cases hi : (h.etcher n).stopping = true ∨ (err = true ∧ h.b (R.ETCH_R n 0) 14 = true)
    · exact .inr (.inl ⟨rfl, hidle hp hi⟩)
    · rw [not_or, not_and_or, Bool.not_eq_true, Bool.not_eq_true, Bool.not_eq_true] at hi
      exact .inr (.inr ⟨rfl, hi.1, hnext hp hi.1 hi.2⟩)

theorem etchBegin_etcher (h : Hw) (n : Fin 8) (a : BitVec 10) : ((h.etchBegin n a.toNat).etcher n).st = .run ∧
    ((h.etchBegin n a.toNat).etcher n).pc = a ∧ ((h.etchBegin n a.toNat).etcher n).access = none ∧
    ((h.etchBegin n a.toNat).etcher n).stopping = false ∧ ((h.etchBegin n a.toNat).etcher n).pend = none := by
  simp [etchBegin]

/-- Beside its own Etcher and the flags, the end of an access changes only the cause of an error. -/
theorem accessFinish_etchOnly (h : Hw) (n : Fin 8) (err : Bool) : EtchOnly n (h.accessEnded n err) (h.accessFinish n err) := by
  rcases h.accessFinish_cases n err with ⟨a, g, -, hg, e⟩ | ⟨-, e⟩ | ⟨-, -, e⟩
  · exact e ▸ hg.trans (etchOnly_setEtcher _ _ _)
  · exact e ▸ etchOnly_etchIdle _ _
  · exact e ▸ etchOnly_setEtcher _ _ _

/-- Nothing stays latched after an access. -/
theorem accessFinish_clears (h : Hw) (n : Fin 8) (err : Bool) : ((h.accessFinish n err).etcher n).access = none ∧
    ((h.accessFinish n err).etcher n).stopping = false ∧ ((h.accessFinish n err).etcher n).pend = none := by
  rcases h.accessFinish_cases n err with ⟨a, g, -, -, e⟩ | ⟨-, e⟩ | ⟨hp, hs, e⟩
  · rw [e]
    exact (etchBegin_etcher g n a).2.2
  · rw [e, etchIdle_etcher]
    exact ⟨rfl, rfl, rfl⟩
  · rw [e, etchNext_etcher, accessEnded_etcher]
    exact ⟨rfl, hs, hp⟩

/-! ### The completion -/

/-- An access of a stalled Etcher that leaves VIGIL up completes. -/
theorem exec_accessComplete {s : State} {n : Fin 8} {rival : Option Party} {x : Access} {r : Hw × Bool}
    (hst : (s.hw.etcher n).st = .stall) (hl : s.hw.live .sense = true) (hx : (s.hw.etcher n).access = some x)
    (hr : s.hw.accessApply n x rival = r) (hv : r.1.vigil = true) :
    exec (.accessComplete n rival) s = .next (s.after (r.1.accessFinish n r.2)) := by
  refine done_congr ?_
  subst hr
  simp [accessComplete, hst, hl, hx, hv]

/-- No party goes before the Etcher. -/
theorem lost_none {n : Fin 8} {rival : Option Party} (h : ∀ w, rival = some w → ¬ slot w < slot (.etch n)) :
    rival.filter (beats n) = none := by
  cases rival with
  | none => rfl
  | some w => simp [Option.filter, beats, h w rfl]

theorem lost_some {n : Fin 8} {w : Party} (h : slot w < slot (.etch n)) : (some w).filter (beats n) = some w := by
  simp [Option.filter, beats, h]

end Hw

/-- Settles O43: the stall by `etchStall_paid` and `barredAccess_spec`, the completion by `exec_accessComplete` and the
three ways of `accessFinish_cases`. -/
theorem etcherAccessesStallAndComplete : Obligations.EtcherAccessesStallAndComplete := by
  refine ⟨fun s n e c a he stalled hst => ⟨fun ha => ⟨fun hf => ?_, fun hf => ?_⟩, fun mb len hf => ?_, fun ha i hi => ?_,
    fun h code => ⟨h.etchSoftError_next n code, h.etchSoftError_idle n code⟩⟩,
    fun s n rival hst hl => ⟨fun x v g hx hu hw hg hv => ?_, fun x v w hx hu hr hw hb hm hk hv => ?_,
      fun x v hx hu hv => ?_, fun x c hx hu hs hv => ?_, fun x c v g hx hr hs hv => ?_,
      fun mb hdr data hx => ⟨fun w hr hw hv => ?_, fun hw g hg hv => ?_⟩, fun h err => ?_⟩⟩
  · subst he hst
    rw [Hw.exec_actReg hf, Hw.doActReg, if_neg (by simp [ha]), Hw.etchStall_paid]
  · subst he hst
    rw [Hw.exec_ldr hf, Hw.doLdr, if_neg (by simp [ha]), Hw.etchStall_paid]
  · subst he hst
    rw [Hw.exec_actMbx hf, Hw.doActMbx, Hw.etchStall_paid]
  · subst he
    refine ⟨s.hw.barredAccess n, ?_, ?_⟩
    · rcases hi with ⟨rfl, hf⟩ | ⟨rfl, hf⟩
      · rw [Hw.exec_actReg hf, Hw.doActReg, if_pos ha, Hw.barredAccess]
      · rw [Hw.exec_ldr hf, Hw.doLdr, if_pos ha, Hw.barredAccess]
    · have hlive : s.hw.live .sense = true := by
        rcases hi with ⟨-, hf⟩ | ⟨-, hf⟩
        · exact Hw.live_of_fetch hf
        · exact Hw.live_of_fetch hf
      exact s.hw.barredAccess_spec n hlive _ rfl
  · refine Hw.exec_accessComplete hst hl hx ?_ hv
    simp [Hw.accessApply, hu, Hw.lost_none hw, hg]
  · refine Hw.exec_accessComplete (r := (s.hw.collide x w (.etch n), false)) hst hl hx ?_ hv
    have hdrop : (some w).filter (fun _ => !Hw.mergesWrites x && (kindOf (x / 256)).isSome) = some w := by
      simp [Option.filter, hm, hk]
    simp only [Hw.accessApply, hu, hr, Hw.lost_some hw, hdrop, hb, Bool.false_eq_true, if_false]
  · refine Hw.exec_accessComplete (r := (s.hw, true)) hst hl hx ?_ hv
    simp [Hw.accessApply, hu]
  · have hr : s.hw.readBus (.etch n) x = (none, s.hw) := by simp [Hw.readBus, hu]
    refine Hw.exec_accessComplete (r := (s.hw.setCtr n c 0, true)) hst hl hx ?_ hv
    simp [Hw.accessApply, hr, hs]
  · refine Hw.exec_accessComplete (r := (g.setCtr n c v, false)) hst hl hx ?_ hv
    simp [Hw.accessApply, hr, hs]
  · refine Hw.exec_accessComplete (r := (s.hw, true)) hst hl hx ?_ hv
    simp [Hw.accessApply, hr, Hw.lost_some hw]
  · refine Hw.exec_accessComplete hst hl hx ?_ hv
    simp [Hw.accessApply, Hw.lost_none hw, hg]
  · obtain ⟨hothers, -⟩ := h.accessFinish_etchOnly n err
    obtain ⟨haccess, hstop, hpend⟩ := h.accessFinish_clears n err
    obtain ⟨hbegin, hidle, hnext⟩ := h.accessFinish_eq n err
    refine ⟨fun k => ?_, haccess, hstop, hpend, fun he => ?_, fun a hp => ?_, fun hp hs => ?_,
      fun hp hs => ⟨fun he hb => ?_, fun he => ?_⟩⟩
    · split
      · rename_i hk
        rw [hk]
      · rename_i hk
        rw [hothers k hk, Hw.accessEnded_other _ _ _ _ hk]
    · subst he
      exact (h.accessFinish_etchOnly n true).cause.trans (h.accessEnded_cause n)
    · obtain ⟨g, -, e⟩ := hbegin a hp
      obtain ⟨hrun, hpc, -⟩ := Hw.etchBegin_etcher g n a
      exact e ▸ ⟨hrun, hpc⟩
    · rw [hidle hp (.inl hs), Hw.etchIdle_etcher]
      rfl
    · rw [hidle hp (.inr ⟨he, hb⟩), Hw.etchIdle_etcher]
      rfl
    · have hpc : (h.accessEnded n err).etchPc n = h.etchPc n := congrArg (·.pc.toNat) (h.accessEnded_etcher n err)
      rw [hnext hp hs he, Hw.etchNext_etcher, hpc, Hw.accessEnded_etcher]
      exact ⟨rfl, rfl, rfl⟩

end Sys2Proof.Machine

/-! ## Proofs: shadows and staging copies belong to one party (O16) -/

namespace Sys2Proof.Machine
namespace Hw

/-- The shadows and staging copies of all parties. -/
def copies (h : Hw) : Cells (Option Word) × Cells (Option Word) := (h.shadows, h.staging)

/-! ### What leaves every copy -/

theorem copies_of_still {h g : Hw} (e : g.still = h.still) : g.copies = h.copies :=
  congrArg (fun v : StillView => (v.rest.shadows, v.rest.staging)) e

@[simp] theorem raise_copies (h : Hw) (pg bit : Nat) : (h.raise pg bit).copies = h.copies := copies_of_still (raise_still _ _ _)

theorem event_copies (h : Hw) (e : Nat) : (h.event e).copies = h.copies := copies_of_still (event_still _ _)

theorem diaryAdd_copies (h : Hw) (src : Nat) (x y : Word) : (h.diaryAdd src x y).copies = h.copies :=
  copies_of_still (diaryAdd_still _ _ _ _)

/-- What both branches leave, the choice between them leaves. -/
theorem ite_copies {c : Prop} [Decidable c] {x y h : Hw} (hx : x.copies = h.copies) (hy : y.copies = h.copies) :
    (if c then x else y).copies = h.copies := by
  split
  · exact hx
  · exact hy

theorem plainWrite_copies (h : Hw) (a : Nat) (v : Word) : (h.plainWrite a v).copies = h.copies := by
  unfold plainWrite
  split <;> rfl

theorem lockHit_copies (h : Hw) (a : Nat) : (h.lockHit a).copies = h.copies :=
  raise_copies (h.setBits R.IDENT_STAT 0x2000) 0 0

theorem etchIdle_copies (h : Hw) (n : Fin 8) : (h.etchIdle n).copies = h.copies := by
  rw [etchIdle_eq]
  exact ite_copies rfl (raise_copies _ _ _)

theorem accessError_copies (h : Hw) (n : Fin 8) (code : Nat) : (h.accessError n code).copies = h.copies := by
  have e : (h.etchError n code (h.etchPc n)).copies = h.copies := raise_copies _ _ _
  exact ite_copies ((etchIdle_copies _ _).trans e) e

theorem busErrTo_copies (h : Hw) (a : Nat) (p : Party) : (h.busErrTo a p).copies = h.copies := by
  cases p with
  | spi => exact raise_copies h 3 1
  | twi0 => exact raise_copies h 3 1
  | core => rfl
  | remote => rfl
  | etch n => exact accessError_copies h n 1

/-! ### The effects of a commit -/

theorem tgtCheck_copies (h : Hw) (n : Nat) (late : Bool) : (h.tgtCheck n late).copies = h.copies := by
  unfold tgtCheck
  extract_lets x period
  split
  · rfl
  · refine ite_copies rfl ?_
    extract_lets next h1
    have e1 : h1.copies = h.copies := (raise_copies _ _ _).trans (event_copies _ _)
    exact ite_copies ((raise_copies _ _ _).trans e1) e1

theorem almStepTo_copies (h : Hw) (n : Nat) (units : Int) (known : Bool) : (h.almStepTo n units known).copies = h.copies := by
  unfold almStepTo
  extract_lets h1 x g1 _ g2 g3
  have e1 : g1.copies = h.copies := raise_copies _ _ _
  have e2 : g2.copies = h.copies := ite_copies e1 e1
  have e3 : g3.copies = h.copies := ite_copies e2 e2
  exact (tgtCheck_copies _ _ _).trans e3

theorem switchCommit_copies (h : Hw) (n : Nat) : (h.switchCommit n).copies = h.copies := by
  unfold switchCommit
  extract_lets x m h1 y
  have e1 : h1.copies = h.copies := ite_copies rfl rfl
  exact ite_copies rfl ((raise_copies _ _ _).trans e1)

theorem servoSlew_copies (h : Hw) (n : Nat) (amount : Int) : (h.servoSlew n amount).copies = h.copies := by
  have slewed (g : Hw) : (g.slewEnded n).copies = g.copies := ite_copies rfl rfl
  have start (g : Hw) : (g.startSlew n amount).copies = g.copies := ite_copies (slewed _) rfl
  exact (start _).trans (ite_copies (switchCommit_copies h n) rfl)

theorem almTimeSet_copies (h : Hw) (n : Nat) (vs : List Word) : (h.almTimeSet n vs).copies = h.copies :=
  ite_copies (raise_copies _ _ _) (almStepTo_copies _ _ _ _)

theorem almAddSet_copies (h : Hw) (n : Nat) (vs : List Word) : (h.almAddSet n vs).copies = h.copies :=
  ite_copies (raise_copies _ _ _) rfl

theorem almSlewSet_copies (h : Hw) (n : Nat) (vs : List Word) : (h.almSlewSet n vs).copies = h.copies :=
  ite_copies (raise_copies _ _ _) (servoSlew_copies _ _ _)

/-- Registers written in turn leave the copies. -/
theorem foldl_setReg_copies {α : Type} (a : α → Nat) (v : α → Word) (l : List α) (h : Hw) :
    (l.foldl (fun g x => g.setReg (a x) (v x)) h).copies = h.copies :=
  foldl_keeps copies (fun g x => g.setReg (a x) (v x)) (fun _ _ => rfl) l h

theorem almStepSet_copies (h : Hw) (n : Nat) (vs : List Word) : (h.almStepSet n vs).copies = h.copies := by
  unfold almStepSet
  extract_lets ns sec off x h1
  have e1 : h1.copies = h.copies := foldl_setReg_copies _ _ _ _
  exact ite_copies (raise_copies _ _ _) (ite_copies (raise_copies _ _ _)
    (ite_copies ((servoSlew_copies _ _ _).trans e1) ((almStepTo_copies _ _ _ _).trans e1)))

theorem almTgtSet_copies (h : Hw) (n : Nat) (vs : List Word) : (h.almTgtSet n vs).copies = h.copies := by
  unfold almTgtSet
  extract_lets ns sec h1
  have e1 : h1.copies = h.copies := foldl_setReg_copies _ _ _ _
  exact ite_copies (raise_copies _ _ _) ((tgtCheck_copies _ _ _).trans e1)

theorem civilSet_copies (h : Hw) (vs : List Word) : (h.civilSet vs).copies = h.copies :=
  ite_copies (raise_copies _ _ _) (almStepTo_copies _ _ _ _)

theorem gridofsSet_copies (h : Hw) (vs : List Word) : (h.gridofsSet vs).copies = h.copies :=
  ite_copies (raise_copies _ _ _) (ite_copies rfl rfl)

theorem winThrSet_copies (h : Hw) (n : Nat) (vs : List Word) : (h.winThrSet n vs).copies = h.copies := by
  unfold winThrSet
  extract_lets hi lo h1
  have e1 : h1.copies = h.copies := foldl_setReg_copies _ _ _ _
  exact ite_copies (raise_copies _ _ _) (ite_copies e1 e1)

theorem timPwm_copies (h : Hw) (n x : Nat) : (h.timPwm n x).copies = h.copies := ite_copies rfl rfl

theorem timCntSet_copies (h : Hw) (n : Nat) (vs : List Word) : (h.timCntSet n vs).copies = h.copies :=
  (timPwm_copies _ _ _).trans (timPwm_copies _ _ _)

theorem timChSet_copies (h : Hw) (n x : Nat) (vs : List Word) : (h.timChSet n x vs).copies = h.copies :=
  ite_copies rfl (ite_copies (timPwm_copies _ _ _) rfl)

theorem storeWords_copies (h : Hw) (key : Nat) (vs : List Word) : (h.storeWords key vs).copies = h.copies :=
  foldl_keeps copies _ (fun g _ => plainWrite_copies g _ _) _ h

theorem enqueue_copies (h : Hw) (n : Fin 2) (event : Bool) (f : Frame) : (h.enqueue n event f).copies = h.copies :=
  ite_copies rfl (ite_copies (ite_copies rfl rfl) (ite_copies rfl rfl))

theorem arpAsk_copies (h : Hw) (stream : Bool) : (h.arpAsk stream).copies = h.copies := by
  unfold arpAsk
  split
  · rfl
  · exact ite_copies rfl (foldl_keeps copies _ (fun g n => ite_copies (enqueue_copies g n _ _) rfl) _ h)

theorem ipCommitted_copies (h : Hw) (key : Nat) : (h.ipCommitted key).copies = h.copies :=
  ite_copies (arpAsk_copies _ _) (ite_copies (arpAsk_copies _ _) (ite_copies (arpAsk_copies _ _)
    (ite_copies ((arpAsk_copies _ _).trans (arpAsk_copies _ _)) rfl)))

theorem epofsSet_copies (h : Hw) (vs : List Word) : (h.epofsSet vs).copies = h.copies :=
  ite_copies (raise_copies _ _ _) rfl

/-- What an accepted commit does leaves the copies of every party. -/
theorem commitApply_copies (h : Hw) (key : Nat) (vs : List Word) : (h.commitApply key vs).copies = h.copies := by
  unfold commitApply
  extract_lets pg o
  split
  case h_1 => rfl
  case h_2 => exact gridofsSet_copies _ _
  case h_3 => exact winThrSet_copies _ _ _
  case h_4 =>
    exact ite_copies (almTimeSet_copies _ _ _) (ite_copies (almAddSet_copies _ _ _) (ite_copies (almStepSet_copies _ _ _)
      (ite_copies (almSlewSet_copies _ _ _) (almTgtSet_copies _ _ _))))
  case h_5 => exact civilSet_copies _ _
  case h_6 =>
    exact ite_copies (timCntSet_copies _ _ _) (ite_copies rfl
      (ite_copies (timChSet_copies _ _ _ _) (timChSet_copies _ _ _ _)))
  case h_7 => exact (ipCommitted_copies _ _).trans (storeWords_copies _ _ _)
  case h_8 => exact epofsSet_copies _ _
  case h_9 => exact storeWords_copies _ _ _

theorem boxCommit_copies (h : Hw) (snd n len : Nat) (data : List Word) : (h.boxCommit snd n len data).1.copies = h.copies := by
  have haccept : (h.boxAccept snd n len data).copies = h.copies := by
    unfold boxAccept
    extract_lets c x h1
    have e1 : h1.copies = h.copies := raise_copies _ _ _
    exact ite_copies ((diaryAdd_copies _ _ _ _).trans ((raise_copies _ _ _).trans e1)) e1
  unfold boxCommit
  split
  · rfl
  · split
    · rfl
    · exact haccept

theorem capRead_copies (h : Hw) (key : Nat) : (h.capRead key).copies = h.copies := by
  have htim (n x : Nat) : (h.timCapRead n x).copies = h.copies := ite_copies rfl rfl
  exact ite_copies rfl (ite_copies (ite_copies (htim _ _) (ite_copies (htim _ _) rfl)) rfl)

/-! ### What leaves the copies of the other parties -/

/-- `g` holds the shadows and staging copies of `h` for every party but those that share `p`'s (R103). -/
def KeepsOthers (p : Party) (h g : Hw) : Prop :=
  ∀ (q : Party) (b : Nat), slot p ≠ slot q → b < 65536 →
    Cells.get (fun _ => none) g.shadows (copyKey q b) = Cells.get (fun _ => none) h.shadows (copyKey q b) ∧
    Cells.get (fun _ => none) g.staging (copyKey q b) = Cells.get (fun _ => none) h.staging (copyKey q b)

theorem KeepsOthers.trans {p : Party} {h g f : Hw} (hg : KeepsOthers p h g) (hf : KeepsOthers p g f) : KeepsOthers p h f :=
  fun q b hq hb => ⟨(hf q b hq hb).1.trans (hg q b hq hb).1, (hf q b hq hb).2.trans (hg q b hq hb).2⟩

theorem keepsOthers_of_copies (p : Party) {h g : Hw} (e : g.copies = h.copies) : KeepsOthers p h g := by
  obtain ⟨hs, ht⟩ := Prod.mk.inj e
  exact fun q b _ _ => by rw [hs, ht]; exact ⟨rfl, rfl⟩

/-- Copies of parties with different slots lie apart. -/
theorem copyKey_ne {p q : Party} {a b : Nat} (hpq : slot p ≠ slot q) (ha : a < 65536) (hb : b < 65536) :
    copyKey q b ≠ copyKey p a := by
  simp only [copyKey]
  omega

/-- The registers of a group are addresses of the map. -/
theorem group_in_map {a key len : Nat} {ro : Bool} (hg : groupAt a = some (key, len, ro)) (ha : a < 65536) :
    key + len ≤ 65536 := by
  obtain ⟨-, hpage, -, hend, -, hlo, -⟩ := groupAt_spec hg
  omega

theorem latchGroup_keepsOthers (h : Hw) (p : Party) (key len : Nat) (hm : key + len ≤ 65536) :
    KeepsOthers p h (h.latchGroup p key len) := fun q b hq hb =>
  ⟨Cells.get_foldl_put_ne _ (fun i => copyKey p (key + i)) _ _ _ _ fun i hi =>
    copyKey_ne hq (by have := List.mem_range.1 hi; omega) hb, rfl⟩

theorem stage_keepsOthers (h : Hw) (p : Party) (a : Nat) (v : Word) (ha : a < 65536) : KeepsOthers p h (h.stage p a v) :=
  fun _ _ hq hb => ⟨rfl, Cells.get_put_ne (fun _ => none) h.staging _ _ (some v) (copyKey_ne hq ha hb)⟩

theorem unstage_keepsOthers (h : Hw) (p : Party) (key len : Nat) (hm : key + len ≤ 65536) :
    KeepsOthers p h (h.unstage p key len) := fun q b hq hb => by
  refine ⟨rfl, Cells.get_clear_out _ (fun c => copyKey p key ≤ c && c < copyKey p key + len) _ _ ?_⟩
  rw [Bool.and_eq_false_iff, decide_eq_false_iff_not, decide_eq_false_iff_not]
  simp only [copyKey]
  omega

theorem commit_keepsOthers (h : Hw) (p : Party) (key len : Nat) (v : Word) (hm : key + len ≤ 65536) :
    KeepsOthers p h (h.commit p key len v).1 := by
  have unstaged (g : Hw) (e : g.copies = h.copies) : KeepsOthers p h (g.unstage p key len) :=
    (keepsOthers_of_copies p e).trans (unstage_keepsOthers g p key len hm)
  unfold commit
  extract_lets vs r
  split
  · split
    · exact keepsOthers_of_copies p rfl
    · exact unstaged _ (boxCommit_copies _ _ _ _ _)
  · split
    · exact unstaged _ (lockHit_copies _ _)
    · exact unstaged _ (commitApply_copies _ _ _)

/-! ### The commands on a group -/

/-- An Etcher's write to its own pages is an error of the access alone (R315). -/
theorem writeReg_barred (h : Hw) {p : Party} {a : Nat} {n : Fin 8} {k : Kind} (v : Word) (hk : kindOf (a / 256) = some k)
    (hb : etchBarred p a = some n) : h.writeReg p a v = (h.accessError n 4, false) := by
  simp [writeReg, hk, hb]

/-- A write to a page without power (R11). -/
theorem writeReg_pageDown (h : Hw) {p : Party} {a : Nat} {k : Kind} (v : Word) (hk : kindOf (a / 256) = some k)
    (hb : etchBarred p a = none) (h15 : a % 256 ≠ 15) (hu : h.pageUp (a / 256) = false) : h.writeReg p a v = (h, true) := by
  simp [writeReg, hk, hb, hu, pselAccess, h15]

/-- A write by `p` to a register of a group leaves the copies of the others. -/
theorem writeReg_keepsOthers (h : Hw) (p : Party) (v : Word) {a key len : Nat} {ro : Bool}
    (hg : groupAt a = some (key, len, ro)) (ha : a < 65536) : KeepsOthers p h (h.writeReg p a v).1 := by
  obtain ⟨⟨k, hk⟩, hpage, h16, hend, -, hlo, hhi, -⟩ := groupAt_spec hg
  cases hb : etchBarred p a with
  | some n =>
    rw [writeReg_barred h v hk hb]
    exact keepsOthers_of_copies p (accessError_copies _ _ _)
  | none =>
    cases hu : h.pageUp (a / 256) with
    | false =>
      rw [writeReg_pageDown h v hk hb (by omega) hu]
      exact keepsOthers_of_copies p rfl
    | true =>
      rw [writeReg_group h p v hg hu hb]
      split
      · exact keepsOthers_of_copies p rfl
      · split
        · exact commit_keepsOthers h p key len v (group_in_map hg ha)
        · exact stage_keepsOthers h p a v ha

theorem writeRow_keepsOthers (h : Hw) (p : Party) (v : Word) {a key len : Nat} {ro : Bool}
    (hg : groupAt a = some (key, len, ro)) (ha : a < 65536) : KeepsOthers p h (h.writeRow p a v) := by
  have hw := writeReg_keepsOthers h p v hg ha
  unfold writeRow
  extract_lets r
  split
  · exact keepsOthers_of_copies p rfl
  · split
    · exact hw.trans (keepsOthers_of_copies p (busErrTo_copies _ _ _))
    · exact hw

/-- A read by `p` of a register of a group leaves the copies of the others. -/
theorem readBus_keepsOthers (h : Hw) (p : Party) {a key len : Nat} {ro : Bool} (hg : groupAt a = some (key, len, ro))
    (ha : a < 65536) : KeepsOthers p h (h.readBus p a).2 := by
  obtain ⟨-, hpage, h16, hend, -, hlo, hhi, -⟩ := groupAt_spec hg
  cases hu : h.pageUp (a / 256) with
  | false =>
    rw [readBus_pageDown h p a hu (.inr (by omega))]
    exact keepsOthers_of_copies p rfl
  | true =>
    rw [readBus_group h p hg hu]
    split
    · exact (latchGroup_keepsOthers h p key len (group_in_map hg ha)).trans
        (keepsOthers_of_copies p (capRead_copies _ _))
    · exact keepsOthers_of_copies p rfl

theorem readRow_keepsOthers (h : Hw) (p : Party) {a key len : Nat} {ro : Bool} (hg : groupAt a = some (key, len, ro))
    (ha : a < 65536) : KeepsOthers p h (h.readRow p a) := by
  have hr := readBus_keepsOthers h p hg ha
  unfold readRow
  split
  · exact keepsOthers_of_copies p rfl
  · split
    · exact keepsOthers_of_copies p (accessError_copies _ _ _)
    · extract_lets r
      split
      · exact hr.trans (keepsOthers_of_copies p (busErrTo_copies _ _ _))
      · exact hr

/-- No register of a group merges the writes of a V-cycle (R113). -/
theorem orReg_of_group {a key len : Nat} {ro : Bool} (hg : groupAt a = some (key, len, ro)) : orReg a = false := by
  obtain ⟨⟨k, hk⟩, hpage, h16, hend, -, hlo, hhi, -⟩ := groupAt_spec hg
  by_contra ho
  obtain ⟨d, -, -, -, h3 | h4 | hf⟩ := row_of_orReg hk (by simpa using ho) (by omega)
  · omega
  · omega
  · obtain ⟨-, -, -, hnone, -⟩ := (blockReg_iff a k).1 (blockReg_of_flagOffset hk hf).1
    rw [hnone] at hg
    cases hg

/-- A write that comes alone at a register of a group, mailboxes included, is the party's write (R112). -/
theorem arbitrate_group (h : Hw) (p : Party) (v : Word) {a key len : Nat} {ro : Bool}
    (hg : groupAt a = some (key, len, ro)) : h.arbitrate a [(p, v)] = h.writeRow p a v := by
  obtain ⟨⟨k, hk⟩, hpage, h16, hend, -, hlo, hhi, -⟩ := groupAt_spec hg
  have h15 : a % 256 ≠ 15 := by omega
  cases hp : h.partyUp p with
  | false => rw [arbitrate_partyDown h p a v hp, writeRow, hp]; rfl
  | true =>
    cases hb : etchBarred p a with
    | some n =>
      have hw := writeReg_barred h v hk hb
      rw [writeRow_of_writeReg h _ p a v hp hw]
      simp [arbitrate, asideWrites, hp, aside, hb, ranked, hw]
    | none =>
      have ha := aside_of_etchBarred p a h15 hb
      cases hu : h.pageUp (a / 256) with
      | false =>
        rw [arbitrate_pageDown h p a v hp ha (by simp [hk]) hu, writeRow, hp, writeReg_pageDown h v hk hb h15 hu]
        rfl
      | true =>
        obtain ⟨hm, hs⟩ := portRules_of_group hg
        have hrel : a ≠ R.MBX_REL := by
          have hnone : groupAt R.MBX_REL = none := by decide
          rintro rfl
          simp [hnone] at hg
        unfold arbitrate
        simp [hp, ha, ranked, insertRank, asideWrites, hk, readErr, hu, hrel, hm, hs, orReg_of_group hg, writeRow]

theorem isKeyRead_iff (a : Nat) : isKeyRead a = true ↔ ∃ len ro, groupAt a = some (a, len, ro) := by
  unfold isKeyRead
  cases groupAt a with
  | none => simp
  | some g =>
    obtain ⟨key, len, ro⟩ := g
    simp

theorem isKey_iff (a : Nat) : isKey a = true ↔ ∃ len, groupAt a = some (a, len, false) := by
  unfold isKey
  split
  · rename_i key len ro hg
    cases ro <;> simp [hg, eq_comm]
  · rename_i hg
    simp [hg]

/-- The three commands on a group leave a state that follows one which keeps the others' copies. -/
theorem groupCommand_keepsOthers {s t : State} {p : Party} {a v : Word}
    (ht : exec (.keyRead p a) s = .next t ∨ exec (.stagingWrite p a v) s = .next t ∨
      exec (.wideGroupCommit a [(p, v)]) s = .next t) : ∃ g, t = s.after g ∧ KeepsOthers p s.hw g := by
  have ha : a.toNat < 65536 := a.isLt
  rcases ht with ht | ht | ht
  · change execKeyRead p a s = _ at ht
    unfold execKeyRead at ht
    split at ht
    · rename_i hk
      obtain ⟨len, ro, hg⟩ := (isKeyRead_iff _).1 hk
      exact ⟨_, (Host.Outcome.next.inj ht).symm, readRow_keepsOthers s.hw p hg ha⟩
    · cases ht
  · change execStagingWrite p a v s = _ at ht
    unfold execStagingWrite at ht
    split at ht
    · rename_i hk
      obtain ⟨key, len, hg, -⟩ := (isStaged_iff _).1 hk
      exact ⟨_, (Host.Outcome.next.inj ht).symm, writeRow_keepsOthers s.hw p v hg ha⟩
    · cases ht
  · change execWideGroupCommit a [(p, v)] s = _ at ht
    unfold execWideGroupCommit at ht
    split at ht
    · rename_i hk
      obtain ⟨len, hg⟩ := (isKey_iff _).1 ((Bool.and_eq_true _ _).mp hk).1
      exact ⟨_, (Host.Outcome.next.inj ht).symm, arbitrate_group s.hw p v hg ▸ writeRow_keepsOthers s.hw p v hg ha⟩
    · cases ht

end Hw

/-- Settles O16: the command by `groupCommand_keepsOthers`, what follows it by O7. -/
theorem partiesDoNotShareCopies : Obligations.PartiesDoNotShareCopies := by
  intro s t p q a v b hpq hb ht
  obtain ⟨g, rfl, hg⟩ := Hw.groupCommand_keepsOthers ht
  obtain ⟨-, -, -, -, -, -, -, -, -, -, -, -, -, -, -, hshadows, hstaging, -⟩ := followUpTouchesOnlyConsumers.1 g
  rw [State.after_hw, hshadows, hstaging]
  exact hg q b hpq hb

end Sys2Proof.Machine

/-! ## Proofs: the CRC of the host port (O21) -/

namespace Sys2Proof.Machine

/-! ### The shift register of R134 is linear -/

/-- The steps of the CRC register one at a time. -/
theorem crcBits_succ (k : Nat) (c : Word) : crcBits (k + 1) c = crcBits k (crcBits 1 c) := rfl

theorem crcBits_add (m n : Nat) (c : Word) : crcBits (m + n) c = crcBits n (crcBits m c) := by
  induction m generalizing c with
  | zero => rw [Nat.zero_add, crcBits]
  | succ m ih => rw [Nat.succ_add, crcBits_succ, ih, ← crcBits_succ]

/-- One step as the shifted word and, apart from it, the polynomial (R134). -/
theorem crcBits_one (c : Word) : crcBits 1 c = (c <<< 1) ^^^ (if c.getLsbD 15 then 0x1021 else 0) := by
  simp only [crcBits]
  split
  · rfl
  · exact (BitVec.xor_zero).symm

theorem crcBits_one_xor (x y : Word) : crcBits 1 (x ^^^ y) = crcBits 1 x ^^^ crcBits 1 y := by
  have hpoly : (if (x ^^^ y).getLsbD 15 then (0x1021 : Word) else 0) =
      (if x.getLsbD 15 then 0x1021 else 0) ^^^ (if y.getLsbD 15 then 0x1021 else 0) := by
    rw [BitVec.getLsbD_xor]
    cases x.getLsbD 15 <;> cases y.getLsbD 15 <;> rfl
  simp only [crcBits_one, hpoly, BitVec.shiftLeft_xor_distrib]
  ac_rfl

theorem crcBits_xor (k : Nat) (x y : Word) : crcBits k (x ^^^ y) = crcBits k x ^^^ crcBits k y := by
  induction k generalizing x y with
  | zero => rfl
  | succ k ih => rw [crcBits_succ, crcBits_one_xor, ih, ← crcBits_succ, ← crcBits_succ]

/-- A word whose `k` high bits are 0 is only shifted by `k` steps. -/
theorem crcBits_eq_shiftLeft (k : Nat) (x : Word) (hk : k ≤ 16) (hx : x.toNat < 2 ^ (16 - k)) : crcBits k x = x <<< k := by
  induction k generalizing x with
  | zero => exact (BitVec.shiftLeft_zero x).symm
  | succ k ih =>
    have hpow : 2 * 2 ^ (16 - (k + 1)) = 2 ^ (16 - k) := by rw [← Nat.pow_succ']; congr 1; omega
    have hle : 2 ^ (16 - (k + 1)) ≤ 2 ^ 15 := Nat.pow_le_pow_right (by decide) (by omega)
    have hshift : (x <<< 1).toNat = 2 * x.toNat := by
      rw [BitVec.toNat_shiftLeft, Nat.shiftLeft_eq]; omega
    have hstep : crcBits 1 x = x <<< 1 := by
      have htop : x.getLsbD 15 = false := by rw [BitVec.getLsbD, Nat.testBit_lt_two_pow (by omega)]
      simp only [crcBits, htop, Bool.false_eq_true, if_false]
    rw [crcBits_succ, hstep, ih _ (by omega) (by omega), ← BitVec.shiftLeft_add, Nat.add_comm]

/-! ### A word is its high byte followed by its low byte -/

/-- The high byte stands in the upper half, the low byte in the lower. -/
theorem word_eq_bytes (w : Word) :
    w = (((w >>> 8).setWidth 8).setWidth 16 <<< 8) ^^^ (w.setWidth 8).setWidth 16 := by
  refine BitVec.eq_of_getLsbD_eq fun i hi => ?_
  by_cases h8 : i < 8
  · simp [h8, hi]
  · have e : 8 + (i - 8) = i := by omega
    simp [h8, hi, e, show i - 8 < 16 by omega, show i - 8 < 8 by omega]

/-- Sixteen steps over a word are eight over its high byte, then eight over its low byte. -/
theorem crcBits_word (c w : Word) : crcBits 16 (c ^^^ w) =
    crcBits 8 (crcBits 8 (c ^^^ ((w >>> 8).setWidth 8).setWidth 16 <<< 8) ^^^ (w.setWidth 8).setWidth 16 <<< 8) := by
  have hlow : crcBits 8 ((w.setWidth 8).setWidth 16) = (w.setWidth 8).setWidth 16 <<< 8 :=
    crcBits_eq_shiftLeft 8 _ (by decide) (by simp only [BitVec.toNat_setWidth]; omega)
  calc crcBits 16 (c ^^^ w)
      = crcBits 8 (crcBits 8 ((c ^^^ ((w >>> 8).setWidth 8).setWidth 16 <<< 8) ^^^ (w.setWidth 8).setWidth 16)) := by
        rw [BitVec.xor_assoc, ← word_eq_bytes, ← crcBits_add]
    _ = _ := by rw [crcBits_xor 8 _ ((w.setWidth 8).setWidth 16), hlow]

theorem crc16_eq_crcBytes (ws : List Word) : crc16 ws = crcBytes (ws.flatMap Hw.wordBytes) := by
  unfold crc16 crcBytes
  rw [List.foldl_flatMap]
  congr 1
  funext c w
  rw [crcBits_word, Hw.wordBytes, List.foldl_cons, List.foldl_cons, List.foldl_nil]

/-- Settles O21: the bytes of a word by `crc16_eq_crcBytes`, the rest by the recursion of the register. -/
theorem crcIsCcittFalseByBytes : Obligations.CrcIsCcittFalseByBytes := by
  refine ⟨rfl, fun c => ?_, fun bs b => ?_, crc16_eq_crcBytes, by decide +kernel⟩
  · simp only [crcBits, BitVec.msb_eq_getLsbD_last]
  · simp only [crcBytes, List.foldl_append, List.foldl_cons, List.foldl_nil]

end Sys2Proof.Machine

/-! ## Proofs: write frames and the write queue (O22) -/

namespace Sys2Proof.Machine
namespace Hw

/-! ### Frames that start, are rejected, are counted -/

theorem vigil_frameReject (h : Hw) (flag : Nat) : (h.frameReject flag).vigil = h.vigil :=
  vigil_of_pwr (raise_pwr h 3 flag)

/-- A rejected frame shows in the next STATUS, leaves the queue and counts in CRCCNT (R135, R138). -/
theorem frameReject_spec (h : Hw) (flag : Nat) :
    (h.frameReject flag).host = { h.host with prevCrc := true } ∧
      (h.frameReject flag).reg R.HOST_CRCCNT = wd (min 0xFFFF ((h.reg R.HOST_CRCCNT).toNat + 1)) := by
  constructor
  · change { (h.raise 3 flag).host with prevCrc := true } = _
    rw [raise_host]
  · have hcount : (h.raise 3 flag).reg R.HOST_CRCCNT = h.reg R.HOST_CRCCNT := reg_raise_ne _ _ _ _ (by decide)
    change ((h.raise 3 flag).countBy R.HOST_CRCCNT 1).reg R.HOST_CRCCNT = _
    rw [countBy, reg_setReg_same, hcount]

/-- How a frame of the right length ends: a reset on the way discards it, else it is counted (R61, R141). -/
def frameEnd (h : Hw) (mode3 : Bool) (miso : List Word) : Hw := if !h.vigil then h else h.frameCount mode3 miso

theorem frameEnd_eq (h : Hw) (mode3 : Bool) (miso : List Word) :
    h.frameEnd mode3 miso = if h.vigil = true then h.frameCount mode3 miso else h := by
  unfold frameEnd
  cases h.vigil <;> rfl

theorem frameEnd_of_vigil {h : Hw} (hv : h.vigil = true) (mode3 : Bool) (miso : List Word) :
    h.frameEnd mode3 miso = h.frameCount mode3 miso := (frameEnd_eq h mode3 miso).trans (if_pos hv)

/-- When every slot is clocked, MISO carries the words of the slots. -/
theorem misoWords_of_length {slots : List Word} {n : Nat} (hn : slots.length = n) : misoWords slots n = slots := by
  subst hn
  rw [misoWords, List.take_length, Nat.sub_self, List.replicate_zero, List.append_nil]

/-! ### Write frames whose words are all there -/

/-- A write frame without CRC acts word by word, unless CRCREQ asks for a CRC (R131, R138). -/
theorem spiWrite_noCrc (h : Hw) (m : Bool) (cmd a : Word) (ws : List Word) (hp : h.padsOn = true)
    (hr : cmdRead cmd = false) (hc : cmdCrc cmd = false) (hn : ws.length = cmdCount cmd) :
    h.spiWrite m (cmd :: a :: ws) [] false =
      (if h.b R.HOST_CFG 1 then h.frameBegin.frameReject 8
        else writeBurst (cmdHold cmd) a.toNat ws [] h.frameBegin).frameEnd m
        (h.statusWord :: h.summaryWord :: List.replicate ws.length 0) := by
  have hslots : 2 + ws.length = ws.length + 1 + 1 := Nat.add_comm _ _
  simp [spiWrite, hp, hr, hc, ← hn, hslots, misoWords_of_length, frameBad, frameEnd]

/-- A write frame with a CRC word acts as a whole when the word is the right one, and is rejected as a whole when it is not
(R131, R135). -/
theorem spiWrite_crc (h : Hw) (m : Bool) (cmd a c : Word) (ws : List Word) (hp : h.padsOn = true)
    (hr : cmdRead cmd = false) (hc : cmdCrc cmd = true) (hn : ws.length = cmdCount cmd) :
    h.spiWrite m (cmd :: a :: (ws ++ [c])) [] false =
      (if c = crc16 (cmd :: a :: ws) then writeBurst (cmdHold cmd) a.toNat ws [] h.frameBegin
        else h.frameBegin.frameReject 0).frameEnd m
        ([h.statusWord, h.summaryWord] ++ List.replicate ws.length 0 ++ [crc16 (cmd :: a :: ws)]) := by
  have hslots : 2 + ws.length + 1 = ws.length + 1 + 1 + 1 := by omega
  by_cases hgood : c = crc16 (cmd :: a :: ws) <;>
    simp [spiWrite, hp, hr, hc, ← hn, hslots, misoWords_of_length, frameBad, frameEnd, queueDrain, hgood]

/-! ### The write queue -/

/-- The words of a burst with their addresses (R125). -/
def burstWords (hold : Bool) (a : Nat) (ws : List Word) : List (Nat × Word) :=
  ws.zipIdx.map fun x => (burstAddr hold a x.2, x.1)

theorem burstWords_cons (hold : Bool) (a : Nat) (v : Word) (ws : List Word) :
    burstWords hold a (v :: ws) = (a, v) :: burstWords hold (nextAddr hold a) ws := by
  simp [burstWords, List.zipIdx_cons, List.zipIdx_succ, burstAddr]

/-- The machine with more words at the end of the write queue. -/
def queueAppend (h : Hw) (q : List (Nat × Word)) : Hw := h.setHost { h.host with queue := h.host.queue ++ q }

theorem queueAppend_nil (h : Hw) : h.queueAppend [] = h := by
  rw [queueAppend, List.append_nil]
  rfl

theorem queueAppend_append (h : Hw) (q r : List (Nat × Word)) :
    (h.queueAppend q).queueAppend r = h.queueAppend (q ++ r) := by
  change h.setHost { h.host with queue := h.host.queue ++ q ++ r } = _
  rw [List.append_assoc]
  rfl

theorem queueAppend_length (h : Hw) (q : List (Nat × Word)) :
    (h.queueAppend q).host.queue.length = h.host.queue.length + q.length := List.length_append

theorem vigil_queueAppend (h : Hw) (q : List (Nat × Word)) : (h.queueAppend q).vigil = h.vigil := rfl

/-- What a write meets at its target does not depend on the write queue (R132). -/
theorem wouldErr_queueAppend (h : Hw) (q : List (Nat × Word)) (a : Nat) :
    (h.queueAppend q).wouldErr a = h.wouldErr a := rfl

/-- A word that meets a bus error is reported and does not enter (R12, R132). -/
theorem enqueueWord_busErr {h : Hw} {a : Nat} (v : Word) (he : h.wouldErr a = true) :
    h.enqueueWord a v = (h.hostBusErr a).setHost { h.host with prevBus := true } := by
  have hhost : (h.hostBusErr a).host = h.host := raise_host h 3 1
  rw [enqueueWord, if_pos he, ← hhost]
  rfl

/-- A word that finds the queue full sets QFULL and does not enter (R131). -/
theorem enqueueWord_full {h : Hw} {a : Nat} (v : Word) (he : h.wouldErr a = false) (hq : 32 ≤ h.host.queue.length) :
    h.enqueueWord a v = (h.raise 3 3).setHost { h.host with prevFull := true } := by
  have hhost : (h.raise 3 3).host = h.host := raise_host h 3 3
  rw [enqueueWord, if_neg (by simp [he]), if_pos hq, ← hhost]
  rfl

theorem enqueueWord_room {h : Hw} {a : Nat} (v : Word) (he : h.wouldErr a = false) (hq : h.host.queue.length < 32) :
    h.enqueueWord a v = h.queueAppend [(a, v)] := by
  rw [enqueueWord, if_neg (by simp [he]), if_neg (by omega), queueAppend]

/-- A burst that finds room and powered targets enters the queue in order, and changes nothing else (R131, R132). -/
theorem writeBurst_room (hold : Bool) (ws : List Word) (a : Nat) (h : Hw) (hv : h.vigil = true)
    (hq : h.host.queue.length + ws.length ≤ 32) (he : ∀ i < ws.length, h.wouldErr (burstAddr hold a i) = false) :
    writeBurst hold a ws [] h = h.queueAppend (burstWords hold a ws) := by
  induction ws generalizing a h with
  | nil => exact (queueAppend_nil h).symm
  | cons v t ih =>
    rw [List.length_cons] at hq
    have hhead : h.enqueueWord a v = h.queueAppend [(a, v)] := enqueueWord_room v (he 0 (Nat.succ_pos _)) (by omega)
    have hroom : (h.queueAppend [(a, v)]).host.queue.length + t.length ≤ 32 := by
      rw [queueAppend_length, List.length_singleton]
      omega
    calc writeBurst hold a (v :: t) [] h
        = writeBurst hold (nextAddr hold a) t [] (h.enqueueWord a v) := by simp [writeBurst, queueDrain, hv]
      _ = (h.queueAppend [(a, v)]).queueAppend (burstWords hold (nextAddr hold a) t) := by
          rw [hhead]
          exact ih _ _ hv hroom fun i hi => he (i + 1) (Nat.succ_lt_succ hi)
      _ = h.queueAppend (burstWords hold a (v :: t)) := by rw [queueAppend_append, burstWords_cons, List.singleton_append]

/-- SPI_WRITE_FRAME is one write frame of the host port. -/
theorem exec_spiWriteFrame (s : State) (m : Bool) (ws : List Word) (drains : List Nat) (extra : Bool) :
    exec (.spiWriteFrame m ws drains extra) s = .next (s.after (s.hw.spiWrite m ws drains extra)) := rfl

end Hw

/-- Settles O22: frames without CRC by `spiWrite_noCrc`, with CRC by `spiWrite_crc`, their words by `writeBurst_room`. -/
theorem writeFramesFillQueueInOrder : Obligations.WriteFramesFillQueueInOrder := by
  refine ⟨fun s m cmd a ws hp hr hc hreq hn => ⟨fun hv hq he => ?_, fun h x v =>
      ⟨Hw.enqueueWord_busErr v, Hw.enqueueWord_full v⟩⟩,
    fun s m cmd a c ws hp hv hr hn => ⟨fun hc hbad => ?_, fun hc hreq => ?_, s.hw.frameReject_spec, fun hc hgood => ?_⟩⟩
  · rw [Hw.exec_spiWriteFrame, Hw.spiWrite_noCrc _ _ _ _ _ hp hr hc hn, if_neg (by simp [hreq]),
      Hw.writeBurst_room _ _ _ s.hw.frameBegin hv hq he,
      Hw.frameEnd_of_vigil ((Hw.vigil_queueAppend s.hw.frameBegin _).trans hv)]
    rfl
  · rw [Hw.exec_spiWriteFrame, Hw.spiWrite_crc _ _ _ _ _ _ hp hr hc hn, if_neg hbad,
      Hw.frameEnd_of_vigil ((Hw.vigil_frameReject s.hw.frameBegin _).trans hv)]
  · rw [Hw.exec_spiWriteFrame, Hw.spiWrite_noCrc _ _ _ _ _ hp hr hc hn, if_pos hreq,
      Hw.frameEnd_of_vigil ((Hw.vigil_frameReject s.hw.frameBegin _).trans hv)]
    rfl
  · rw [Hw.exec_spiWriteFrame, Hw.spiWrite_crc _ _ _ _ _ _ hp hr hc hn, if_pos hgood, ← hgood, Hw.frameEnd_eq]

end Sys2Proof.Machine

/-! ## Proofs: the calendar (O30) -/

namespace Sys2Proof.Machine
namespace Hw

/-! ### The day count (R184, R187) -/

theorem isLeap_iff (y : Nat) : isLeap y = true ↔ y % 4 = 0 ∧ ¬ (y % 100 = 0 ∧ y % 400 ≠ 0) := by
  simp only [isLeap, Bool.or_eq_true, Bool.and_eq_true, beq_iff_eq, bne_iff_ne, ne_eq]
  omega

/-- Days of a year before a month. -/
def monthStart (y m : Nat) : Nat := cumDays m + (if 2 < m && isLeap y then 1 else 0)

/-- A date is its year's first day, its month's first day in the year, and its day in the month. -/
theorem civilDays_eq (y m day : Nat) : civilDays y m day = yearStart y + monthStart y m + (day - 1) := by
  simp only [civilDays, yearStart, monthStart, show cumDays 1 = 0 from rfl, show ¬ 2 < 1 by decide, decide_false, Bool.false_and,
    Bool.false_eq_true, if_false]
  omega

/-- A month follows the one before by its length. -/
theorem monthStart_succ (y m : Nat) (h1 : 1 ≤ m) (h12 : m < 12) : monthStart y (m + 1) = monthStart y m + monthDays y m := by
  cases hl : isLeap y <;> interval_cases m <;> simp [monthStart, monthDays, cumDays, hl]

/-- December ends the year. -/
theorem monthStart_december (y : Nat) : monthStart y 12 + 31 = if isLeap y = true then 366 else 365 := by
  cases hl : isLeap y <;> simp [monthStart, cumDays, hl]

/-- Days of the years from 2000 on before year 2000 + `n`. -/
theorem yearStart_add (n : Nat) : yearStart (2000 + n) = 365 * n + ((n + 3) / 4 - (n + 99) / 100 + (n + 399) / 400) := by
  simp [yearStart, civilDays, cumDays]

theorem yearStart_succ (y : Nat) (hy : 2000 ≤ y) : yearStart (y + 1) = yearStart y + (if isLeap y = true then 366 else 365) := by
  obtain ⟨n, rfl⟩ := Nat.exists_eq_add_of_le hy
  have hl : isLeap (2000 + n) = true ↔ 4 ∣ n + 3 + 1 ∧ (100 ∣ n + 99 + 1 → 400 ∣ n + 399 + 1) := by
    rw [isLeap_iff]
    omega
  have hle : (n + 99) / 100 ≤ (n + 3) / 4 := by omega
  rw [Nat.add_assoc 2000 n 1, yearStart_add, yearStart_add, Nat.add_right_comm n 1 3, Nat.add_right_comm n 1 99,
    Nat.add_right_comm n 1 399,
    Nat.succ_div (a := n + 3), Nat.succ_div (a := n + 99), Nat.succ_div (a := n + 399)]
  simp only [hl]
  generalize (n + 3) / 4 = q4 at hle ⊢
  generalize (n + 99) / 100 = q100 at hle ⊢
  generalize (n + 399) / 400 = q400
  clear hl
  split_ifs <;> omega

end Hw

/-- Settles O30: the year by its leap days, the months by their starts within the year. -/
theorem calendarFollowsGregorianRules : Obligations.CalendarFollowsGregorianRules := by
  refine ⟨Hw.isLeap_iff, rfl, rfl, rfl, rfl, fun y => rfl, Hw.yearStart_succ, fun y m _ h1 h12 => ?_, fun y hy => ?_⟩
  · rw [Hw.civilDays_eq, Hw.civilDays_eq, Hw.monthStart_succ y m h1 h12]
    omega
  · have hdec := Hw.monthStart_december y
    rw [← Hw.yearStart, Hw.yearStart_succ y hy, Hw.civilDays_eq]
    omega

end Sys2Proof.Machine


/-! ## Proofs: what the operations of an almanac change and leave -/

namespace Sys2Proof.Machine
namespace Hw

/-! ### One almanac replaced -/

@[simp] theorem almOf_setAlm_same (h : Hw) (n : Nat) (a : Alm) : (h.setAlm n a).almOf n = a := by simp [almOf, setAlm]

theorem almOf_setAlm_ne (h : Hw) (n m : Nat) (a : Alm) (hm : m % 4 ≠ n % 4) : (h.setAlm n a).almOf m = h.almOf m := by
  simp [almOf, setAlm, hm.symm]

@[simp] theorem setAlm_setAlm (h : Hw) (n : Nat) (a b : Alm) : (h.setAlm n a).setAlm n b = h.setAlm n b := by simp [setAlm]

theorem almOf_of_alm {h g : Hw} (e : g.alm = h.alm) (n : Nat) : g.almOf n = h.almOf n := by rw [almOf, e, almOf]

@[simp] theorem almOf_raise (h : Hw) (pg bit n : Nat) : (h.raise pg bit).almOf n = h.almOf n := almOf_of_alm (raise_alm _ _ _) n
@[simp] theorem almOf_event (h : Hw) (e n : Nat) : (h.event e).almOf n = h.almOf n := almOf_of_alm (event_alm _ _) n

/-! ### The frame of an almanac's operations -/

/-- `g` differs from `h` in what almanac `n` may change: its own state, the registers of its page (where no flag falls), and
what its time drives beside them, which no clause here names. -/
structure AlmOnly (n : Nat) (h g : Hw) : Prop where
  reg : ∀ a, a / 256 ≠ 0x20 + n → g.reg a = h.reg a
  flags : ∀ i, h.b ((0x20 + n) * 256 + 4) i = true → g.b ((0x20 + n) * 256 + 4) i = true
  other : ∀ m, m % 4 ≠ n % 4 → g.almOf m = h.almOf m
  cal : g.cal = h.cal
  pwr : g.pwr = h.pwr

theorem AlmOnly.refl (n : Nat) (h : Hw) : AlmOnly n h h :=
  ⟨fun _ _ => rfl, fun _ hi => hi, fun _ _ => rfl, rfl, rfl⟩

theorem AlmOnly.trans {n : Nat} {h g f : Hw} (hg : AlmOnly n h g) (hf : AlmOnly n g f) : AlmOnly n h f :=
  ⟨fun a ha => (hf.reg a ha).trans (hg.reg a ha), fun i hi => hf.flags i (hg.flags i hi),
    fun m hm => (hf.other m hm).trans (hg.other m hm), hf.cal.trans hg.cal, hf.pwr.trans hg.pwr⟩

theorem AlmOnly.ite {n : Nat} {c : Prop} [Decidable c] {h g f : Hw} (hg : AlmOnly n h g) (hf : AlmOnly n h f) :
    AlmOnly n h (if c then g else f) := by
  split
  · exact hg
  · exact hf

/-- A change of what lies outside the registers, the almanacs, the calendar and the power state. -/
theorem almOnly_beside (n : Nat) {h g : Hw} (hr : g.regs = h.regs) (ha : g.alm = h.alm) (hc : g.cal = h.cal)
    (hp : g.pwr = h.pwr) : AlmOnly n h g :=
  ⟨fun a _ => by rw [Hw.reg, hr, Hw.reg], fun i hi => by rwa [b, Hw.reg, hr], fun m _ => almOf_of_alm ha m, hc, hp⟩

theorem almOnly_setAlm (h : Hw) (n : Nat) (a : Alm) : AlmOnly n h (h.setAlm n a) :=
  ⟨fun _ _ => rfl, fun _ hi => hi, fun m hm => almOf_setAlm_ne h n m a hm, rfl, rfl⟩

theorem almOnly_event (h : Hw) (n e : Nat) : AlmOnly n h (h.event e) :=
  almOnly_beside n (event_regs h e) (event_alm h e) (event_cal h e) (event_pwr h e)

theorem almOnly_almFlag (h : Hw) (n bit : Nat) : AlmOnly n h (h.almFlag n bit) :=
  ⟨fun a ha => reg_raise_ne h _ _ a (by omega), fun i hi => raise_b_mono h _ _ _ i hi, fun m _ => almOf_raise h _ _ m,
    raise_cal _ _ _, raise_pwr _ _ _⟩

/-- A register of the page beside its flags. -/
theorem almOnly_setReg (h : Hw) (n a : Nat) (v : Word) (hp : a / 256 = 0x20 + n) (ha : a ≠ (0x20 + n) * 256 + 4) :
    AlmOnly n h (h.setReg a v) :=
  ⟨fun c hc => reg_setReg_ne h a c v (by rintro rfl; exact hc hp), fun i hi => (b_setReg_ne h a _ i v ha.symm).trans hi,
    fun _ _ => rfl, rfl, rfl⟩

theorem pageLive_of_pwr {h g : Hw} (hp : g.pwr = h.pwr) (pg : Nat) : g.pageLive pg = h.pageLive pg := by
  unfold pageLive
  split
  · rfl
  · exact live_of_pwr hp _

/-- The pages of the almanacs lie in TIME. -/
theorem pageLive_alm (h : Hw) (n : Fin 4) (hl : h.live .time = true) : h.pageLive (0x20 + n) = true :=
  pageLive_of_live h _ .alm (by revert n; decide) hl

/-! ### Target times (R182) -/

theorem tgtCheck_none (h : Hw) (n : Nat) (late : Bool) (ht : (h.almOf n).tgt = none) : h.tgtCheck n late = h := by
  simp [tgtCheck, ht]

theorem tgtCheck_early (h : Hw) (n t : Nat) (late : Bool) (ht : (h.almOf n).tgt = some t) (hlt : almNs (h.almOf n) < t) :
    h.tgtCheck n late = h := by
  simp [tgtCheck, ht, hlt]

/-- What a target leaves armed once it has fired: none without a period, else the first value later than the present. -/
def nextTarget (h : Hw) (n t : Nat) : Option Nat :=
  if h.reg32 (R.ALM_TGT_PL n) = 0 then none
  else some (t + ((almNs (h.almOf n) - t) / h.reg32 (R.ALM_TGT_PL n) + 1) * h.reg32 (R.ALM_TGT_PL n))

theorem tgtCheck_due (h : Hw) (n t : Nat) (late : Bool) (ht : (h.almOf n).tgt = some t) (hle : t ≤ almNs (h.almOf n)) :
    h.tgtCheck n late = if late = true
      then (((h.setAlm n { h.almOf n with tgt := h.nextTarget n t }).event (30 + n)).almFlag n 1).almFlag n 2
      else ((h.setAlm n { h.almOf n with tgt := h.nextTarget n t }).event (30 + n)).almFlag n 1 := by
  simp only [tgtCheck, ht, if_neg (Nat.not_lt.2 hle)]
  rfl

/-- What a check of the target can do. -/
theorem tgtCheck_cases (h : Hw) (n : Nat) (late : Bool) : h.tgtCheck n late = h ∨
    ∃ x g, g = ((h.setAlm n { h.almOf n with tgt := x }).event (30 + n)).almFlag n 1 ∧
      h.tgtCheck n late = if late = true then g.almFlag n 2 else g := by
  cases ht : (h.almOf n).tgt with
  | none => exact .inl (tgtCheck_none h n late ht)
  | some t =>
    rcases Nat.lt_or_ge (almNs (h.almOf n)) t with hlt | hle
    · exact .inl (tgtCheck_early h n t late ht hlt)
    · exact .inr ⟨_, _, rfl, tgtCheck_due h n t late ht hle⟩

theorem tgtCheck_almOnly (h : Hw) (n : Nat) (late : Bool) : AlmOnly n h (h.tgtCheck n late) := by
  rcases tgtCheck_cases h n late with e | ⟨x, g, hg, e⟩
  · rw [e]; exact .refl n h
  · have h1 : AlmOnly n h g := hg ▸ ((almOnly_setAlm h n _).trans (almOnly_event _ n _)).trans (almOnly_almFlag _ n _)
    rw [e]
    exact .ite (h1.trans (almOnly_almFlag g n 2)) h1

/-- The almanac keeps all but its target. -/
theorem almOf_tgtCheck (h : Hw) (n : Nat) (late : Bool) : ∃ x, (h.tgtCheck n late).almOf n = { h.almOf n with tgt := x } := by
  rcases tgtCheck_cases h n late with e | ⟨x, g, hg, e⟩
  · exact ⟨_, by rw [e]⟩
  · have h1 : g.almOf n = { h.almOf n with tgt := x } := by
      rw [hg, almFlag, almOf_raise, almOf_event, almOf_setAlm_same]
    refine ⟨x, ?_⟩
    rw [e]
    split
    · exact (almOf_raise g _ _ n).trans h1
    · exact h1

theorem reg_tgtCheck_ne (h : Hw) (n : Nat) (late : Bool) (a : Nat) (ha : a ≠ (0x20 + n) * 256 + 4) :
    (h.tgtCheck n late).reg a = h.reg a := by
  rcases tgtCheck_cases h n late with e | ⟨x, g, hg, e⟩
  · rw [e]
  · have h1 : g.reg a = h.reg a := by
      rw [hg, almFlag, reg_raise_ne _ _ _ _ ha, event_reg]
      rfl
    rw [e]
    split
    · exact (reg_raise_ne g _ _ a ha).trans h1
    · exact h1

/-! ### Steps (R158, R162) -/

/-- The almanac of a step, before a due target fires: at the new time, its quality known if the step says so. -/
def stepped (a : Alm) (units : Int) (known : Bool) : Alm :=
  let u := (units % (2 ^ 48 * secUnits : Nat)).toNat
  { a with sec := BitVec.ofNat 48 (u / secUnits), sub := u % secUnits, unknown := a.unknown && !known }

/-- The almanac of a step stands at its time modulo 2^48 seconds. -/
theorem almUnits_stepped (a : Alm) (units : Int) (known : Bool) :
    almUnits (stepped a units known) = (units % (2 ^ 48 * secUnits : Nat)).toNat := by
  have hlt : (units % (2 ^ 48 * secUnits : Nat)).toNat < secUnits * 2 ^ 48 := by
    have hpos : (0 : Int) < (2 ^ 48 * secUnits : Nat) := by decide
    rw [Int.toNat_lt (Int.emod_nonneg _ hpos.ne'), Nat.mul_comm]
    exact Int.emod_lt_of_pos units hpos
  rw [almUnits, stepped, BitVec.toNat_ofNat, Nat.mod_eq_of_lt (Nat.div_lt_of_lt_mul hlt), Nat.div_add_mod']

/-- A step to `t` seconds and `r` units within the second. -/
theorem stepped_time (a : Alm) (t r : Nat) (known : Bool) (ht : t < 2 ^ 48) (hr : r < secUnits) :
    (stepped a ((t : Int) * secUnits + r) known).sec.toNat = t ∧ (stepped a ((t : Int) * secUnits + r) known).sub = r := by
  have hu : t * secUnits + r < 2 ^ 48 * secUnits := by
    calc t * secUnits + r < t * secUnits + secUnits := Nat.add_lt_add_left hr _
      _ = (t + 1) * secUnits := (Nat.succ_mul _ _).symm
      _ ≤ 2 ^ 48 * secUnits := Nat.mul_le_mul_right _ ht
  have hmod : (((t : Int) * secUnits + r) % (2 ^ 48 * secUnits : Nat)).toNat = t * secUnits + r := by
    rw [← Nat.cast_mul, ← Nat.cast_add, ← Int.natCast_mod, Nat.mod_eq_of_lt hu, Int.toNat_natCast]
  have hpos : 0 < secUnits := by decide
  simp only [stepped, hmod]
  rw [Nat.add_comm, Nat.add_mul_div_right _ _ hpos, Nat.add_mul_mod_self_right, Nat.div_eq_of_lt hr, Nat.mod_eq_of_lt hr,
    Nat.zero_add, BitVec.toNat_ofNat, Nat.mod_eq_of_lt ht]
  exact ⟨rfl, rfl⟩

/-- A step sets the time and STEPPED, touches what the time drives, and lets a due target fire. -/
theorem almStepTo_eq (h : Hw) (n : Nat) (units : Int) (known : Bool) : ∃ g : Hw, h.almStepTo n units known = g.tgtCheck n false ∧
    g = { (h.setAlm n (stepped (h.almOf n) units known)).almFlag n 3 with dec := g.dec, pps := g.pps } := by
  have hset : ((h.almSet n units).setAlm n { (h.almSet n units).almOf n with
      unknown := ((h.almSet n units).almOf n).unknown && !known }).almFlag n 3 =
      (h.setAlm n (stepped (h.almOf n) units known)).almFlag n 3 := by
    simp only [almSet, almOf_setAlm_same, setAlm_setAlm, stepped]
  rw [← hset]
  refine ⟨_, rfl, ?_⟩
  dsimp only
  split_ifs <;> rfl

theorem almStepTo_almOnly (h : Hw) (n : Nat) (units : Int) (known : Bool) : AlmOnly n h (h.almStepTo n units known) := by
  obtain ⟨g, e, hg⟩ := almStepTo_eq h n units known
  rw [e]
  refine .trans ?_ (tgtCheck_almOnly g n false)
  rw [hg]
  exact ((almOnly_setAlm h n _).trans (almOnly_almFlag _ n 3)).trans (almOnly_beside n rfl rfl rfl rfl)

theorem almOf_almStepTo (h : Hw) (n : Nat) (units : Int) (known : Bool) :
    ∃ x, (h.almStepTo n units known).almOf n = { stepped (h.almOf n) units known with tgt := x } := by
  obtain ⟨g, e, hg⟩ := almStepTo_eq h n units known
  have h1 : g.almOf n = stepped (h.almOf n) units known := by
    rw [hg]
    exact (almOf_raise _ _ _ n).trans (almOf_setAlm_same h n _)
  obtain ⟨x, hx⟩ := almOf_tgtCheck g n false
  exact ⟨x, by rw [e, hx, h1]⟩

end Hw
end Sys2Proof.Machine

/-! ## Proofs: a civil date committed is read back (O31) -/

namespace Sys2Proof.Machine
namespace Hw

/-! ### From the day count back to the date (R187) -/

theorem yearStart_mono {y z : Nat} (hy : 2000 ≤ y) (hyz : y ≤ z) : yearStart y ≤ yearStart z := by
  induction z, hyz using Nat.le_induction with
  | base => exact le_rfl
  | succ z hz ih => rw [yearStart_succ z (hy.trans hz)]; omega

theorem monthStart_mono (y : Nat) {m k : Nat} (h1 : 1 ≤ m) (hmk : m ≤ k) (h12 : k ≤ 12) : monthStart y m ≤ monthStart y k := by
  induction k, hmk using Nat.le_induction with
  | base => exact le_rfl
  | succ k hk ih => rw [monthStart_succ y k (h1.trans hk) h12]; omega

/-- The days of a month lie before the next month, or before the year's end. -/
theorem monthStart_add_monthDays (y m : Nat) (h1 : 1 ≤ m) (h12 : m ≤ 12) :
    monthStart y m + monthDays y m ≤ if isLeap y = true then 366 else 365 := by
  have hdec := monthStart_december y
  rcases Nat.lt_or_eq_of_le h12 with hlt | rfl
  · rw [← monthStart_succ y m h1 hlt]
    have := monthStart_mono y (show 1 ≤ m + 1 by omega) hlt le_rfl
    omega
  · exact hdec.le

/-- A year before has 365 or 366 days. -/
theorem yearStart_bounds (y : Nat) : 365 * (y - 2000) ≤ yearStart y ∧ yearStart y ≤ 366 * (y - 2000) := by
  simp only [yearStart, civilDays, show cumDays 1 = 0 from rfl, show ¬ 2 < 1 by decide, decide_false, Bool.false_and,
    Bool.false_eq_true, if_false]
  generalize y - 2000 = n
  omega

/-- The year of a day is found from the leap count. -/
theorem yearOfDay_eq (y d : Nat) (hy : 2000 ≤ y) (hy' : y ≤ 2399) (hlo : yearStart y ≤ d) (hhi : d < yearStart (y + 1)) :
    yearOfDay d = y := by
  have hup (z : Nat) (hz : 2000 ≤ z) : (if yearStart (z + 1) ≤ d then z + 1 else z) = if z < y then z + 1 else z := by
    by_cases hzy : z < y
    · rw [if_pos hzy, if_pos ((yearStart_mono (by omega) hzy).trans hlo)]
    · have := yearStart_mono (show 2000 ≤ y + 1 by omega) (show y + 1 ≤ z + 1 by omega)
      rw [if_neg hzy, if_neg (by omega)]
  obtain ⟨hmin, hmax⟩ := yearStart_bounds y
  have hfirst : 2000 + d / 366 ≤ y ∧ y ≤ 2000 + d / 366 + 2 := by
    rw [yearStart_succ y hy] at hhi
    split_ifs at hhi <;> omega
  obtain ⟨hlow, hhigh⟩ := hfirst
  have hbase : 2000 ≤ 2000 + d / 366 := Nat.le_add_right _ _
  unfold yearOfDay
  generalize 2000 + d / 366 = z at hlow hhigh hbase
  have hz : 2000 ≤ if z < y then z + 1 else z := by split <;> omega
  simp only [hup z hbase, hup _ hz]
  split_ifs <;> omega

/-- The month of a day of the year is the last that has begun. -/
theorem monthOfDay_eq (y m k : Nat) (h1 : 1 ≤ m) (h12 : m ≤ 12) (hk : k < monthDays y m) :
    monthOfDay y (monthStart y m + k) = m := by
  have hstart (i : Nat) : civilDays y (i + 1) 1 - yearStart y = monthStart y (i + 1) := by
    rw [civilDays_eq]; omega
  have hbegun : ∀ i ∈ List.range 12, decide (civilDays y (i + 1) 1 - yearStart y ≤ monthStart y m + k) = decide (i < m) := by
    intro i hi
    have hi12 : i < 12 := List.mem_range.1 hi
    rw [hstart, decide_eq_decide]
    constructor
    · intro hle
      by_contra hmi
      have := monthStart_mono y (show 1 ≤ m + 1 by omega) (show m + 1 ≤ i + 1 by omega) hi12
      rw [monthStart_succ y m h1 (by omega)] at this
      omega
    · intro him
      have := monthStart_mono y (show 1 ≤ i + 1 by omega) him h12
      omega
  have hcount : ∀ m ≤ 12, ((List.range 12).filter fun i => decide (i < m)).length = m := by decide
  rw [monthOfDay, List.filter_congr hbegun]
  exact hcount m h12

/-! ### A commit of CAL.CIVIL (R187) -/

theorem toNat_wd (n : Nat) (hn : n < 65536) : (wd n).toNat = n := by
  rw [wd, BitVec.toNat_ofNat, Nat.mod_eq_of_lt hn]

/-- The high byte of a word of two numbers, read through a field of `k` values. -/
theorem highByte_mod {a b k : Nat} (hb : b < 256) (ha : a < k) : (a * 256 + b) / 256 % k = a := by
  rw [show (a * 256 + b) / 256 = a by omega, Nat.mod_eq_of_lt ha]

/-- The low byte, read through a field whose values divide 256. -/
theorem lowByte_mod {a b k : Nat} (hk : k ∣ 256) (hb : b < k) : (a * 256 + b) % k = b := by
  rw [Nat.add_mod, Nat.mod_eq_zero_of_dvd (hk.mul_left a), Nat.zero_add, Nat.mod_mod, Nat.mod_eq_of_lt hb]

/-- The words of a civil date and time; the last one has no effect. -/
def civilWordsOf (y m day hr mi sec ns : Nat) (x : Word) : List Word :=
  [wd y, wd (m * 256 + day), wd (hr * 256 + mi), wd sec, wd ns, wd (ns / 65536), x]

/-- TAI seconds since the epoch of a civil date and time (R187). -/
def civilTai (h : Hw) (y m day hr mi sec : Nat) : Int :=
  946684800 + (civilDays y m day : Int) * 86400 + hr * 3600 + mi * 60 + sec + h.utcOfs

/-- A valid date and time steps the calendar almanac to it. -/
theorem civilSet_valid (h : Hw) (y m day hr mi sec ns : Nat) (x : Word) (hy : 2000 ≤ y) (hy' : y ≤ 2399) (hm : 1 ≤ m)
    (hm' : m ≤ 12) (hd : 1 ≤ day) (hd' : day ≤ monthDays y m) (hd31 : day < 32) (hhr : hr ≤ 23) (hmi : mi ≤ 59) (hs : sec ≤ 59)
    (hns : ns ≤ 999999999) (hl : h.b R.CAL_LEAP 1 = false) :
    h.civilSet (civilWordsOf y m day hr mi sec ns x) =
      { h with cal := { h.cal with inserted := false } }.almStepTo h.calAlm
        (h.civilTai y m day hr mi sec * secUnits + (ns : Int) * 4294967296) false := by
  have w0 : word (civilWordsOf y m day hr mi sec ns x) 0 = y := toNat_wd y (by omega)
  have w1 : word (civilWordsOf y m day hr mi sec ns x) 1 = m * 256 + day := toNat_wd _ (by omega)
  have w2 : word (civilWordsOf y m day hr mi sec ns x) 2 = hr * 256 + mi := toNat_wd _ (by omega)
  have w3 : word (civilWordsOf y m day hr mi sec ns x) 3 = sec := toNat_wd _ (by omega)
  have w4 : word (civilWordsOf y m day hr mi sec ns x) 4 = ns % 65536 := by
    simp only [word, civilWordsOf, List.getD_cons_succ, List.getD_cons_zero, wd, BitVec.toNat_ofNat]
  have w5 : word (civilWordsOf y m day hr mi sec ns x) 5 = ns / 65536 := by
    simp only [word, civilWordsOf, List.getD_cons_succ, List.getD_cons_zero]
    exact toNat_wd _ (by omega)
  have e1 : (m * 256 + day) / 256 % 16 = m := highByte_mod (by omega) (by omega)
  have e2 : (m * 256 + day) % 32 = day := lowByte_mod (by decide) hd31
  have e3 : (hr * 256 + mi) / 256 % 32 = hr := highByte_mod (by omega) (by omega)
  have e4 : (hr * 256 + mi) % 64 = mi := lowByte_mod (by decide) (by omega)
  have e5 : sec % 64 = sec := by omega
  have e6 : ns % 65536 + 65536 * (ns / 65536 % 16384) = ns := by omega
  have h60 : sec ≠ 60 := by omega
  unfold civilSet
  simp only [w0, w1, w2, w3, w4, w5, e1, e2, e3, e4, e5, e6]
  rw [if_neg]
  · simp only [h60, decide_false]
    rfl
  · simp only [hl, Bool.and_false, Bool.or_false, Bool.or_eq_true, decide_eq_true_eq, Bool.and_eq_true]
    omega

theorem monthDays_lt (y m : Nat) (hm : 1 ≤ m) (hm' : m ≤ 12) : monthDays y m < 32 := by
  cases hl : isLeap y <;> interval_cases m <;> simp [monthDays, hl]

/-! ### The civil group (R185) -/

/-- A valid date lies in its year. -/
theorem civilDays_bounds (y m day : Nat) (hy : 2000 ≤ y) (hm : 1 ≤ m) (hm' : m ≤ 12) (hd : 1 ≤ day) (hd' : day ≤ monthDays y m) :
    yearStart y ≤ civilDays y m day ∧ civilDays y m day < yearStart (y + 1) := by
  have := monthStart_add_monthDays y m hm hm'
  rw [yearStart_succ y hy, civilDays_eq]
  omega

theorem day_split (d t : Nat) (ht : t < 86400) : (d * 86400 + t) / 86400 = d ∧ (d * 86400 + t) % 86400 = t := by omega

theorem clock_split (hr mi sec : Nat) (hmi : mi ≤ 59) (hs : sec ≤ 59) : (hr * 3600 + mi * 60 + sec) / 3600 = hr ∧
    (hr * 3600 + mi * 60 + sec) / 60 % 60 = mi ∧ (hr * 3600 + mi * 60 + sec) % 60 = sec := by omega

/-- The group reads the date and time of the calendar's UTC second. -/
theorem civilWords_of_utc (h : Hw) (y m day hr mi sec ns : Nat) (hy : 2000 ≤ y) (hy' : y ≤ 2399) (hm : 1 ≤ m) (hm' : m ≤ 12)
    (hd : 1 ≤ day) (hd' : day ≤ monthDays y m) (hhr : hr ≤ 23) (hmi : mi ≤ 59) (hs : sec ≤ 59) (hin : h.cal.inserted = false)
    (hutc : h.calUtc = (civilDays y m day : Int) * 86400 + hr * 3600 + mi * 60 + sec)
    (hsub : (h.almOf h.calAlm).sub = ns * 4294967296) :
    h.civilWords = civilWordsOf y m day hr mi sec ns (wd ((civilDays y m day + 5) % 7 + 1)) := by
  obtain ⟨hlo, hhi⟩ := civilDays_bounds y m day hy hm hm' hd hd'
  have hmax : yearStart (y + 1) ≤ yearStart 2400 := yearStart_mono (by omega) (by omega)
  have hcount : h.calCount = h.calUtc := by rw [calCount, hin]; rfl
  have hyear := yearOfDay_eq y _ hy hy' hlo hhi
  have hdoy : civilDays y m day - yearStart y = monthStart y m + (day - 1) := by rw [civilDays_eq]; omega
  have hmonth : monthOfDay y (monthStart y m + (day - 1)) = m := monthOfDay_eq y m _ hm hm' (by omega)
  have hfirst : civilDays y m 1 - yearStart y = monthStart y m := by rw [civilDays_eq]; omega
  have hday : monthStart y m + (day - 1) - monthStart y m + 1 = day := by omega
  have hrange : h.calRange = false := by
    rw [calRange, hcount, hutc, Bool.or_eq_false_iff, decide_eq_false_iff_not, decide_eq_false_iff_not]
    omega
  clear hhi hlo hmax
  generalize hD : civilDays y m day = D at *
  have hu : h.calUtc.toNat = D * 86400 + (hr * 3600 + mi * 60 + sec) := by omega
  obtain ⟨hu1, hu2⟩ := day_split D (hr * 3600 + mi * 60 + sec) (by omega)
  obtain ⟨ht1, ht2, ht3⟩ := clock_split hr mi sec hmi hs
  have hns : ns * 4294967296 / 4294967296 = ns := Nat.mul_div_cancel _ (by decide)
  rw [civilWords, hrange]
  simp only [Bool.false_eq_true, if_false, hcount, hu, hu1, hu2, hyear, hdoy, hmonth, hfirst, hday, ht1, ht2, ht3, hsub, hns, hin]
  rfl

theorem calAlm_lt (h : Hw) : h.calAlm < 4 := Nat.mod_lt _ (by decide)

theorem utcOfs_bounds (h : Hw) : -32768 ≤ h.utcOfs ∧ h.utcOfs < 32768 := by
  have := (h.reg R.CAL_UTCOFS).isLt
  unfold utcOfs signed
  split_ifs <;> omega

/-- The TAI time of a valid date is a number of seconds that the almanac can hold. -/
theorem civilTai_nat (h : Hw) (y m day hr mi sec : Nat) (hy : 2000 ≤ y) (hy' : y ≤ 2399) (hm : 1 ≤ m) (hm' : m ≤ 12)
    (hd : 1 ≤ day) (hd' : day ≤ monthDays y m) (hhr : hr ≤ 23) (hmi : mi ≤ 59) (hs : sec ≤ 59) :
    ∃ t : Nat, h.civilTai y m day hr mi sec = t ∧ t < 2 ^ 48 := by
  obtain ⟨-, hhi⟩ := civilDays_bounds y m day hy hm hm' hd hd'
  obtain ⟨-, hmax⟩ := yearStart_bounds (y + 1)
  obtain ⟨hlo, hup⟩ := h.utcOfs_bounds
  unfold civilTai
  refine ⟨(946684800 + (civilDays y m day : Int) * 86400 + hr * 3600 + mi * 60 + sec + h.utcOfs).toNat, ?_, ?_⟩ <;> omega

end Hw

theorem exec_civilCommit (s : State) (p : Party) (v : Word) (ha : s.hw.acceptsKey p R.CAL_CYEAR v) :
    exec (.civilCommit p v) s =
      .next (s.after ((s.hw.civilSet (s.hw.groupWords p R.CAL_CYEAR v)).groupDone p R.CAL_CYEAR)) :=
  done_congr (Hw.writeRow_commit s.hw p _ 7 v (by decide) ha)

/-- Settles O31: the calendar almanac is stepped by `civilSet_valid`, and the group inverts the day count by
`civilWords_of_utc`. -/
theorem civilCommitReadsBack : Obligations.CivilCommitReadsBack := by
  intro s p v x y m day hr mi sec ns ha hvs hy hy' hm hm' hd hd' hhr hmi hs hns hl
  have hd31 : day < 32 := hd'.trans_lt (Hw.monthDays_lt y m hm hm')
  have hset := Hw.civilSet_valid s.hw y m day hr mi sec ns x hy hy' hm hm' hd hd' hd31 hhr hmi hs hns hl
  generalize hg : s.hw.civilSet (Hw.civilWordsOf y m day hr mi sec ns x) = g at hset
  have hf : Hw.AlmOnly s.hw.calAlm { s.hw with cal := { s.hw.cal with inserted := false } } g :=
    hset ▸ Hw.almStepTo_almOnly _ _ _ _
  have hpage (a : Nat) (hp : a / 256 = 0x24) : g.reg a = s.hw.reg a :=
    hf.reg a (by have := s.hw.calAlm_lt; omega)
  have hcal : g.calAlm = s.hw.calAlm := by rw [Hw.calAlm, Hw.f, hpage _ rfl]; rfl
  have hofs : g.utcOfs = s.hw.utcOfs := by rw [Hw.utcOfs, hpage _ rfl]; rfl
  obtain ⟨hsec, hsub⟩ : ((g.almOf g.calAlm).sec.toNat : Int) = s.hw.civilTai y m day hr mi sec ∧
      (g.almOf g.calAlm).sub = ns * 4294967296 := by
    obtain ⟨t, ht, hlt⟩ := s.hw.civilTai_nat y m day hr mi sec hy hy' hm hm' hd hd' hhr hmi hs
    have hrest : ns * 4294967296 < Hw.secUnits := Nat.mul_lt_mul_of_pos_right (Nat.lt_succ_of_le hns) (by decide)
    obtain ⟨z, hz⟩ := Hw.almOf_almStepTo { s.hw with cal := { s.hw.cal with inserted := false } } s.hw.calAlm
      (s.hw.civilTai y m day hr mi sec * Hw.secUnits + (ns : Int) * 4294967296) false
    obtain ⟨h1, h2⟩ := Hw.stepped_time (s.hw.almOf s.hw.calAlm) t (ns * 4294967296) false hlt hrest
    rw [hcal, hset, hz, ht]
    exact ⟨congrArg Nat.cast h1, h2⟩
  refine ⟨g, ?_, hsec, ?_⟩
  · rw [exec_civilCommit s p v ha, hvs, ← hg]
    rfl
  · refine Hw.civilWords_of_utc g y m day hr mi sec ns hy hy' hm hm' hd hd' hhr hmi hs ?_ ?_ hsub
    · rw [hf.cal]
    · rw [Hw.calUtc, hsec, hofs, Hw.civilTai]
      omega

end Sys2Proof.Machine

/-! ## Proofs: the timers count (O48) -/

namespace Sys2Proof.Machine
namespace Hw

/-! ### One timer replaced -/

@[simp] theorem timOf_setTim_same (h : Hw) (n : Nat) (t : Timer) : (h.setTim n t).timOf n = t := by simp [timOf, setTim]

theorem timOf_setTim_ne (h : Hw) (n m : Nat) (t : Timer) (hm : m % 6 ≠ n % 6) : (h.setTim n t).timOf m = h.timOf m := by
  simp [timOf, setTim, hm.symm]

theorem timOf_of_tim {h g : Hw} (e : g.tim = h.tim) (n : Nat) : g.timOf n = h.timOf n := by rw [timOf, e, timOf]

@[simp] theorem timOf_raise (h : Hw) (pg bit n : Nat) : (h.raise pg bit).timOf n = h.timOf n := timOf_of_tim (raise_tim _ _ _) n
@[simp] theorem timOf_event (h : Hw) (e n : Nat) : (h.event e).timOf n = h.timOf n := timOf_of_tim (event_tim _ _) n

theorem timOf_setTimCh (h : Hw) (n x : Nat) (c : TimCh) : (h.setTimCh n x c).timOf n =
    { h.timOf n with ch := (h.timOf n).ch.set (x % 2) c (Nat.mod_lt _ (by decide)) } := timOf_setTim_same _ _ _

/-! ### The frame of a timer's operations -/

/-- What an edge at a timer can touch at all: flags and EN, pulses, stops and latched enables, and the timers. -/
def TimParts (h g : Hw) : Prop := g = { h with
  regs := g.regs, raised := g.raised, evAt := g.evAt, stopping := g.stopping, pendEn := g.pendEn, tim := g.tim }

theorem TimParts.trans {h g f : Hw} (hg : TimParts h g) (hf : TimParts g f) : TimParts h f := by
  unfold TimParts at *
  rw [hf, hg]

theorem timParts_raise (h : Hw) (pg bit : Nat) : TimParts h (h.raise pg bit) := by
  rw [TimParts, raise_eq]
  split <;> rfl

theorem timParts_event (h : Hw) (e : Nat) : TimParts h (h.event e) := by rw [TimParts, event_eq]

/-- `g` differs from `h` in timer `n`: its state, its flags, of which none falls, and EN. -/
structure TimOnly (n : Nat) (h g : Hw) : Prop where
  parts : TimParts h g
  reg : ∀ a, a ≠ R.TM_IFLAG n → a ≠ R.TM_CTRL n → g.reg a = h.reg a
  flags : ∀ i, h.b (R.TM_IFLAG n) i = true → g.b (R.TM_IFLAG n) i = true
  other : ∀ m, m % 6 ≠ n % 6 → g.timOf m = h.timOf m

theorem TimOnly.refl (n : Nat) (h : Hw) : TimOnly n h h := ⟨rfl, fun _ _ _ => rfl, fun _ hi => hi, fun _ _ => rfl⟩

theorem TimOnly.trans {n : Nat} {h g f : Hw} (hg : TimOnly n h g) (hf : TimOnly n g f) : TimOnly n h f :=
  ⟨hg.parts.trans hf.parts, fun a h1 h2 => (hf.reg a h1 h2).trans (hg.reg a h1 h2), fun i hi => hf.flags i (hg.flags i hi),
    fun m hm => (hf.other m hm).trans (hg.other m hm)⟩

theorem TimOnly.ite {n : Nat} {c : Prop} [Decidable c] {h g f : Hw} (hg : TimOnly n h g) (hf : TimOnly n h f) :
    TimOnly n h (if c then g else f) := by
  split
  · exact hg
  · exact hf

theorem timOnly_setTim (h : Hw) (n : Nat) (t : Timer) : TimOnly n h (h.setTim n t) :=
  ⟨rfl, fun _ _ _ => rfl, fun _ hi => hi, fun m hm => timOf_setTim_ne h n m t hm⟩

theorem timOnly_setTimCh (h : Hw) (n x : Nat) (c : TimCh) : TimOnly n h (h.setTimCh n x c) := timOnly_setTim h n _

theorem timOnly_event (h : Hw) (n e : Nat) : TimOnly n h (h.event e) :=
  ⟨timParts_event h e, fun a _ _ => event_reg h e a, fun i hi => by rwa [b, event_reg], fun m _ => timOf_event h e m⟩

theorem timOnly_timFlag (h : Hw) (n bit : Nat) : TimOnly n h (h.timFlag n bit) :=
  ⟨timParts_raise h _ _, fun a h1 _ => reg_raise_ne h _ _ a h1, fun i hi => raise_b_mono h _ _ _ i hi,
    fun m _ => timOf_raise h _ _ m⟩

theorem timOnly_setEn (h : Hw) (n m : Nat) : TimOnly n h (h.setBits (R.TM_CTRL n) m) :=
  ⟨rfl, fun a _ h2 => reg_setBits_ne h _ m a h2, fun i hi => b_setBits_mono h _ m _ i hi, fun _ _ => rfl⟩

theorem TimParts.pwr {h g : Hw} (hg : TimParts h g) : g.pwr = h.pwr := by rw [hg]

theorem TimOnly.timCfg {n : Nat} {h g : Hw} (hg : TimOnly n h g) (x : Nat) : g.timCfg n x = h.timCfg n x :=
  hg.reg _ (by simp only [R.TM_CH0CFG, R.TM_IFLAG]; omega) (by simp only [R.TM_CH0CFG, R.TM_CTRL]; omega)

theorem TimOnly.timTicks {n m : Nat} {h g : Hw} (hg : TimOnly n h g) (hm : m % 6 ≠ n % 6) : g.timTicks m = h.timTicks m := by
  have hv := hg.parts.pwr
  rw [Hw.timTicks, hg.other m hm, up, vigil_of_pwr hv, domState_of_pwr hv, ← up, ← Hw.timTicks]

/-! ### What follows a count within its edge (R370) -/

/-- A timer's count, its TOP and its prescaler stay, or the prescaler starts anew from 0. -/
def SameCount (t u : Timer) : Prop := u.cnt = t.cnt ∧ u.top = t.top ∧ u.topHeld = t.topHeld ∧ (t.psc = 0 → u.psc = 0)

theorem SameCount.refl (t : Timer) : SameCount t t := ⟨rfl, rfl, rfl, id⟩

theorem SameCount.trans {t u v : Timer} (hu : SameCount t u) (hv : SameCount u v) : SameCount t v := by
  obtain ⟨h1, h2, h3, h4⟩ := hu
  obtain ⟨g1, g2, g3, g4⟩ := hv
  exact ⟨g1.trans h1, g2.trans h2, g3.trans h3, g4 ∘ h4⟩

theorem sameCount_setTimCh (h : Hw) (n x : Nat) (c : TimCh) : SameCount (h.timOf n) ((h.setTimCh n x c).timOf n) := by
  rw [timOf_setTimCh]
  exact ⟨rfl, rfl, rfl, id⟩

/-- An arrival at a compare channel. -/
def arrives (h : Hw) (n x : Nat) : Prop := fld (h.timCfg n x) 15 14 = 1 ∧ (h.timOf n).cnt = (timCh (h.timOf n) x).act

theorem timArrive_off (h : Hw) (n x : Nat) (hno : ¬ h.arrives n x) : h.timArrive n x = h := by
  simp only [timArrive, Bool.and_eq_true, decide_eq_true_eq]
  exact if_neg hno

/-- An arrival changes its channel, sets its flag and pulses its event (R376). -/
theorem timArrive_on (h : Hw) (n x : Nat) (hx : h.arrives n x) : ∃ c, c.act = (timCh (h.timOf n) x).act ∧
    h.timArrive n x = ((h.setTimCh n x c).timFlag n (1 + x % 2)).event (9 + 3 * n + x % 2) := by
  unfold arrives at hx
  simp only [timArrive, Bool.and_eq_true, decide_eq_true_eq]
  rw [if_pos hx]
  refine ⟨_, ?_, rfl⟩
  rfl

theorem timArrive_only (h : Hw) (n x : Nat) : TimOnly n h (h.timArrive n x) := by
  by_cases hx : h.arrives n x
  · obtain ⟨c, -, e⟩ := timArrive_on h n x hx
    rw [e]
    exact ((timOnly_setTimCh h n x c).trans (timOnly_timFlag _ n _)).trans (timOnly_event _ n _)
  · rw [timArrive_off h n x hx]
    exact .refl n h

theorem timArrive_sameCount (h : Hw) (n x : Nat) : SameCount (h.timOf n) ((h.timArrive n x).timOf n) := by
  by_cases hx : h.arrives n x
  · obtain ⟨c, -, e⟩ := timArrive_on h n x hx
    rw [e, timOf_event, timFlag, timOf_raise]
    exact sameCount_setTimCh h n x c
  · rw [timArrive_off h n x hx]
    exact .refl _

/-- An arrival at one channel decides nothing at the other. -/
theorem act_timArrive (h : Hw) (n x y : Nat) : (timCh ((h.timArrive n x).timOf n) y).act = (timCh (h.timOf n) y).act := by
  by_cases hx : h.arrives n x
  · obtain ⟨c, hc, e⟩ := timArrive_on h n x hx
    rw [e, timOf_event, timFlag, timOf_raise, timOf_setTimCh]
    by_cases hxy : x % 2 = y % 2
    · simp only [timCh, ← hxy, Vector.getElem_set_self]
      exact hc
    · simp only [timCh, Vector.getElem_set_ne _ _ hxy]
  · rw [timArrive_off h n x hx]

theorem timArrive_flag (h : Hw) (n x : Nat) (hx : h.arrives n x) (hl : h.pageLive (0x28 + n) = true) :
    (h.timArrive n x).b (R.TM_IFLAG n) (1 + x % 2) = true := by
  obtain ⟨c, -, e⟩ := timArrive_on h n x hx
  rw [e, b, event_reg]
  exact raise_b_same _ _ _ (by omega) hl

theorem timPwm_only (h : Hw) (n x : Nat) : TimOnly n h (h.timPwm n x) := .ite (timOnly_setTimCh h n x _) (.refl n h)

theorem timPwm_sameCount (h : Hw) (n x : Nat) : SameCount (h.timOf n) ((h.timPwm n x).timOf n) := by
  unfold timPwm
  split
  · exact sameCount_setTimCh h n x _
  · exact .refl _

theorem timMatches_only (h : Hw) (n : Nat) : TimOnly n h (h.timMatches n) :=
  (((timArrive_only h n 0).trans (timArrive_only _ n 1)).trans (timPwm_only _ n 0)).trans (timPwm_only _ n 1)

theorem timMatches_sameCount (h : Hw) (n : Nat) : SameCount (h.timOf n) ((h.timMatches n).timOf n) :=
  (((timArrive_sameCount h n 0).trans (timArrive_sameCount _ n 1)).trans (timPwm_sameCount _ n 0)).trans (timPwm_sameCount _ n 1)

/-- Each compare channel whose value the count is sets its flag (R376). -/
theorem timMatches_flag (h : Hw) (n : Nat) (x : Fin 2) (hx : h.arrives n x) (hl : h.pageLive (0x28 + n) = true) :
    (h.timMatches n).b (R.TM_IFLAG n) (1 + x) = true := by
  have h0 := timArrive_only h n 0
  have hpwm (g : Hw) : TimOnly n g ((g.timPwm n 0).timPwm n 1) := (timPwm_only g n 0).trans (timPwm_only _ n 1)
  have hl1 : (h.timArrive n 0).pageLive (0x28 + n) = true := (pageLive_of_pwr h0.parts.pwr _).trans hl
  have hcases : ∀ y : Fin 2, y = 0 ∨ y = 1 := by decide
  obtain rfl | rfl := hcases x
  · exact (hpwm _).flags 1 ((timArrive_only _ n 1).flags 1 (timArrive_flag h n 0 hx hl))
  · obtain ⟨hcfg, hcnt⟩ := hx
    obtain ⟨hsame, -⟩ := timArrive_sameCount h n 0
    have hx1 : (h.timArrive n 0).arrives n 1 := by
      refine ⟨?_, ?_⟩
      · rw [h0.timCfg]
        exact hcfg
      · rw [act_timArrive, hsame]
        exact hcnt
    exact (hpwm _).flags 2 (timArrive_flag _ n 1 hx1 hl1)

/-- A timer's end of a lap halts it or starts it from 0 (R372). -/
theorem timHalt_only (h : Hw) (n : Nat) : TimOnly n h (h.timHalt n) :=
  (timOnly_setTim h n _).trans ⟨rfl, fun _ _ _ => rfl, fun _ hi => hi, fun _ _ => rfl⟩

theorem timStart_only (h : Hw) (n : Nat) : TimOnly n h (h.timStart n) :=
  (((timOnly_setTim h n _).trans (timOnly_setTimCh _ n 0 _)).trans (timOnly_setTimCh _ n 1 _)).trans (timOnly_setEn _ n 1)

theorem timHalt_sameCount (h : Hw) (n : Nat) : SameCount (h.timOf n) ((h.timHalt n).timOf n) := by
  have e : (h.timHalt n).timOf n = { h.timOf n with running := false, wtrig := false } := timOf_setTim_same _ _ _
  rw [e]
  exact ⟨rfl, rfl, rfl, id⟩

theorem timStart_sameCount (h : Hw) (n : Nat) : SameCount (h.timOf n) ((h.timStart n).timOf n) := by
  refine .trans ?_ ((sameCount_setTimCh _ n 0 _).trans (sameCount_setTimCh _ n 1 _))
  rw [timOf_setTim_same]
  exact ⟨rfl, rfl, rfl, fun _ => rfl⟩

/-- What the end of a lap can do. -/
theorem timLapEnd_cases (h : Hw) (n : Nat) : h.timLapEnd n = h ∨ h.timLapEnd n = h.timHalt n ∨
    ∃ l, h.timLapEnd n = ({ h.timHalt n with pendEn := l } : Hw).timStart n := by
  unfold timLapEnd
  split
  · dsimp only
    split
    · exact .inr (.inr ⟨_, rfl⟩)
    · exact .inr (.inl rfl)
  · exact .inl rfl

theorem timOnly_pendEn (h : Hw) (n : Nat) (l : List Nat) : TimOnly n h { h with pendEn := l } :=
  ⟨rfl, fun _ _ _ => rfl, fun _ hi => hi, fun _ _ => rfl⟩

theorem timLapEnd_only (h : Hw) (n : Nat) : TimOnly n h (h.timLapEnd n) := by
  rcases timLapEnd_cases h n with e | e | ⟨l, e⟩ <;> rw [e]
  · exact .refl n h
  · exact timHalt_only h n
  · exact ((timHalt_only h n).trans (timOnly_pendEn _ n l)).trans (timStart_only _ n)

theorem timLapEnd_sameCount (h : Hw) (n : Nat) : SameCount (h.timOf n) ((h.timLapEnd n).timOf n) := by
  rcases timLapEnd_cases h n with e | e | ⟨l, e⟩ <;> rw [e]
  · exact .refl _
  · exact timHalt_sameCount h n
  · exact (timHalt_sameCount h n).trans (timStart_sameCount _ n)

/-! ### One T edge (R365, R366, R370) -/

/-- No pulse acts on the timer: none comes, or it is the clock of slave mode 4 (R374). -/
def Unacted (h : Hw) (n : Nat) (slave : Bool) : Prop := slave = false ∨ h.timSlave n = 4

theorem timAct_unacted {h : Hw} {n : Nat} {slave : Bool} (hu : h.Unacted n slave) : h.timAct n slave = h := by
  rcases hu with rfl | h4
  · rfl
  · simp [timAct, h4]

theorem timResets_unacted {h : Hw} {n : Nat} {slave : Bool} (hu : h.Unacted n slave) : h.timResets n slave = false := by
  rcases hu with rfl | h4
  · rfl
  · simp [timResets, h4]

theorem wtrig_of_timTicks {h : Hw} {n : Nat} (ht : h.timTicks n = true) : (h.timOf n).wtrig = false := by
  simp only [timTicks, Bool.and_eq_true, Bool.not_eq_true'] at ht
  exact ht.1.2

/-- A ticking timer has its source tick from its slave event in mode 4, else from its T edge or 1 MHz tick (R365). -/
theorem timSourced_unacted {h : Hw} {n : Nat} {slave : Bool} (hu : h.Unacted n slave) (ht : h.timTicks n = true) (tick : Bool) :
    h.timSourced n slave tick = if h.timSlave n = 4 then slave && h.timSlaveEv n else tick := by
  simp [timSourced, timAct_unacted hu, timResets_unacted hu, ht, wtrig_of_timTicks ht]

/-- Without a source tick the edge is none for the timer. -/
theorem timAt_unsourced {h : Hw} {n : Nat} {slave tick : Bool} (hu : h.Unacted n slave) (hs : h.timSourced n slave tick = false)
    (commit : Bool) : h.timAt n slave tick commit = h := by
  simp [timAt, timMoves, timCounts, hs, timAct_unacted hu, timResets_unacted hu]

/-- Below PSC a source tick moves the prescaler alone (R366). -/
theorem timAt_prescaled {h : Hw} {n : Nat} {slave tick : Bool} (hu : h.Unacted n slave) (hs : h.timSourced n slave tick = true)
    (hp : (h.timOf n).psc < (h.reg (R.TM_PSC n)).toNat) (commit : Bool) :
    h.timAt n slave tick commit = h.setTim n { h.timOf n with psc := (h.timOf n).psc + 1 } := by
  have hc : h.timCounts n slave tick = false := by simp [timCounts, hs, hp]
  simp [timAt, timMoves, hc, hs, timAct_unacted hu, timResets_unacted hu]

/-- The timer after a counted edge's count. -/
def countMoved (h : Hw) (n : Nat) : Hw :=
  h.setTim n { h.timOf n with
    cnt := (timNext (h.timOf n) (h.timSym n)).1, down := (timNext (h.timOf n) (h.timSym n)).2.1, psc := 0 }

/-- A wrap takes the preloads, sets its flag and pulses its event (R370). -/
def wrapped (h : Hw) (n : Nat) : Hw := (((h.countMoved n).timCopy n).event (8 + 3 * n)).timFlag n 0

/-- At PSC the edge is counted: the count moves, a wrap takes the preloads and ends a lap, and the count's matches follow
(R366, R370). -/
theorem timAt_counted {h : Hw} {n : Nat} {slave tick : Bool} (hu : h.Unacted n slave) (hs : h.timSourced n slave tick = true)
    (hp : (h.reg (R.TM_PSC n)).toNat ≤ (h.timOf n).psc) : h.timAt n slave tick false =
      if (timNext (h.timOf n) (h.timSym n)).2.2 = true
        then ((h.wrapped n).timMatches n).timLapEnd n
        else (h.countMoved n).timMatches n := by
  have hc : h.timCounts n slave tick = true := by simp [timCounts, hs, hp]
  simp only [timAt, timMoves, hc, timAct_unacted hu, timResets_unacted hu, if_true, Bool.or_false, Bool.not_false, Bool.and_true,
    Bool.false_eq_true, if_false]
  split <;> rfl

/-- A timer with its preload copies taken (R379, R381). -/
def preloaded (h : Hw) (n : Nat) (t : Timer) : Timer :=
  { t with
    top := t.topHeld.getD t.top, topHeld := none
    ch := Vector.ofFn fun (x : Fin 2) =>
      let c := t.ch[x]
      if c.updp && fld (h.timCfg n x.val) 15 14 != 2 then { c with act := c.pre, updp := false } else c }

theorem timCopy_eq (h : Hw) (n : Nat) : h.timCopy n = h.setTim n (h.preloaded n (h.timOf n)) := rfl

/-- What a counted edge of timer `n` of `h` leaves in `g` (R366 to R370, R376, R379, R381). -/
def Counted (h : Hw) (n : Fin 6) (g : Hw) : Prop :=
  (g.timOf n).cnt = (timNext (h.timOf n) (h.timSym n)).1 ∧ (g.timOf n).psc = 0 ∧
  ((timNext (h.timOf n) (h.timSym n)).2.2 = true → g.b (R.TM_IFLAG n) 0 = true ∧ (g.timOf n).topHeld = none ∧
    (g.timOf n).top = (h.timOf n).topHeld.getD (h.timOf n).top) ∧
  ∀ x : Fin 2, fld (h.timCfg n x) 15 14 = 1 →
    (timNext (h.timOf n) (h.timSym n)).1 =
      (timCh ((if (timNext (h.timOf n) (h.timSym n)).2.2 = true then h.timCopy n else h).timOf n) x).act →
    g.b (R.TM_IFLAG n) (1 + x) = true

theorem wrapped_only (h : Hw) (n : Nat) : TimOnly n h (h.wrapped n) :=
  (((timOnly_setTim h n _).trans (timOnly_setTim _ n _)).trans (timOnly_event _ n _)).trans (timOnly_timFlag _ n 0)

theorem timOf_wrapped (h : Hw) (n : Nat) : (h.wrapped n).timOf n = h.preloaded n { h.timOf n with
    cnt := (timNext (h.timOf n) (h.timSym n)).1, down := (timNext (h.timOf n) (h.timSym n)).2.1, psc := 0 } := by
  rw [wrapped, timFlag, timOf_raise, timOf_event, timCopy_eq, timOf_setTim_same, countMoved, timOf_setTim_same]
  rfl

/-- A counted edge at a timer in TIME with power. -/
theorem timAt_counted_spec {h : Hw} {n : Fin 6} {slave tick : Bool} (hu : h.Unacted n slave)
    (hs : h.timSourced n slave tick = true) (hp : (h.reg (R.TM_PSC n)).toNat ≤ (h.timOf n).psc)
    (hl : h.pageLive (0x28 + n) = true) :
    TimOnly n h (h.timAt n slave tick false) ∧ h.Counted n (h.timAt n slave tick false) := by
  rw [timAt_counted hu hs hp]
  by_cases hw : (timNext (h.timOf n) (h.timSym n)).2.2 = true
  · rw [if_pos hw]
    have hfirst := wrapped_only h n
    have hrest : TimOnly n (h.wrapped n) (((h.wrapped n).timMatches n).timLapEnd n) :=
      (timMatches_only _ n).trans (timLapEnd_only _ n)
    obtain ⟨hcnt, htop, hheld, hpsc⟩ : SameCount ((h.wrapped n).timOf n) ((((h.wrapped n).timMatches n).timLapEnd n).timOf n) :=
      (timMatches_sameCount _ n).trans (timLapEnd_sameCount _ n)
    have hlw : (h.wrapped n).pageLive (0x28 + n) = true := (pageLive_of_pwr hfirst.parts.pwr _).trans hl
    have hflag : (h.wrapped n).b (R.TM_IFLAG n) 0 = true := raise_b_same _ _ 0 (by decide) ((pageLive_of_pwr (by
      rw [event_pwr]; rfl) _).trans hl)
    rw [timOf_wrapped] at hcnt htop hheld hpsc
    refine ⟨hfirst.trans hrest, hcnt, hpsc rfl, fun _ => ⟨hrest.flags 0 hflag, hheld, htop⟩, fun x hcfg hact => ?_⟩
    refine (timLapEnd_only _ n).flags _ (timMatches_flag _ n x ⟨?_, ?_⟩ hlw)
    · rw [hfirst.timCfg]
      exact hcfg
    · rw [if_pos hw, timCopy_eq, timOf_setTim_same] at hact
      rw [timOf_wrapped]
      exact hact
  · rw [if_neg hw]
    have hfirst : TimOnly n h (h.countMoved n) := timOnly_setTim h n _
    have htim : (h.countMoved n).timOf n = { h.timOf n with
      cnt := (timNext (h.timOf n) (h.timSym n)).1, down := (timNext (h.timOf n) (h.timSym n)).2.1, psc := 0 } :=
      timOf_setTim_same _ _ _
    obtain ⟨hcnt, -, -, hpsc⟩ := timMatches_sameCount (h.countMoved n) n
    rw [htim] at hcnt hpsc
    refine ⟨hfirst.trans (timMatches_only _ n), hcnt, hpsc rfl, fun h' => absurd h' hw, fun x hcfg hact => ?_⟩
    rw [if_neg hw] at hact
    exact timMatches_flag _ n x ⟨hcfg, by rw [htim]; exact hact⟩ hl

/-! ### One T edge at all timers (R365, R370) -/

theorem timAct_only (h : Hw) (n : Nat) (slave : Bool) : TimOnly n h (h.timAct n slave) :=
  .ite (.refl n h) (.ite (timOnly_setTim h n _) (.ite (timOnly_setTim h n _)
    (.ite ((timOnly_setTim h n _).trans (timOnly_timFlag _ n 6)) (.refl n h))))

theorem timMoves_only (h : Hw) (n : Nat) (slave tick : Bool) : TimOnly n h (h.timMoves n slave tick).1 := by
  unfold timMoves
  dsimp only
  split
  · exact (timAct_only h n slave).trans (timOnly_setTim _ n _)
  · split
    · exact (timAct_only h n slave).trans (timOnly_setTim _ n _)
    · exact timAct_only h n slave

/-- One edge at a timer touches that timer. -/
theorem timAt_only (h : Hw) (n : Nat) (slave tick commit : Bool) : TimOnly n h (h.timAt n slave tick commit) := by
  have hlap (c : Bool) (g : Hw) (hg : TimOnly n h g) : TimOnly n h (if c = true then g.timLapEnd n else g) :=
    .ite (hg.trans (timLapEnd_only g n)) hg
  have hmatch (c : Bool) (g : Hw) (hg : TimOnly n h g) : TimOnly n h (if c = true then g.timMatches n else g) :=
    .ite (hg.trans (timMatches_only g n)) hg
  have h1 := timMoves_only h n slave tick
  have hcopy : TimOnly n h ((h.timMoves n slave tick).1.timCopy n) := h1.trans (timOnly_setTim _ n _)
  exact hlap _ _ (hmatch _ _ (.ite ((hcopy.trans (timOnly_event _ n _)).trans (timOnly_timFlag _ n 0)) (.ite hcopy h1)))

/-- What timer `n` sees is the same in `g` as in `h`: its power, the registers of its page, and itself. -/
structure TimSame (n : Fin 6) (h g : Hw) : Prop where
  pwr : g.pwr = h.pwr
  reg : ∀ a : Nat, a / 256 = 0x28 + n.val → g.reg a = h.reg a
  tim : g.timOf n = h.timOf n

theorem TimSame.refl (n : Fin 6) (h : Hw) : TimSame n h h := ⟨rfl, fun _ _ => rfl, rfl⟩

theorem TimSame.trans {n : Fin 6} {h g f : Hw} (hg : TimSame n h g) (hf : TimSame n g f) : TimSame n h f :=
  ⟨hf.pwr.trans hg.pwr, fun a ha => (hf.reg a ha).trans (hg.reg a ha), hf.tim.trans hg.tim⟩

theorem TimOnly.timSame {m : Nat} {n : Fin 6} {h g : Hw} (hg : TimOnly m h g) (hm : m < 6) (hmn : m ≠ n) : TimSame n h g :=
  ⟨hg.parts.pwr, fun a ha => hg.reg a (by simp only [R.TM_IFLAG]; omega) (by simp only [R.TM_CTRL]; omega),
    hg.other n (by omega)⟩

theorem foldl_timSame (n : Fin 6) (f : Hw → Nat → Hw) (l : List Nat) (hf : ∀ g, ∀ m ∈ l, TimSame n g (f g m)) (h : Hw) :
    TimSame n h (l.foldl f h) := by
  induction l generalizing h with
  | nil => exact .refl n h
  | cons m t ih =>
    exact (hf h m (List.mem_cons_self ..)).trans (ih (fun g k hk => hf g k (List.mem_cons_of_mem _ hk)) _)

/-- An edge at all timers is at timer `n` one edge, beside which it sees nothing change. -/
theorem timEdges_split (h : Hw) (slaves : BitVec 6) (tick : Nat → Bool) (commit : Option Nat) (n : Fin 6) :
    ∃ g, TimSame n h g ∧
      TimSame n (g.timAt n (slaves.getLsbD n) (tick n) (commit == some n.val)) (h.timEdges slaves tick commit) := by
  obtain ⟨l, r, e⟩ := List.append_of_mem (List.mem_range.2 n.isLt)
  have hnd := List.nodup_range (n := 6)
  have hlt (m : Nat) (hm : m ∈ l ++ n.val :: r) : m < 6 := List.mem_range.1 (e ▸ hm)
  rw [e, List.nodup_append, List.nodup_cons] at hnd
  obtain ⟨-, ⟨hnr, -⟩, hlr⟩ := hnd
  rw [timEdges, e, List.foldl_append, List.foldl_cons]
  refine ⟨_, foldl_timSame n _ l (fun g m hm => (timAt_only g m _ _ _).timSame (hlt m (by simp [hm])) ?_) h,
    foldl_timSame n _ r (fun g m hm => (timAt_only g m _ _ _).timSame (hlt m (by simp [hm])) ?_) _⟩
  · exact hlr m hm n.val (by simp)
  · rintro rfl
    exact hnr hm

section
variable {n : Fin 6} {h g : Hw} (hs : TimSame n h g)
include hs

theorem TimSame.timTicks : g.timTicks n = h.timTicks n := by
  rw [Hw.timTicks, hs.tim, up, vigil_of_pwr hs.pwr, domState_of_pwr hs.pwr, ← up, ← Hw.timTicks]

theorem TimSame.timSlave : g.timSlave n = h.timSlave n := by
  rw [Hw.timSlave, f, hs.reg _ (by simp only [R.TM_SLAVE]; omega), ← f, ← Hw.timSlave]

theorem TimSame.timSym : g.timSym n = h.timSym n := by
  rw [Hw.timSym, timMode, hs.reg _ (by simp only [R.TM_MODE]; omega), ← timMode, ← Hw.timSym]

theorem TimSame.timCfg (x : Nat) : g.timCfg n x = h.timCfg n x := hs.reg _ (by simp only [R.TM_CH0CFG]; omega)

theorem TimSame.timCopy : (g.timCopy n).timOf n = (h.timCopy n).timOf n := by
  rw [timCopy_eq, timCopy_eq, timOf_setTim_same, timOf_setTim_same, hs.tim]
  simp only [preloaded, hs.timCfg]

/-- A counted edge of what the timer sees alike. -/
theorem Counted.of_same {f : Hw} (hc : g.Counted n f) : h.Counted n f := by
  unfold Counted at *
  rw [hs.tim, hs.timSym] at hc
  obtain ⟨h1, h2, h3, h4⟩ := hc
  refine ⟨h1, h2, h3, fun x hcfg hact => h4 x (by rw [hs.timCfg]; exact hcfg) ?_⟩
  rw [hact]
  split
  · rw [hs.timCopy]
  · rw [hs.tim]

end

theorem Counted.then_same {n : Fin 6} {h g f : Hw} (hc : h.Counted n g) (hs : TimSame n g f) : h.Counted n f := by
  have hb (i : Nat) : f.b (R.TM_IFLAG n) i = g.b (R.TM_IFLAG n) i := by
    rw [b, hs.reg _ (by simp only [R.TM_IFLAG]; omega), ← b]
  unfold Counted at *
  rw [hs.tim]
  simpa only [hb] using hc

theorem pageLive_tim (h : Hw) (n : Fin 6) (hl : h.live .time = true) : h.pageLive (0x28 + n) = true :=
  pageLive_of_live h _ .tm (by revert n; decide) hl

theorem live_of_up {h : Hw} {d : Dom} (hu : h.up d = true) : h.live d = true := by
  simp only [up, Bool.and_eq_true] at hu
  simp [live, hu.1, hu.2]

theorem live_of_timTicks {h : Hw} {n : Nat} (ht : h.timTicks n = true) : h.live .time = true := by
  simp only [timTicks, Bool.and_eq_true] at ht
  exact live_of_up ht.1.1.1

/-! ### The 1 MHz tick (R165) -/

/-- A tick that is due leaves the almanacs and what is left of the ticks. -/
theorem tickDue_parts {h g : Hw} (hd : h.tickDue = some g) : ∃ alm cal, g = { h with alm := alm, cal := cal } := by
  unfold tickDue at hd
  dsimp only at hd
  split_ifs at hd
  · exact ⟨_, _, (Option.some.inj hd).symm⟩
  · obtain ⟨alm, cal, e⟩ := almCount_eq h h.tickAlm (h.almEdges h.tickAlm (microUnits - (h.almOf h.tickAlm).sub % microUnits))
    rw [← Option.some.inj hd, e]
    exact ⟨_, _, rfl⟩

theorem tickDue_timSame {h g : Hw} (hd : h.tickDue = some g) (n : Fin 6) : TimSame n h g := by
  obtain ⟨alm, cal, rfl⟩ := tickDue_parts hd
  exact ⟨rfl, fun _ _ => rfl, rfl⟩

/-- With no tick and no pulse an edge is none. -/
theorem timEdges_none (h : Hw) : h.timEdges 0 (fun _ => false) none = h := by
  have hat (g : Hw) (m : Nat) : g.timAt m ((0 : BitVec 6).getLsbD m) false ((none : Option Nat) == some m) = g := by
    have h0 : (0 : BitVec 6).getLsbD m = false := BitVec.getLsbD_zero
    rw [h0]
    exact timAt_unsourced (.inl rfl) (by simp [timSourced]) _
  exact foldl_keeps id _ hat _ h

/-- An edge of a timer without a pulse that acts: below PSC its prescaler moves, at PSC it is counted. -/
theorem exec_timAt {s : State} {n : Fin 6} {slave tick : Bool} {i : Instr}
    (he : exec i s = .next (s.after (s.hw.timAt n slave tick false))) (hu : s.hw.Unacted n slave) (ht : s.hw.timTicks n = true)
    (hs : s.hw.timSourced n slave tick = true) :
    ((s.hw.timOf n).psc < (s.hw.reg (R.TM_PSC n)).toNat → exec i s = .next (s.after
      (s.hw.setTim n { s.hw.timOf n with psc := (s.hw.timOf n).psc + 1 }))) ∧
    ((s.hw.reg (R.TM_PSC n)).toNat ≤ (s.hw.timOf n).psc → ∃ g : Hw, exec i s = .next (s.after g) ∧ s.hw.Counted n g ∧
      (∀ m, m < 6 → m ≠ n.val → g.timOf m = s.hw.timOf m) ∧
      ∀ a, a ≠ R.TM_IFLAG n → a ≠ R.TM_CTRL n → g.reg a = s.hw.reg a) := by
  refine ⟨fun hp => ?_, fun hp => ?_⟩
  · rw [he, timAt_prescaled hu hs hp]
  · obtain ⟨honly, hc⟩ := timAt_counted_spec hu hs hp (pageLive_tim _ n (live_of_timTicks ht))
    exact ⟨_, he, hc, fun m hm hmn => honly.other m (by omega), honly.reg⟩

/-- The 1 MHz tick at a timer that counts it (R165, R365). -/
theorem timMicro_spec {h g : Hw} {n : Fin 6} (hg : TimSame n h g) (ht : h.timTicks n = true) :
    (h.timOnT n = false → h.timSlave n ≠ 4 →
      ((h.timOf n).psc < (h.reg (R.TM_PSC n)).toNat →
        (g.timMicro 0 none).timOf n = { h.timOf n with psc := (h.timOf n).psc + 1 }) ∧
      ((h.reg (R.TM_PSC n)).toNat ≤ (h.timOf n).psc → h.Counted n (g.timMicro 0 none))) ∧
    (h.timOnT n = true ∨ h.timSlave n = 4 → (g.timMicro 0 none).timOf n = h.timOf n) := by
  obtain ⟨f, hf, hend⟩ := timEdges_split g 0 (fun m => !g.timOnT m) none n
  have h0 : (0 : BitVec 6).getLsbD n = false := BitVec.getLsbD_zero
  have hmode : g.timOnT n = h.timOnT n := by
    rw [timOnT, timMode, hg.reg _ (by simp only [R.TM_MODE]; omega), ← timMode, ← timOnT]
  have hsame : TimSame n h f := hg.trans hf
  have hu : f.Unacted n false := .inl rfl
  have hft : f.timTicks n = true := hsame.timTicks.trans ht
  have hpsc : f.reg (R.TM_PSC n) = h.reg (R.TM_PSC n) := hsame.reg _ (by simp only [R.TM_PSC]; omega)
  rw [h0, hmode, show ((none : Option Nat) == some n.val) = false from rfl] at hend
  change TimSame n _ (g.timMicro 0 none) at hend
  have hsrc := timSourced_unacted hu hft (!h.timOnT n)
  rw [hsame.timSlave] at hsrc
  refine ⟨fun hT h4 => ?_, fun hno => ?_⟩
  · rw [hT, if_neg h4, Bool.not_false] at hsrc
    rw [hT, Bool.not_false] at hend
    refine ⟨fun hp => ?_, fun hp => ?_⟩
    · rw [timAt_prescaled hu hsrc (by rwa [hsame.tim, hpsc])] at hend
      rw [hend.tim, timOf_setTim_same, hsame.tim]
    · obtain ⟨-, hc⟩ := timAt_counted_spec hu hsrc (by rwa [hsame.tim, hpsc]) (pageLive_tim f n (live_of_timTicks hft))
      exact (hc.of_same hsame).then_same hend
  · have hquiet : f.timSourced n false (!h.timOnT n) = false := by
      rw [hsrc]
      rcases hno with hT | h4
      · simp [hT]
      · simp [h4]
    rw [timAt_unsourced hu hquiet] at hend
    exact hend.tim.trans hsame.tim

/-! ### Laps (R367 to R369) -/

theorem timNext_up (t : Timer) (h1 : t.cnt ≠ t.top) (h2 : t.cnt ≠ 0xFFFFFFFF) : timNext t false = (t.cnt + 1, false, false) := by
  simp [timNext, h1, h2]

theorem timNext_wrap (t : Timer) (h1 : t.cnt = t.top ∨ t.cnt = 0xFFFFFFFF) : timNext t false = (0, false, true) := by
  simp [timNext, h1]

theorem timNext_rise (t : Timer) (h1 : t.down = false) (h2 : t.cnt < t.top) :
    timNext t true = (t.cnt + 1, decide (t.cnt + 1 = t.top), false) := by
  simp [timNext, h1, show t.top ≠ 0 by omega, show ¬ t.top ≤ t.cnt by omega, beq_eq_decide]

theorem timNext_fall (t : Timer) (h0 : t.top ≠ 0) (h1 : t.down = true ∨ t.top ≤ t.cnt) :
    timNext t true = if t.cnt ≤ 1 then (0, false, true) else (t.cnt - 1, true, false) := by
  simp [timNext, h0, h1]

@[simp] theorem timLap_top (sym : Bool) (k : Nat) (t : Timer) : (timLap sym k t).top = t.top := by
  induction k with
  | zero => rfl
  | succ k ih => exact ih

theorem timLap_up (t : Timer) (k : Nat) (h0 : t.cnt = 0) (ht : t.top ≤ 0xFFFFFFFF) (hk : k ≤ t.top) : (timLap false k t).cnt = k := by
  induction k with
  | zero => exact h0
  | succ k ih =>
    have hc := ih (by omega)
    rw [timLap, timNext_up _ (by rw [hc, timLap_top]; omega) (by omega)]
    exact congrArg (· + 1) hc

theorem timLap_up_wraps (t : Timer) (h0 : t.cnt = 0) (ht : t.top ≤ 0xFFFFFFFF) : (timLap false (t.top + 1) t).cnt = 0 := by
  rw [timLap, timNext_wrap _ (.inl (by rw [timLap_up t _ h0 ht le_rfl, timLap_top]))]

/-- Symmetric mode counts up to TOP and turns there. -/
theorem timLap_rise (t : Timer) (k : Nat) (h0 : t.cnt = 0) (hd : t.down = false) (ht : 0 < t.top) (hk : k ≤ t.top) :
    (timLap true k t).cnt = k ∧ (timLap true k t).down = decide (k = t.top) := by
  induction k with
  | zero => exact ⟨h0, by rw [timLap, hd, eq_comm, decide_eq_false_iff_not]; omega⟩
  | succ k ih =>
    obtain ⟨hc, hdn⟩ := ih (by omega)
    have hdn' : (timLap true k t).down = false := by rw [hdn, decide_eq_false_iff_not]; omega
    rw [timLap, timNext_rise _ hdn' (by rw [hc, timLap_top]; omega)]
    exact ⟨congrArg (· + 1) hc, by rw [hc, timLap_top]⟩

/-- From TOP it counts down to 0, and its direction is up again. -/
theorem timLap_fall (t : Timer) (j : Nat) (h0 : t.cnt = 0) (hd : t.down = false) (ht : 0 < t.top) (hj : j ≤ t.top) :
    (timLap true (t.top + j) t).cnt = t.top - j ∧ (timLap true (t.top + j) t).down = decide (j < t.top) := by
  induction j with
  | zero =>
    obtain ⟨hc, hdn⟩ := timLap_rise t t.top h0 hd ht le_rfl
    exact ⟨hc, by rw [Nat.add_zero, hdn]; simpa using ht⟩
  | succ j ih =>
    obtain ⟨hc, hdn⟩ := ih (by omega)
    have hdn' : (timLap true (t.top + j) t).down = true := by rw [hdn]; simpa using hj
    rw [← Nat.add_assoc, timLap, timNext_fall _ (by rw [timLap_top]; omega) (.inl hdn'), hc]
    split
    · exact ⟨by dsimp only; omega, by rw [eq_comm, decide_eq_false_iff_not]; omega⟩
    · exact ⟨by dsimp only; omega, by rw [eq_comm, decide_eq_true_eq]; omega⟩

/-- A slave reset beats a count of its edge (R370, R374). -/
theorem timAt_reset (h : Hw) (n : Nat) (tick : Bool) (he : h.timSlaveEv n = true) (hen : h.enabled (0x28 + n) = true)
    (h1 : h.timSlave n = 1) : ((h.timAt n true tick false).timOf n).cnt = 0 := by
  have hr : h.timResets n true = true := by simp [timResets, he, hen, h1]
  have hs : h.timSourced n true tick = false := by simp [timSourced, hr]
  have hc : h.timCounts n true tick = false := by simp [timCounts, hs]
  have ha : h.timAct n true = h.setTim n { h.timOf n with cnt := 0, down := false, psc := 0 } := by simp [timAct, he, hen, h1]
  have e : h.timAt n true tick false = ((h.timAct n true).timCopy n).timMatches n := by
    simp [timAt, timMoves, hr, hs, hc]
  obtain ⟨hcnt, -⟩ := timMatches_sameCount ((h.timAct n true).timCopy n) n
  rw [e, hcnt, ha, timCopy_eq, timOf_setTim_same, timOf_setTim_same]
  rfl

end Hw

theorem exec_timerCount (s : State) (n : Fin 6) :
    exec (.timerCount n) s = .next (s.after (s.hw.timAt n false (s.hw.timOnT n) false)) := rfl

theorem exec_timerSlaveClock (s : State) (n : Fin 6) (h4 : s.hw.timSlave n = 4) :
    exec (.timerSlaveClock n) s = .next (s.after (s.hw.timAt n true false false)) := done_congr (if_pos h4)

/-- Settles O48: laps by induction on edges, one counted edge by `timAt_counted_spec`, the 1 MHz tick by `timMicro_spec`. -/
theorem timersCountWrapAndMatch : Obligations.TimersCountWrapAndMatch := by
  refine ⟨fun t k h0 hd ht => ⟨Hw.timLap_up t k h0 ht, Hw.timLap_up_wraps t h0 ht, fun hpos => ⟨?_, fun h1 h2 => ?_, ?_⟩, ?_⟩,
    fun t ht => ⟨fun hlt => ?_, fun heq => ?_, fun hpos => ?_⟩, fun s n ht r hr counted hcd => ?_, fun s => ⟨fun hd => ?_, ?_⟩,
    fun h n tick he hen h1 => Hw.timAt_reset h n tick he hen h1⟩
  · exact fun hk => (Hw.timLap_rise t k h0 hd hpos hk).1
  · obtain ⟨hc, -⟩ := Hw.timLap_fall t (k - t.top) h0 hd hpos (by omega)
    rw [show t.top + (k - t.top) = k by omega] at hc
    omega
  · obtain ⟨-, hdn⟩ := Hw.timLap_fall t t.top h0 hd hpos le_rfl
    rw [Nat.two_mul, hdn]
    simp
  · intro h
    simp [Hw.timNext, h, h0]
  · exact Hw.timNext_up t (by omega) (by omega)
  · exact Hw.timNext_wrap t (.inr heq)
  · rw [Hw.timNext_fall t (by omega) (.inr ht.le), if_neg (by omega)]
  · subst hr hcd
    refine ⟨?_, fun h hh => ⟨h.timMicro 0 none, done_congr ?_, Hw.timMicro_spec (Hw.tickDue_timSame hh n) ht⟩⟩
    · rintro i (⟨rfl, hT, h4⟩ | ⟨rfl, h4, hev⟩)
      · exact Hw.exec_timAt (exec_timerCount s n) (.inl rfl) ht (by rw [Hw.timSourced_unacted (.inl rfl) ht, if_neg h4, hT])
      · exact Hw.exec_timAt (exec_timerSlaveClock s n h4) (.inr h4) ht
          (by rw [Hw.timSourced_unacted (.inr h4) ht, if_pos h4, hev]; rfl)
    · rw [Hw.microTick, hh]
  · refine done_congr ?_
    rw [Hw.microTick, hd]
    exact Hw.timEdges_none s.hw
  · intro hl hpos
    simp [Hw.tickDue, hl, hpos]

end Sys2Proof.Machine

/-! ## Proofs: almanacs count T edges and reach their seconds (O26) -/

namespace Sys2Proof.Machine
namespace Hw

/-! ### The arithmetic of addend and slew (R156, R159) -/

/-- What a slew of `s` at `r` units an edge adds over edges that could add `x` in all. -/
def slewUsed (s : Int) (x : Nat) : Int := if 0 ≤ s then min s x else max s (-(x : Int))

theorem slewPart_eq (h : Hw) (n k : Nat) : h.slewPart n k = slewUsed (h.almOf n).slew (k * h.slewRate n) := rfl

theorem slewUsed_zero (x : Nat) : slewUsed 0 x = 0 := by simp [slewUsed]

/-- A slew goes on with what is left of it. -/
theorem slewUsed_add (s : Int) (x y : Nat) : slewUsed s x + slewUsed (s - slewUsed s x) y = slewUsed s (x + y) := by
  unfold slewUsed
  split <;> split <;> omega

theorem natAbs_slewUsed_le (s : Int) (x : Nat) : (slewUsed s x).natAbs ≤ x := by
  unfold slewUsed
  split <;> omega

/-- The slew has not ended yet. -/
theorem slewUsed_running (s : Int) (x : Nat) (hx : x ≤ s.natAbs) : slewUsed s x = if 0 ≤ s then (x : Int) else -(x : Int) := by
  unfold slewUsed
  split <;> omega

/-- The slew has ended. -/
theorem slewUsed_ended (s : Int) (x : Nat) (hx : s.natAbs ≤ x) : slewUsed s x = s := by
  unfold slewUsed
  split <;> omega

/-- The first number of steps of `d` that reaches `x`. -/
def stepsTo (x d : Nat) : Nat := (x + d - 1) / d

theorem stepsTo_bounds (x d : Nat) (hd : 0 < d) : x ≤ stepsTo x d * d ∧ stepsTo x d * d < x + d := by
  unfold stepsTo
  have h1 := Nat.div_add_mod' (x + d - 1) d
  have h2 := Nat.mod_lt (x + d - 1) hd
  generalize (x + d - 1) / d * d = q at *
  omega

/-- No smaller number of steps of `d` reaches `x`. -/
theorem lt_stepsTo_iff (x d k : Nat) (hd : 0 < d) : k < stepsTo x d ↔ k * d < x := by
  rw [stepsTo, Nat.lt_iff_add_one_le, Nat.le_div_iff_mul_le hd, Nat.succ_mul]
  omega

theorem slewRate_bounds (h : Hw) (n : Nat) : 1 ≤ h.slewRate n ∧ h.slewRate n ≤ 131 := by
  unfold slewRate
  omega

/-- With the addend of R157 no edge moves an almanac back. -/
theorem almGain_int (h : Hw) (n k : Nat) (ha : 0x7C0000000 ≤ h.addend n) :
    (h.almGain n k : Int) = k * h.addend n + slewUsed (h.almOf n).slew (k * h.slewRate n) * 65536 := by
  have hu := natAbs_slewUsed_le (h.almOf n).slew (k * h.slewRate n)
  have hr : k * h.slewRate n ≤ k * 131 := Nat.mul_le_mul_left k (slewRate_bounds h n).2
  have hk : k * 0x7C0000000 ≤ k * h.addend n := Nat.mul_le_mul_left k ha
  rw [almGain, slewPart_eq, ← Nat.cast_mul]
  generalize slewUsed (h.almOf n).slew (k * h.slewRate n) = u at *
  generalize k * h.slewRate n = x at *
  generalize k * h.addend n = y at *
  omega

/-! ### One count (R156, R159, R165) -/

/-- The almanac whose slew has ended. -/
def slewOver (a : Alm) : Alm :=
  if a.switching && a.committed && (a.rung = .ptp || a.rung = .pps) then
    { a with slew := 0, switching := false, committed := false, revert := false }
  else { a with slew := 0 }

/-- The almanac after edges whose slew adds `part` and which add `gain` in all. -/
def counted (a : Alm) (part : Int) (gain : Nat) : Alm :=
  if a.slew ≠ 0 ∧ a.slew - part = 0 then slewOver { a with sub := a.sub + gain, slew := a.slew - part }
  else { a with sub := a.sub + gain, slew := a.slew - part }

theorem almCount_counted (h : Hw) (n k : Nat) : h.almCount n k =
    { h.setAlm n (counted (h.almOf n) (h.slewPart n k) (h.almGain n k)) with
      cal := { h.cal with ticks := h.cal.ticks + h.almMicros n ((h.almOf n).sub + h.almGain n k) } } := by
  have hset (a b : Alm) (c : Cal) : ({ h.setAlm n a with cal := c } : Hw).setAlm n b = { h.setAlm n b with cal := c } := by
    simp [setAlm]
  have hof (a : Alm) (c : Cal) : ({ h.setAlm n a with cal := c } : Hw).almOf n = a := almOf_setAlm_same h n a
  unfold almCount counted
  simp only [Bool.and_eq_true, decide_eq_true_eq]
  split
  · simp only [slewEnded, slewOver, hof, hset]
    split <;> rfl
  · rfl

theorem almOf_almCount (h : Hw) (n k : Nat) :
    (h.almCount n k).almOf n = counted (h.almOf n) (h.slewPart n k) (h.almGain n k) := by
  rw [almCount_counted]
  exact almOf_setAlm_same h n _

theorem sub_counted (a : Alm) (p : Int) (g : Nat) : (counted a p g).sub = a.sub + g := by
  unfold counted slewOver
  split_ifs <;> rfl

theorem sec_counted (a : Alm) (p : Int) (g : Nat) : (counted a p g).sec = a.sec := by
  unfold counted slewOver
  split_ifs <;> rfl

theorem slew_counted (a : Alm) (p : Int) (g : Nat) : (counted a p g).slew = a.slew - p := by
  unfold counted slewOver
  split
  next he => split <;> exact he.2.symm
  · rfl

/-- Two counts are one: a slew that the first ends adds nothing to the second. -/
theorem counted_counted (a : Alm) (p q : Int) (g f : Nat) (hp : a.slew = 0 → p = 0) (hq : a.slew - p = 0 → q = 0) :
    counted (counted a p g) q f = counted a (p + q) (g + f) := by
  by_cases h0 : a.slew = 0
  · obtain rfl := hp h0
    obtain rfl := hq (by omega)
    simp [counted, h0, Nat.add_assoc]
  by_cases h1 : a.slew - p = 0
  · obtain rfl := hq h1
    have hs : (counted a p g).slew = 0 := (slew_counted a p g).trans h1
    rw [counted, if_neg (by simp [hs])]
    simp only [counted, slewOver, h0, h1, add_zero, ne_eq, not_false_eq_true, and_self, if_true]
    split <;> simp [Nat.add_assoc]
  · have e : counted a p g = { a with sub := a.sub + g, slew := a.slew - p } := if_neg (by simp [h1])
    rw [e]
    simp only [counted, h0, h1, Int.sub_sub, Nat.add_assoc, ne_eq, not_false_eq_true, true_and]

theorem ticks_almCount (h : Hw) (n k : Nat) : (h.almCount n k).cal.ticks = h.cal.ticks +
    h.almMicros n ((h.almOf n).sub + h.almGain n k) := by rw [almCount_counted]

/-- A count leaves the registers, so the addend and the slew rate. -/
theorem almCount_regs (h : Hw) (n k : Nat) : (h.almCount n k).regs = h.regs := by rw [almCount_counted]; rfl

theorem slewPart_add (h : Hw) (n j k : Nat) :
    h.slewPart n j + (h.almCount n j).slewPart n k = h.slewPart n (j + k) := by
  have hr : (h.almCount n j).slewRate n = h.slewRate n := by rw [slewRate, f, reg, almCount_regs]; rfl
  rw [slewPart_eq, slewPart_eq, slewPart_eq, almOf_almCount, slew_counted, hr, slewPart_eq, slewUsed_add, Nat.add_mul]

theorem almGain_add (h : Hw) (n j k : Nat) (ha : 0x7C0000000 ≤ h.addend n) :
    h.almGain n j + (h.almCount n j).almGain n k = h.almGain n (j + k) := by
  have hadd : (h.almCount n j).addend n = h.addend n := by simp only [addend, reg, almCount_regs]
  have hs := slewPart_add h n j k
  simp only [slewPart_eq] at hs
  zify
  rw [almGain_int _ _ _ ha, almGain_int _ _ _ ha, almGain_int _ _ _ (ha.trans_eq hadd.symm), hadd, ← hs]
  push_cast
  ring

theorem almCount_add (h : Hw) (n j k : Nat) (ha : 0x7C0000000 ≤ h.addend n) :
    (h.almCount n j).almCount n k = h.almCount n (j + k) := by
  have hset (a b : Alm) (c d : Cal) : ({ ({ h.setAlm n a with cal := c } : Hw).setAlm n b with cal := d } : Hw) =
      { h.setAlm n b with cal := d } := by simp [setAlm]
  have halm : counted ((h.almCount n j).almOf n) ((h.almCount n j).slewPart n k) ((h.almCount n j).almGain n k) =
      counted (h.almOf n) (h.slewPart n (j + k)) (h.almGain n (j + k)) := by
    rw [almOf_almCount, counted_counted, slewPart_add, almGain_add h n j k ha]
    · intro h0
      rw [slewPart_eq, h0, slewUsed_zero]
    · intro h0
      rw [slewPart_eq, almOf_almCount, slew_counted, h0, slewUsed_zero]
  have hticks : (h.almCount n j).cal.ticks + (h.almCount n j).almMicros n (((h.almCount n j).almOf n).sub +
      (h.almCount n j).almGain n k) = h.cal.ticks + h.almMicros n ((h.almOf n).sub + h.almGain n (j + k)) := by
    have hroles : (h.almCount n j).f R.CAL_ROLES 5 4 = h.f R.CAL_ROLES 5 4 := by rw [f, reg, almCount_regs]; rfl
    rw [ticks_almCount, almMicros, almMicros, almMicros, hroles, almOf_almCount, sub_counted, Nat.add_assoc _ _ (almGain _ _ _),
      almGain_add h n j k ha]
    have h1 : (h.almOf n).sub / microUnits ≤ ((h.almOf n).sub + h.almGain n j) / microUnits :=
      Nat.div_le_div_right (Nat.le_add_right _ _)
    have h2 : ((h.almOf n).sub + h.almGain n j) / microUnits ≤ ((h.almOf n).sub + h.almGain n (j + k)) / microUnits :=
      Nat.div_le_div_right (by rw [← almGain_add h n j k ha, ← Nat.add_assoc]; exact Nat.le_add_right _ _)
    split <;> omega
  rw [almCount_counted _ n k, halm, hticks, almCount_counted h n j, almCount_counted h n (j + k)]
  exact hset _ _ _ _

/-! ### The edges to a second (R153, R166) -/

/-- With a rising slew that ends before the edge: `K` edges would do if it went on, `e` end it, `c` are needed beside it. -/
theorem edges_rising {A R S need K e c : Nat} (hK : K * (A + R * 65536) < need + (A + R * 65536)) (hS : S < K * R)
    (he : ∀ k, k < e ↔ k * R < S) (hc : need - S * 65536 ≤ c * A ∧ c * A < need - S * 65536 + A) :
    need ≤ max e c * A + S * 65536 ∧ max e c * A + S * 65536 < need + (A + R * 65536) := by
  obtain ⟨hc1, hc2⟩ := hc
  rcases Nat.lt_or_ge c e with hce | hce
  · have heK : e ≤ K := Nat.le_of_not_lt fun hlt => by have := (he K).1 hlt; omega
    have hSe : S ≤ e * R := Nat.le_of_not_lt fun hlt => lt_irrefl e ((he e).2 hlt)
    have h1 : c * A ≤ e * A := Nat.mul_le_mul_right A hce.le
    have h2 : e * (A + R * 65536) ≤ K * (A + R * 65536) := Nat.mul_le_mul_right _ heK
    rw [Nat.max_eq_left hce.le]
    rw [Nat.mul_add e, ← Nat.mul_assoc] at h2
    generalize e * R = x at *
    generalize e * A = y at *
    omega
  · have hsmall : S * 65536 ≤ need := by
      by_contra hlt
      have h0 : c = 0 := by
        by_contra hpos
        have : A ≤ c * A := Nat.le_mul_of_pos_left A (Nat.pos_of_ne_zero hpos)
        omega
      have hS0 := (he 0).not.1 (by omega)
      omega
    rw [Nat.max_eq_right hce]
    omega

/-- With a falling slew that ends before the edge. -/
theorem edges_falling {A R S need K e c : Nat} (hK : ∀ k, k < K ↔ k * (A - R * 65536) < need)
    (hS : S < K * R) (he : ∀ k, k < e ↔ k * R < S) (hc : need + S * 65536 ≤ c * A ∧ c * A < need + S * 65536 + A) :
    need + S * 65536 ≤ max e c * A ∧ max e c * A < need + S * 65536 + A := by
  have hce : e ≤ c := by
    by_contra hlt
    have heK : e ≤ K := Nat.le_of_not_lt fun h => by have := (he K).1 h; omega
    have h1 := (he c).1 (by omega)
    have h2 := (hK c).1 (by omega)
    rw [Nat.mul_sub, ← Nat.mul_assoc] at h2
    omega
  rwa [Nat.max_eq_right hce]

theorem almEdges_steady (h : Hw) (n need : Nat) (hs : (h.almOf n).slew = 0) : h.almEdges n need = stepsTo need (h.addend n) := by
  simp [almEdges, hs, stepsTo]

theorem almEdges_rising (h : Hw) (n need S : Nat) (hs : (h.almOf n).slew = S) (hpos : 0 < S) : h.almEdges n need =
    if stepsTo need (h.addend n + h.slewRate n * 65536) * h.slewRate n ≤ S then
      stepsTo need (h.addend n + h.slewRate n * 65536)
    else max (stepsTo S (h.slewRate n)) (stepsTo (need - S * 65536) (h.addend n)) := by
  have hinc : ((h.addend n : Int) + h.slewRate n * 65536).toNat = h.addend n + h.slewRate n * 65536 := by omega
  have hneed : ((need : Int) - S * 65536).toNat = need - S * 65536 := by omega
  simp only [almEdges, hs, if_pos (Int.natCast_pos.2 hpos), hinc, hneed, Int.natAbs_natCast, stepsTo]
  have h0 : ((S : Int) == 0) = false := by simpa using hpos.ne'
  simp only [h0, Bool.or_false, decide_eq_true_eq]
  congr

theorem almEdges_falling (h : Hw) (n need S : Nat) (hs : (h.almOf n).slew = -S) (hpos : 0 < S) : h.almEdges n need =
    if stepsTo need (h.addend n - h.slewRate n * 65536) * h.slewRate n ≤ S then
      stepsTo need (h.addend n - h.slewRate n * 65536)
    else max (stepsTo S (h.slewRate n)) (stepsTo (need + S * 65536) (h.addend n)) := by
  have hinc : ((h.addend n : Int) + -(h.slewRate n : Int) * 65536).toNat = h.addend n - h.slewRate n * 65536 := by omega
  have hneed : ((need : Int) - -(S : Int) * 65536).toNat = need + S * 65536 := by omega
  have h1 : ¬ 0 < -(S : Int) := by omega
  have h2 : -(S : Int) < 0 := by omega
  simp only [almEdges, hs, if_neg h1, if_pos h2, hinc, hneed, Int.natAbs_neg, Int.natAbs_natCast, stepsTo]
  have h0 : ((-(S : Int)) == 0) = false := by simpa using hpos.ne'
  simp only [h0, Bool.or_false, decide_eq_true_eq]
  congr

/-- Without a slew. -/
theorem gain_steady {A need : Nat} (hA : 0 < A) (x R : Nat) :
    (need : Int) ≤ stepsTo need A * A + slewUsed 0 x * 65536 ∧
      stepsTo need A * A + slewUsed 0 x * 65536 < need + (A + R * 65536) := by
  obtain ⟨h1, h2⟩ := stepsTo_bounds need A hA
  rw [slewUsed_zero]
  zify at h1 h2
  generalize (stepsTo need A : Int) * A = y at *
  omega

/-- What `k` edges have gained by is at or past the need, by less than one edge's gain. -/
theorem gain_rising {A R S need : Nat} (hA : 0 < A) (hR : 0 < R) :
    let K := stepsTo need (A + R * 65536)
    let k := if K * R ≤ S then K else max (stepsTo S R) (stepsTo (need - S * 65536) A)
    (need : Int) ≤ k * A + slewUsed S (k * R) * 65536 ∧ k * A + slewUsed S (k * R) * 65536 < need + (A + R * 65536) := by
  intro K k
  obtain ⟨hK1, hK2⟩ := stepsTo_bounds need (A + R * 65536) (by omega)
  rcases Nat.lt_or_ge S (K * R) with hS | hS
  · have hk : k = max (stepsTo S R) (stepsTo (need - S * 65536) A) := if_neg (by omega)
    have hSk : S ≤ k * R := (stepsTo_bounds S R hR).1.trans (Nat.mul_le_mul_right R (hk ▸ le_max_left _ _))
    obtain ⟨h1, h2⟩ := edges_rising hK2 hS (fun i => lt_stepsTo_iff S R i hR) (stepsTo_bounds (need - S * 65536) A hA)
    rw [slewUsed_ended _ _ (by simpa using hSk)]
    rw [← hk] at h1 h2
    exact ⟨by exact_mod_cast h1, by exact_mod_cast h2⟩
  · have hk : k = K := if_pos hS
    rw [hk, slewUsed_running _ _ (by simpa using hS), if_pos (by omega)]
    rw [Nat.mul_add, ← Nat.mul_assoc] at hK1 hK2
    exact ⟨by exact_mod_cast hK1, by exact_mod_cast hK2⟩

theorem gain_falling {A R S need : Nat} (hA : R * 65536 < A) (hR : 0 < R) :
    let K := stepsTo need (A - R * 65536)
    let k := if K * R ≤ S then K else max (stepsTo S R) (stepsTo (need + S * 65536) A)
    (need : Int) ≤ k * A + slewUsed (-S) (k * R) * 65536 ∧ k * A + slewUsed (-S) (k * R) * 65536 < need + (A + R * 65536) := by
  intro K k
  rcases Nat.lt_or_ge S (K * R) with hS | hS
  · have hk : k = max (stepsTo S R) (stepsTo (need + S * 65536) A) := if_neg (by omega)
    have hSk : S ≤ k * R := (stepsTo_bounds S R hR).1.trans (Nat.mul_le_mul_right R (hk ▸ le_max_left _ _))
    obtain ⟨h1, h2⟩ := edges_falling (fun i => lt_stepsTo_iff need (A - R * 65536) i (by omega)) hS
      (fun i => lt_stepsTo_iff S R i hR) (stepsTo_bounds (need + S * 65536) A (by omega))
    rw [slewUsed_ended _ _ (by simpa using hSk)]
    rw [← hk] at h1 h2
    zify at h1 h2
    generalize (k : Int) * A = x at *
    omega
  · have hk : k = K := if_pos hS
    obtain ⟨hK1, hK2⟩ := stepsTo_bounds need (A - R * 65536) (by omega)
    have hKR : K * (R * 65536) ≤ K * A := Nat.mul_le_mul_left K hA.le
    rw [Nat.mul_sub] at hK1 hK2
    rw [← Nat.mul_assoc] at hK1 hK2 hKR
    have hu : slewUsed (-S) (K * R) = -((K * R : Nat) : Int) := by
      unfold slewUsed
      split <;> omega
    rw [hk, hu, ← Nat.cast_mul]
    generalize K * R = x at *
    generalize K * A = y at *
    omega

/-- The count to `almEdges` reaches the need, and its last edge passes it by less than an edge's largest gain. -/
theorem almGain_almEdges (h : Hw) (n need : Nat) (hlo : 0x7C0000000 ≤ h.addend n) (hhi : h.addend n ≤ 0x840000000) :
    need ≤ h.almGain n (h.almEdges n need) ∧ h.almGain n (h.almEdges n need) < need + (0x840000000 + 131 * 65536) := by
  have hg := almGain_int h n (h.almEdges n need) hlo
  obtain ⟨hr1, hr2⟩ := slewRate_bounds h n
  suffices hz : (need : Int) ≤ h.almGain n (h.almEdges n need) ∧
      (h.almGain n (h.almEdges n need) : Int) < need + (h.addend n + h.slewRate n * 65536) by omega
  rw [hg]
  obtain ⟨S, hs | hs⟩ := Int.eq_nat_or_neg (h.almOf n).slew
  · rcases Nat.eq_zero_or_pos S with h0 | hpos
    · rw [h0] at hs
      rw [almEdges_steady h n need hs, hs]
      exact gain_steady (by omega) _ _
    · rw [almEdges_rising h n need S hs hpos, hs]
      exact gain_rising (by omega) (by omega)
  · rcases Nat.eq_zero_or_pos S with h0 | hpos
    · rw [h0] at hs
      rw [almEdges_steady h n need hs, hs]
      exact gain_steady (by omega) _ _
    · rw [almEdges_falling h n need S hs hpos, hs]
      exact gain_falling (by omega) (by omega)

/-! ### A second tick (R166) -/

/-- `g` keeps what the clauses on a second tick speak of: the time that almanac `n` counted to, the other almanacs, the
flags of its page, which only rise, PPS_OUT's configuration and a pulse that runs, and the power state. -/
structure SecondKept (n : Nat) (h g : Hw) : Prop where
  sec : (g.almOf n).sec = (h.almOf n).sec
  sub : (g.almOf n).sub = (h.almOf n).sub
  other : ∀ m, m % 4 ≠ n % 4 → g.almOf m = h.almOf m
  flags : ∀ i, h.b ((0x20 + n) * 256 + 4) i = true → g.b ((0x20 + n) * 256 + 4) i = true
  ppscfg : g.reg R.TSU_PPSCFG = h.reg R.TSU_PPSCFG
  pulse : h.pps.active = true → g.pps.active = true
  pwr : g.pwr = h.pwr

theorem SecondKept.refl (n : Nat) (h : Hw) : SecondKept n h h :=
  ⟨rfl, rfl, fun _ _ => rfl, fun _ hi => hi, rfl, id, rfl⟩

theorem SecondKept.trans {n : Nat} {h g f : Hw} (hg : SecondKept n h g) (hf : SecondKept n g f) : SecondKept n h f :=
  ⟨hf.sec.trans hg.sec, hf.sub.trans hg.sub, fun m hm => (hf.other m hm).trans (hg.other m hm),
    fun i hi => hf.flags i (hg.flags i hi), hf.ppscfg.trans hg.ppscfg, hf.pulse ∘ hg.pulse, hf.pwr.trans hg.pwr⟩

theorem SecondKept.ite {n : Nat} {c : Prop} [Decidable c] {h g f : Hw} (hg : SecondKept n h g) (hf : SecondKept n h f) :
    SecondKept n h (if c then g else f) := by
  split
  · exact hg
  · exact hf

/-- An operation of the almanac that leaves its time and PPS_OUT. -/
theorem AlmOnly.secondKept {n : Fin 4} {h g : Hw} (hg : AlmOnly n h g) (hsec : (g.almOf n).sec = (h.almOf n).sec)
    (hsub : (g.almOf n).sub = (h.almOf n).sub) (hpps : g.pps = h.pps) : SecondKept n h g :=
  ⟨hsec, hsub, hg.other, hg.flags, hg.reg _ (by simp only [R.TSU_PPSCFG]; omega), fun hp => hpps ▸ hp, hg.pwr⟩

theorem secondKept_setAlm (h : Hw) (n : Fin 4) (a : Alm) (hsec : a.sec = (h.almOf n).sec) (hsub : a.sub = (h.almOf n).sub) :
    SecondKept n h (h.setAlm n a) :=
  (almOnly_setAlm h n a).secondKept (by rw [almOf_setAlm_same, hsec]) (by rw [almOf_setAlm_same, hsub]) rfl

theorem secondKept_event (h : Hw) (n : Fin 4) (e : Nat) : SecondKept n h (h.event e) :=
  (almOnly_event h n e).secondKept (by rw [almOf_event]) (by rw [almOf_event]) (event_pps h e)

theorem secondKept_almFlag (h : Hw) (n : Fin 4) (bit : Nat) : SecondKept n h (h.almFlag n bit) :=
  (almOnly_almFlag h n bit).secondKept (by rw [almFlag, almOf_raise]) (by rw [almFlag, almOf_raise]) (raise_pps h _ _)

/-- A register of the page beside its flags. -/
theorem secondKept_setReg (h : Hw) (n : Fin 4) (a : Nat) (v : Word) (hp : a / 256 = 0x20 + n.val)
    (ha : a ≠ (0x20 + n.val) * 256 + 4) : SecondKept n h (h.setReg a v) :=
  (almOnly_setReg h n a v hp ha).secondKept rfl rfl rfl

theorem secondKept_startSwitch (h : Hw) (n : Fin 4) (r : Rung) (rev : Bool) : SecondKept n h (h.startSwitch n r rev) :=
  secondKept_setAlm h n _ rfl rfl

theorem secondKept_rungLost (h : Hw) (n : Fin 4) (r : Rung) : SecondKept n h (h.rungLost n r) :=
  .ite (secondKept_startSwitch h n _ _) (.ite (secondKept_startSwitch h n _ _) (.refl n h))

/-- The three registers of the addend. -/
def setAddend (h : Hw) (n v : Nat) (w : Word) : Hw :=
  ((h.setReg (R.ALM_ADD_L n) (wd v)).setReg (R.ALM_ADD_M n) (wd (v / 65536))).setReg (R.ALM_ADD_H n) w

theorem secondKept_setAddend (h : Hw) (n : Fin 4) (v : Nat) (w : Word) : SecondKept n h (h.setAddend n v w) :=
  ((secondKept_setReg h n _ _ (by revert n; decide) (by revert n; decide)).trans
    (secondKept_setReg _ n _ _ (by revert n; decide) (by revert n; decide))).trans
    (secondKept_setReg _ n _ _ (by revert n; decide) (by revert n; decide))

/-- The addend of a switch that commits: to holdover it is the holdover mean (R170). -/
def commitAddend (h : Hw) (n : Nat) : Hw :=
  if (h.almOf n).target = .holdover && !(h.almOf n).means.isEmpty then
    h.setAddend n (holdMean (h.almOf n)) (wd (holdMean (h.almOf n) / 4294967296 % 16))
  else h

/-- The almanac whose switch has passed its commit point. -/
def almSwitched (a : Alm) : Alm :=
  { a with
    rung := a.target, committed := true, holdSec := if rungRank a.target < 2 then 0 else a.holdSec
    left := (if rungRank a.rung < rungRank a.target then a.left ||| leftBit a.rung else a.left) &&& ~~~(leftBit a.target)
    unknown := a.unknown && rungRank a.target ≥ 2 }

theorem switchCommit_idle (h : Hw) (n : Nat) (hs : almSwitching (h.almOf n) = false) : h.switchCommit n = h := by
  simp [switchCommit, hs]

theorem almOf_commitAddend (h : Hw) (n m : Nat) : (h.commitAddend n).almOf m = h.almOf m := by
  unfold commitAddend
  split <;> rfl

theorem switchCommit_eq (h : Hw) (n : Nat) (hs : almSwitching (h.almOf n) = true) :
    h.switchCommit n = ((h.commitAddend n).setAlm n (almSwitched (h.almOf n))).almFlag n 4 := by
  simp only [switchCommit, hs, Bool.not_true, Bool.false_eq_true, if_false]
  unfold commitAddend
  split <;> rfl

theorem secondKept_switchCommit (h : Hw) (n : Fin 4) : SecondKept n h (h.switchCommit n) := by
  cases hs : almSwitching (h.almOf n) with
  | false => rw [switchCommit_idle h n hs]; exact .refl n h
  | true =>
    have hadd : SecondKept n h (h.commitAddend n) := .ite (secondKept_setAddend h n _ _) (.refl n h)
    have hof := almOf_commitAddend h n n
    have hset := secondKept_setAlm (h.commitAddend n) n (almSwitched (h.almOf n)) (by rw [hof]; rfl) (by rw [hof]; rfl)
    rw [switchCommit_eq h n hs]
    exact (hadd.trans hset).trans (secondKept_almFlag _ n 4)

theorem secondKept_secondMean (h : Hw) (n : Fin 4) : SecondKept n h (h.secondMean n) :=
  .ite (secondKept_setAlm h n _ rfl rfl) (.ite (secondKept_setAlm h n _ rfl rfl) (.refl n h))

theorem secondKept_secondLadder (h : Hw) (n : Fin 4) : SecondKept n h (h.secondLadder n) := by
  refine .ite (.ite (secondKept_rungLost h n _) (secondKept_switchCommit h n)) ?_
  have hend := SecondKept.ite (c := (h.almOf n).switching && (h.almOf n).committed && 2 ≤ rungRank (h.almOf n).rung)
    (secondKept_setAlm h n { h.almOf n with switching := false, committed := false, revert := false } rfl rfl) (.refl n h)
  exact .ite (hend.trans (secondKept_rungLost _ n _)) hend

theorem secondKept_vFollow (h : Hw) (n : Fin 4) : SecondKept n h (h.vFollow n) :=
  .ite ⟨rfl, rfl, fun _ _ => rfl, fun _ hi => hi, rfl, id, rfl⟩ (.refl n h)

theorem secondKept_cal (h : Hw) (n : Nat) (c : Cal) : SecondKept n h { h with cal := c } :=
  ⟨rfl, rfl, fun _ _ => rfl, fun _ hi => hi, rfl, id, rfl⟩

/-- The calendar's flag lies on a page of its own. -/
theorem secondKept_calFlag (h : Hw) (n : Fin 4) (bit : Nat) : SecondKept n h (h.raise 0x24 bit) :=
  ⟨by rw [almOf_raise], by rw [almOf_raise], fun m _ => almOf_raise h _ _ m, fun i hi => raise_b_mono h _ _ _ i hi,
    reg_raise_ne h _ _ _ (by decide), fun hp => by rwa [raise_pps], raise_pwr _ _ _⟩

theorem secondKept_calSecond (h : Hw) (n : Fin 4) : SecondKept n h (h.calSecond n) := by
  have h1 : SecondKept n h (h.raiseIf (h.calRange && !h.b R.CAL_STAT 2) 0x24 2) := .ite (secondKept_calFlag h n 2) (.refl n h)
  exact .ite (.refl n h) (.ite h1 (.ite (h1.trans (secondKept_cal _ n _)) (.ite (h1.trans (secondKept_cal _ n _)) h1)))

theorem secondKept_ppsStart (h : Hw) (n : Fin 4) : SecondKept n h (h.ppsStart n) :=
  .ite ⟨rfl, rfl, fun _ _ => rfl, fun _ hi => hi, rfl, fun _ => rfl, rfl⟩ (.refl n h)

theorem foldl_secondKept (n : Nat) (f : Hw → Nat → Hw) (l : List Nat) (hf : ∀ g, ∀ m ∈ l, SecondKept n g (f g m)) (h : Hw) :
    SecondKept n h (l.foldl f h) := by
  induction l generalizing h with
  | nil => exact .refl n h
  | cons m t ih =>
    exact (hf h m (List.mem_cons_self ..)).trans (ih (fun g k hk => hf g k (List.mem_cons_of_mem _ hk)) _)

/-- An edge at a timer. -/
theorem TimOnly.secondKept {m : Nat} {h g : Hw} (hg : TimOnly m h g) (n : Fin 4) (hm : m < 6) : SecondKept n h g := by
  have hreg (a : Nat) (ha : a / 256 < 0x28) : g.reg a = h.reg a :=
    hg.reg a (by simp only [R.TM_IFLAG]; omega) (by simp only [R.TM_CTRL]; omega)
  have hp := hg.parts
  refine ⟨by rw [hp]; rfl, by rw [hp]; rfl, fun k _ => by rw [hp]; rfl, fun i hi => ?_, hreg _ (by decide),
    fun hi => by rwa [hp], hp.pwr⟩
  rwa [b, hreg _ (by omega)]

/-- The 1 MHz tick at the timers. -/
theorem secondKept_timMicro (h : Hw) (n : Fin 4) : SecondKept n h (h.timMicro 0 none) := by
  refine foldl_secondKept n _ _ (fun g m hm => ?_) h
  have hm6 := List.mem_range.1 hm
  exact (timAt_only g m _ _ _).secondKept n hm6

/-- A second tick up to what follows its second: the almanac wraps, and the timers have the tick of that microsecond. -/
def secondMicro (h : Hw) (n : Nat) : Hw :=
  if h.tickAlm = n then { h with cal := { h.cal with ticks := h.cal.ticks - 1 } }.timMicro 0 none else h

/-- What follows SEC: the mean, the ladder, PPS_OUT, the coarse second counter and the calendar. -/
def secondRest (h : Hw) (n : Nat) : Hw := ((((h.secondMean n).secondLadder n).ppsStart n).vFollow n).calSecond n

theorem secondTick_live (h : Hw) (n : Nat) (hl : h.live .time = true) :
    h.secondTick n = ((((h.almWrap n).secondMicro n).event (26 + n)).almFlag n 0).secondRest n := by
  simp only [secondTick, hl, Bool.not_true, Bool.false_eq_true, if_false]
  rfl

theorem secondKept_secondMicro (h : Hw) (n : Fin 4) : SecondKept n h (h.secondMicro n) :=
  .ite ((secondKept_cal h n _).trans (secondKept_timMicro _ n)) (.refl n h)

theorem secondKept_secondRest (h : Hw) (n : Fin 4) : SecondKept n h (h.secondRest n) :=
  ((((secondKept_secondMean h n).trans (secondKept_secondLadder _ n)).trans (secondKept_ppsStart _ n)).trans
    (secondKept_vFollow _ n)).trans (secondKept_calSecond _ n)

theorem secondKept_secondTick (h : Hw) (n : Fin 4) (hl : h.live .time = true) :
    SecondKept n (h.almWrap n) (h.secondTick n) := by
  rw [secondTick_live h n hl]
  exact (((secondKept_secondMicro _ n).trans (secondKept_event _ n _)).trans (secondKept_almFlag _ n 0)).trans
    (secondKept_secondRest _ n)

/-- The wrap leaves the registers and the power state. -/
theorem almWrap_parts (h : Hw) (n : Nat) : ∃ alm cal, h.almWrap n = { h with alm := alm, cal := cal } := by
  obtain ⟨alm, cal, e⟩ := almCount_eq h n (h.almEdges n (secUnits - (h.almOf n).sub))
  unfold almWrap
  dsimp only
  rw [e]
  exact ⟨_, _, rfl⟩

/-- SEC is set with the second (R166). -/
theorem secondTick_flag (h : Hw) (n : Fin 4) (hl : h.live .time = true) :
    (h.secondTick n).b ((0x20 + n) * 256 + 4) 0 = true := by
  obtain ⟨alm, cal, e⟩ := almWrap_parts h n
  have hbefore := (secondKept_secondMicro (h.almWrap n) n).trans (secondKept_event _ n (26 + n))
  have hpage : (((h.almWrap n).secondMicro n).event (26 + n)).pageLive (0x20 + n) = true := by
    rw [pageLive_of_pwr (hbefore.pwr.trans (by rw [e])) _]
    exact pageLive_alm h n hl
  rw [secondTick_live h n hl]
  exact (secondKept_secondRest _ n).flags 0 (raise_b_same _ _ _ (by decide) hpage)

theorem ppsStart_active (h : Hw) (n : Nat) (hon : h.b R.TSU_PPSCFG 8 = true) (hn : h.f R.TSU_PPSCFG 5 4 = n) :
    (h.ppsStart n).pps.active = true := by
  simp [ppsStart, hon, hn]

/-- PPS_OUT starts (R177). -/
theorem secondTick_pulse (h : Hw) (n : Fin 4) (hl : h.live .time = true) (hon : h.b R.TSU_PPSCFG 8 = true)
    (hn : h.f R.TSU_PPSCFG 5 4 = n.val) : (h.secondTick n).pps.active = true := by
  obtain ⟨alm, cal, e⟩ := almWrap_parts h n
  have hcfg : (h.almWrap n).reg R.TSU_PPSCFG = h.reg R.TSU_PPSCFG := by rw [e]; rfl
  have hbefore := ((((secondKept_secondMicro (h.almWrap n) n).trans (secondKept_event _ n (26 + n))).trans
    (secondKept_almFlag _ n 0)).trans (secondKept_secondMean _ n)).trans (secondKept_secondLadder _ n)
  have hkept := hbefore.ppscfg.trans hcfg
  rw [secondTick_live h n hl]
  refine ((secondKept_vFollow _ n).trans (secondKept_calSecond _ n)).pulse (ppsStart_active _ n ?_ ?_)
  · rw [b, hkept]
    exact hon
  · rw [f, hkept]
    exact hn

/-- The wrap: the seconds are one more, and the sub-second is what the count passed the second by. -/
theorem almWrap_time (h : Hw) (n : Nat) : ((h.almWrap n).almOf n).sec = (h.almOf n).sec + 1 ∧
    ((h.almWrap n).almOf n).sub = (h.almOf n).sub + h.almGain n (h.almEdges n (secUnits - (h.almOf n).sub)) - secUnits := by
  unfold almWrap
  dsimp only
  rw [almOf_setAlm_same, almOf_almCount, sec_counted, sub_counted]
  exact ⟨rfl, rfl⟩

theorem almWrap_other (h : Hw) (n m : Nat) (hm : m % 4 ≠ n % 4) : (h.almWrap n).almOf m = h.almOf m := by
  unfold almWrap
  dsimp only
  rw [almOf_setAlm_ne _ _ _ _ hm, almCount_counted]
  exact almOf_setAlm_ne h n m _ hm

end Hw

/-- Settles O26: counts add by `almCount_add`, and `almGain_almEdges` bounds the count to the second; what follows the wrap
keeps it, by `secondKept_secondTick`. -/
theorem almanacsCountToTheSecond : Obligations.AlmanacsCountToTheSecond := by
  refine ⟨fun h n j k _ ha => ⟨Hw.almCount_add h n j k ha, fun hs => ?_, ?_⟩, fun s n hl hlo hhi hsub => ?_⟩
  · have hg := Hw.almGain_int h n k ha
    rw [hs, Hw.slewUsed_zero] at hg
    rw [Hw.almOf_almCount, Hw.almUnits, Hw.almUnits, Hw.sec_counted, Hw.sub_counted, Nat.add_assoc]
    congr 2
    rw [Int.zero_mul, Int.add_zero] at hg
    exact_mod_cast hg
  · rw [Hw.ticks_almCount, Hw.almOf_almCount, Hw.sub_counted]
    rfl
  · obtain ⟨hsec, hsub', hother, -, -, -, -⟩ := Hw.secondKept_secondTick s.hw n hl
    obtain ⟨hwsec, hwsub⟩ := Hw.almWrap_time s.hw n
    obtain ⟨hreach, hpass⟩ := Hw.almGain_almEdges s.hw n (Hw.secUnits - (s.hw.almOf n).sub) hlo hhi
    refine ⟨rfl, hsec.trans hwsec, ?_, ?_, Hw.secondTick_flag s.hw n hl, fun m hm hmn => ?_, Hw.secondTick_pulse s.hw n hl⟩
    · rw [hsub', hwsub]
      omega
    · rw [hsub', hwsub]
      omega
    · have hmod : m % 4 ≠ n.val % 4 := by omega
      exact (hother m hmod).trans (Hw.almWrap_other s.hw n m hmod)

end Sys2Proof.Machine

/-! ## Proofs: commits to an almanac (O27) -/

namespace Sys2Proof.Machine
namespace Hw

/-! ### What an accepted write of an almanac's page runs -/

theorem groupKey_almTime : ∀ n : Fin 4, groupKey (R.ALM_TIME_FRAC n) 6 = true := by decide
theorem groupKey_almAdd : ∀ n : Fin 4, groupKey (R.ALM_ADD_L n) 3 = true := by decide
theorem groupKey_almStep : ∀ n : Fin 4, groupKey (R.ALM_STEP_NL n) 5 = true := by decide
theorem groupKey_almSlew : ∀ n : Fin 4, groupKey (R.ALM_SLEW_L n) 2 = true := by decide
theorem groupKey_almTgt : ∀ n : Fin 4, groupKey (R.ALM_TGT_NL n) 7 = true := by decide
theorem blockReg_almBind : ∀ n : Fin 4, blockReg (R.ALM_BIND n) .alm = true := by decide

theorem commitApply_almTime (h : Hw) (n : Fin 4) (vs : List Word) : h.commitApply (R.ALM_TIME_FRAC n) vs = h.almTimeSet n vs := by
  fin_cases n <;> rfl
theorem commitApply_almAdd (h : Hw) (n : Fin 4) (vs : List Word) : h.commitApply (R.ALM_ADD_L n) vs = h.almAddSet n vs := by
  fin_cases n <;> rfl
theorem commitApply_almStep (h : Hw) (n : Fin 4) (vs : List Word) : h.commitApply (R.ALM_STEP_NL n) vs = h.almStepSet n vs := by
  fin_cases n <;> rfl
theorem commitApply_almSlew (h : Hw) (n : Fin 4) (vs : List Word) : h.commitApply (R.ALM_SLEW_L n) vs = h.almSlewSet n vs := by
  fin_cases n <;> rfl
theorem commitApply_almTgt (h : Hw) (n : Fin 4) (vs : List Word) : h.commitApply (R.ALM_TGT_NL n) vs = h.almTgtSet n vs := by
  fin_cases n <;> rfl
theorem blockWrite_almBind (h : Hw) (p : Party) (n : Fin 4) (v : Word) :
    h.blockWrite p .alm (R.ALM_BIND n) v = h.almBind n v := by
  fin_cases n <;> rfl

/-- The key word of a commit to an almanac is the first of its words. -/
theorem word_key (h : Hw) (p : Party) (v : Word) {key len : Nat} (hk : groupKey key len = true) (hl : 0 < len) :
    word (h.groupWords p key v) 0 = v.toNat := by
  simp only [groupKey, Bool.and_eq_true, beq_iff_eq] at hk
  obtain ⟨⟨⟨⟨⟨hg, -⟩, -⟩, -⟩, -⟩, -⟩ := hk
  exact word_groupWords_key h p key v (by simpa [groupLenOf, hg] using hl)

/-! ### Slews (R159, R170, R173) -/

theorem almOf_slewEnded (h : Hw) (n : Nat) : (h.slewEnded n).almOf n = slewOver (h.almOf n) := by
  simp only [slewEnded, slewOver]
  split <;> exact almOf_setAlm_same h n _

theorem time_slewOver (a : Alm) : (slewOver a).sec = a.sec ∧ (slewOver a).sub = a.sub ∧ (slewOver a).slew = 0 := by
  unfold slewOver
  split <;> exact ⟨rfl, rfl, rfl⟩

/-- A slew replaces what was still to go and leaves the time. -/
theorem almOf_startSlew (h : Hw) (n : Nat) (x : Int) : ((h.startSlew n x).almOf n).slew = x ∧
    almUnits ((h.startSlew n x).almOf n) = almUnits (h.almOf n) := by
  unfold startSlew
  dsimp only
  split
  next h0 =>
    obtain ⟨h1, h2, h3⟩ := time_slewOver { h.almOf n with slew := x }
    rw [almOf_slewEnded, almOf_setAlm_same, almUnits, h1, h2, h3]
    exact ⟨h0.symm, rfl⟩
  · rw [almOf_setAlm_same]
    exact ⟨rfl, rfl⟩

theorem almOf_switchCommit (h : Hw) (n : Nat) (hs : almSwitching (h.almOf n) = true) :
    (h.switchCommit n).almOf n = almSwitched (h.almOf n) := by
  rw [switchCommit_eq h n hs, almFlag, almOf_raise, almOf_setAlm_same]

theorem almUnits_switchCommit (h : Hw) (n : Nat) : almUnits ((h.switchCommit n).almOf n) = almUnits (h.almOf n) := by
  cases hs : almSwitching (h.almOf n) with
  | false => rw [switchCommit_idle h n hs]
  | true => rw [almOf_switchCommit h n hs]; rfl

/-- The servo's slew does not start before the commit point of a switch to PTP. -/
theorem servoSlew_plain (h : Hw) (n : Nat) (x : Int) (hs : almSwitching (h.almOf n) = false ∨ (h.almOf n).target ≠ .ptp) :
    h.servoSlew n x = h.startSlew n x := by
  rcases hs with hs | hs <;> simp [servoSlew, hs]

/-- Its first correction is the commit point of a switch to PTP. -/
theorem servoSlew_commit (h : Hw) (n : Nat) (x : Int) (hx : x ≠ 0) (hs : almSwitching (h.almOf n) = true)
    (ht : (h.almOf n).target = .ptp) : h.servoSlew n x = (h.switchCommit n).startSlew n x := by
  simp [servoSlew, hs, ht, hx]

theorem almOf_servoSlew (h : Hw) (n : Nat) (x : Int) : ((h.servoSlew n x).almOf n).slew = x ∧
    almUnits ((h.servoSlew n x).almOf n) = almUnits (h.almOf n) := by
  unfold servoSlew
  dsimp only
  split
  · obtain ⟨h1, h2⟩ := almOf_startSlew (h.switchCommit n) n x
    exact ⟨h1, h2.trans (almUnits_switchCommit h n)⟩
  · exact almOf_startSlew h n x

/-- The end of a slew with what a committed switch leaves (log entry 96). -/
theorem almCount_slewEnd (h : Hw) (n k : Nat) (h0 : (h.almOf n).slew ≠ 0)
    (hk : (h.almOf n).slew.natAbs ≤ k * h.slewRate n) :
    (h.almCount n k).almOf n = slewOver { h.almOf n with sub := (h.almOf n).sub + h.almGain n k, slew := 0 } := by
  have hz : (h.almOf n).slew - h.slewPart n k = 0 := by rw [slewPart_eq, slewUsed_ended _ _ hk, Int.sub_self]
  rw [almOf_almCount, counted, if_pos ⟨h0, hz⟩, hz]

theorem slewOver_switch (a : Alm) (hs : a.switching = true) (hc : a.committed = true) (hr : a.rung = .ptp ∨ a.rung = .pps) :
    (slewOver a).switching = false ∧ (slewOver a).revert = false := by
  have hcond : (a.switching && a.committed && (a.rung = .ptp || a.rung = .pps)) = true := by
    simpa [hs, hc] using hr
  rw [slewOver, if_pos hcond]
  exact ⟨rfl, rfl⟩

/-! ### The commits of TIME, STEP, SLEW and ADD (R157 to R159) -/

theorem almTimeSet_bad (h : Hw) (n : Nat) (vs : List Word) (hns : 999999999 < word vs 1 + 65536 * (word vs 2 % 16384)) :
    h.almTimeSet n vs = h.raise (0x20 + n) 6 := if_pos hns

theorem almTimeSet_good (h : Hw) (n : Nat) (vs : List Word) (hns : word vs 1 + 65536 * (word vs 2 % 16384) ≤ 999999999) :
    h.almTimeSet n vs = h.almStepTo n (((word vs 3 + 65536 * word vs 4 + 4294967296 * word vs 5) * secUnits +
      (word vs 1 + 65536 * (word vs 2 % 16384)) * 4294967296 + word vs 0 * 65536 : Nat) : Int) true :=
  if_neg (Nat.not_lt.2 hns)

/-- The STEP group reads the offset last committed. -/
def stepStored (h : Hw) (n : Nat) (vs : List Word) : Hw :=
  (List.range 5).foldl (fun g i => g.setReg (R.ALM_STEP_NL n + i) (wd (if i = 1 then word vs i % 16384 else word vs i))) h

theorem almOf_stepStored (h : Hw) (n m : Nat) (vs : List Word) : (h.stepStored n vs).almOf m = h.almOf m :=
  foldl_keeps (fun g : Hw => g.almOf m) (fun g i => g.setReg (R.ALM_STEP_NL n + i) _) (fun _ _ => rfl) _ h

/-- The offset of a STEP commit in ns. -/
def stepOffset (vs : List Word) : Int :=
  signed 48 (word vs 2 + 65536 * word vs 3 + 4294967296 * word vs 4) * 1000000000 +
    (word vs 0 + 65536 * (word vs 1 % 16384) : Nat)

theorem almStepSet_bad (h : Hw) (n : Nat) (vs : List Word) (hns : 999999999 < word vs 0 + 65536 * (word vs 1 % 16384)) :
    h.almStepSet n vs = h.raise (0x20 + n) 6 := if_pos hns

theorem almStepSet_step (h : Hw) (n : Nat) (vs : List Word) (hns : word vs 0 + 65536 * (word vs 1 % 16384) ≤ 999999999)
    (hr : (h.almOf n).revert = false) : h.almStepSet n vs =
      (h.stepStored n vs).almStepTo n ((almUnits (h.almOf n) : Int) + stepOffset vs * 4294967296) true := by
  unfold almStepSet
  dsimp only
  rw [if_neg (Nat.not_lt.2 hns), if_neg (by simp [hr]), if_neg (by simp [hr])]
  rfl

theorem almStepSet_revert (h : Hw) (n : Nat) (vs : List Word) (hns : word vs 0 + 65536 * (word vs 1 % 16384) ≤ 999999999)
    (hr : (h.almOf n).revert = true) (hlo : -1000000000 ≤ stepOffset vs) (hhi : stepOffset vs ≤ 1000000000) :
    h.almStepSet n vs = ((h.stepStored n vs).setAlm n { (h.stepStored n vs).almOf n with unknown := false }).servoSlew n
      (stepOffset vs * 65536) := by
  unfold almStepSet
  dsimp only
  rw [if_neg (Nat.not_lt.2 hns), if_neg, if_pos hr]
  · rfl
  · simp only [hr, Bool.true_and, Bool.or_eq_true, decide_eq_true_eq, not_or, Int.not_lt]
    exact ⟨hlo, hhi⟩

theorem almOf_almStepSet_step (h : Hw) (n : Nat) (vs : List Word) (hns : word vs 0 + 65536 * (word vs 1 % 16384) ≤ 999999999)
    (hr : (h.almOf n).revert = false) : ((h.almStepSet n vs).almOf n).slew = (h.almOf n).slew ∧
      almUnits ((h.almStepSet n vs).almOf n) =
        (((almUnits (h.almOf n) : Int) + stepOffset vs * 4294967296) % (2 ^ 48 * secUnits : Nat)).toNat := by
  obtain ⟨x, hx⟩ := almOf_almStepTo (h.stepStored n vs) n ((almUnits (h.almOf n) : Int) + stepOffset vs * 4294967296) true
  rw [almStepSet_step h n vs hns hr, hx, almOf_stepStored]
  exact ⟨rfl, almUnits_stepped (h.almOf n) _ true⟩

theorem almOf_almStepSet_revert (h : Hw) (n : Nat) (vs : List Word) (hns : word vs 0 + 65536 * (word vs 1 % 16384) ≤ 999999999)
    (hr : (h.almOf n).revert = true) (hlo : -1000000000 ≤ stepOffset vs) (hhi : stepOffset vs ≤ 1000000000) :
    ((h.almStepSet n vs).almOf n).slew = stepOffset vs * 65536 ∧
      almUnits ((h.almStepSet n vs).almOf n) = almUnits (h.almOf n) := by
  obtain ⟨h1, h2⟩ := almOf_servoSlew
    ((h.stepStored n vs).setAlm n { (h.stepStored n vs).almOf n with unknown := false }) n (stepOffset vs * 65536)
  rw [almOf_setAlm_same, almOf_stepStored] at h2
  rw [almStepSet_revert h n vs hns hr hlo hhi]
  exact ⟨h1, h2⟩

theorem almSlewSet_bad (h : Hw) (n : Nat) (vs : List Word) (x : Int) (hx : x = signed 32 (word vs 0 + 65536 * word vs 1))
    (hbad : x < -1000000000 ∨ 1000000000 < x) : h.almSlewSet n vs = h.raise (0x20 + n) 6 := by
  subst hx
  exact if_pos (by simpa using hbad)

theorem almSlewSet_good (h : Hw) (n : Nat) (vs : List Word) (x : Int) (hx : x = signed 32 (word vs 0 + 65536 * word vs 1))
    (hlo : -1000000000 ≤ x) (hhi : x ≤ 1000000000) : h.almSlewSet n vs = h.servoSlew n (x * 65536) := by
  subst hx
  exact if_neg (by simpa using ⟨hlo, hhi⟩)

theorem almAddSet_bad (h : Hw) (n : Nat) (vs : List Word) (x : Nat)
    (hx : x = word vs 0 + 65536 * word vs 1 + 4294967296 * (word vs 2 % 16)) (hbad : x < 0x7C0000000 ∨ 0x840000000 < x) :
    h.almAddSet n vs = h.raise (0x20 + n) 6 := by
  subst hx
  exact if_pos (by simpa using hbad)

theorem almAddSet_good (h : Hw) (n : Nat) (vs : List Word) (x : Nat)
    (hx : x = word vs 0 + 65536 * word vs 1 + 4294967296 * (word vs 2 % 16)) (hlo : 0x7C0000000 ≤ x) (hhi : x ≤ 0x840000000) :
    h.almAddSet n vs = h.setAddend n x (wd (x / 4294967296)) := by
  subst hx
  exact if_neg (by simpa using ⟨hlo, hhi⟩)

theorem reg_setAddend_ne (h : Hw) (n v a : Nat) (w : Word) (hl : a ≠ R.ALM_ADD_L n) (hm : a ≠ R.ALM_ADD_M n)
    (hh : a ≠ R.ALM_ADD_H n) : (h.setAddend n v w).reg a = h.reg a := by
  rw [setAddend, reg_setReg_ne _ _ _ _ hh, reg_setReg_ne _ _ _ _ hm, reg_setReg_ne _ _ _ _ hl]

theorem addend_setAddend (h : Hw) (n v : Nat) (hv : v < 2 ^ 36) : (h.setAddend n v (wd (v / 4294967296))).addend n = v := by
  have hL : (h.setAddend n v (wd (v / 4294967296))).reg (R.ALM_ADD_L n) = wd v := by
    rw [setAddend, reg_setReg_ne _ _ _ _ (by simp only [R.ALM_ADD_L, R.ALM_ADD_H]; omega),
      reg_setReg_ne _ _ _ _ (by simp only [R.ALM_ADD_L, R.ALM_ADD_M]; omega), reg_setReg_same]
  have hM : (h.setAddend n v (wd (v / 4294967296))).reg (R.ALM_ADD_M n) = wd (v / 65536) := by
    rw [setAddend, reg_setReg_ne _ _ _ _ (by simp only [R.ALM_ADD_M, R.ALM_ADD_H]; omega), reg_setReg_same]
  have hH : (h.setAddend n v (wd (v / 4294967296))).reg (R.ALM_ADD_H n) = wd (v / 4294967296) := reg_setReg_same _ _ _
  rw [addend, hL, hM, hH]
  simp only [wd, BitVec.toNat_ofNat]
  omega

/-! ### A step (R158, R162) -/

theorem almStepTo_stepped (h : Hw) (n : Nat) (units : Int) (known : Bool) :
    (h.pageLive (0x20 + n) = true → (h.almStepTo n units known).b ((0x20 + n) * 256 + 4) 3 = true) ∧
      ∀ a, a ≠ (0x20 + n) * 256 + 4 → (h.almStepTo n units known).reg a = h.reg a := by
  obtain ⟨g, e, hg⟩ := almStepTo_eq h n units known
  rw [e]
  refine ⟨fun hl => (tgtCheck_almOnly g n false).flags 3 ?_, fun a ha => (reg_tgtCheck_ne g n false a ha).trans ?_⟩
  · rw [hg]
    exact raise_b_same (h.setAlm n (stepped (h.almOf n) units known)) _ 3 (by decide) hl
  · rw [hg]
    exact reg_raise_ne (h.setAlm n (stepped (h.almOf n) units known)) _ 3 a ha

/-- The binding of a domain (R167). -/
theorem almBind_eq (h : Hw) (n : Nat) (v : Word) : h.almBind n v =
    if v.getLsbD 15 = true ∧ ∃ m, m < 4 ∧ m ≠ n ∧ h.b (R.ALM_BIND m) 15 = true ∧ h.f (R.ALM_BIND m) 7 0 = fld v 7 0 then
      h.raise (0x20 + n) 7 else h.setReg (R.ALM_BIND n) (v &&& 0x80FF) := by
  unfold almBind
  dsimp only
  refine if_congr ?_ rfl rfl
  simp [List.any_eq_true, and_assoc]

end Hw

section
variable (s : State) (p : Party) (n : Fin 4) (v : Word)

theorem exec_almTimeCommit (ha : s.hw.acceptsKey p (R.ALM_TIME_FRAC n) v) : exec (.almTimeCommit p n v) s = .next (s.after
    ((s.hw.almTimeSet n (s.hw.groupWords p (R.ALM_TIME_FRAC n) v)).groupDone p (R.ALM_TIME_FRAC n))) :=
  done_congr (by rw [Hw.writeRow_commit _ p _ 6 v (Hw.groupKey_almTime n) ha, Hw.commitApply_almTime])

theorem exec_almStepCommit (ha : s.hw.acceptsKey p (R.ALM_STEP_NL n) v) : exec (.almStepCommit p n v) s = .next (s.after
    ((s.hw.almStepSet n (s.hw.groupWords p (R.ALM_STEP_NL n) v)).groupDone p (R.ALM_STEP_NL n))) :=
  done_congr (by rw [Hw.writeRow_commit _ p _ 5 v (Hw.groupKey_almStep n) ha, Hw.commitApply_almStep])

theorem exec_almSlewCommit (ha : s.hw.acceptsKey p (R.ALM_SLEW_L n) v) : exec (.almSlewCommit p n v) s = .next (s.after
    ((s.hw.almSlewSet n (s.hw.groupWords p (R.ALM_SLEW_L n) v)).groupDone p (R.ALM_SLEW_L n))) :=
  done_congr (by rw [Hw.writeRow_commit _ p _ 2 v (Hw.groupKey_almSlew n) ha, Hw.commitApply_almSlew])

theorem exec_almAddCommit (ha : s.hw.acceptsKey p (R.ALM_ADD_L n) v) : exec (.almAddCommit p n v) s = .next (s.after
    ((s.hw.almAddSet n (s.hw.groupWords p (R.ALM_ADD_L n) v)).groupDone p (R.ALM_ADD_L n))) :=
  done_congr (by rw [Hw.writeRow_commit _ p _ 3 v (Hw.groupKey_almAdd n) ha, Hw.commitApply_almAdd])

theorem exec_almBindWrite (ha : s.hw.accepts p (R.ALM_BIND n) v) :
    exec (.almBindWrite p n v) s = .next (s.after (s.hw.almBind n v)) :=
  done_congr (by rw [Hw.writeRow_block _ p _ v .alm (Hw.blockReg_almBind n) ha, Hw.blockWrite_almBind])

end

/-- Settles O27: each accepted commit runs its group's rule, and the rules' cases are those of the words committed. -/
theorem almanacCommitsAreChecked : Obligations.AlmanacCommitsAreChecked := by
  refine ⟨fun s p n v => ⟨fun ha vs hvs ns hns sec hsec => ⟨fun hbad => ?_, fun hok => ?_⟩,
    fun ha vs hvs ns hns => ⟨fun hbad => ?_, fun hok hr => ?_, fun off hoff hok hr hlo hhi => ?_⟩,
    fun ha x hx => ⟨fun hbad => ?_, fun hlo hhi h0 hs => ?_, fun hlo hhi h0 hs ht => ?_⟩, fun h units known => ?_⟩,
    fun s p n v => ⟨fun hl h0 k hk hsub => ⟨done_congr ?_, ?_, fun hs hc hr => ?_⟩,
      fun ha vs hvs x hx => ⟨fun hbad => ?_, fun hlo hhi => ⟨_, ?_, Hw.addend_setAddend s.hw n x ?_, rfl, fun a hmem => ?_⟩⟩,
      fun ha => ⟨fun hdup => ?_, fun hdup => ?_⟩⟩⟩
  · subst hvs hns
    rw [exec_almTimeCommit s p n v ha, Hw.almTimeSet_bad _ _ _ hbad]
  · subst hvs hns hsec
    rw [exec_almTimeCommit s p n v ha, Hw.almTimeSet_good _ _ _ hok, Hw.word_key _ p v (Hw.groupKey_almTime n) (by decide)]
  · subst hvs hns
    rw [← Hw.word_key s.hw p v (Hw.groupKey_almStep n) (by decide)] at hbad
    rw [exec_almStepCommit s p n v ha, Hw.almStepSet_bad _ _ _ hbad]
  · subst hvs hns
    rw [← Hw.word_key s.hw p v (Hw.groupKey_almStep n) (by decide)] at hok ⊢
    exact ⟨_, exec_almStepCommit s p n v ha, Hw.almOf_almStepSet_step _ _ _ hok hr⟩
  · subst hvs hns
    rw [← Hw.word_key s.hw p v (Hw.groupKey_almStep n) (by decide)] at hok hoff
    subst hoff
    exact ⟨_, exec_almStepCommit s p n v ha, Hw.almOf_almStepSet_revert _ _ _ hok hr hlo hhi⟩
  · rw [← Hw.word_key s.hw p v (Hw.groupKey_almSlew n) (by decide)] at hx
    rw [exec_almSlewCommit s p n v ha, Hw.almSlewSet_bad _ _ _ x hx hbad]
  · rw [← Hw.word_key s.hw p v (Hw.groupKey_almSlew n) (by decide)] at hx
    rw [exec_almSlewCommit s p n v ha, Hw.almSlewSet_good _ _ _ x hx hlo hhi, Hw.servoSlew_plain _ _ _ hs, Hw.startSlew,
      if_neg (by omega)]
  · rw [← Hw.word_key s.hw p v (Hw.groupKey_almSlew n) (by decide)] at hx
    have hne : x * 65536 ≠ 0 := by omega
    refine ⟨(s.hw.switchCommit n).startSlew n (x * 65536), ?_, ?_⟩
    · rw [exec_almSlewCommit s p n v ha, Hw.almSlewSet_good _ _ _ x hx hlo hhi, Hw.servoSlew_commit _ _ _ hne hs ht]
    · rw [Hw.startSlew, if_neg hne, Hw.almOf_setAlm_same, Hw.almOf_switchCommit _ _ hs]
      exact ⟨rfl, ht, rfl⟩
  · obtain ⟨x, hx⟩ := Hw.almOf_almStepTo h n units known
    obtain ⟨hflag, hreg⟩ := Hw.almStepTo_stepped h n units known
    refine ⟨?_, by rw [hx]; rfl, by rw [hx]; rfl, hflag, fun m hm hmn => ?_, hreg⟩
    · rw [hx]
      exact Hw.almUnits_stepped (h.almOf n) units known
    · exact (Hw.almStepTo_almOnly h n units known).other m (by omega)
  · simp [Hw.slewEnd, hl, h0, ← hk, hsub]
  · obtain ⟨-, -, hz⟩ := Hw.time_slewOver
      { s.hw.almOf n with sub := (s.hw.almOf n).sub + s.hw.almGain n k, slew := 0 }
    rw [Hw.almCount_slewEnd s.hw n k h0 (hk ▸ (Hw.stepsTo_bounds _ _ (Hw.slewRate_bounds s.hw n).1).1), hz]
  · rw [Hw.almCount_slewEnd s.hw n k h0 (hk ▸ (Hw.stepsTo_bounds _ _ (Hw.slewRate_bounds s.hw n).1).1)]
    exact Hw.slewOver_switch _ hs hc hr
  · subst hvs
    rw [← Hw.word_key s.hw p v (Hw.groupKey_almAdd n) (by decide)] at hx
    rw [exec_almAddCommit s p n v ha, Hw.almAddSet_bad _ _ _ x hx hbad]
  · subst hvs
    rw [← Hw.word_key s.hw p v (Hw.groupKey_almAdd n) (by decide)] at hx
    rw [exec_almAddCommit s p n v ha, Hw.almAddSet_good _ _ _ x hx hlo hhi]
  · omega
  · simp only [List.mem_cons, List.not_mem_nil, or_false, not_or] at hmem
    obtain ⟨h1, h2, h3⟩ := hmem
    exact Hw.reg_setAddend_ne _ _ _ _ _ h1 h2 h3
  · rw [exec_almBindWrite s p n v ha, Hw.almBind_eq, if_pos hdup]
  · rw [exec_almBindWrite s p n v ha, Hw.almBind_eq, if_neg hdup]

end Sys2Proof.Machine

/-! ## Proofs: target times and captures (O28) -/

namespace Sys2Proof.Machine
namespace Hw

/-! ### Words written to consecutive registers -/

theorem reg_foldl_setReg (h : Hw) (a k i : Nat) (f : Nat → Word) (hi : i < k) :
    ((List.range k).foldl (fun g i => g.setReg (a + i) (f i)) h).reg (a + i) = f i := by
  induction k with
  | zero => omega
  | succ k ih =>
    rw [List.range_succ, List.foldl_append, List.foldl_cons, List.foldl_nil, reg_setReg]
    rcases Nat.lt_succ_iff_lt_or_eq.1 hi with hlt | rfl
    · rw [if_neg (by omega), ih hlt]
    · rw [if_pos rfl]

theorem RegsOnly.pwr {h g : Hw} (hg : RegsOnly h g) : g.pwr = h.pwr := by rw [hg]

theorem setRegs_regsOnly (h : Hw) (a : Nat) (vs : List Word) : RegsOnly h (h.setRegs a vs) := by
  induction vs generalizing h a with
  | nil => rfl
  | cons v t ih => exact (regsOnly_setReg h a v).trans (ih _ _)

theorem reg_setRegs (h : Hw) (a c : Nat) (vs : List Word) :
    (h.setRegs a vs).reg c = if a ≤ c ∧ c < a + vs.length then wordOf vs (c - a) else h.reg c := by
  induction vs generalizing h a with
  | nil => rw [if_neg (by rw [List.length_nil]; omega)]; rfl
  | cons v t ih =>
    rw [setRegs, ih, List.length_cons, reg_setReg]
    by_cases hc : a + 1 ≤ c ∧ c < a + 1 + t.length
    · obtain ⟨k, rfl⟩ := Nat.exists_eq_add_of_le hc.1
      rw [if_pos hc, if_pos (by omega), show a + 1 + k - a = k + 1 by omega, Nat.add_sub_cancel_left]
      rfl
    · rw [if_neg hc]
      by_cases he : c = a
      · subst he
        rw [if_pos rfl, if_pos (by omega), Nat.sub_self]
        rfl
      · rw [if_neg he, if_neg (by omega)]

/-! ### Target times (R182, R183) -/

theorem blockReg_almTgtctl : ∀ n : Fin 4, blockReg (R.ALM_TGTCTL n) .alm = true := by decide

theorem blockWrite_disarm (h : Hw) (p : Party) (n : Fin 4) : h.blockWrite p .alm (R.ALM_TGTCTL n) 1 = h.almDisarm n := by
  fin_cases n <;> rfl

/-- A target that is due fires: TGT is set. -/
theorem tgtCheck_flag (h : Hw) (n t : Nat) (late : Bool) (ht : (h.almOf n).tgt = some t) (hle : t ≤ almNs (h.almOf n))
    (hl : h.pageLive (0x20 + n) = true) : (h.tgtCheck n late).b ((0x20 + n) * 256 + 4) 1 = true ∧
      (late = true → (h.tgtCheck n late).b ((0x20 + n) * 256 + 4) 2 = true) := by
  generalize hg : ((h.setAlm n { h.almOf n with tgt := h.nextTarget n t }).event (30 + n)).almFlag n 1 = g
  have hg1 : g.b ((0x20 + n) * 256 + 4) 1 = true := by
    rw [← hg]
    exact raise_b_same _ _ _ (by decide) ((pageLive_of_pwr (event_pwr _ _) _).trans hl)
  have hgl : g.pageLive (0x20 + n) = true := by
    rw [← hg]
    exact (pageLive_of_pwr ((raise_pwr _ _ _).trans (event_pwr _ _)) _).trans hl
  rw [tgtCheck_due h n t late ht hle, hg]
  cases late with
  | false => exact ⟨hg1, fun hf => absurd hf (by decide)⟩
  | true => exact ⟨raise_b_mono g _ _ _ _ hg1, fun _ => raise_b_same g _ _ (by decide) hgl⟩

theorem tgt_tgtCheck (h : Hw) (n t : Nat) (late : Bool) (ht : (h.almOf n).tgt = some t) (hle : t ≤ almNs (h.almOf n)) :
    ((h.tgtCheck n late).almOf n).tgt = h.nextTarget n t := by
  rw [tgtCheck_due h n t late ht hle]
  split <;> simp [almFlag]

/-- The first value of the period later than the present time. -/
theorem nextTarget_later (h : Hw) (n t : Nat) (hle : t ≤ almNs (h.almOf n)) (hp : 0 < h.reg32 (R.ALM_TGT_PL n)) :
    ∃ k, 0 < k ∧ h.nextTarget n t = some (t + k * h.reg32 (R.ALM_TGT_PL n)) ∧
      almNs (h.almOf n) < t + k * h.reg32 (R.ALM_TGT_PL n) ∧ t + (k - 1) * h.reg32 (R.ALM_TGT_PL n) ≤ almNs (h.almOf n) := by
  refine ⟨(almNs (h.almOf n) - t) / h.reg32 (R.ALM_TGT_PL n) + 1, Nat.succ_pos _, if_neg hp.ne', ?_, ?_⟩
  · have := Nat.lt_div_mul_add (a := almNs (h.almOf n) - t) hp
    rw [Nat.add_mul, Nat.one_mul]
    omega
  · have := Nat.div_mul_le_self (almNs (h.almOf n) - t) (h.reg32 (R.ALM_TGT_PL n))
    rw [Nat.add_sub_cancel]
    omega

theorem almUnits_tgtCheck (h : Hw) (n : Nat) (late : Bool) : almUnits ((h.tgtCheck n late).almOf n) = almUnits (h.almOf n) := by
  obtain ⟨x, hx⟩ := almOf_tgtCheck h n late
  rw [hx]
  rfl

/-- The words of a TGT commit as they are stored. -/
def tgtWord (vs : List Word) (i : Nat) : Word := wd (if i = 1 then word vs i % 16384 else word vs i)

/-- A commit of TGT stores its words and arms the target, before a due one fires. -/
def tgtArmed (h : Hw) (n : Nat) (vs : List Word) (t : Nat) : Hw :=
  let g := (List.range 7).foldl (fun g i => g.setReg (R.ALM_TGT_NL n + i) (tgtWord vs i)) h
  g.setAlm n { g.almOf n with tgt := some t }

theorem almOf_tgtArmed (h : Hw) (n t : Nat) (vs : List Word) :
    (h.tgtArmed n vs t).almOf n = { h.almOf n with tgt := some t } := by
  have hof : ((List.range 7).foldl (fun g i => g.setReg (R.ALM_TGT_NL n + i) (tgtWord vs i)) h).almOf n = h.almOf n :=
    foldl_keeps (fun g : Hw => g.almOf n) (fun g i => g.setReg (R.ALM_TGT_NL n + i) _) (fun _ _ => rfl) _ h
  rw [tgtArmed, almOf_setAlm_same, hof]

theorem tgtArmed_pwr (h : Hw) (n t : Nat) (vs : List Word) : (h.tgtArmed n vs t).pwr = h.pwr :=
  foldl_keeps (fun g : Hw => g.pwr) (fun g i => g.setReg (R.ALM_TGT_NL n + i) _) (fun _ _ => rfl) _ h

/-- The period committed is the one that the group reads. -/
theorem period_tgtArmed (h : Hw) (n t : Nat) (vs : List Word) :
    (h.tgtArmed n vs t).reg32 (R.ALM_TGT_PL n) = word vs 5 + 65536 * word vs 6 := by
  have h5 : (h.tgtArmed n vs t).reg (R.ALM_TGT_NL n + 5) = wd (word vs 5) := 
    reg_foldl_setReg h (R.ALM_TGT_NL n) 7 5 (tgtWord vs) (by decide)
  have h6 : (h.tgtArmed n vs t).reg (R.ALM_TGT_NL n + 6) = wd (word vs 6) := 
    reg_foldl_setReg h (R.ALM_TGT_NL n) 7 6 (tgtWord vs) (by decide)
  change ((h.tgtArmed n vs t).reg (R.ALM_TGT_NL n + 5)).toNat + 65536 * ((h.tgtArmed n vs t).reg (R.ALM_TGT_NL n + 6)).toNat = _
  rw [h5, h6, word, word, wd_toNat, wd_toNat]

theorem almTgtSet_bad (h : Hw) (n : Nat) (vs : List Word) (hns : 999999999 < word vs 0 + 65536 * (word vs 1 % 16384)) :
    h.almTgtSet n vs = h.raise (0x20 + n) 6 := if_pos hns

theorem almTgtSet_good (h : Hw) (n : Nat) (vs : List Word) (t : Nat) (hns : word vs 0 + 65536 * (word vs 1 % 16384) ≤ 999999999)
    (ht : t = (word vs 2 + 65536 * word vs 3 + 4294967296 * word vs 4) * 1000000000 + (word vs 0 + 65536 * (word vs 1 % 16384))) :
    h.almTgtSet n vs = (h.tgtArmed n vs t).tgtCheck n true := by
  subst ht
  exact if_neg (Nat.not_lt.2 hns)

/-! ### Captures (R179, R180) -/

theorem groupAt_tsuCap : ∀ n : Fin 8, groupAt (R.TSU_CAP n) = some (R.TSU_CAP n.val, 6, true) := by decide

theorem capRead_tsuCap (h : Hw) (n : Fin 8) : h.capRead (R.TSU_CAP n) = h.clrBits (R.TSU_CSTAT n) 0x8000 := by
  fin_cases n <;> rfl

theorem etchForbidden_tsuCap : ∀ n : Fin 8, etchForbidden (R.TSU_CAP n) = false := by decide

/-- The capture with its FULL, before an overrun is noted. -/
def tsuFilled (h : Hw) (n : Nat) : Hw :=
  let g := h.setRegs (R.TSU_CAP n) (timeWords (almUnits (h.almOf (h.f (R.TSU_CCFG n) 12 11))))
  (g.setBits (R.TSU_CSTAT n) 0x8000).raise 0x25 n

theorem tsuCapture_eq (h : Hw) (n : Nat) : h.tsuCapture n = if h.b (R.TSU_CSTAT n) 15 then
    ((h.tsuFilled n).setBits (R.TSU_CSTAT n) 0x4000).raise 0x25 (n + 8) else h.tsuFilled n := rfl

theorem tsuFilled_regsOnly (h : Hw) (n : Nat) : RegsOnly h (h.tsuFilled n) :=
  ((setRegs_regsOnly h _ _).trans (regsOnly_setReg _ _ _)).trans (regsOnly_raise _ _ _)

theorem tsuCapture_regsOnly (h : Hw) (n : Nat) : RegsOnly h (h.tsuCapture n) := by
  rw [tsuCapture_eq]
  split
  · exact ((tsuFilled_regsOnly h n).trans (regsOnly_setReg _ _ _)).trans (regsOnly_raise _ _ _)
  · exact tsuFilled_regsOnly h n

/-- An overrun touches the channel's status and the page's flags alone. -/
theorem reg_tsuCapture (h : Hw) (n c : Nat) (hs : c ≠ R.TSU_CSTAT n) (hf : c ≠ R.TSU_IFLAG) :
    (h.tsuCapture n).reg c = (h.tsuFilled n).reg c := by
  rw [tsuCapture_eq]
  split
  · rw [reg_raise_ne _ _ _ _ hf, reg_setBits_ne _ _ _ _ hs]
  · rfl

theorem b_tsuCapture (h : Hw) (n c i : Nat) (hi : (h.tsuFilled n).b c i = true) : (h.tsuCapture n).b c i = true := by
  rw [tsuCapture_eq]
  split
  · exact raise_b_mono _ _ _ _ _ (b_setBits_mono _ _ _ _ _ hi)
  · exact hi

theorem tsuFilled_words (h : Hw) (n : Fin 8) (i : Nat) (hi : i < 6) : (h.tsuFilled n).reg (R.TSU_CAP n + i) =
    wordOf (timeWords (almUnits (h.almOf (h.f (R.TSU_CCFG n) 12 11)))) i := by
  rw [tsuFilled, reg_raise_ne _ _ _ _ (by simp only [R.TSU_CAP]; omega),
    reg_setBits_ne _ _ _ _ (by simp only [R.TSU_CAP, R.TSU_CSTAT]; omega), reg_setRegs, Nat.add_sub_cancel_left,
    if_pos ⟨Nat.le_add_right _ _, Nat.add_lt_add_left hi _⟩]

/-- The words of a capture are none of its status. -/
theorem tsuFilled_ovr (h : Hw) (n : Fin 8) : (h.tsuFilled n).b (R.TSU_CSTAT n) 14 = h.b (R.TSU_CSTAT n) 14 := by
  have hlen (u : Nat) : (timeWords u).length = 6 := rfl
  have hreg : (h.tsuFilled n).reg (R.TSU_CSTAT n) = h.reg (R.TSU_CSTAT n) ||| wd 0x8000 := by
    rw [tsuFilled, reg_raise_ne _ _ _ _ (by simp only [R.TSU_CSTAT]; omega), reg_setBits_same, reg_setRegs, hlen,
      if_neg (by simp only [R.TSU_CAP, R.TSU_CSTAT]; omega)]
  rw [b, hreg, BitVec.getLsbD_or, getLsbD_wd _ _ (by decide), show Nat.testBit 0x8000 14 = false from rfl, Bool.or_false, b]

/-- FULL or OVR of a channel, with its flag. -/
theorem channelFlags {h g : Hw} (hg : RegsOnly h g) (hl : h.live .time = true) (n : Fin 8) (m i bit : Nat) (hi : i < 16)
    (hm : m.testBit i = true) (hb : bit < 16) : ((g.setBits (R.TSU_CSTAT n) m).raise 0x25 bit).b (R.TSU_CSTAT n) i = true ∧
      ((g.setBits (R.TSU_CSTAT n) m).raise 0x25 bit).b R.TSU_IFLAG bit = true := by
  have hs : (g.setBits (R.TSU_CSTAT n) m).pwr = h.pwr := hg.pwr
  exact ⟨raise_b_mono _ _ _ _ _ (b_setBits_same _ _ _ _ hi hm),
    raise_b_same _ 0x25 bit hb ((pageLive_of_pwr hs _).trans (pageLive_of_live h 0x25 .tsu rfl hl))⟩

theorem tsuFilled_flags (h : Hw) (n : Fin 8) (hl : h.live .time = true) :
    (h.tsuFilled n).b (R.TSU_CSTAT n) 15 = true ∧ (h.tsuFilled n).b R.TSU_IFLAG n = true :=
  channelFlags (setRegs_regsOnly h _ _) hl n 0x8000 15 n (by decide) (by decide) (by omega)

/-- A capture onto a full channel (R180). -/
theorem tsuCapture_overrun (h : Hw) (n : Fin 8) (hl : h.live .time = true) (hfull : h.b (R.TSU_CSTAT n) 15 = true) :
    (h.tsuCapture n).b (R.TSU_CSTAT n) 14 = true ∧ (h.tsuCapture n).b R.TSU_IFLAG (n + 8) = true := by
  rw [tsuCapture_eq, if_pos hfull]
  exact channelFlags (tsuFilled_regsOnly h n) hl n 0x4000 14 (n + 8) (by decide) (by decide) (by omega)

end Hw

theorem exec_disarm (s : State) (p : Party) (n : Fin 4) (ha : s.hw.accepts p (R.ALM_TGTCTL n) 1) :
    exec (.disarm p n) s = .next (s.after (s.hw.almDisarm n)) :=
  done_congr (by rw [Hw.writeRow_block _ p _ 1 .alm (Hw.blockReg_almTgtctl n) ha, Hw.blockWrite_disarm])

theorem exec_almTargetCommit (s : State) (p : Party) (n : Fin 4) (v : Word) (ha : s.hw.acceptsKey p (R.ALM_TGT_NL n) v) :
    exec (.almTargetCommit p n v) s = .next (s.after
      ((s.hw.almTgtSet n (s.hw.groupWords p (R.ALM_TGT_NL n) v)).groupDone p (R.ALM_TGT_NL n))) :=
  done_congr (by rw [Hw.writeRow_commit _ p _ 7 v (Hw.groupKey_almTgt n) ha, Hw.commitApply_almTgt])

theorem exec_tsuCapKeyRead (s : State) (p : Party) (n : Fin 8) (hp : s.hw.partyUp p = true) (hu : s.hw.pageUp 0x25 = true) :
    exec (.tsuCapKeyRead p n) s = .next (s.after ((s.hw.latchGroup p (R.TSU_CAP n) 6).clrBits (R.TSU_CSTAT n) 0x8000)) := by
  have hpage : R.TSU_CAP n / 256 = 0x25 := by simp only [R.TSU_CAP]; omega
  have hr := Hw.readBus_group s.hw p (Hw.groupAt_tsuCap n) (by rw [hpage]; exact hu)
  rw [if_pos rfl, Hw.capRead_tsuCap] at hr
  exact done_congr (Hw.readRow_of_readBus s.hw _ p _ _ hp (etchBarred_none p _ (Hw.etchForbidden_tsuCap n)) hr)

/-- The live page of an accepted key of an almanac. -/
theorem pageLive_of_acceptsTgt {h : Hw} {p : Party} {n : Fin 4} {v : Word} (ha : h.acceptsKey p (R.ALM_TGT_NL n) v) :
    h.pageLive (0x20 + n) = true := by
  obtain ⟨-, hu, -⟩ := ha
  refine Hw.pageLive_alm h n (Hw.live_of_up ?_)
  fin_cases n <;> exact hu

/-- Settles O28: a due target fires by `tgtCheck_due`, a capture fills its channel by `tsuFilled_words`. -/
theorem targetsFireAndCapturesFill : Obligations.TargetsFireAndCapturesFill := by
  refine ⟨fun s p n v => ⟨fun hl => done_congr (if_pos hl), fun ha => exec_disarm s p n ha,
    fun ha vs hvs ns hns t ht => ⟨fun hbad => ?_, fun hok => ?_⟩, fun h late t ht => ⟨Hw.tgtCheck_early h n t late ht,
      fun hle hp => ?_, fun hle hp => ?_, fun hle hl => (Hw.tgtCheck_flag h n t late ht hle (Hw.pageLive_alm h n hl)).1,
      Hw.almUnits_tgtCheck h n late⟩⟩,
    fun s n rising => ⟨fun hl hen hsrc => ?_, fun p hp hu => exec_tsuCapKeyRead s p n hp hu⟩⟩
  · subst hvs hns
    rw [← Hw.word_key s.hw p v (Hw.groupKey_almTgt n) (by decide)] at hbad
    rw [exec_almTargetCommit s p n v ha, Hw.almTgtSet_bad _ _ _ hbad]
  · subst hvs hns
    rw [← Hw.word_key s.hw p v (Hw.groupKey_almTgt n) (by decide)] at hok ht
    have hof := Hw.almOf_tgtArmed s.hw n t (s.hw.groupWords p (R.ALM_TGT_NL n) v)
    have htgt := congrArg Alm.tgt hof
    have hnow : Hw.almNs ((s.hw.tgtArmed n (s.hw.groupWords p (R.ALM_TGT_NL n) v) t).almOf n) = Hw.almNs (s.hw.almOf n) := by
      rw [hof]
      rfl
    refine ⟨_, by rw [exec_almTargetCommit s p n v ha, Hw.almTgtSet_good _ _ _ t hok ht], ?_, fun hlt => ?_, fun hle => ?_⟩
    · rw [Hw.reg32, Hw.reg_tgtCheck_ne _ _ _ _ (by simp only [R.ALM_TGT_PL]; omega),
        Hw.reg_tgtCheck_ne _ _ _ _ (by simp only [R.ALM_TGT_PL]; omega), ← Hw.reg32, Hw.period_tgtArmed]
    · rw [Hw.tgtCheck_early _ _ t _ htgt (by rwa [hnow])]
      exact htgt
    · obtain ⟨h1, h2⟩ := Hw.tgtCheck_flag _ n t true htgt (by rwa [hnow])
        ((Hw.pageLive_of_pwr (Hw.tgtArmed_pwr _ _ _ _) _).trans (pageLive_of_acceptsTgt ha))
      exact ⟨h1, h2 rfl⟩
  · rw [Hw.tgt_tgtCheck h n t late ht hle]
    exact if_pos hp
  · rw [Hw.tgt_tgtCheck h n t late ht hle]
    exact Hw.nextTarget_later h n t hle hp
  · obtain ⟨hfull, hflag⟩ := Hw.tsuFilled_flags s.hw n hl
    refine ⟨done_congr ?_, fun i hi => ?_, Hw.b_tsuCapture _ _ _ _ hfull, Hw.b_tsuCapture _ _ _ _ hflag,
      Hw.tsuCapture_overrun s.hw n hl, fun hempty => ?_, Hw.tsuCapture_regsOnly s.hw n⟩
    · simp [Hw.tsuEdge, hl, hen, hsrc]
    · rw [Hw.reg_tsuCapture _ _ _ (by simp only [R.TSU_CAP, R.TSU_CSTAT]; omega) (by simp only [R.TSU_CAP, R.TSU_IFLAG]; omega),
        Hw.tsuFilled_words _ _ _ hi]
    · rw [Hw.tsuCapture_eq, hempty, if_neg (by decide), Hw.tsuFilled_ovr]

end Sys2Proof.Machine

/-! ## Proofs: the reference ladder and PPS (O29) -/

namespace Sys2Proof.Machine
namespace Hw

/-! ### Lost and qualified rungs (R168, R169, R173, R174) -/

/-- What the loss of a rung can do: a switch to the best good rung below it starts. -/
theorem rungLost_cases (h : Hw) (n : Nat) (r : Rung) :
    h.rungLost n r = h ∨ h.rungLost n r = h.startSwitch n (h.bestBelow n r) false := by
  unfold rungLost
  dsimp only
  split
  · exact .inr rfl
  · split
    · exact .inr rfl
    · exact .inl rfl

theorem reg_rungLost (h : Hw) (n a : Nat) (r : Rung) : (h.rungLost n r).reg a = h.reg a := by
  rcases rungLost_cases h n r with e | e <;> rw [e]
  rfl

/-- A switch changes the rung to come and nothing of what qualifies a rung. -/
theorem qual_rungLost (h : Hw) (n : Nat) (r : Rung) : ((h.rungLost n r).almOf n).ptpQual = (h.almOf n).ptpQual ∧
    ((h.rungLost n r).almOf n).ppsQual = (h.almOf n).ppsQual ∧ ((h.rungLost n r).almOf n).ppsGood = (h.almOf n).ppsGood := by
  rcases rungLost_cases h n r with e | e <;> rw [e]
  · exact ⟨rfl, rfl, rfl⟩
  · rw [startSwitch, almOf_setAlm_same]
    exact ⟨rfl, rfl, rfl⟩

/-- A current rung that is lost outside a switch (R169). -/
theorem rungLost_current (h : Hw) (n : Nat) (r : Rung) (hs : (h.almOf n).switching = false) (hr : (h.almOf n).rung = r) :
    h.rungLost n r = h.setAlm n { h.almOf n with
      target := h.bestBelow n r, switching := true, committed := false, revert := false } := by
  have hrun : almSwitching (h.almOf n) = false := by simp [almSwitching, hs]
  subst hr
  simp [rungLost, hrun, startSwitch]

theorem rungGood_freeRun (h : Hw) (n : Nat) : h.rungGood n .freeRun = true := rfl

/-- The best good rung below is good and ranks no higher. -/
theorem bestBelow_spec (h : Hw) (n : Nat) (r : Rung) :
    rungRank r ≤ rungRank (h.bestBelow n r) ∧ h.rungGood n (h.bestBelow n r) = true := by
  unfold bestBelow
  split
  next hp =>
    simp only [Bool.and_eq_true, decide_eq_true_eq] at hp
    exact ⟨hp.1.le, hp.2⟩
  · split
    next hh =>
      simp only [Bool.and_eq_true, decide_eq_true_eq] at hh
      exact ⟨hh.1.le, hh.2⟩
    · exact ⟨by cases r <;> decide, rungGood_freeRun h n⟩

/-- The almanac once a rung has been qualified, before a switch up. -/
def qualified (a : Alm) (r : Rung) : Alm :=
  { a with unknown := false, ptpQual := a.ptpQual || r = .ptp, ppsQual := a.ppsQual || r = .pps }

/-- What a qualified rung can do: it starts a switch up, or ends the unknown quality alone. -/
theorem almOf_rungQualified (h : Hw) (n : Nat) (r : Rung) :
    (h.rungQualified n r).almOf n = qualified (h.almOf n) r ∨ ∃ rev, (h.rungQualified n r).almOf n =
      { qualified (h.almOf n) r with target := r, switching := true, committed := false, revert := rev } := by
  unfold rungQualified
  dsimp only
  split
  · rw [startSwitch, almOf_setAlm_same, almOf_setAlm_same]
    exact .inr ⟨_, rfl⟩
  · rw [almOf_setAlm_same]
    exact .inl rfl

theorem almUnits_rungQualified (h : Hw) (n : Nat) (r : Rung) : almUnits ((h.rungQualified n r).almOf n) = almUnits (h.almOf n) := by
  rcases almOf_rungQualified h n r with e | ⟨rev, e⟩ <;> rw [e] <;> rfl

/-- A better rung than the current one, outside a switch, starts a switch up (R169). -/
theorem rungQualified_up (h : Hw) (n : Nat) (r : Rung) (hr : rungRank r < rungRank (h.almOf n).rung)
    (hs : (h.almOf n).switching = false) : ((h.rungQualified n r).almOf n).target = r ∧
      ((h.rungQualified n r).almOf n).switching = true ∧ ((h.rungQualified n r).almOf n).unknown = false ∧
      ((h.rungQualified n r).almOf n).rung = (h.almOf n).rung := by
  have e : h.rungQualified n r = (h.setAlm n (qualified (h.almOf n) r)).startSwitch n r ((h.almOf n).left &&& leftBit r != 0) := by
    unfold rungQualified
    dsimp only
    exact if_pos (by simp [hr, almSwitching, hs])
  rw [e, startSwitch, almOf_setAlm_same, almOf_setAlm_same]
  exact ⟨rfl, rfl, rfl, rfl⟩

/-- The commit point of a switch (R170). -/
theorem switchCommit_spec (h : Hw) (n : Nat) (hs : (h.almOf n).switching = true) (hc : (h.almOf n).committed = false) :
    ((h.switchCommit n).almOf n).rung = (h.almOf n).target ∧ ((h.switchCommit n).almOf n).switching = true ∧
      ((h.switchCommit n).almOf n).committed = true ∧
      (h.pageLive (0x20 + n) = true → (h.switchCommit n).b ((0x20 + n) * 256 + 4) 4 = true) ∧
      almUnits ((h.switchCommit n).almOf n) = almUnits (h.almOf n) ∧
      ((h.almOf n).target ≠ .holdover → h.addend n = (h.switchCommit n).addend n) := by
  have hrun : almSwitching (h.almOf n) = true := by simp [almSwitching, hs, hc]
  have hof := almOf_switchCommit h n hrun
  refine ⟨by rw [hof]; rfl, by rw [hof]; exact hs, by rw [hof]; rfl, fun hl => ?_, almUnits_switchCommit h n, fun ht => ?_⟩
  · have hp : ((h.commitAddend n).setAlm n (almSwitched (h.almOf n))).pwr = h.pwr := by
      unfold commitAddend
      split <;> rfl
    rw [switchCommit_eq h n hrun]
    exact raise_b_same _ _ _ (by decide) ((pageLive_of_pwr hp _).trans hl)
  · have hadd : h.commitAddend n = h := if_neg (by simp [ht])
    have hreg (a : Nat) (ha : a ≠ (0x20 + n) * 256 + 4) : (h.switchCommit n).reg a = h.reg a := by
      rw [switchCommit_eq h n hrun, hadd]
      exact reg_raise_ne (h.setAlm n (almSwitched (h.almOf n))) _ _ a ha
    rw [addend, addend, hreg _ (by simp only [R.ALM_ADD_H]; omega), hreg _ (by simp only [R.ALM_ADD_M]; omega),
      hreg _ (by simp only [R.ALM_ADD_L]; omega)]

/-! ### The PTP rung (R168) -/

theorem reg_servoLost (h : Hw) (n : Nat) : (h.servoLost n).reg (R.ALM_SERVO n) = h.reg (R.ALM_SERVO n) &&& ~~~1 := by
  unfold servoLost
  dsimp only
  rw [reg_rungLost]
  exact reg_setReg_same _ _ _

theorem ptpQual_servoLost (h : Hw) (n : Nat) : ((h.servoLost n).almOf n).ptpQual = false := by
  unfold servoLost
  dsimp only
  rw [(qual_rungLost _ n .ptp).1, almOf_setAlm_same]

/-- GOOD has fallen. -/
theorem good_servoLost (h : Hw) (n : Nat) : (h.servoLost n).b (R.ALM_SERVO n) 0 = false := by
  rw [b, reg_servoLost, BitVec.getLsbD_and]
  simp

/-- A rung's return touches the page's flags alone of the registers. -/
theorem reg_rungBack_ne (h : Hw) (n a : Nat) (r : Rung) (ha : a ≠ (0x20 + n) * 256 + 4) : (h.rungBack n r).reg a = h.reg a := by
  unfold rungBack
  dsimp only
  split
  · exact reg_raise_ne _ _ _ _ ha
  · rfl

theorem and_not_one {w : Word} (h0 : w.getLsbD 0 = false) : w &&& ~~~1 = w := by
  refine BitVec.eq_of_getLsbD_eq fun i hi => ?_
  rw [BitVec.getLsbD_and, BitVec.getLsbD_not, show (1 : Word) = 1#16 from rfl, BitVec.getLsbD_one]
  rcases Nat.eq_zero_or_pos i with rfl | hpos
  · rw [h0, Bool.false_and]
  · simp [hi, show ¬ i = 0 by omega]

theorem reg_servoWrite (h : Hw) (n : Nat) (host : Bool) (v : Word) :
    (h.servoWrite n host v).reg (R.ALM_SERVO n) = v &&& 0x00F1 := by
  have hset (x : Alm) : ((h.setReg (R.ALM_SERVO n) (v &&& 0x00F1)).setAlm n x).reg (R.ALM_SERVO n) = v &&& 0x00F1 :=
    reg_setReg_same h _ _
  unfold servoWrite
  dsimp only
  split
  · split
    · exact hset _
    · rw [reg_rungBack_ne _ _ _ _ (by simp only [R.ALM_SERVO]; omega)]
      exact hset _
  next h0 =>
    split
    · rw [reg_servoLost, hset]
      exact and_not_one (by rw [BitVec.getLsbD_and, Bool.eq_false_of_not_eq_true h0, Bool.false_and])
    · exact hset _

theorem ptpQual_servoWrite (h : Hw) (n : Nat) (host : Bool) (v : Word) (hv : v.getLsbD 0 = false)
    (hwas : h.b (R.ALM_SERVO n) 0 = true) : ((h.servoWrite n host v).almOf n).ptpQual = false := by
  unfold servoWrite
  dsimp only
  rw [if_neg (by rw [hv]; decide), if_pos hwas]
  exact ptpQual_servoLost _ n

/-! ### The PPS_IN rung (R168, R172) -/

theorem qual_ppsLost (h : Hw) (n : Nat) : ((h.ppsLost n).almOf n).ppsGood = false ∧ ((h.ppsLost n).almOf n).ppsQual = false := by
  unfold ppsLost
  dsimp only
  obtain ⟨-, h2, h3⟩ := qual_rungLost (h.setAlm n { h.almOf n with
    leftQual := if (h.almOf n).rung = .pps && !almSwitching (h.almOf n) then (h.almOf n).ppsQual else (h.almOf n).leftQual
    ppsGood := false, ppsQual := false, ppsEdges := 0, ppsOut := 0 }) n .pps
  rw [h2, h3, almOf_setAlm_same]
  exact ⟨rfl, rfl⟩

/-- Times within 1 ms of no whole second. -/
theorem ppsOffset_big (a : Alm) (hlo : 1000000 * 65536 < a.sub / 65536) (hhi : a.sub / 65536 < 999000000 * 65536) :
    1000000 * 65536 < (ppsOffset a).natAbs := by
  unfold ppsOffset
  dsimp only
  split <;> omega

theorem ppsEdge_disabled (h : Hw) (n t : Nat) (hl : h.b (R.ALM_LADDER n) 1 = false) : h.ppsEdge n t = h := by
  simp [ppsEdge, hl]

/-- An outlier after qualification, no fourth one in a row (R172). -/
theorem ppsEdge_outlier (h : Hw) (n t : Nat) (hl : h.b (R.ALM_LADDER n) 1 = true) (hq : (h.almOf n).ppsQual = true)
    (ho : (h.almOf n).ppsOut < 3) (hbig : 1000000 * 65536 < (ppsOffset (h.almOf n)).natAbs) : h.ppsEdge n t =
      (h.setAlm n { h.almOf n with ppsOut := (h.almOf n).ppsOut + 1, ppsEdges := 0 }).raise (0x20 + n) 8 := by
  unfold ppsEdge
  dsimp only
  rw [if_neg (by simp [hl]), if_pos (by simp only [hq, Bool.true_and, decide_eq_true_eq]; exact hbig), if_neg (by omega)]
  rfl

theorem almOf_ppsAddend (h : Hw) (n m : Nat) (de : Int) : (h.ppsAddend n de).almOf m = h.almOf m := rfl

theorem almUnits_ite {c : Prop} [Decidable c] {g f : Hw} {n u : Nat} (hg : almUnits (g.almOf n) = u)
    (hf : almUnits (f.almOf n) = u) : almUnits ((if c then g else f).almOf n) = u := by
  split
  · exact hg
  · exact hf

/-- An edge within 1 ms outside a switch slews the almanac by its offset (R172). -/
theorem ppsEdge_slews (h : Hw) (n t : Nat) (hl : h.b (R.ALM_LADDER n) 1 = true) (hs : almSwitching (h.almOf n) = false)
    (hsmall : (ppsOffset (h.almOf n)).natAbs ≤ 1000000 * 65536) :
    ((h.ppsEdge n t).almOf n).slew = -(ppsOffset (h.almOf n)) ∧ almUnits ((h.ppsEdge n t).almOf n) = almUnits (h.almOf n) := by
  have hbig : ¬ 1000000 * 65536 < (ppsOffset (h.almOf n)).natAbs := Nat.not_lt.2 hsmall
  unfold ppsEdge
  dsimp only
  rw [if_neg (by simp [hl]), if_neg (by simp only [hbig, decide_false, Bool.and_false, Bool.false_eq_true, not_false_eq_true])]
  generalize hg : h.setAlm n _ = g
  have hof : almSwitching (g.almOf n) = false ∧ almUnits (g.almOf n) = almUnits (h.almOf n) := by
    rw [← hg, almOf_setAlm_same]
    exact ⟨hs, rfl⟩
  have hback : g.rungReturns n .pps = false := by simp [rungReturns, hof.1]
  simp only [hback, hs, Bool.and_false, Bool.false_and, Bool.false_eq_true, if_false]
  rw [if_neg hbig]
  refine ⟨(almOf_startSlew _ n _).1, (almOf_startSlew _ n _).2.trans ?_⟩
  rw [almOf_ppsAddend]
  exact almUnits_ite ((almUnits_rungQualified g n .pps).trans hof.2) hof.2

/-! ### PPS_OUT and the roles (R164, R177) -/

theorem fld_lowByte (v : Word) (hi lo : Nat) (h7 : hi ≤ 7) (hlo : lo ≤ hi) : fld (v &&& 0x00FF) hi lo = fld v hi lo := by
  have hv : (v &&& 0x00FF).toNat = v.toNat % 2 ^ 8 := by
    rw [BitVec.toNat_and]
    exact Nat.and_two_pow_sub_one_eq_mod v.toNat 8
  have h8 : 2 ^ 8 = 2 ^ lo * 2 ^ (8 - lo) := by rw [← Nat.pow_add, Nat.add_sub_cancel' (by omega)]
  rw [fld, fld, hv, h8, Nat.mod_mul_right_div_self, Nat.mod_mod_of_dvd _ (Nat.pow_dvd_pow 2 (by omega))]

theorem ppscfgWrite_spec (h : Hw) (v : Word) : (h.ppscfgWrite v).reg R.TSU_PPSCFG = v &&& 0x0331 ∧
    (h.ppscfgWrite v).pps.active = (h.pps.active && v.getLsbD 8 && decide (fld v 5 4 = h.f R.TSU_PPSCFG 5 4)) ∧
    h.ppscfgWrite v = { h with regs := (h.ppscfgWrite v).regs, pps := (h.ppscfgWrite v).pps } ∧
    ∀ a, a ≠ R.TSU_PPSCFG → (h.ppscfgWrite v).reg a = h.reg a := by
  unfold ppscfgWrite
  dsimp only
  split
  next hc =>
    refine ⟨reg_setReg_same h _ _, ?_, rfl, fun a ha => reg_setReg_ne h _ _ _ ha⟩
    simp only [Bool.or_eq_true, Bool.not_eq_true', bne_iff_ne] at hc
    rcases hc with h8 | hn
    · rw [h8, Bool.and_false, Bool.false_and]
      rfl
    · rw [decide_eq_false hn, Bool.and_false]
      rfl
  next hc =>
    refine ⟨reg_setReg_same h _ _, ?_, rfl, fun a ha => reg_setReg_ne h _ _ _ ha⟩
    simp only [Bool.or_eq_true, Bool.not_eq_true', bne_iff_ne, not_or, Bool.not_eq_false, not_not] at hc
    obtain ⟨h8, hn⟩ := hc
    rw [h8, hn]
    simp

/-- A new tick almanac has no tick left over, and a new sample almanac re-anchors the grid while SENSE is powered. -/
theorem rolesChanged_eq (g : Hw) (was : Word) : g.rolesChanged was =
    if fld was 1 0 ≠ g.sampAlm ∧ g.up .sense = true then
      (if fld was 5 4 ≠ g.tickAlm then { g with cal := { g.cal with ticks := 0 } } else g).gridFree.reanchor
    else if fld was 5 4 ≠ g.tickAlm then { g with cal := { g.cal with ticks := 0 } } else g := by
  unfold rolesChanged
  simp only [bne_iff_ne, Bool.and_eq_true]
  by_cases ht : fld was 5 4 = g.tickAlm
  · simp only [ht, ne_eq, not_true_eq_false, if_false]
  · simp only [ht, ne_eq, not_false_eq_true, if_true]
    rfl

/-- A change of roles (R164, R165, R254). -/
theorem rolesWrite_spec (h : Hw) (v : Word) : (h.rolesWrite v).reg R.CAL_ROLES = v &&& 0x00FF ∧
    (h.up .sense = true → fld v 1 0 ≠ h.f R.CAL_ROLES 1 0 → (h.rolesWrite v).dec.reanchor = true) ∧
    (fld v 5 4 ≠ h.f R.CAL_ROLES 5 4 → (h.rolesWrite v).cal.ticks = 0) ∧
    (fld v 1 0 = h.f R.CAL_ROLES 1 0 → fld v 5 4 = h.f R.CAL_ROLES 5 4 →
      h.rolesWrite v = h.setReg R.CAL_ROLES (v &&& 0x00FF)) := by
  have htick : (h.setReg R.CAL_ROLES (v &&& 0x00FF)).tickAlm = fld v 5 4 := by
    rw [tickAlm, f, reg_setReg_same, fld_lowByte v 5 4 (by decide) (by decide)]
  generalize hg : h.setReg R.CAL_ROLES (v &&& 0x00FF) = g at *
  have hroles : g.reg R.CAL_ROLES = v &&& 0x00FF := hg ▸ reg_setReg_same h _ _
  have hup : g.up .sense = h.up .sense := by rw [← hg]; rfl
  have hsamp : g.sampAlm = fld v 1 0 := by rw [sampAlm, f, hroles, fld_lowByte v 1 0 (by decide) (by decide)]
  rw [rolesWrite, hg, rolesChanged_eq, htick, hsamp, hup]
  change _ ∧ (_ → _ ≠ fld (h.reg R.CAL_ROLES) 1 0 → _) ∧ (_ ≠ fld (h.reg R.CAL_ROLES) 5 4 → _) ∧
    (_ = fld (h.reg R.CAL_ROLES) 1 0 → _ = fld (h.reg R.CAL_ROLES) 5 4 → _)
  by_cases h54 : fld (h.reg R.CAL_ROLES) 5 4 = fld v 5 4 <;>
    by_cases h10 : fld (h.reg R.CAL_ROLES) 1 0 ≠ fld v 1 0 ∧ h.up .sense = true
  · rw [if_neg (not_not.2 h54), if_pos h10]
    exact ⟨hroles, fun _ _ => rfl, fun hn => absurd h54.symm hn, fun he => absurd he.symm h10.1⟩
  · rw [if_neg (not_not.2 h54), if_neg h10]
    exact ⟨hroles, fun hu hn => absurd ⟨hn.symm, hu⟩ h10, fun hn => absurd h54.symm hn, fun _ _ => rfl⟩
  · rw [if_pos h54, if_pos h10]
    exact ⟨hroles, fun _ _ => rfl, fun _ => rfl, fun _ he => absurd he.symm h54⟩
  · rw [if_pos h54, if_neg h10]
    exact ⟨hroles, fun hu hn => absurd ⟨hn.symm, hu⟩ h10, fun _ => rfl, fun _ he => absurd he.symm h54⟩

/-- PPS_IN's four loops run in the order of the almanacs. -/
theorem ppsInEdge_active (h : Hw) (rising : Bool) (ps : Vector Nat 4) (hl : h.live .time = true)
    (hr : rising ≠ h.b R.TSU_PPSCFG 0) : h.ppsInEdge rising ps =
      ((((h.ppsEdge 0 ps[0]).ppsEdge 1 ps[1]).ppsEdge 2 ps[2]).ppsEdge 3 ps[3]).event 35 := by
  simp only [ppsInEdge, hl, beq_eq_false_iff_ne.2 hr, Bool.not_true, Bool.or_self, Bool.false_eq_true, if_false]
  rfl

theorem ppsInEdge_inactive (h : Hw) (ps : Vector Nat 4) : h.ppsInEdge (h.b R.TSU_PPSCFG 0) ps = h := by
  simp [ppsInEdge]

/-! ### What an accepted write runs -/

theorem blockReg_almServo : ∀ n : Fin 4, blockReg (R.ALM_SERVO n) .alm = true := by decide

theorem blockWrite_almServo (h : Hw) (p : Party) (n : Fin 4) (v : Word) :
    h.blockWrite p .alm (R.ALM_SERVO n) v = h.servoWrite n (p = .spi || p = .twi0) v := by
  fin_cases n <;> rfl

end Hw

theorem exec_servoGoodWrite (s : State) (p : Party) (n : Fin 4) (v : Word) (ha : s.hw.accepts p (R.ALM_SERVO n) v) :
    exec (.servoGoodWrite p n v) s = .next (s.after (s.hw.servoWrite n (p = .spi || p = .twi0) v)) :=
  done_congr (by rw [Hw.writeRow_block _ p _ v .alm (Hw.blockReg_almServo n) ha, Hw.blockWrite_almServo])

theorem exec_ppscfgWrite (s : State) (p : Party) (v : Word) (ha : s.hw.accepts p R.TSU_PPSCFG v) :
    exec (.ppscfgWrite p v) s = .next (s.after (s.hw.ppscfgWrite v)) :=
  done_congr (Hw.writeRow_block _ p _ v .tsu (by decide) ha)

theorem exec_rolesWrite (s : State) (p : Party) (v : Word) (ha : s.hw.accepts p R.CAL_ROLES v) :
    exec (.rolesWrite p v) s = .next (s.after (s.hw.rolesWrite v)) :=
  done_congr (Hw.writeRow_block _ p _ v .cal (by decide) ha)

/-- Settles O29: a clause per command from the equations of the ladder's operations. -/
theorem ladderAndPpsRung : Obligations.LadderAndPpsRung := by
  refine ⟨fun s p n => ⟨fun v ha => ⟨exec_servoGoodWrite s p n v ha, Hw.reg_servoWrite _ _ _ _, Hw.ptpQual_servoWrite _ _ _ _⟩,
    fun hl => ⟨fun hg => ⟨done_congr ?_, Hw.good_servoLost _ _⟩, fun pps hg he => done_congr ?_,
      fun hs => ⟨fun ht => done_congr ?_, fun ht => done_congr ?_, fun ht => done_congr ?_⟩, fun hs => done_congr ?_,
      fun hr he => done_congr ?_, done_congr ?_, Hw.qual_ppsLost _ _⟩,
    fun h r => ⟨Hw.rungLost_current h n r, (Hw.bestBelow_spec h n r).1, (Hw.bestBelow_spec h n r).2, Hw.rungQualified_up h n r,
      Hw.switchCommit_spec h n⟩⟩,
    fun s => ⟨fun rising ps hl hr => done_congr (Hw.ppsInEdge_active _ _ _ hl hr), fun ps => done_congr (Hw.ppsInEdge_inactive _ _),
      fun h n t => ⟨Hw.ppsEdge_disabled h n t, fun hl hq ho hlo hhi =>
        Hw.ppsEdge_outlier h n t hl hq ho (Hw.ppsOffset_big _ hlo hhi), Hw.ppsEdge_slews h n t⟩, rfl,
      fun p v ha => ⟨_, exec_ppscfgWrite s p v ha, Hw.ppscfgWrite_spec _ _⟩,
      fun p v ha => ⟨_, exec_rolesWrite s p v ha, Hw.rolesWrite_spec _ _⟩⟩⟩
  · simp [Hw.servoTimeout, hl, hg, Hw.almFlag]
  · cases pps with
    | false => exact if_pos (by simpa [hl] using hg)
    | true => exact if_pos (by simpa [hl] using And.intro hg (he rfl))
  · simp [Hw.commitPoint, hl, hs, ht]
  · simp [Hw.commitPoint, hl, hs, ht]
  · rcases ht with ht | ht <;> simp [Hw.commitPoint, hl, hs, ht]
  · simp [Hw.commitPoint, hs]
  · simp [Hw.holdoverEnd, hl, hr, he]
  · simp [Hw.ppsSilent, hl]

end Sys2Proof.Machine

/-! ## Proofs: bad dates and leap seconds (O32) -/

namespace Sys2Proof.Machine
namespace Hw

/-- A date that R187 rejects moves no almanac. -/
theorem civilSet_bad (h : Hw) (y m day hr mi sec : Nat) (w4 w5 w6 : Word) (hy : y < 65536) (hm : m < 16) (hd : day < 32)
    (hhr : hr < 32) (hmi : mi < 64)
    (hbad : y < 2000 ∨ 2399 < y ∨ m < 1 ∨ 12 < m ∨ day = 0 ∨ monthDays y m < day ∨ 23 < hr ∨ 59 < mi) :
    h.civilSet [wd y, wd (m * 256 + day), wd (hr * 256 + mi), wd sec, w4, w5, w6] = (h.setBits R.CAL_STAT 2).raise 0x24 1 := by
  have w0 : word [wd y, wd (m * 256 + day), wd (hr * 256 + mi), wd sec, w4, w5, w6] 0 = y := toNat_wd y hy
  have w1 : word [wd y, wd (m * 256 + day), wd (hr * 256 + mi), wd sec, w4, w5, w6] 1 = m * 256 + day := toNat_wd _ (by omega)
  have w2 : word [wd y, wd (m * 256 + day), wd (hr * 256 + mi), wd sec, w4, w5, w6] 2 = hr * 256 + mi := toNat_wd _ (by omega)
  have e1 : (m * 256 + day) / 256 % 16 = m := highByte_mod (by omega) hm
  have e2 : (m * 256 + day) % 32 = day := lowByte_mod (by decide) hd
  have e3 : (hr * 256 + mi) / 256 % 32 = hr := highByte_mod (by omega) hhr
  have e4 : (hr * 256 + mi) % 64 = mi := lowByte_mod (by decide) hmi
  unfold civilSet
  simp only [w0, w1, w2, e1, e2, e3, e4]
  refine if_pos ?_
  simp only [Bool.or_eq_true, decide_eq_true_eq]
  omega

/-- Both leap bits. -/
theorem both_iff (v : Word) : (v.getLsbD 0 && v.getLsbD 1) = true ↔ v &&& 3 = 3 := by
  have hv : (v &&& 3).toNat = v.toNat % 4 := by
    rw [BitVec.toNat_and]
    exact Nat.and_two_pow_sub_one_eq_mod v.toNat 2
  rw [← BitVec.toNat_inj, hv, Bool.and_eq_true, BitVec.getLsbD, BitVec.getLsbD, Nat.testBit_zero, Nat.testBit_succ,
    Nat.testBit_zero, decide_eq_true_eq, decide_eq_true_eq, show (3 : Word).toNat = 3 from rfl]
  omega

theorem leapWrite_eq (h : Hw) (v : Word) : h.leapWrite v =
    if v &&& 3 = 3 then (h.setBits R.CAL_STAT 2).raise 0x24 1 else h.setReg R.CAL_LEAP (v &&& 3) :=
  if_congr (both_iff v) rfl rfl

/-- The second after an inserted one has begun. -/
theorem leapOver_inserted (h : Hw) (hl : h.live .time = true) (hi : h.cal.inserted = true) (hu : h.calUtc % 86400 ≠ 0) :
    h.leapOver = h.leapDone true := by
  have h0 : (h.calUtc % 86400).toNat ≠ 0 := by omega
  simp [leapOver, hl, hi, h0]

/-- 23:59:58 has ended with LEAP59 sampled. -/
theorem leapOver_skipped (h : Hw) (hl : h.live .time = true) (hi : h.cal.inserted = false) (hs : h.cal.sampled59 = true)
    (hu : h.calUtc % 86400 = 86399) : h.leapOver = h.leapDone false := by
  have h0 : (h.calUtc % 86400).toNat = 86399 := by omega
  simp [leapOver, hl, hi, hs, h0]

theorem leapDone_plus (h : Hw) : h.leapDone true =
    { (h.setReg R.CAL_UTCOFS (wdI (h.utcOfs + 1))).setReg R.CAL_LEAP (h.reg R.CAL_LEAP &&& ~~~1) with
      cal := { h.cal with sampled61 := false, sampled59 := false, inserted := false } }.raise 0x24 0 := by
  simp only [leapDone, if_true, clrBits, reg_setReg_ne _ R.CAL_UTCOFS R.CAL_LEAP _ (by decide)]
  rfl

theorem leapDone_minus (h : Hw) : h.leapDone false =
    { (h.setReg R.CAL_UTCOFS (wdI (h.utcOfs - 1))).setReg R.CAL_LEAP (h.reg R.CAL_LEAP &&& ~~~2) with
      cal := { h.cal with sampled61 := false, sampled59 := false, inserted := false } }.raise 0x24 0 := by
  simp only [leapDone, Bool.false_eq_true, if_false, clrBits, reg_setReg_ne _ R.CAL_UTCOFS R.CAL_LEAP _ (by decide)]
  rfl

end Hw

theorem exec_leapWrite (s : State) (p : Party) (v : Word) (ha : s.hw.accepts p R.CAL_LEAP v) :
    exec (.leapWrite p v) s = .next (s.after (s.hw.leapWrite v)) :=
  done_congr (Hw.writeRow_block _ p _ v .cal (by decide) ha)

/-- Settles O32, by `civilSet_bad`, `leapWrite_eq` and the two ways in which a leap second is over. -/
theorem badDatesAndLeapSeconds : Obligations.BadDatesAndLeapSeconds := by
  refine fun s p v => ⟨fun y m day hr mi sec w4 w5 w6 ha hy hm hd hhr hmi _ hvs hbad => ?_, fun ha h3 => ?_, fun ha h3 => ?_,
    fun hl hi hu => done_congr ?_, fun hl hi h59 hu => done_congr ?_⟩
  · rw [exec_civilCommit s p v ha, hvs, Hw.civilSet_bad _ y m day hr mi sec w4 w5 w6 hy hm hd hhr hmi hbad]
  · rw [exec_leapWrite s p v ha, Hw.leapWrite_eq, if_pos h3]
  · rw [exec_leapWrite s p v ha, Hw.leapWrite_eq, if_neg h3]
  · rw [Hw.leapOver_inserted _ hl hi hu, Hw.leapDone_plus]
  · rw [Hw.leapOver_skipped _ hl hi h59 hu, Hw.leapDone_minus]

end Sys2Proof.Machine

/-! ## Proofs: configuration and monitors of the front end (O33) -/

namespace Sys2Proof.Machine

/-- Of the words without bits outside the fields of `AFE.ORIENT`, 24 are proper rotations (R194). -/
theorem properRotation_count :
    ((List.range 0x778).filter fun w => w &&& 0x777 == w && properRotation (BitVec.ofNat 16 w)).length = 24 := by
  decide +kernel

namespace Hw

/-! ### Configuration writes (R194, R198, R208, R219) -/

/-- A rejected orientation leaves AFE.ORIENT, so that the recognizers hear nothing (R194). -/
theorem orientWrite_rejected (h : Hw) (v : Word) (hv : properRotation v = false) :
    trimWatch h (h.orientWrite v) R.AFE_ORIENT = h.raise 0x10 11 := by
  rw [orientWrite, hv, trimWatch, if_neg Bool.false_ne_true, afeFlag, reg_raise_ne _ _ _ _ (by decide), if_neg (by simp)]

/-- The recognizers hear of an accepted orientation when it is another (R272, R277). -/
theorem orientWrite_accepted (h : Hw) (v : Word) (hv : properRotation v = true) :
    trimWatch h (h.orientWrite v) R.AFE_ORIENT =
      if h.reg R.AFE_ORIENT = v &&& 0x0777 then h.setReg R.AFE_ORIENT (v &&& 0x0777)
      else (h.setReg R.AFE_ORIENT (v &&& 0x0777)).trimChange := by
  rw [orientWrite, if_pos hv, trimWatch, reg_setReg_same]
  by_cases he : h.reg R.AFE_ORIENT = v &&& 0x0777
  · rw [if_pos he, if_neg (by simp [he])]
  · rw [if_neg he, if_pos (by simpa using Ne.symm he)]

theorem xbcfgWrite_rejected (h : Hw) (v : Word) (hd : v.getLsbD 15 = false) (hf : 3 < fld v 10 8) :
    h.xbcfgWrite v = h.raise 0x10 11 := if_pos (by rw [hd, decide_eq_true hf]; rfl)

/-- The driven frequency matters in driven mode alone (R219). -/
theorem xbcfgWrite_accepted (h : Hw) (v : Word) (hv : v.getLsbD 15 = true ∨ fld v 10 8 ≤ 3) :
    h.xbcfgWrite v = h.setReg R.AFE_XBCFG (v &&& 0x8713) := if_neg (by
  rcases hv with hd | hf
  · simp [hd]
  · simp [hf])

/-! ### Monitors (R209, R219, R221, R222) -/

theorem gdrvLock_locks (h : Hw) (hu : h.up .sense = true) (hg : h.afe.gdrv = false) (hc : h.afe.chen.getLsbD 1 = true) :
    h.gdrvLock = (({ h with afe := { h.afe with gdrv := true, gdrvOnce := true } }).warmStart 2#4 h.afe.gdrvOnce).raise
      0x10 13 := if_neg (by simp [hu, hg, hc])

theorem xbLoss_lost (h : Hw) (hr : h.xbReceived = true) (hx : h.afe.xbLost = false) :
    h.xbLoss = { h with afe := { h.afe with xbLost := true } }.raise 0x10 8 := if_pos (by simp [hr, hx])

theorem xbReturn_back (h : Hw) (hr : h.xbReceived = true) (hx : h.afe.xbLost = true) :
    h.xbReturn = ({ h with afe := { h.afe with xbLost := false } }.warmStart 0xC#4 true).raise 0x10 9 :=
  if_pos (by simp [hr, hx])

/-- XBCLK within its range is only recorded while it is not lost (R219). -/
theorem xbMeasure_inRange (h : Hw) (khz : Word) (hr : h.xbReceived = true) (hx : h.afe.xbLost = false)
    (hlo : 5000 ≤ khz.toNat) (hhi : khz.toNat ≤ 20000) : h.xbMeasure khz = h.setReg R.AFE_XBFREQ khz := by
  have hin : ¬ (decide (khz.toNat < 4900) || decide (20400 < khz.toNat)) = true := by simp; omega
  have hback : (h.setReg R.AFE_XBFREQ khz).xbReturn = h.setReg R.AFE_XBFREQ khz := if_neg (by simp [hx])
  rw [xbMeasure, if_neg (by simp [hr])]
  simp only [if_neg hin, hback, ite_self]

/-- XBCLK beyond its limits is lost (R221). -/
theorem xbMeasure_outOfRange (h : Hw) (khz : Word) (hr : h.xbReceived = true) (hx : h.afe.xbLost = false)
    (hout : khz.toNat < 4900 ∨ 20400 < khz.toNat) : h.xbMeasure khz =
      { h.setReg R.AFE_XBFREQ khz with afe := { h.afe with xbLost := true } }.raise 0x10 8 := by
  rw [xbMeasure, if_neg (by simp [hr])]
  exact (if_pos (by simpa using hout)).trans (xbLoss_lost _ hr hx)

/-- A line of a powered and enabled channel (R222). -/
theorem xbStuck_enabled (h : Hw) (k : Fin 2) (held : Bool) (hu : h.up .sense = true)
    (hc : h.afe.chen.getLsbD (2 + k) = true) : h.xbStuck k held =
      if held then { h with afe := { h.afe with stuck := h.afe.stuck ||| (1#2 <<< k.val) } }.raise 0x10 10
      else { h with afe := { h.afe with stuck := h.afe.stuck &&& ~~~(1#2 <<< k.val) } } := if_neg (by simp [hu, hc])

/-! ### WARM and the histories (R245) -/

theorem warmStart_hist_empty (h : Hw) (gs : BitVec 4) (i : Fin 8) (hi : gs.getLsbD (chGroup i) = true) :
    (h.warmStart gs true).dec.hist[i] = [] := by
  simp [warmStart, hi]

theorem warmStart_warm (h : Hw) (gs : BitVec 4) (e : Bool) (k : Fin 4) (hk : gs.getLsbD k = true) :
    (h.warmStart gs e).dec.warm[k] = h.groupLen k := by
  simp [warmStart, hk]

/-- An accepted write to a register of the AFE page acts as the page says. -/
theorem writeRow_afe (h : Hw) (p : Party) (a : Nat) (v : Word) (hb : blockReg a .afe = true) (ha : h.accepts p a v) :
    h.writeRow p a v = h.writeSense p .afe a v := writeRow_block h p a v .afe hb ha

end Hw

/-- Settles O33: the writes by the equations of their registers, the monitors by their cases, and the count of the
orientations by `properRotation_count`. -/
theorem frontEndChecksAndMonitors : Obligations.FrontEndChecksAndMonitors := by
  refine ⟨⟨properRotation_count, fun s p v => ⟨fun ha => ?orient, fun ha => ?arange, fun ha => ?grange, fun ha => ?chen,
    fun ha => ?xbcfg, fun h => ⟨fun hb => if_neg (by simp [hb]), fun hb => if_pos hb⟩⟩⟩, fun s => ⟨?gdrv, ?unlock, ?xbclk, ?stuck,
    fun h gs => ⟨h.warmStart_hist_empty gs, h.warmStart_warm gs⟩⟩⟩
  case orient =>
    have hrow : s.hw.writeRow p R.AFE_ORIENT v = Hw.trimWatch s.hw (s.hw.orientWrite v) R.AFE_ORIENT :=
      s.hw.writeRow_afe p _ v (by decide) ha
    exact ⟨fun hv => done_congr (hrow.trans (s.hw.orientWrite_rejected v hv)), fun hv =>
      ⟨fun he => done_congr (by rw [hrow, s.hw.orientWrite_accepted v hv, if_pos he]),
        fun he => done_congr (by rw [hrow, s.hw.orientWrite_accepted v hv, if_neg he])⟩⟩
  case arange =>
    have hrow : s.hw.writeRow p R.AFE_ARANGE v = s.hw.arangeWrite v := s.hw.writeRow_afe p _ v (by decide) ha
    exact ⟨fun hv => done_congr (hrow.trans (if_pos hv)), fun hv => done_congr (hrow.trans (if_neg (Nat.not_lt.2 hv)))⟩
  case grange =>
    have hrow : s.hw.writeRow p R.AFE_GRANGE v = s.hw.grangeWrite v := s.hw.writeRow_afe p _ v (by decide) ha
    exact ⟨fun hv => done_congr (hrow.trans (if_pos hv)), fun hv => done_congr (hrow.trans (if_neg (Nat.not_lt.2 hv)))⟩
  case chen => exact done_congr (s.hw.writeRow_afe p _ v (by decide) ha)
  case xbcfg =>
    have hrow : s.hw.writeRow p R.AFE_XBCFG v = s.hw.xbcfgWrite v := s.hw.writeRow_afe p _ v (by decide) ha
    exact ⟨fun hd hf => done_congr (hrow.trans (s.hw.xbcfgWrite_rejected v hd hf)),
      fun hv => done_congr (hrow.trans (s.hw.xbcfgWrite_accepted v hv))⟩
  case gdrv => exact fun hu hg hc => done_congr (s.hw.gdrvLock_locks hu hg hc)
  case unlock => exact fun hg => done_congr (if_pos hg)
  case xbclk =>
    exact fun hr => ⟨fun hx => done_congr (s.hw.xbLoss_lost hr hx), fun hx => done_congr (s.hw.xbReturn_back hr hx),
      fun khz hlo hhi hx => done_congr (s.hw.xbMeasure_inRange khz hr hx hlo hhi),
      fun khz hout hx => done_congr (s.hw.xbMeasure_outOfRange khz hr hx hout)⟩
  case stuck =>
    exact fun k hu hc => ⟨done_congr (s.hw.xbStuck_enabled k true hu hc), done_congr (s.hw.xbStuck_enabled k false hu hc)⟩

end Sys2Proof.Machine

/-! ## Proofs: the self-test (O34) -/

namespace Sys2Proof.Machine

/-- GO in the written word reaches no field that AFE.STCTL stores. -/
theorem or_go_and (v m : Word) (hm : 0x8000 &&& m = 0#16) : (v ||| 0x8000) &&& m = v &&& m := by
  rw [BitVec.and_comm, BitVec.and_or_distrib_left, BitVec.and_comm m 0x8000, hm, BitVec.or_zero, BitVec.and_comm]

theorem or_go_lowByte (v : Word) : fld (v ||| 0x8000) 7 0 = fld v 7 0 := by
  rw [← Hw.fld_lowByte _ 7 0 (by decide) (by decide), or_go_and v 0x00FF rfl, Hw.fld_lowByte _ 7 0 (by decide) (by decide)]

/-- The mask of the failing indices below `k`. -/
def failMask (ok : Nat → Bool) (k : Nat) : Nat := (List.range k).foldl (fun w i => if ok i then w else w + 2 ^ i) 0

theorem failMask_succ (ok : Nat → Bool) (k : Nat) :
    failMask ok (k + 1) = if ok k then failMask ok k else failMask ok k + 2 ^ k := by
  rw [failMask, List.range_succ, List.foldl_append]
  rfl

theorem failMask_lt (ok : Nat → Bool) (k : Nat) : failMask ok k < 2 ^ k := by
  induction k with
  | zero => exact Nat.one_pos
  | succ k ih =>
    rw [failMask_succ, Nat.pow_succ]
    split <;> omega

theorem failMask_eq_zero_iff (ok : Nat → Bool) (k : Nat) : failMask ok k = 0 ↔ ∀ i, i < k → ok i = true := by
  induction k with
  | zero => simp [failMask]
  | succ k ih =>
    rw [failMask_succ, Nat.forall_lt_succ_right, ← ih]
    cases ok k <;> simp

namespace Hw

/-! ### Start (R212) -/

/-- GO (R212) with the choices of the written word stored. -/
theorem writeRow_stctl_go (h : Hw) (p : Party) (v : Word) (ha : h.accepts p R.AFE_STCTL (v ||| 0x8000)) :
    h.writeRow p R.AFE_STCTL (v ||| 0x8000) = (h.setReg R.AFE_STCTL (v &&& 0x30FF)).stStart (v ||| 0x8000) := by
  have hgo : (v ||| 0x8000).getLsbD 15 = true := by simp
  rw [writeRow_block h p _ _ .afe (by decide) ha, ← or_go_and v 0x30FF rfl]
  exact if_pos hgo

/-- The conditions of R212 under which a start is rejected. -/
def StRejects (h : Hw) (v : Word) : Prop :=
  h.nvs.loaded = false ∨ h.afe.notrim = true ∨ h.afe.chen.getLsbD 0 = false ∨
    (v.getLsbD 13 = true ∧ (h.afe.chen.getLsbD 1 = false ∨ h.afe.gdrv = false))

theorem stRejects_iff (h : Hw) (v : Word) : h.StRejects v ↔
    (!h.nvs.loaded || h.afe.notrim || !h.afe.chen.getLsbD 0 ||
      (v.getLsbD 13 && (!h.afe.chen.getLsbD 1 || !h.afe.gdrv))) = true := by
  simp only [StRejects, Bool.or_eq_true, Bool.and_eq_true, Bool.not_eq_true', or_assoc]

/-- The run that waits for its first boundary with the choices of a word (R212). -/
def stChosen (v : Word) : SelfTest :=
  { stNone with phase := 4, n := max 16 (fld v 7 0), level := if v.getLsbD 12 then 1 else 0, gyr := v.getLsbD 13
                sum1 := List.replicate 9 0, sum2 := List.replicate 9 0 }

/-- An accepted start: AFE.STSTAT is cleared and the run waits (R212). -/
def stBegun (h : Hw) (v : Word) : Hw := { h.setReg R.AFE_STSTAT 0 with afe := { h.afe with st := stChosen v } }

theorem stBegun_reg (h : Hw) (v : Word) (a : Nat) : (h.stBegun v).reg a = if a = R.AFE_STSTAT then 0 else h.reg a :=
  reg_setReg h R.AFE_STSTAT a 0

theorem stStart_busy (h : Hw) (v : Word) (hb : h.stBusy = true) : h.stStart v = h := if_pos hb

theorem stStart_rejected (h : Hw) (v : Word) (hb : h.stBusy = false) (hr : h.StRejects v) : h.stStart v = h.afeFlag 7 := by
  rw [stStart, if_neg (by simp [hb])]
  exact if_pos ((h.stRejects_iff v).1 hr)

theorem stStart_accepted (h : Hw) (v : Word) (hb : h.stBusy = false) (hr : ¬ h.StRejects v) : h.stStart v = h.stBegun v := by
  rw [stStart, if_neg (by simp [hb])]
  exact if_neg (mt (h.stRejects_iff v).2 hr)

/-- GO is none of the choices of a start. -/
theorem stRejects_go (h : Hw) (v : Word) : h.StRejects (v ||| 0x8000) ↔ h.StRejects v := by simp [StRejects]

theorem stChosen_go (v : Word) : stChosen (v ||| 0x8000) = stChosen v := by
  have h12 : (v ||| 0x8000).getLsbD 12 = v.getLsbD 12 := by simp
  have h13 : (v ||| 0x8000).getLsbD 13 = v.getLsbD 13 := by simp
  rw [stChosen, or_go_lowByte, h12, h13, stChosen]

/-! ### End (R214) -/

/-- The paths that a run tests. -/
def stPaths (h : Hw) : Nat := if h.afe.st.gyr = true then 9 else 6

theorem stPaths_le (h : Hw) : h.stPaths ≤ 9 := by
  unfold stPaths
  split <;> decide

/-- The result of a path from the sums of the run. -/
def stRes (h : Hw) (i : Nat) : Int := stResult i h.afe.st.n (h.afe.st.sum1.getD i 0) (h.afe.st.sum2.getD i 0)

/-- The bits of the failing paths. -/
def stFailed (h : Hw) : Nat := failMask (fun i => h.stPass i h.afe.st.level (h.stRes i)) h.stPaths

theorem stFailed_lt (h : Hw) : h.stFailed < 2 ^ 9 :=
  Nat.lt_of_lt_of_le (failMask_lt _ _) (Nat.pow_le_pow_right (by decide) h.stPaths_le)

/-- The results stored. -/
def stStored (h : Hw) : Hw := (List.range h.stPaths).foldl (fun g i => g.setReg (R.AFE_STRES_FX + i) (wdI (h.stRes i))) h

/-- The results stored, the run over and STDONE set. -/
def stOver (h : Hw) : Hw := { h.stStored with afe := { h.stStored.afe with st := stNone } }.afeFlag 4

/-- The results lie above the other registers that a run writes. -/
theorem stres_ne {c : Nat} (i : Nat) (hc : c < R.AFE_STRES_FX) : R.AFE_STRES_FX + i ≠ c :=
  Nat.ne_of_gt (Nat.lt_add_right i hc)

/-- The end of a release phase with L samples (R214). -/
theorem stDone_released (h : Hw) (hp : h.afe.st.phase = 3) (ha : h.afe.st.aborted = false) (hd : h.afe.st.abortDue = false)
    (hk : h.groupLen 0 ≤ h.afe.st.k) : h.stDone =
      if h.stFailed = 0 then h.stOver.setReg R.AFE_STSTAT 0x8000
      else (h.stOver.setReg R.AFE_STSTAT (wd (0x4000 + h.stFailed))).afeFlag 5 := by
  rw [stDone]
  exact if_pos (by simp [hp, ha, hd, hk])

theorem stStored_pwr (h : Hw) : h.stStored.pwr = h.pwr :=
  foldl_keeps (·.pwr) (fun (g : Hw) i => g.setReg (R.AFE_STRES_FX + i) (wdI (h.stRes i))) (fun _ _ => rfl) _ _

/-- What holds once a run is over: no run, STDONE, and the results of its paths. -/
theorem stOver_spec (h : Hw) (hl : h.live .sense = true) : h.stOver.stBusy = false ∧ h.stOver.b R.AFE_IFLAG 4 = true ∧
    ∀ i, i < h.stPaths → h.stOver.reg (R.AFE_STRES_FX + i) = wdI (h.stRes i) := by
  refine ⟨?_, ?_, fun i hi => ?_⟩
  · rw [stBusy, stOver, afeFlag, raise_afe]
    rfl
  · exact raise_b_same _ 0x10 4 (by decide)
      (pageLive_of_live _ 0x10 .afe rfl ((live_of_pwr (h := h) h.stStored_pwr .sense).trans hl))
  · rw [stOver, afeFlag, reg_raise_ne _ _ _ _ (stres_ne i (by decide))]
    exact reg_foldl_setReg h _ _ i (fun i => wdI (h.stRes i)) hi

/-- The word of a FAIL: the bits of up to nine channels reach neither FAIL nor PASS (R214). -/
theorem getLsbD_failWord (m : Nat) (hm : m < 2 ^ 9) :
    (wd (0x4000 + m)).getLsbD 15 = false ∧ (wd (0x4000 + m)).getLsbD 14 = true := by
  rw [getLsbD_wd _ _ (by decide), getLsbD_wd _ _ (by decide)]
  exact ⟨Nat.testBit_lt_two_pow (by omega), (Nat.testBit_two_pow_add_eq m 14).trans
    (by rw [Nat.testBit_lt_two_pow (by omega : m < 2 ^ 14)]; rfl)⟩

/-- A run that ends keeps its results under the verdict, PASS or FAIL (R214). -/
theorem stDone_spec (h : Hw) (hl : h.live .sense = true) (hp : h.afe.st.phase = 3) (ha : h.afe.st.aborted = false)
    (hd : h.afe.st.abortDue = false) (hk : h.groupLen 0 ≤ h.afe.st.k) :
    h.stDone.stBusy = false ∧ h.stDone.b R.AFE_IFLAG 4 = true ∧
      h.stDone.b R.AFE_STSTAT 15 = !h.stDone.b R.AFE_STSTAT 14 ∧
      (∀ i, i < h.stPaths → h.stDone.reg (R.AFE_STRES_FX + i) = wdI (h.stRes i)) ∧
      (h.stDone.b R.AFE_STSTAT 15 = true ↔
        ∀ i, i < h.stPaths → h.stPass i h.afe.st.level (h.stRes i) = true) := by
  obtain ⟨hbusy, hflag, hres⟩ := h.stOver_spec hl
  have hkeep (w : Word) : (h.stOver.setReg R.AFE_STSTAT w).b R.AFE_IFLAG 4 = true :=
    (b_setReg_ne _ _ _ _ _ (by decide)).trans hflag
  have hstored (w : Word) (i : Nat) (hi : i < h.stPaths) :
      (h.stOver.setReg R.AFE_STSTAT w).reg (R.AFE_STRES_FX + i) = wdI (h.stRes i) :=
    (reg_setReg_ne _ _ _ _ (stres_ne i (by decide))).trans (hres i hi)
  rw [stDone_released h hp ha hd hk, ← failMask_eq_zero_iff fun i => h.stPass i h.afe.st.level (h.stRes i)]
  by_cases h0 : h.stFailed = 0
  · have hverdict (j : Nat) : (h.stOver.setReg R.AFE_STSTAT 0x8000).b R.AFE_STSTAT j = (0x8000 : Word).getLsbD j := by
      rw [b, reg_setReg_same]
    rw [if_pos h0, hverdict, hverdict]
    exact ⟨hbusy, hkeep _, rfl, hstored _, iff_of_true rfl h0⟩
  · have hverdict (j : Nat) : ((h.stOver.setReg R.AFE_STSTAT (wd (0x4000 + h.stFailed))).afeFlag 5).b R.AFE_STSTAT j =
        (wd (0x4000 + h.stFailed)).getLsbD j := by
      rw [b, afeFlag, reg_raise_ne _ _ _ _ (by decide), reg_setReg_same]
    obtain ⟨h15, h14⟩ := getLsbD_failWord h.stFailed h.stFailed_lt
    rw [if_neg h0, hverdict, hverdict, h15, h14]
    refine ⟨?_, raise_b_mono _ _ _ _ _ (hkeep _), rfl, fun i hi => ?_, iff_of_false Bool.false_ne_true h0⟩
    · rw [stBusy, afeFlag, raise_afe]
      exact hbusy
    · rw [afeFlag, reg_raise_ne _ _ _ _ (stres_ne i (by decide))]
      exact hstored _ i hi

end Hw

/-- Settles O34: the start by the cases of `stStart`, the end by `stDone_spec`. -/
theorem selfTestStartsAndReports : Obligations.SelfTestStartsAndReports := by
  intro s
  refine ⟨fun p v ha hb => done_congr ?busy, fun p v ha hb => ⟨fun hr => done_congr ?rejected, fun hr => ?accepted⟩,
    fun hl hp ha hd hk => ⟨_, done_congr (if_pos hl), s.hw.stDone_spec hl hp ha hd hk⟩⟩
  case busy => rw [s.hw.writeRow_stctl_go p v ha, Hw.stStart_busy (s.hw.setReg R.AFE_STCTL _) _ hb]
  case rejected =>
    rw [s.hw.writeRow_stctl_go p v ha, Hw.stStart_rejected (s.hw.setReg R.AFE_STCTL _) _ hb ((Hw.stRejects_go _ v).2 hr)]
    rfl
  case accepted =>
    have hbegun : s.hw.writeRow p R.AFE_STCTL (v ||| 0x8000) = (s.hw.setReg R.AFE_STCTL (v &&& 0x30FF)).stBegun v := by
      rw [s.hw.writeRow_stctl_go p v ha,
        Hw.stStart_accepted (s.hw.setReg R.AFE_STCTL _) _ hb (mt (Hw.stRejects_go _ v).1 hr), Hw.stBegun, Hw.stChosen_go]
      rfl
    have hstctl : ((s.hw.setReg R.AFE_STCTL (v &&& 0x30FF)).stBegun v).reg R.AFE_STCTL = v &&& 0x30FF := by
      rw [Hw.stBegun_reg, if_neg (by decide), Hw.reg_setReg_same]
    exact ⟨_, done_congr hbegun, Hw.stBegun_reg _ _ _, rfl, rfl, rfl, rfl, hstctl, rfl⟩

end Sys2Proof.Machine

/-! ## Proofs: output instants and samples (O35) -/

namespace Sys2Proof.Machine
namespace Hw

/-- What both branches of a choice leave, the choice leaves. -/
theorem ite_keeps {β : Type} (φ : Hw → β) {c : Prop} [Decidable c] {x y : Hw} {v : β} (hx : φ x = v) (hy : φ y = v) :
    φ (if c then x else y) = v := by
  split
  · exact hx
  · exact hy

/-! ### The S output register (R235) -/

@[simp] theorem stAbort_dec (h : Hw) : h.stAbort.dec = h.dec := ite_keeps Hw.dec rfl rfl

theorem flightLoad_empty (h : Hw) (hf : h.dec.flight = []) : h.flightLoad = h := by
  unfold flightLoad
  rw [hf]

/-- The oldest instant under way stays while one of its groups is not done, and else its sample is loaded (R235, R238). -/
theorem flightLoad_cons (h : Hw) (f : Flight) (l : List Flight) (hf : h.dec.flight = f :: l) :
    (f.done ≠ f.groups → h.flightLoad = h) ∧
      (f.done = f.groups → h.flightLoad.dec = { h.dec with flight := l, sout := some (h.sampleOf f) }) := by
  unfold flightLoad
  rw [hf]
  refine ⟨fun hd => if_neg hd, fun hd => (congrArg Hw.dec (if_pos hd)).trans ?_⟩
  refine ite_keeps Hw.dec ((stAbort_dec _).trans ?_) ?_ <;> simp only [setFlight, raiseIf_dec]

/-- The decimators, the new-sample marks, and the instant of the sample that became valid. -/
structure SampleView where
  dec : Dec
  newSample : BitVec 10
  sampleT : Option Nat

/-- What the recognizers and the buffer writer leave. -/
def sensed (h : Hw) : SampleView := { dec := h.dec, newSample := h.newSample, sampleT := h.sampleT }

/-- What a load leaves: all but the instants under way and the S output register. -/
def besideOutput (h : Hw) : SampleView := { h.sensed with dec := { h.dec with flight := [], sout := none } }

theorem flightLoad_besideOutput (h : Hw) : h.flightLoad.besideOutput = h.besideOutput := by
  unfold flightLoad
  split
  · refine ite_keeps besideOutput (ite_keeps besideOutput (ite_keeps besideOutput ?_ ?_) ?_) rfl <;>
      simp [besideOutput, sensed, setFlight]
  · rfl

/-! ### The values of a sample (R199) -/

theorem rangeLimit_pos (m : Nat) : 0 < rangeLimit m := by
  by_cases hm : m < 7
  · revert m
    decide
  · rw [rangeLimit, List.getD_eq_default _ _ (by simpa using hm)]
    decide

theorem taintLimit_bounds (h : Hw) (f : Flight) (i : Nat) (v : Int) (hv : h.taintLimit f i = some v) :
    -(rangeLimit h.clampMode : Int) ≤ v ∧ v ≤ rangeLimit h.clampMode - 1 := by
  have hpos := rangeLimit_pos h.clampMode
  unfold taintLimit at hv
  dsimp only at hv
  split_ifs at hv <;> simp only [Option.some.injEq] at hv <;> omega

/-- An accelerometer value lies within the limits of the range mode in force (R199). -/
theorem outputOf_acc_bounds (h : Hw) (f : Flight) (i : Nat) (hi : i < 3) :
    -(rangeLimit h.clampMode : Int) ≤ (h.outputOf f i).1 ∧ (h.outputOf f i).1 ≤ rangeLimit h.clampMode - 1 := by
  have hpos := rangeLimit_pos h.clampMode
  rw [outputOf, if_pos hi]
  split
  · next v hv => exact h.taintLimit_bounds f i v hv
  · exact clampI_bounds _ _ _ (by omega)

theorem vals_sampleOf (h : Hw) (f : Flight) (i : Nat) (hi : i < 8) :
    (h.sampleOf f).vals[i] = if f.groups.getLsbD (chGroup i) = true then (h.outputOf f i).1 else 0 := by
  simp [sampleOf]

/-- The accelerometer values of a loaded sample lie within the limits of the range mode in force (R199, R247). -/
theorem sampleOf_acc_bounds (h : Hw) (f : Flight) (i : Fin 3) (hg : f.groups.getLsbD 0 = true) :
    -(rangeLimit h.clampMode : Int) ≤ (h.sampleOf f).vals[i.val] ∧
      (h.sampleOf f).vals[i.val] ≤ rangeLimit h.clampMode - 1 := by
  have hacc : chGroup i = 0 := if_pos i.isLt
  rw [vals_sampleOf, hacc, if_pos hg]
  exact h.outputOf_acc_bounds f i i.isLt

/-! ### The boundary and the next instant (R233, R238) -/

theorem gridNext_eq_true_iff (h : Hw) (t : Nat) : h.gridNext t = true ↔
    h.onGrid t 8 = true ∧ ∀ n, h.dec.nextT = some n → h.gridFrom n = t := by
  unfold gridNext
  cases h.dec.nextT <;> simp

/-- What a boundary leaves: the power state and the S output register. -/
def powerAndOutput (h : Hw) : Pwr × Option Sample := (h.pwr, h.dec.sout)

theorem boundary_powerAndOutput (h : Hw) (t : Nat) : (h.boundary t).powerAndOutput = h.powerAndOutput := by
  unfold boundary
  extract_lets gs odr restart chen xbcfg gyrOn oldResp _ _ _ h1 due sw resp _ h2 h3 h4 h5 h5' h5'' h6
  have e3 : h3.powerAndOutput = h.powerAndOutput :=
    ite_keeps powerAndOutput rfl (ite_keeps powerAndOutput rfl (ite_keeps powerAndOutput rfl rfl))
  have e4 : h4.powerAndOutput = h.powerAndOutput := ite_keeps powerAndOutput e3 e3
  have e5 : h5.powerAndOutput = h.powerAndOutput := ite_keeps powerAndOutput e4 e4
  have e5' : h5'.powerAndOutput = h.powerAndOutput := ite_keeps powerAndOutput (ite_keeps powerAndOutput e5 e5) e5
  have e5'' : h5''.powerAndOutput = h.powerAndOutput := ite_keeps powerAndOutput e5' e5'
  have e6 : h6.powerAndOutput = h.powerAndOutput := ite_keeps powerAndOutput e5'' e5''
  exact ite_keeps powerAndOutput e6 e6

/-! ### An output instant (R230, R235) -/

theorem stSample_dec (h : Hw) (paths : List Int) (bad : Bool) : (h.stSample paths bad).dec = h.dec := by
  unfold stSample
  extract_lets s l set
  refine ite_keeps Hw.dec rfl (ite_keeps Hw.dec rfl ?_)
  split
  · exact ite_keeps Hw.dec (raise_dec _ _ _) rfl
  · exact ite_keeps Hw.dec rfl rfl

/-- The state in which an instant has entered the FIR and the values complete with it are filled in. -/
def instantEntered (h : Hw) (x : InstantIn) (due : BitVec 4) (acc : Vector AxisOut 3) (coarse : V3) (chg : Bool) : Hw :=
  let g := (h.instantShift due acc).flightEnter x.t due coarse chg
  { g with dec := { g.dec with flight := g.dec.flight.map g.flightFill } }

/-- An instant enters the FIR, raises flags, and is followed by a load. -/
theorem instantRun_dec (h : Hw) (x : InstantIn) (due : BitVec 4) :
    ∃ (acc : Vector AxisOut 3) (coarse : V3) (chg : Bool) (g : Hw), g.dec = (h.instantEntered x due acc coarse chg).dec ∧
      g.clampMode = h.clampMode ∧ (h.instantRun x due).dec = g.flightLoad.dec := by
  unfold instantRun
  extract_lets acc accDue chg rev fovlRise coarse h1 _ h2 h3 h4
  refine ⟨acc, coarse, chg, h3, ?_, ?_, ite_keeps Hw.dec (stSample_dec _ _ _) rfl⟩
  · simp only [h3, raiseIf_dec]
    rfl
  · simp only [h3, clampMode, raiseIf_pwr, raiseIf_afe]
    rfl

/-- The instant is the youngest under way, with the marks that belong to it (R242). -/
theorem flight_instantEntered (h : Hw) (x : InstantIn) (due : BitVec 4) (acc : Vector AxisOut 3) (coarse : V3) (chg : Bool) :
    ∃ (l : List Flight) (f : Flight), (h.instantEntered x due acc coarse chg).dec.flight = l ++ [f] ∧
      l.length = h.dec.flight.length ∧ f.t = x.t ∧ f.groups = due ∧ f.draft = h.pwr.draft ∧
      f.warm = h.warmBits &&& due :=
  ⟨_, _, List.map_append, by simp [instantShift], rfl, rfl, rfl, rfl⟩

/-- What an output instant of the groups `due` does (R235, R242, R246): it is the youngest of the instants under way, and the
load takes the oldest of them. -/
theorem instantRun_spec (h : Hw) (x : InstantIn) (due : BitVec 4) (g : Hw) (hg : g = h.instantRun x due) :
    g.dec.lastT = some x.t ∧ g.dec.nextT = some (x.t + periodOf h.fastest) ∧ g.dec.gap = none ∧
      ∃ (l : List Flight) (f : Flight), l.length = h.dec.flight.length + 1 ∧ l.getLast? = some f ∧ f.t = x.t ∧
        f.groups = due ∧ f.draft = h.pwr.draft ∧ f.warm = h.warmBits &&& due ∧
        ∀ o, l.head? = some o →
          (o.done ≠ o.groups → g.dec.flight = l ∧ g.dec.sout = h.dec.sout) ∧
          (o.done = o.groups → g.dec.flight = l.tail ∧
            ∃ k : Hw, g.dec.sout = some (k.sampleOf o) ∧ k.clampMode = h.clampMode) := by
  subst hg
  obtain ⟨acc, coarse, chg, k, hk, hmode, hrun⟩ := h.instantRun_dec x due
  obtain ⟨l, f, hl, hlen, ht, hgroups, hdraft, hwarm⟩ := h.flight_instantEntered x due acc coarse chg
  have hbeside := k.flightLoad_besideOutput
  have hold : k.dec.sout = h.dec.sout := by rw [hk]; rfl
  rw [hrun]
  refine ⟨?_, ?_, ?_, l ++ [f], f, by simp [hlen], by simp, ht, hgroups, hdraft, hwarm, fun o ho => ?_⟩
  · exact (congrArg (·.dec.lastT) hbeside).trans (congrArg Dec.lastT hk)
  · exact (congrArg (·.dec.nextT) hbeside).trans (congrArg Dec.nextT hk)
  · exact (congrArg (·.dec.gap) hbeside).trans (congrArg Dec.gap hk)
  · obtain ⟨rest, hrest⟩ := List.head?_eq_some_iff.1 ho
    have hflight : k.dec.flight = o :: rest := by rw [hk, hl, hrest]
    obtain ⟨hwait, hload⟩ := k.flightLoad_cons o rest hflight
    refine ⟨fun hd => ?_, fun hd => ?_⟩
    · rw [hwait hd, hrest]
      exact ⟨hflight, hold⟩
    · rw [hload hd, hrest]
      exact ⟨rfl, k, rfl, hmode⟩

/-- The state after the boundary of an instant, with its temperature and its bits taken in (R233, R235). -/
def instantBoundary (h : Hw) (x : InstantIn) : Hw :=
  ((if h.onGrid x.t 0 = true then h.setReg R.AFE_TEMP x.temp else h).feedBits x).boundary x.t

theorem feedBits_powerAndOutput (h : Hw) (x : InstantIn) : (h.feedBits x).powerAndOutput = h.powerAndOutput := rfl

theorem instantBoundary_powerAndOutput (h : Hw) (x : InstantIn) : (h.instantBoundary x).powerAndOutput = h.powerAndOutput :=
  (boundary_powerAndOutput _ x.t).trans ((feedBits_powerAndOutput _ x).trans (ite_keeps powerAndOutput rfl rfl))

/-- Nothing is produced without S-loop lock, off the grid or out of its order (R91, R238). -/
theorem outputInstant_idle (h : Hw) (x : InstantIn)
    (hno : h.live .sense = false ∨ h.clk.slock = false ∨ h.gridNext x.t = false) : h.outputInstant x = h := by
  unfold outputInstant
  exact if_pos (by simpa [or_assoc] using hno)

theorem outputInstant_next (h : Hw) (x : InstantIn) (hl : h.live .sense = true) (hs : h.clk.slock = true)
    (hn : h.gridNext x.t = true) : h.outputInstant x =
      if (h.instantBoundary x).groupsDue x.t = 0 then h.instantBoundary x
      else (h.instantBoundary x).instantRun x ((h.instantBoundary x).groupsDue x.t) := by
  unfold outputInstant
  rw [if_neg (by simp [hl, hs, hn])]
  rfl

/-! ### What evaluates a sample leaves the decimators (R263, R280, R329) -/

theorem raise_sensed (h : Hw) (pg bit : Nat) : (h.raise pg bit).sensed = h.sensed := by simp [sensed]

theorem event_sensed (h : Hw) (e : Nat) : (h.event e).sensed = h.sensed := by simp [sensed]

/-- A recognizer reports by an event and a flag of the REC page. -/
theorem eventFlag_sensed (h : Hw) (e bit : Nat) : ((h.event e).recFlag bit).sensed = h.sensed :=
  (raise_sensed _ _ _).trans (event_sensed _ _)

theorem winSample_sensed (h : Hw) (s : Sample) (n : Nat) : (h.winSample s n).sensed = h.sensed := by
  unfold winSample
  extract_lets cfg w
  exact ite_keeps sensed rfl (ite_keeps sensed rfl (ite_keeps sensed (ite_keeps sensed rfl rfl)
    (ite_keeps sensed (ite_keeps sensed (eventFlag_sensed _ _ _) rfl) rfl)))

theorem tapSample_sensed (h : Hw) (s : Sample) : (h.tapSample s).sensed = h.sensed := by
  unfold tapSample
  extract_lets t _ set a cfg t0 thr p2 tc
  refine ite_keeps sensed rfl (ite_keeps sensed rfl ?_)
  split
  extract_lets t2 h1 h2
  have e2 : h2.sensed = h.sensed := ite_keeps sensed (eventFlag_sensed h1 44 8) rfl
  exact ite_keeps sensed ((eventFlag_sensed h2 45 9).trans e2) e2

theorem msSample_sensed (h : Hw) (s : Sample) : (h.msSample s).sensed = h.sensed := by
  unfold msSample
  extract_lets
  exact ite_keeps sensed rfl (ite_keeps sensed rfl (ite_keeps sensed
    (ite_keeps sensed (eventFlag_sensed _ 46 10) rfl) (ite_keeps sensed (eventFlag_sensed _ 47 11) rfl)))

theorem fallSample_sensed (h : Hw) (s : Sample) : (h.fallSample s).sensed = h.sensed := by
  unfold fallSample
  extract_lets f _ set n c h1
  have e1 : h1.sensed = h.sensed := eventFlag_sensed _ 48 12
  refine ite_keeps sensed rfl (ite_keeps sensed rfl (ite_keeps sensed
    (ite_keeps sensed rfl (ite_keeps sensed rfl rfl)) (ite_keeps sensed (ite_keeps sensed e1 ?_) ?_)))
  · exact (raise_sensed _ _ _).trans e1
  · split
    exact ite_keeps sensed (raise_sensed _ _ _) rfl

theorem setLatch_sensed (h : Hw) (typ ev t : Nat) : (h.setLatch typ ev t).sensed = h.sensed := by
  unfold setLatch
  extract_lets _ h1 h2
  have e2 : h2.sensed = h.sensed := by simp [sensed, h2, h1]
  refine ite_keeps sensed rfl (ite_keeps sensed ?_ e2)
  exact (event_sensed _ 61).trans ((raise_sensed _ _ _).trans e2)

theorem reflexFire_sensed (h : Hw) (typ ev t : Nat) : (h.reflexFire typ ev t).sensed = h.sensed :=
  ite_keeps sensed (raise_sensed _ _ _) (setLatch_sensed h typ ev t)

theorem draftSample_sensed (h : Hw) (s : Sample) : (h.draftSample s).sensed = h.sensed := by
  unfold draftSample
  extract_lets _ sh fa shock low n c fall h1
  have hfire (typ : Nat) : ((h1.reflexFlag 1).reflexFire typ 0 s.t).sensed = h.sensed :=
    (reflexFire_sensed _ _ _ _).trans (raise_sensed _ _ _)
  exact ite_keeps sensed rfl (ite_keeps sensed rfl (ite_keeps sensed (hfire 2) (ite_keeps sensed (hfire 3) rfl)))

/-- In draft the draft detectors and else the recognizers see a sample; none of them touches it (R264). -/
theorem recSample_sensed (h : Hw) (s : Sample) : (h.recSample s).sensed = h.sensed := by
  have hwins : ((List.range 8).foldl (fun g n => g.winSample s n) h).sensed = h.sensed :=
    foldl_keeps sensed _ (fun g n => winSample_sensed g s n) _ h
  exact ite_keeps sensed (draftSample_sensed h s) (ite_keeps sensed rfl
    ((fallSample_sensed _ s).trans ((msSample_sensed _ s).trans ((tapSample_sensed _ s).trans hwins))))

theorem bufFlag_sensed (h : Hw) (bit : Nat) : (h.bufFlag bit).sensed = h.sensed := raise_sensed _ _ _

theorem snapStep_sensed (h : Hw) : h.snapStep.sensed = h.sensed := by
  unfold snapStep
  exact ite_keeps sensed rfl (ite_keeps sensed ((event_sensed _ _).trans (bufFlag_sensed _ _)) rfl)

theorem overrunPorts_sensed (h : Hw) : h.overrunPorts.sensed = h.sensed := by
  -- As in `overrunPorts_still`: the overruns are generalized before the kernel could evaluate `wp - bufCap`.
  rw [show overrunPorts = _ by delta overrunPorts; rfl]
  generalize h.overrun h.buf.portA = x
  generalize h.overrun h.buf.portB = y
  obtain ⟨a, pa⟩ := x
  obtain ⟨b, pb⟩ := y
  have hcount (g : Hw) (n reg bit : Nat) : (if n = 0 then g else (g.countBy reg n).bufFlag bit).sensed = g.sensed :=
    ite_keeps sensed rfl (bufFlag_sensed _ _)
  exact (hcount _ b _ _).trans (hcount { h with buf := { h.buf with portA := pa, portB := pb } } a _ _)

theorem putRecord_sensed (h : Hw) (d : Draft) : (h.putRecord d).sensed = h.sensed := by
  unfold putRecord
  extract_lets _ _ _ _ _ _ h1
  have e1 : h1.sensed = h.sensed := rfl
  clear_value h1
  exact ite_keeps sensed ((overrunPorts_sensed h1).trans e1) e1

theorem writeRecord_sensed (h : Hw) (d : Draft) : (h.writeRecord d).sensed = h.sensed :=
  ite_keeps sensed rfl (ite_keeps sensed (bufFlag_sensed _ _) ((snapStep_sensed _).trans (putRecord_sensed h d)))

theorem watermarks_sensed (h : Hw) (x y : Nat) : (h.watermarks x y).sensed = h.sensed := by
  unfold watermarks
  extract_lets _ _ _ h1
  have e1 : h1.sensed = h.sensed := by simp [sensed, h1]
  exact ite_keeps sensed ((event_sensed _ _).trans e1) e1

theorem bufSample_sensed (h : Hw) (s : Sample) : (h.bufSample s).sensed = h.sensed := by
  unfold bufSample
  extract_lets h0 smp recover gaps anchor _ h1
  exact ite_keeps sensed rfl ((watermarks_sensed _ _ _).trans (foldl_keeps sensed _ writeRecord_sensed _ h1))

/-! ### A sample becomes valid in E (R262, R303) -/

/-- The new-sample marks of a sample: its channels, and the two magnitudes with their groups. -/
def freshMarks (gs : BitVec 4) : BitVec 10 :=
  (List.range 10).foldl (fun w i =>
    if gs.getLsbD (if i = 8 then 0 else if i = 9 then 1 else chGroup i) then w ||| (1#10 <<< i) else w) 0

theorem getLsbD_freshMarks : ∀ (gs : BitVec 4) (i : Nat), i < 8 →
    (freshMarks gs).getLsbD i = gs.getLsbD (chGroup i) := by
  decide

/-- The values of a sample replace those before, its marks rise, and what follows it is a load (R262, R303). -/
theorem sampleValid_spec (h : Hw) (m : Sample) (hm : h.dec.sout = some m) (hl : h.live .sense = true) :
    ∃ k : Hw, h.sampleValid = k.flightLoad ∧ k.dec.sout = none ∧ k.dec.flight = h.dec.flight ∧
      (∀ i : Fin 8, k.dec.vals[i] = if m.groups.getLsbD (chGroup i) = true then m.seen[i] else h.dec.vals[i]) ∧
      k.newSample = h.newSample ||| freshMarks m.groups ∧ k.sampleT = some m.t := by
  unfold sampleValid
  split
  · next hn => rw [hm] at hn; cases hn
  · next s hs =>
    obtain rfl : m = s := Option.some.inj (hm.symm.trans hs)
    rw [if_neg (by simp [hl])]
    extract_lets has fresh _ h1 h2 h3
    have e2 : h2.sensed = h1.sensed := ite_keeps sensed rfl rfl
    have e3 : h3.sensed = h1.sensed := ite_keeps sensed ((event_sensed _ _).trans e2) e2
    have e : ((h3.recSample m).bufSample m).sensed = h1.sensed :=
      (bufSample_sensed _ m).trans ((recSample_sensed h3 m).trans e3)
    obtain ⟨hdec, hnew, ht⟩ := SampleView.mk.inj e
    refine ⟨_, rfl, ?_, ?_, fun i => ?_, hnew, ht⟩ <;> rw [hdec]
    simp [h1, has]

end Hw

/-- Settles O35: an instant by `outputInstant_next` and `instantRun_spec`, a sample by
`sampleValid_spec` and the cases of a load. -/
theorem samplesLoadAndBecomeValid : Obligations.SamplesLoadAndBecomeValid := by
  refine ⟨fun s x => ⟨fun hno => done_congr ?idle, fun hl hs hg hn => ?next⟩,
    fun s => ⟨fun hm => done_congr ?none, fun m hm hl => ?valid⟩⟩
  case idle =>
    refine s.hw.outputInstant_idle x (hno.imp_right (Or.imp_right fun hgrid => Bool.eq_false_iff.2 fun hnext => ?_))
    obtain ⟨hg, hn⟩ := (s.hw.gridNext_eq_true_iff x.t).1 hnext
    obtain hg' | ⟨n, hsome, hne⟩ := hgrid
    · exact Bool.false_ne_true (hg'.symm.trans hg)
    · exact hne (hn n hsome)
  case next =>
    have hrun := s.hw.outputInstant_next x hl hs ((s.hw.gridNext_eq_true_iff x.t).2 ⟨hg, hn⟩)
    obtain ⟨hpwr, hsout⟩ := Prod.mk.inj (s.hw.instantBoundary_powerAndOutput x)
    refine ⟨_, s.hw.instantBoundary x, rfl, rfl, fun h0 => hrun.trans (if_pos h0), fun h0 => ?_⟩
    obtain ⟨hlast, hnext, hgap, l, f, hlen, hyoung, ht, hgroups, hdraft, hwarm, hold⟩ :=
      (s.hw.instantBoundary x).instantRun_spec x _ _ (hrun.trans (if_neg h0))
    refine ⟨hlast, hnext, hgap, l, f, hlen, hyoung, ht, hgroups, hpwr ▸ hdraft, hwarm, fun o ho => ?_⟩
    obtain ⟨hwait, hload⟩ := hold o ho
    refine ⟨fun hd => hsout ▸ hwait hd, fun hd => ?_⟩
    obtain ⟨hrest, k, hm, hmode⟩ := hload hd
    refine ⟨hrest, _, hm, rfl, rfl, rfl, rfl, fun i hi => ?_, fun i hi => hmode ▸ k.sampleOf_acc_bounds o i hi⟩
    exact (k.vals_sampleOf o i i.isLt).trans (if_neg (Bool.eq_false_iff.1 hi))
  case none =>
    unfold Hw.sampleValid
    rw [hm]
  case valid =>
    obtain ⟨k, hk, hsout, hflight, hvals, hnew, ht⟩ := s.hw.sampleValid_spec m hm hl
    have hbeside := k.flightLoad_besideOutput
    refine ⟨_, done_congr hk, fun he => ?_, fun f l hf => ?_, fun i => ?_, fun i hi => ?_,
      (congrArg (·.sampleT) hbeside).trans ht⟩
    · rw [k.flightLoad_empty (hflight.trans he), hsout]
    · obtain ⟨hwait, hload⟩ := k.flightLoad_cons f l (hflight.trans hf)
      refine ⟨fun hd => ?_, fun hd => ?_⟩
      · rw [hwait hd]
        exact ⟨hsout, hflight.trans hf⟩
      · rw [hload hd]
        exact ⟨rfl, rfl⟩
    · exact (congrArg (·.dec.vals[i]) hbeside).trans (hvals i)
    · have hmarks : k.flightLoad.newSample = k.newSample := congrArg (·.newSample) hbeside
      rw [hmarks, hnew, BitVec.getLsbD_or, Hw.getLsbD_freshMarks m.groups i hi]

end Sys2Proof.Machine

/-! ## Proofs: the STOP_N latch and the thresholds (O37) -/

namespace Sys2Proof.Machine
namespace Hw

/-! ### Setting the latch (R281, R284) -/

theorem setLatch_of_set (h : Hw) (typ ev t : Nat) (hs : h.latch.set = true) : h.setLatch typ ev t = h := if_pos hs

/-- The latch is set with its cause record. -/
def withCause (h : Hw) (typ ev : Nat) : Hw :=
  { h with latch := { h.latch with set := true, typ := typ, ev := ev, setAt := h.now } }

/-- The latch is set, and its STOP_SET entry is written. -/
def latched (h : Hw) (typ ev : Nat) : Hw := (h.withCause typ ev).diaryAdd 6 (causeWord (h.withCause typ ev).latch) 0

theorem setLatch_released (h : Hw) (typ ev t : Nat) (hs : h.latch.set = false) : h.setLatch typ ev t =
    if 1 ≤ typ && typ ≤ 3 then { ((h.latched typ ev).raise 0x15 0).event 61 with alarmReq := some t }
    else h.latched typ ev :=
  if_neg (by simp [hs])

theorem latch_latched (h : Hw) (typ ev : Nat) :
    (h.latched typ ev).latch = { set := true, typ := typ, ev := ev, why := h.latch.why, setAt := h.now } :=
  diaryAdd_latch _ _ _ _

/-- From the released state the cause record is written, whatever the type. -/
theorem latch_setLatch (h : Hw) (typ ev t : Nat) (hs : h.latch.set = false) : (h.setLatch typ ev t).latch =
    { set := true, typ := typ, ev := ev, why := h.latch.why, setAt := h.now } := by
  rw [setLatch_released h typ ev t hs]
  refine ite_keeps Hw.latch ?_ (latch_latched h typ ev)
  exact (event_latch _ _).trans ((raise_latch _ _ _).trans (latch_latched h typ ev))

/-- Types 1 to 3 request an alarm and set FIRED while SENSE runs. -/
theorem setLatch_alarming (h : Hw) (typ ev t : Nat) (hs : h.latch.set = false) (h1 : 1 ≤ typ) (h3 : typ ≤ 3) :
    (h.setLatch typ ev t).alarmReq = some t ∧
      (h.live .sense = true → (h.setLatch typ ev t).b R.REFLEX_IFLAG 0 = true) := by
  rw [setLatch_released h typ ev t hs, if_pos (by simp [h1, h3])]
  refine ⟨rfl, fun hl => ?_⟩
  have hp : (h.latched typ ev).pwr = h.pwr := diaryAdd_pwr _ _ _ _
  have hflag : ((h.latched typ ev).raise 0x15 0).b R.REFLEX_IFLAG 0 = true :=
    raise_b_same _ 0x15 0 (by decide) (pageLive_of_live _ 0x15 .reflex rfl ((live_of_pwr hp _).trans hl))
  exact (congrArg (·.getLsbD 0) (event_reg _ 61 R.REFLEX_IFLAG)).trans hflag

/-- The other types request no alarm and raise no event. -/
theorem setLatch_silent (h : Hw) (typ ev t : Nat) (hs : h.latch.set = false) (ht : typ = 0 ∨ 3 < typ) :
    (h.setLatch typ ev t).alarmReq = h.alarmReq ∧ (h.setLatch typ ev t).raised = h.raised := by
  rw [setLatch_released h typ ev t hs, if_neg (by simp; omega)]
  exact ⟨diaryAdd_alarmReq _ _ _ _, diaryAdd_raised _ _ _ _⟩

/-! ### The matrix (R281) -/

theorem lowestEv_eq (m : BitVec 64) (e : Nat) (he : e < 63) (hm : m.getLsbD e = true)
    (hlow : ∀ k, k < e → m.getLsbD k = false) : lowestEv m = e := by
  have hfind : (List.range 63).find? m.getLsbD = some e :=
    List.find?_range_eq_some.2 ⟨hm, List.mem_range.2 he, fun k hk => by rw [hlow k hk]; rfl⟩
  rw [lowestEv, hfind]
  rfl

theorem matrix_idle (h : Hw) (r : BitVec 64)
    (hno : h.pwr.draft = true ∨ h.enabled 0x15 = false ∨ r &&& h.reflexMask = 0) : h.matrix r = h :=
  if_pos (by simpa [or_assoc] using hno)

/-- A selected pulse fires with the lowest number among those selected. -/
theorem matrix_fires (h : Hw) (r : BitVec 64) (e : Nat) (hd : h.pwr.draft = false) (hen : h.enabled 0x15 = true) (he : e < 63)
    (hr : r.getLsbD e = true) (hm : h.reflexMask.getLsbD e = true)
    (hlow : ∀ k, k < e → ¬ (r.getLsbD k = true ∧ h.reflexMask.getLsbD k = true)) :
    h.matrix r = h.reflexFire 1 e h.fireInstant := by
  have hbit : (r &&& h.reflexMask).getLsbD e = true := by rw [BitVec.getLsbD_and, hr, hm]; rfl
  have hne : r &&& h.reflexMask ≠ 0#64 := fun h0 => by simp [h0] at hbit
  have hev : lowestEv (r &&& h.reflexMask) = e :=
    lowestEv_eq _ e he hbit fun k hk => by simpa [BitVec.getLsbD_and] using hlow k hk
  rw [matrix, if_neg (by simp [hd, hen, hne]), hev]

/-! ### FORCE (R284) -/

/-- An accepted write to REFLEX.CTRL without SRST: no locked EN changes, so EN and then the action bits take effect. -/
theorem ctrlWrite_reflex (h : Hw) (v : Word) (h15 : v.getLsbD 15 = false)
    (hl : h.locked 0x15 = true → (h.reg R.REFLEX_CTRL ^^^ v) &&& rwlMask R.REFLEX_CTRL = 0) :
    h.ctrlWrite 0x15 .reflex v = (h.enWrite 0x15 (v.getLsbD 0)).ctrlActions 0x15 .reflex v := by
  have hheld : (h.locked 0x15 && (h.reg R.REFLEX_CTRL ^^^ v) &&& rwlMask R.REFLEX_CTRL != 0) = false := by
    cases hk : h.locked 0x15 with
    | false => rfl
    | true => rw [hl hk]; rfl
  rw [ctrlWrite, if_neg (by rw [h15]; decide)]
  refine congrArg (fun g : Hw => g.ctrlActions 0x15 .reflex v) ?_
  exact (if_neg (by rw [hheld]; decide)).trans (if_pos rfl)

theorem ctrlRow_force (h : Hw) (p : Party) (v : Word) (ha : h.accepts p R.REFLEX_CTRL ((v &&& 0x7FFF) ||| 2)) :
    h.ctrlRow p 0x15 v 2 = (h.enWrite 0x15 (v.getLsbD 0)).setLatch 6 0 0 := by
  obtain ⟨hp, hu, hl, hb⟩ := ha
  have h15 : ((v &&& 0x7FFF) ||| 2).getLsbD 15 = false := by simp
  have h1 : ((v &&& 0x7FFF) ||| 2).getLsbD 1 = true := by simp
  have h0 : ((v &&& 0x7FFF) ||| 2).getLsbD 0 = v.getLsbD 0 := by simp
  rw [ctrlRow, writeRow_ctrl h p 0x15 _ .reflex rfl hp hu hb, ctrlWrite_reflex h _ h15 hl, h0]
  exact if_pos h1

/-! ### Thresholds of a window (R268) -/

/-- The threshold words of window `n` stored under their masks. -/
def thrStored (h : Hw) (n : Nat) (vs : List Word) : Hw :=
  (List.range 4).foldl (fun g i =>
    g.setReg (R.REC_WTHR n + i) (if i % 2 = 1 then vs.getD i 0 &&& 0x00FF else vs.getD i 0)) h

theorem thrStored_eq (h : Hw) (n : Nat) (vs : List Word) : h.thrStored n vs =
    (((h.setReg (R.REC_WTHR n) (wordOf vs 0)).setReg (R.REC_WTHR n + 1) (wordOf vs 1 &&& 0x00FF)).setReg
      (R.REC_WTHR n + 2) (wordOf vs 2)).setReg (R.REC_WTHR n + 3) (wordOf vs 3 &&& 0x00FF) := rfl

theorem reg_thrStored (h : Hw) (n : Nat) (vs : List Word) :
    (h.thrStored n vs).reg (R.REC_WTHR n) = wordOf vs 0 ∧
    (h.thrStored n vs).reg (R.REC_WTHR n + 1) = wordOf vs 1 &&& 0x00FF ∧
    (h.thrStored n vs).reg (R.REC_WTHR n + 2) = wordOf vs 2 ∧
    (h.thrStored n vs).reg (R.REC_WTHR n + 3) = wordOf vs 3 &&& 0x00FF := by
  rw [thrStored_eq]
  refine ⟨?_, ?_, ?_, reg_setReg_same _ _ _⟩ <;> simp [reg_setReg_ne]

theorem reg_thrStored_ne (h : Hw) (n : Nat) (vs : List Word) (a : Nat) (ha : a < R.REC_WTHR n ∨ R.REC_WTHR n + 3 < a) :
    (h.thrStored n vs).reg a = h.reg a := by
  rw [thrStored_eq, reg_setReg_ne _ _ _ _ (by omega), reg_setReg_ne _ _ _ _ (by omega), reg_setReg_ne _ _ _ _ (by omega),
    reg_setReg_ne _ _ _ _ (by omega)]

/-- A threshold of 24 bits from its two words. -/
def thrOf (lo hi : Word) : Int := signed 24 (lo.toNat + 65536 * (hi.toNat % 256))

/-- What is read back of two words stored under the mask of a threshold. -/
theorem thrOf_stored (lo hi : Word) :
    signed 24 ((lo.toNat + 65536 * (hi &&& 0x00FF).toNat) % 16777216) = thrOf lo hi := by
  have hmask : (hi &&& 0x00FF).toNat = hi.toNat % 256 := by
    rw [BitVec.toNat_and]
    exact Nat.and_two_pow_sub_one_eq_mod hi.toNat 8
  rw [hmask, Nat.mod_eq_of_lt (by have := lo.isLt; omega), thrOf]

theorem winHi_thrStored (h : Hw) (n : Nat) (vs : List Word) :
    (h.thrStored n vs).winHi n = thrOf (wordOf vs 0) (wordOf vs 1) := by
  obtain ⟨h0, h1, -, -⟩ := h.reg_thrStored n vs
  rw [winHi, reg32, h0, h1, thrOf_stored]

theorem winLo_thrStored (h : Hw) (n : Nat) (vs : List Word) :
    (h.thrStored n vs).winLo n = thrOf (wordOf vs 2) (wordOf vs 3) := by
  obtain ⟨-, -, h2, h3⟩ := h.reg_thrStored n vs
  rw [winLo, reg32, h2, h3, thrOf_stored]

theorem winThrSet_rejected (h : Hw) (n : Nat) (vs : List Word)
    (hlt : thrOf (wordOf vs 0) (wordOf vs 1) < thrOf (wordOf vs 2) (wordOf vs 3)) : h.winThrSet n vs = h.raise 0x14 15 :=
  if_pos hlt

/-- Accepted thresholds are stored, and the count restarts where one of them changes. -/
theorem winThrSet_stored (h : Hw) (n : Nat) (vs : List Word)
    (hle : thrOf (wordOf vs 2) (wordOf vs 3) ≤ thrOf (wordOf vs 0) (wordOf vs 1)) : h.winThrSet n vs =
      if thrOf (wordOf vs 0) (wordOf vs 1) = h.winHi n && thrOf (wordOf vs 2) (wordOf vs 3) = h.winLo n then h.thrStored n vs
      else (h.thrStored n vs).setWin n { h.winOf n with count := 0 } := if_neg (Int.not_lt.2 hle)

theorem winOf_setWin (h : Hw) (n : Nat) (w : Win) : (h.setWin n w).winOf n = w := by
  simp [winOf, setWin]

theorem winThrSet_spec (h : Hw) (n : Nat) (vs : List Word) (hi lo : Int) (hhi : hi = thrOf (wordOf vs 0) (wordOf vs 1))
    (hlo : lo = thrOf (wordOf vs 2) (wordOf vs 3)) (hle : lo ≤ hi) (g : Hw) (hg : g = h.winThrSet n vs) :
    g.winHi n = hi ∧ g.winLo n = lo ∧
      (g.winOf n).count = (if hi = h.winHi n ∧ lo = h.winLo n then (h.winOf n).count else 0) ∧
      (g.winOf n).inCond = (h.winOf n).inCond ∧
      (∀ a, a < R.REC_WTHR n ∨ R.REC_WTHR n + 3 < a → g.reg a = h.reg a) ∧
      g = { h with regs := g.regs, recog := { h.recog with wins := g.recog.wins } } := by
  subst hhi hlo
  rw [winThrSet_stored h n vs hle] at hg
  simp only [Bool.and_eq_true, decide_eq_true_eq] at hg
  split at hg
  · rename_i hsame
    subst hg
    exact ⟨winHi_thrStored h n vs, winLo_thrStored h n vs, by rw [if_pos hsame]; rfl, rfl, reg_thrStored_ne h n vs, rfl⟩
  · rename_i hdiff
    subst hg
    refine ⟨winHi_thrStored h n vs, winLo_thrStored h n vs, ?_, ?_, reg_thrStored_ne h n vs, rfl⟩
    · rw [winOf_setWin, if_neg hdiff]
    · rw [winOf_setWin]

theorem groupKey_winThr : ∀ n : Fin 8, groupKey (R.REC_WTHR n) 4 = true := by decide

theorem keyWord_winThr (h : Hw) (p : Party) (n : Fin 8) (v : Word) : wordOf (h.groupWords p (R.REC_WTHR n) v) 0 = v := by
  obtain ⟨hg, -, -, h6, -⟩ := (groupKey_iff _ 4).1 (groupKey_winThr n)
  exact (h.wordOf_groupWords p v hg h6 0 (by omega)).trans (if_pos rfl)

theorem commitApply_winThr (h : Hw) (n : Fin 8) (vs : List Word) : h.commitApply (R.REC_WTHR n) vs = h.winThrSet n vs := by
  fin_cases n <;> rfl

end Hw

theorem exec_thresholdCommit (s : State) (p : Party) (n : Fin 8) (v : Word) (ha : s.hw.acceptsKey p (R.REC_WTHR n) v) :
    exec (.thresholdCommit p n v) s = .next (s.after
      ((s.hw.winThrSet n (s.hw.groupWords p (R.REC_WTHR n) v)).groupDone p (R.REC_WTHR n))) :=
  done_congr (by rw [Hw.writeRow_commit _ p _ 4 v (Hw.groupKey_winThr n) ha, Hw.commitApply_winThr])

/-- Settles O37: the latch by the equations of `setLatch`, the matrix by `matrix_fires`, the thresholds by
`winThrSet_spec`. -/
theorem latchKeepsFirstCause : Obligations.LatchKeepsFirstCause := by
  refine ⟨⟨fun h typ ev t => ⟨h.setLatch_of_set typ ev t, fun hs => ⟨h.latch_setLatch typ ev t hs,
      h.setLatch_alarming typ ev t hs, h.setLatch_silent typ ev t hs⟩⟩,
    fun h r => ⟨h.matrix_idle r, fun hd hen e he hr hm hlow => ?matrix⟩,
    fun s p v ha => done_congr (s.hw.ctrlRow_force p v ha)⟩,
    fun s p n v ha vs hi lo hvs hhi hlo => ?thresholds⟩
  case matrix =>
    rw [h.matrix_fires r e hd hen he hr hm hlow]
    exact ⟨fun hs => if_neg (by simp [hs]), fun hs => if_pos hs⟩
  case thresholds =>
    have hhi' : hi = Hw.thrOf (Hw.wordOf vs 0) (Hw.wordOf vs 1) := by
      rw [hhi, Hw.thrOf, show Hw.wordOf vs 0 = v from hvs ▸ s.hw.keyWord_winThr p n v]
    have hexec := exec_thresholdCommit s p n v ha
    rw [← hvs] at hexec
    refine ⟨fun hlt => ?_, fun hle => ⟨_, hexec, s.hw.winThrSet_spec n vs hi lo hhi' hlo hle _ rfl⟩⟩
    rw [hexec, s.hw.winThrSet_rejected n vs (by rw [← hhi', Hw.thrOf, ← hlo]; exact hlt)]

end Sys2Proof.Machine

/-! ## Proofs: the release of the STOP_N latch (O38) -/

namespace Sys2Proof.Machine
namespace Hw

/-! ### The write to REFLEX.RELEASE (R285) -/

theorem writeRow_release (h : Hw) (p : Party) (ha : h.accepts p R.REFLEX_RELEASE 0xC1EA) :
    h.writeRow p R.REFLEX_RELEASE 0xC1EA = h.releaseWrite p 0xC1EA :=
  writeRow_block h p _ _ .reflex (by decide) ha

theorem releaseWrite_released (h : Hw) (p : Party) (hs : h.latch.set = false) : h.releaseWrite p 0xC1EA = h :=
  if_pos (by simp [hs])

theorem releaseWrite_rejected (h : Hw) (p : Party) (c : Nat) (hs : h.latch.set = true)
    (hc : h.relWhy (some (relWho p)) = some c) :
    h.releaseWrite p 0xC1EA = { h with latch := { h.latch with why := c } }.raise 0x15 3 := by
  rw [releaseWrite, if_neg (by simp [hs]), hc]
  rfl

theorem releaseWrite_accepted (h : Hw) (p : Party) (hs : h.latch.set = true) (hc : h.relWhy (some (relWho p)) = none) :
    h.releaseWrite p 0xC1EA = h.clearLatch p.code := by
  rw [releaseWrite, if_neg (by simp [hs]), hc]

/-! ### The order of the conditions (R285) -/

/-- RELHOLD has not passed since the latch was set. -/
def relHolds (h : Hw) : Prop := h.now - h.latch.setAt < h.f R.REFLEX_CFG 11 4 * 8000

/-- A condition that the matrix selects is still held: a window or FALL. -/
def stillHeld (h : Hw) : Bool :=
  ((List.range 8).any fun n => (h.winOf n).inCond && h.reflexMask.getLsbD (36 + n)) ||
    (h.recog.fall.active && h.reflexMask.getLsbD 48)

/-- The party is one that may release; AUTOREL is no party (R287). -/
def mayRelease (h : Hw) : Option Nat → Bool
  | none => true
  | some i => h.b R.REFLEX_CFG i

theorem relWhy_draft (h : Hw) (who : Option Nat) (hd : h.pwr.draft = true) : h.relWhy who = some 1 := if_pos hd

theorem relWhy_holding (h : Hw) (who : Option Nat) (hd : h.pwr.draft = false) (hh : h.relHolds) : h.relWhy who = some 2 :=
  (if_neg (by simp [hd])).trans (if_pos hh)

/-- Past draft and RELHOLD the party decides, and then the held conditions. -/
theorem relWhy_late (h : Hw) (who : Option Nat) (hd : h.pwr.draft = false) (hh : ¬ h.relHolds) :
    h.relWhy who = if h.mayRelease who = false then some 3 else if h.stillHeld = true then some 4 else none := by
  refine (if_neg (by simp [hd])).trans ((if_neg hh).trans ?_)
  cases who with
  | none => rfl
  | some i => cases hi : h.b R.REFLEX_CFG i <;> simp [mayRelease, hi, stillHeld]

theorem autoRelease_accepted (h : Hw) (hu : h.up .sense = true) (hb : h.b R.REFLEX_CFG 15 = true) (hs : h.latch.set = true)
    (hc : h.relWhy none = none) : h.autoRelease = h.clearLatch 0 := if_pos (by simp [hu, hb, hs, hc])

/-! ### The release itself (R286) -/

theorem latch_clearLatch (h : Hw) (who : Nat) : (h.clearLatch who).latch = { h.latch with set := false } :=
  (diaryAdd_latch _ _ _ _).trans (raise_latch _ _ _)

theorem hitcnt_clearLatch (h : Hw) (who : Nat) : (h.clearLatch who).reg R.REFLEX_HITCNT = 0 := by
  rw [clearLatch, reg_diaryAdd_ne _ _ _ _ _ (by decide) (by decide), reg_raise_ne _ _ _ _ (by decide), reg_setReg_same]

/-- RELEASED is set while SENSE runs. -/
theorem released_clearLatch (h : Hw) (who : Nat) (hl : h.live .sense = true) :
    (h.clearLatch who).b R.REFLEX_IFLAG 2 = true := by
  rw [clearLatch, b, reg_diaryAdd_ne _ _ _ _ _ (by decide) (by decide)]
  exact raise_b_same _ 0x15 2 (by decide) (pageLive_of_live _ 0x15 .reflex rfl hl)

theorem lastEntry_clearLatch (h : Hw) (who : Nat) :
    ((h.clearLatch who).diary.entries.getLast?.map fun e => (e.src, e.arg)) = some (7, wd who) := by
  obtain ⟨e, hentries, hsrc, -, harg, -⟩ :=
    (({ h with latch := { h.latch with set := false } }.setReg R.REFLEX_HITCNT 0).raise 0x15 2).diaryAdd_entry 7 (wd who) 0
  rw [clearLatch, hentries, List.getLast?_concat, Option.map_some, hsrc, harg]

end Hw

/-- Settles O38: the cases of `relWhy` in their order, and what `clearLatch` leaves. -/
theorem latchReleaseConditionsInOrder : Obligations.LatchReleaseConditionsInOrder := by
  intro s p ha
  have hrow := s.hw.writeRow_release p ha
  refine ⟨fun hs => done_congr (hrow.trans (s.hw.releaseWrite_released p hs)), fun hs held hheld => ?_, fun h who =>
    ⟨h.latch_clearLatch who, h.hitcnt_clearLatch who, h.released_clearLatch who, h.lastEntry_clearLatch who⟩⟩
  have hheld' : s.hw.stillHeld = held := hheld.symm
  have reject (c : Nat) (hc : s.hw.relWhy (some (Hw.relWho p)) = some c) :=
    (done_congr (hrow.trans (s.hw.releaseWrite_rejected p c hs hc)) : exec (.release p) s = _)
  refine ⟨fun hd => reject 1 (s.hw.relWhy_draft _ hd), fun hd hh => reject 2 (s.hw.relWhy_holding _ hd hh),
    fun hd hh => ?_⟩
  have late (who : Option Nat) := s.hw.relWhy_late who hd (Nat.not_lt.2 hh)
  refine ⟨fun hb => reject 3 ?_, fun hb hk => reject 4 ?_, fun hb hk => ?_, fun hb hk hu => ?_⟩
  · rw [late, Hw.mayRelease, if_pos hb]
  · rw [late, Hw.mayRelease, if_neg (by simp [hb]), hheld', if_pos hk]
  · have hnone : s.hw.relWhy (some (Hw.relWho p)) = none := by
      rw [late, Hw.mayRelease, if_neg (by simp [hb]), hheld', if_neg (by simp [hk])]
    exact done_congr (hrow.trans (s.hw.releaseWrite_accepted p hs hnone))
  · have hnone : s.hw.relWhy none = none := by rw [late, Hw.mayRelease, if_neg (by decide), hheld', if_neg (by simp [hk])]
    exact done_congr (s.hw.autoRelease_accepted hu hb hs hnone)

end Sys2Proof.Machine

/-! ## Proofs: services of the network (O51) -/

namespace Sys2Proof.Machine
namespace Hw

/-! ### Address resolution (R412) -/

/-- What the endpoint's services read and leave: power, the registers of the IPSVC page, the addresses that ARP has found
and those it waits for. The queues of the ports and the counters of the MAC pages are not among it. -/
structure IpView where
  pwr : Pwr
  page : Fin 256 → Word
  foundAlarm : Option (BitVec 48)
  foundStream : Option (BitVec 48)
  wait : BitVec 2

def ipView (h : Hw) : IpView :=
  { pwr := h.pwr, page := fun o => h.reg (0x3400 + o.val), foundAlarm := h.net.arpAlarm, foundStream := h.net.arpStream
    wait := h.net.arpWait }

theorem setReg_ipView (h : Hw) (a : Nat) (v : Word) (ha : a / 256 ≠ 0x34) : (h.setReg a v).ipView = h.ipView := by
  have hpage : (h.setReg a v).ipView.page = h.ipView.page := funext fun o => reg_setReg_ne _ _ _ _ (by omega)
  simp only [ipView] at hpage ⊢
  rw [hpage]
  rfl

theorem raise_ipView (h : Hw) (pg bit : Nat) (hpg : pg ≠ 0x34) : (h.raise pg bit).ipView = h.ipView := by
  rw [raise_eq]
  exact ite_keeps ipView (setReg_ipView _ _ _ (by omega)) rfl

theorem txDrop_ipView (h : Hw) (n : Fin 2) (k : Nat) : (h.txDrop n k).ipView = h.ipView :=
  setReg_ipView _ _ _ (by rw [R.MAC_TXDROP]; omega)

/-- A frame enters a queue of its port, or is dropped and counted there. -/
theorem enqueue_ipView (h : Hw) (n : Fin 2) (event : Bool) (f : Frame) : (h.enqueue n event f).ipView = h.ipView := by
  unfold enqueue
  extract_lets p
  refine ite_keeps ipView (txDrop_ipView _ _ _) (ite_keeps ipView ?_ ?_)
  · exact ite_keeps ipView (txDrop_ipView _ _ _) rfl
  · exact ite_keeps ipView (txDrop_ipView _ _ _) rfl

theorem enqueueMask_ipView (h : Hw) (m : Nat) (event : Bool) (f : Frame) : (h.enqueueMask m event f).ipView = h.ipView :=
  foldl_keeps ipView _ (fun g n => ite_keeps ipView (enqueue_ipView g n event f) rfl) _ _

theorem enqueueAlarm_ipView (h : Hw) (n : Fin 2) (f : Frame) : (h.enqueueAlarm n f).ipView = h.ipView := by
  unfold enqueueAlarm
  extract_lets p q
  refine ite_keeps ipView (ite_keeps ipView rfl ?_) rfl
  exact (raise_ipView _ _ _ (by omega)).trans (setReg_ipView _ _ _ (by rw [R.MAC_ALMOVR]; omega))

/-- The bit of a destination among those that wait for an answer. -/
def arpBit (stream : Bool) : BitVec 2 := if stream then 2 else 1

/-- ARP is due for a destination: it is configured, and NET runs. -/
def arpDue (h : Hw) (stream : Bool) : Bool := (h.arpTarget stream).isSome && h.live .net

/-- A request puts its destination among those that wait, and leaves the rest. -/
theorem arpAsk_ipView (h : Hw) (stream : Bool) : (h.arpAsk stream).ipView =
    { h.ipView with wait := if h.arpDue stream = true then h.net.arpWait ||| arpBit stream else h.net.arpWait } := by
  unfold arpAsk arpDue
  cases ht : h.arpTarget stream with
  | none => rfl
  | some t =>
    obtain ⟨a, m⟩ := t
    cases hl : h.live .net with
    | false => rfl
    | true =>
      have hq := h.enqueueMask_ipView m false { h.frameOut macBroadcast 0x0806 with dstIp := h.nextHop a, proto := 1 }
      exact congrArg (fun v : IpView => { v with wait := v.wait ||| arpBit stream }) hq

theorem arpAsk_none (h : Hw) (stream : Bool) (hn : h.arpTarget stream = none) : h.arpAsk stream = h := by
  rw [arpAsk, hn]

theorem arpAsk_pwr (h : Hw) (stream : Bool) : (h.arpAsk stream).pwr = h.pwr := congrArg IpView.pwr (h.arpAsk_ipView stream)

theorem arpAsk_page (h : Hw) (stream : Bool) : (h.arpAsk stream).ipView.page = h.ipView.page := by
  rw [arpAsk_ipView]

theorem arpAsk_foundAlarm (h : Hw) (stream : Bool) : (h.arpAsk stream).net.arpAlarm = h.net.arpAlarm :=
  congrArg IpView.foundAlarm (h.arpAsk_ipView stream)

theorem arpAsk_foundStream (h : Hw) (stream : Bool) : (h.arpAsk stream).net.arpStream = h.net.arpStream :=
  congrArg IpView.foundStream (h.arpAsk_ipView stream)

theorem arpAsk_wait (h : Hw) (stream : Bool) : (h.arpAsk stream).net.arpWait =
    if h.arpDue stream = true then h.net.arpWait ||| arpBit stream else h.net.arpWait :=
  congrArg IpView.wait (h.arpAsk_ipView stream)

/-- What waits goes on waiting. -/
theorem arpAsk_keepsWaiting (h : Hw) (stream : Bool) (i : Nat) (hw : h.net.arpWait.getLsbD i = true) :
    (h.arpAsk stream).net.arpWait.getLsbD i = true := by
  rw [arpAsk_wait]
  split
  · rw [BitVec.getLsbD_or, hw, Bool.true_or]
  · exact hw

/-- The configured destination (R412). -/
def arpDst (h : Hw) (stream : Bool) : Nat := h.reg32 (if stream then R.IPSVC_STDST_L else R.IPSVC_ALDST_L)

theorem reg32_lt (h : Hw) (a : Nat) : h.reg32 a < 2 ^ 32 := by
  have hlo := (h.reg a).isLt
  have hhi := (h.reg (a + 1)).isLt
  rw [reg32]
  omega

/-- No request goes out for the destination 0, nor for an alarm destination whose MAC is given. -/
theorem arpTarget_eq_none_iff (h : Hw) (stream : Bool) :
    h.arpTarget stream = none ↔ h.arpDst stream = 0 ∨ (stream = false ∧ h.alMac ≠ 0) := by
  have hlt : h.arpDst stream < 2 ^ 32 := reg32_lt _ _
  have hzero : BitVec.ofNat 32 (h.arpDst stream) = 0 ↔ h.arpDst stream = 0 := by
    rw [← BitVec.toNat_inj, BitVec.toNat_ofNat, Nat.mod_eq_of_lt hlt]
    rfl
  have htarget : h.arpTarget stream = none ↔
      (BitVec.ofNat 32 (h.arpDst stream) = 0 || (!stream && h.alMac != 0)) = true := by
    simp only [arpTarget, ite_eq_left_iff, reduceCtorEq, imp_false, not_not]
    rfl
  rw [htarget, ← hzero]
  simp

/-- The configured destination alone decides with the MAC and NET whether a request is due. -/
theorem arpDue_eq_true (h : Hw) (stream : Bool) (hl : h.live .net = true) (hd : h.arpDst stream ≠ 0)
    (hm : stream = true ∨ h.alMac = 0) : h.arpDue stream = true := by
  have hsome : h.arpTarget stream ≠ none := fun hn => by
    rcases (h.arpTarget_eq_none_iff stream).1 hn with h0 | ⟨hs, h0⟩
    · exact hd h0
    · rcases hm with hm | hm
      · simp [hm] at hs
      · exact h0 hm
  rw [arpDue, hl, Option.isSome_iff_ne_none.2 hsome]
  rfl

theorem arpDst_congr {h g : Hw} (hv : g.ipView.page = h.ipView.page) (stream : Bool) : g.arpDst stream = h.arpDst stream := by
  cases stream with
  | false => exact congrArg₂ (fun l u : Word => l.toNat + 65536 * u.toNat) (congrFun hv 0x1D) (congrFun hv 0x1E)
  | true => exact congrArg₂ (fun l u : Word => l.toNat + 65536 * u.toNat) (congrFun hv 0x24) (congrFun hv 0x25)

/-! ### Refresh and failure (R412) -/

theorem arpRefresh_unconfigured (h : Hw) (ha : h.reg32 R.IPSVC_ALDST_L = 0) (hs : h.reg32 R.IPSVC_STDST_L = 0) :
    h.arpRefresh = h := by
  rw [arpRefresh, arpAsk_none h false ((h.arpTarget_eq_none_iff false).2 (.inl ha)),
    arpAsk_none h true ((h.arpTarget_eq_none_iff true).2 (.inl hs))]

theorem arpRefresh_stream (h : Hw) (hl : h.live .net = true) (hs : h.reg32 R.IPSVC_STDST_L ≠ 0) :
    h.arpRefresh.net.arpWait.getLsbD 1 = true := by
  have hdue : (h.arpAsk false).arpDue true = true :=
    arpDue_eq_true _ true ((live_of_pwr (h.arpAsk_pwr false) _).trans hl)
      (by rw [arpDst_congr (h.arpAsk_page false)]; exact hs) (.inl rfl)
  rw [arpRefresh, arpAsk_wait, if_pos hdue, BitVec.getLsbD_or]
  exact Bool.or_true _

theorem arpRefresh_alarm (h : Hw) (hl : h.live .net = true) (ha : h.reg32 R.IPSVC_ALDST_L ≠ 0) (hm : h.alMac = 0) :
    h.arpRefresh.net.arpWait.getLsbD 0 = true := by
  have hbit : (h.arpAsk false).net.arpWait.getLsbD 0 = true := by
    rw [arpAsk_wait, if_pos (h.arpDue_eq_true false hl ha (.inr hm)), BitVec.getLsbD_or]
    exact Bool.or_true _
  exact arpAsk_keepsWaiting _ true 0 hbit

theorem arpFail_idle (h : Hw) (hw : h.net.arpWait = 0) : h.arpFail = h := if_pos (by simp [hw])

theorem or_arpBit : ∀ w : BitVec 2,
    (w.getLsbD 0 = true → w ||| arpBit false = w) ∧ (w.getLsbD 1 = true → w ||| arpBit true = w) := by decide

/-- A destination that waits already is asked for again: ARPFAIL stays set, and what waits stays the same. -/
theorem arpAsk_again (h : Hw) (stream : Bool) (w : BitVec 2) (hw : w ||| arpBit stream = w)
    (hh : h.b R.IPSVC_IFLAG 2 = true ∧ h.net.arpWait = w) :
    (h.arpAsk stream).b R.IPSVC_IFLAG 2 = true ∧ (h.arpAsk stream).net.arpWait = w := by
  obtain ⟨hflag, hwait⟩ := hh
  have hreg : (h.arpAsk stream).reg R.IPSVC_IFLAG = h.reg R.IPSVC_IFLAG := congrFun (h.arpAsk_page stream) 4
  refine ⟨by rw [b, hreg]; exact hflag, ?_⟩
  rw [arpAsk_wait, hwait, hw, ite_self]

/-- Without a reply ARPFAIL is set, and the engine keeps trying (R412). -/
theorem arpFail_spec (h : Hw) (hl : h.live .net = true) (hw : h.net.arpWait ≠ 0#2) :
    h.arpFail.b R.IPSVC_IFLAG 2 = true ∧ h.arpFail.net.arpWait = h.net.arpWait := by
  have hfail : h.arpFail = _ := if_neg (by simp [hl, hw])
  rw [hfail]
  extract_lets w h1 h2
  have hw1 : h1.b R.IPSVC_IFLAG 2 = true ∧ h1.net.arpWait = w :=
    ⟨raise_b_same h 0x34 2 (by decide) (pageLive_of_live h 0x34 .ipsvc rfl hl), congrArg Net.arpWait (raise_net h 0x34 2)⟩
  have hw2 : h2.b R.IPSVC_IFLAG 2 = true ∧ h2.net.arpWait = w := by
    unfold h2
    split
    · exact arpAsk_again h1 false w ((or_arpBit w).1 ‹_›) hw1
    · exact hw1
  split
  · exact arpAsk_again h2 true w ((or_arpBit w).2 ‹_›) hw2
  · exact hw2

/-! ### Commits of the alarm configuration (R412, R421) -/

theorem arpAlarm_alarmDstChanged (h : Hw) : h.alarmDstChanged.net.arpAlarm = none := arpAsk_foundAlarm _ _

theorem arpAlarm_hopChanged (h : Hw) : h.hopChanged.net.arpAlarm = none :=
  (arpAsk_foundAlarm _ _).trans h.arpAlarm_alarmDstChanged

theorem arpStream_hopChanged (h : Hw) : h.hopChanged.net.arpStream = none := arpAsk_foundStream _ _

theorem writeRow_alarmConfig (h : Hw) (p : Party) (key len : Nat) (v : Word) (hk : kindOf (key / 256) = some .ipsvc)
    (hg : groupKey key len = true) (ha : h.acceptsKey p key v) : h.writeRow p key v =
      ((h.storeWords key (h.groupWords p key v)).ipCommitted key).groupDone p key := by
  rw [writeRow_commit h p key len v hg ha, commitApply, hk]

/-- The keys of two words whose commit rebuilds the headers of the alarms. -/
theorem alarmKeys : ∀ key ∈ [R.IPSVC_IP_L, R.IPSVC_MASK_L, R.IPSVC_GW_L, R.IPSVC_ALDST_L],
    alarmReg key = true ∧ kindOf (key / 256) = some .ipsvc ∧ groupKey key 2 = true := by decide

theorem ipCommitted_hop (h : Hw) (key : Nat) (hk : key ∈ [R.IPSVC_IP_L, R.IPSVC_MASK_L, R.IPSVC_GW_L]) :
    h.ipCommitted key = h.hopChanged := by
  simp only [List.mem_cons, List.not_mem_nil, or_false] at hk
  rcases hk with rfl | rfl | rfl <;> rfl

/-- A write under field masks without W1C bits (R6). -/
theorem plainWrite_masked (h : Hw) (a : Nat) (v : Word) (d : RegDesc) (m : Word) (hd : descOf a = some d) (hc : d.w1c = 0)
    (hm : wd d.rw ||| wd d.rwl = m) : h.plainWrite a v = h.setReg a ((h.reg a &&& ~~~m) ||| (v &&& m)) := by
  rw [plainWrite_eq h a v d hd, plainWord, hm, hc, show v &&& wd 0 = 0#16 from BitVec.and_zero,
    show ~~~(0#16) = BitVec.allOnes 16 from rfl, BitVec.and_allOnes]

theorem plainWrite_alport (h : Hw) (v : Word) : h.plainWrite R.IPSVC_ALPORT v = h.setReg R.IPSVC_ALPORT v := by
  have hall : (h.reg R.IPSVC_ALPORT &&& ~~~(0xFFFF : Word)) ||| (v &&& 0xFFFF) = v := by
    rw [show ~~~(0xFFFF : Word) = 0#16 from rfl, show (0xFFFF : Word) = BitVec.allOnes 16 from rfl, BitVec.and_zero,
      BitVec.zero_or, BitVec.and_allOnes]
  rw [plainWrite_masked h _ v (rd 0x1F 0xBAC3 0 0xFFFF 0 0xFFFF 0) 0xFFFF rfl rfl rfl, hall]

theorem plainWrite_alcfg (h : Hw) (v : Word) : h.plainWrite R.IPSVC_ALCFG v =
    h.setReg R.IPSVC_ALCFG ((h.reg R.IPSVC_ALCFG &&& 0x7CFF) ||| (v &&& 0x8300)) :=
  plainWrite_masked h _ v (rd 0x1C 0x300 0 0x8300 0 0x8300 0) 0x8300 rfl rfl rfl

/-! ### Management of the PHYs and the window of the PTP limit (R390, R408) -/

theorem writeRow_mdiocmd_go (h : Hw) (p : Party) (v : Word) (ha : h.accepts p R.SWITCH_MDIOCMD (v ||| 0x8000)) :
    h.writeRow p R.SWITCH_MDIOCMD (v ||| 0x8000) =
      { h.setReg R.SWITCH_MDIOCMD (v &&& 0x43FF) with net := { h.net with mdioBusy := true } } := by
  have hgo : (v ||| 0x8000).getLsbD 15 = true := by simp
  rw [writeRow_block h p _ _ .switch (by decide) ha, ← or_go_and v 0x43FF rfl]
  exact if_pos hgo

theorem mdioDone_busy (h : Hw) (data : Word) (hb : h.net.mdioBusy = true) (hl : h.live .net = true) : h.mdioDone data =
    (if h.b R.SWITCH_MDIOCMD 14 = true then { h with net := { h.net with mdioBusy := false } }
      else { h with net := { h.net with mdioBusy := false } }.setReg R.SWITCH_MDIODATA data).raise 0x32 2 :=
  if_pos (by simp [hb, hl])

/-- A new window counts from 0 on both ports, and nothing else changes. -/
theorem ptpWindow_spec (h : Hw) : h.ptpWindow = { h with net := { h.net with port := h.ptpWindow.net.port } } ∧
    ∀ n, h.ptpWindow.netPort n = { h.netPort n with ptpCount := 0 } := by
  have hw : h.ptpWindow = (h.setPort 0 { h.netPort 0 with ptpCount := 0 }).setPort 1
      { (h.setPort 0 { h.netPort 0 with ptpCount := 0 }).netPort 1 with ptpCount := 0 } := rfl
  refine ⟨rfl, fun n => ?_⟩
  rw [hw]
  match n with
  | 0 => rw [netPort_setPort_ne _ 1 0 _ (by decide), netPort_setPort_same]
  | 1 => rw [netPort_setPort_same, netPort_setPort_ne _ 0 1 _ (by decide)]

/-! ### The link delay (R404) -/

theorem linkdly_apart : ∀ n : Fin 2, R.MAC_LINKDLY_L n ≠ R.MAC_STAT n ∧ R.MAC_LINKDLY_H n ≠ R.MAC_STAT n ∧
    R.MAC_LINKDLY_L n ≠ R.MAC_LINKDLY_H n := by decide

theorem linkdly_pdelayExchange (h : Hw) (n : Fin 2) (dly : BitVec 32) (hc : h.up .core = true) (hn : h.up .net = true)
    (g : Hw) (hg : g = h.pdelayExchange n dly) :
    g.reg32 (R.MAC_LINKDLY_L n) = dly.toNat ∧ g.b (R.MAC_STAT n) 4 = true ∧ g = { h with regs := g.regs } := by
  rw [pdelayExchange, if_pos (by simp [hc, hn])] at hg
  subst hg
  refine ⟨?_, b_setBits_same _ _ 16 4 (by decide) (by decide), rfl⟩
  obtain ⟨hLS, hHS, hLH⟩ := linkdly_apart n
  have hlow : (dly.setWidth 16).toNat = dly.toNat % 65536 := BitVec.toNat_setWidth ..
  have hhigh : ((dly >>> 16).setWidth 16).toNat = dly.toNat / 65536 := by
    rw [BitVec.toNat_setWidth, BitVec.toNat_ushiftRight, Nat.shiftRight_eq_div_pow]
    have := dly.isLt
    omega
  rw [reg32, show R.MAC_LINKDLY_L n + 1 = R.MAC_LINKDLY_H n from rfl, reg_setBits_ne _ _ _ _ hLS,
    reg_setBits_ne _ _ _ _ hHS, reg_setReg_same, reg_setReg_ne _ _ _ _ hLH,
    reg_setReg_same, hlow, hhigh]
  omega

/-! ### Alarm requests (R289, R414) -/

theorem alarmRequest_lost (h : Hw) (t : Nat) (hu : h.up .net = false) :
    h.alarmRequest t = (h.count R.REFLEX_ALMLOST).raise 0x15 4 := if_pos (by simp [hu])

theorem aseq_alarmRequest (h : Hw) (t : Nat) (hu : h.up .net = true) :
    (h.alarmRequest t).reg R.IPSVC_ALSEQ = h.reg R.IPSVC_ALSEQ + 1 := by
  rw [alarmRequest, if_neg (by simp [hu])]
  extract_lets aseq h1 f
  have hseq : h1.reg R.IPSVC_ALSEQ = aseq := reg_setReg_same _ _ _
  refine ite_keeps (fun g => g.reg R.IPSVC_ALSEQ) ?_ hseq
  refine (foldl_keeps (fun g => g.reg R.IPSVC_ALSEQ) _ (fun g n => ?_) _ _).trans hseq
  refine ite_keeps (fun g => g.reg R.IPSVC_ALSEQ) ?_ rfl
  exact congrFun (congrArg IpView.page (g.enqueueAlarm_ipView n f)) 0x34

/-! ### Remote access (R416) -/

/-- The slot whose key a request names. -/
def raSlot (q : RaRequest) : Nat := (q.body.getD 6 0).toNat / 256

/-- The sequence number of a request. -/
def raSeq (q : RaRequest) : Nat := (q.body.getD 7 0).toNat * 65536 + (q.body.getD 8 0).toNat

/-- The operations of a request. -/
def raOpsOf (q : RaRequest) : List RaOp := raOps ((q.body.getD 6 0).toNat % 256) (q.body.drop 9)

/-- The bytes of the reply to these operations. -/
def raReplyLen (ops : List RaOp) : Nat := 2 * (9 + (ops.map RaOp.words).sum + 8)

/-- The request is for another sentinel, or its slot is not open to remote access. -/
def raAstray (h : Hw) (q : RaRequest) : Bool :=
  (q.body.drop 2).take 4 ≠ serialWords || 8 ≤ raSlot q || !h.b R.IPSVC_RACFG (raSlot q)

/-- The key of the named slot where the request's ICV is the one under it. -/
def raKey (h : Hw) (q : RaRequest) : Option (List Word) := (h.slotKey (raSlot q)).filter fun k => q.icv == icvOf k q.body

/-- The sequence number of slot `i` is taken, the operations are carried out, and the answer leaves unless one of them was a
reset. -/
def raCarry (h : Hw) (q : RaRequest) (key : List Word) (i : Fin 8) : Hw :=
  let r := raAll (raOpsOf q) { h with net := { h.net with rseq := h.net.rseq.set i (raSeq q) } }
  if !r.2.vigil then r.2 else r.2.raAnswer q key r.1

theorem raCarry_answers (h : Hw) (q : RaRequest) (key : List Word) (i : Fin 8) (r : List Word × Hw)
    (hr : r = raAll (raOpsOf q) { h with net := { h.net with rseq := h.net.rseq.set i (raSeq q) } }) (hv : r.2.vigil = true) :
    h.raCarry q key i = r.2.raAnswer q key r.1 := by
  subst hr
  exact if_neg (by rw [hv]; decide)

theorem raRequest_off (h : Hw) (q : RaRequest) (hl : h.live .net = true)
    (hc : h.b R.IPSVC_RACFG 15 = false ∨ h.up .core = false) : h.raRequest q = h.count R.IPSVC_RADROP := by
  rw [raRequest, if_neg (by simp [hl]), if_pos (by simpa using hc), raDrop]

section
variable (h : Hw) (q : RaRequest) (hl : h.live .net = true) (ho : h.b R.IPSVC_RACFG 15 = true) (hc : h.up .core = true)
include hl ho hc

theorem raRequest_astray (hn : h.raAstray q = true) : h.raRequest q = h := by
  rw [raRequest, if_neg (by simp [hl]), if_neg (by simp [ho, hc])]
  exact if_pos hn

theorem raRequest_unauthentic (hn : h.raAstray q = false) (hk : h.raKey q = none) :
    h.raRequest q = (h.count R.IPSVC_RAAUTH).raise 0x34 1 := by
  rw [raRequest, if_neg (by simp [hl]), if_neg (by simp [ho, hc])]
  refine (if_neg (ne_true_of_eq_false hn)).trans ?_
  unfold raKey raSlot at hk
  rw [hk]

/-- An authentic request: the replay check, the length of the reply, and then its operations. -/
theorem raRequest_authentic (hn : h.raAstray q = false) (key : List Word) (hk : h.raKey q = some key) (i : Fin 8)
    (hi : i.val = raSlot q) : h.raRequest q =
      if raSeq q ≤ h.net.rseq[i] then h.count R.IPSVC_RAREPLAY
      else if 1472 < raReplyLen (raOpsOf q) then h.count R.IPSVC_RADROP else h.raCarry q key i := by
  rw [raRequest, if_neg (by simp [hl]), if_neg (by simp [ho, hc])]
  refine (if_neg (ne_true_of_eq_false hn)).trans ?_
  have hs : i = ⟨raSlot q % 8, Nat.mod_lt _ (by decide)⟩ := Fin.ext (by rw [← hi]; exact (Nat.mod_eq_of_lt i.isLt).symm)
  unfold raKey raSlot at hk
  subst hs
  rw [hk]
  rfl

end

theorem raAstray_eq_true_iff (h : Hw) (q : RaRequest) : h.raAstray q = true ↔
    (q.body.drop 2).take 4 ≠ serialWords ∨ 8 ≤ raSlot q ∨ h.b R.IPSVC_RACFG (raSlot q) = false := by
  simp [raAstray, or_assoc]

theorem raAstray_eq_false (h : Hw) (q : RaRequest) (hs : (q.body.drop 2).take 4 = serialWords) (hlt : raSlot q < 8)
    (ho : h.b R.IPSVC_RACFG (raSlot q) = true) : h.raAstray q = false := by
  simp [raAstray, hs, hlt, ho]

theorem raKey_eq_none_iff (h : Hw) (q : RaRequest) : h.raKey q = none ↔
    h.slotKey (raSlot q) = none ∨ ∃ k, h.slotKey (raSlot q) = some k ∧ q.icv ≠ icvOf k q.body := by
  unfold raKey
  cases h.slotKey (raSlot q) <;> simp

theorem raKey_eq_some (h : Hw) (q : RaRequest) (k : List Word) (hk : h.slotKey (raSlot q) = some k)
    (hi : q.icv = icvOf k q.body) : h.raKey q = some k := by
  simp [raKey, hk, hi]

/-- The sequence numbers by slot, as a list reads them. -/
theorem rseq_getD (h : Hw) (i : Fin 8) : h.net.rseq.toList.getD i.val 0 = h.net.rseq[i] := by
  simp

end Hw

/-- An accepted write to a single register of the alarm configuration stores it (R421). -/
theorem exec_alarmConfig_store (s : State) (p : Party) (v : Word) (a : Nat) (hlt : a < 65536) (hr : Hw.alarmReg a = true)
    (hb : Hw.blockReg a .ipsvc = true) (ha : s.hw.accepts p a v) (g : Hw)
    (hg : s.hw.plainWrite a v = g) : exec (.alarmConfigCommit p (BitVec.ofNat 16 a) v) s = .next (s.after g) := by
  have e : (BitVec.ofNat 16 a).toNat = a := by rw [BitVec.toNat_ofNat]; omega
  have hexec : exec (.alarmConfigCommit p (BitVec.ofNat 16 a) v) s = done s (s.hw.writeRow p a v) := by
    show execAlarmConfigCommit p (BitVec.ofNat 16 a) v s = _
    rw [execAlarmConfigCommit, e, if_pos hr]
  rw [hexec]
  exact done_congr ((Hw.writeRow_block s.hw p a v .ipsvc hb ha).trans hg)

theorem exec_alarmConfig_commit (s : State) (p : Party) (a v : Word) (len : Nat) (hr : Hw.alarmReg a.toNat = true)
    (hk : kindOf (a.toNat / 256) = some .ipsvc) (hg : Hw.groupKey a.toNat len = true) (ha : s.hw.acceptsKey p a.toNat v) :
    exec (.alarmConfigCommit p a v) s = .next (s.after
      (((s.hw.storeWords a.toNat (s.hw.groupWords p a.toNat v)).ipCommitted a.toNat).groupDone p a.toNat)) := by
  have hexec : exec (.alarmConfigCommit p a v) s = done s (s.hw.writeRow p a.toNat v) := if_pos hr
  rw [hexec]
  exact done_congr (Hw.writeRow_alarmConfig s.hw p _ len v hk hg ha)

/-- The message of an interval that runs out at a running clock (R406). -/
theorem exec_ptpMessageInterval (s : State) (m : Fin 4) (hr : s.hw.clockRuns m = true) (hc : s.hw.up .core = true) :
    exec (.ptpMessageInterval m .announce) s = .next (s.after (s.hw.ptpSend m (fld (s.hw.ptpCfg m) 9 8)
      (s.hw.ptpFrame m 11 (s.hw.announceBody m) .none))) ∧
    exec (.ptpMessageInterval m .sync) s = .next (s.after (if (s.hw.ptpCfg m).getLsbD 12 = true then
      s.hw.ptpSend m (fld (s.hw.ptpCfg m) 9 8) (s.hw.ptpFrame m 0 [] .origin) else s.hw)) ∧
    exec (.ptpMessageInterval m .delayReq) s = .next (s.after (if (s.hw.ptpCfg m).getLsbD 14 = true then s.hw
      else s.hw.ptpSend m (fld (s.hw.ptpCfg m) 9 8) (s.hw.ptpFrame m 1 [] .origin))) := by
  have hrun : ¬ (!s.hw.clockRuns m || !s.hw.up .core) = true := by simp [hr, hc]
  exact ⟨done_congr (if_neg hrun), done_congr (if_neg hrun), done_congr (if_neg hrun)⟩

/-- Settles O51: each service by the equation of its operation, remote access by the order of its checks. -/
theorem netServicesFollowRules : Obligations.NetServicesFollowRules := by
  refine ⟨fun s => ⟨fun p v ha => done_congr (s.hw.writeRow_mdiocmd_go p v ha),
      fun data hb hl => ⟨fun h14 => done_congr ?mdioWrite, fun h14 => done_congr ?mdioRead⟩,
      ⟨_, rfl, s.hw.ptpWindow_spec⟩, fun hl =>
      ⟨fun ha hs => done_congr (s.hw.arpRefresh_unconfigured ha hs), fun hs => ⟨_, rfl, s.hw.arpRefresh_stream hl hs⟩,
        fun ha hm => ⟨_, rfl, s.hw.arpRefresh_alarm hl ha hm⟩, fun hw => done_congr (s.hw.arpFail_idle hw),
        fun hw => ⟨_, rfl, s.hw.arpFail_spec hl hw⟩⟩,
      fun p v a ha g hg => ⟨fun hm => ?hop, fun hd => ?dst, fun hm => ?mac⟩,
      fun p v ha => exec_alarmConfig_store s p v _ (by decide) (by decide) (by decide) ha _ (s.hw.plainWrite_alport v),
      fun p v ha => exec_alarmConfig_store s p v _ (by decide) (by decide) (by decide) ha _ (s.hw.plainWrite_alcfg v),
      fun n dly hc hn => ⟨_, rfl, s.hw.linkdly_pdelayExchange n dly hc hn _ rfl⟩, fun m hr hc => ?ptp,
      fun q hl slot hslot => ?remote⟩,
    fun h t => ⟨h.arpAlarm_alarmDstChanged, h.arpAlarm_hopChanged, h.arpStream_hopChanged, h.alarmRequest_lost t,
      h.aseq_alarmRequest t⟩⟩
  case mdioWrite => rw [s.hw.mdioDone_busy data hb hl, if_pos h14]
  case mdioRead => rw [s.hw.mdioDone_busy data hb hl, if_neg (by simp [h14])]
  case hop =>
    obtain ⟨hr, hk, hgrp⟩ := Hw.alarmKeys a.toNat (List.mem_append_left [R.IPSVC_ALDST_L] hm)
    rw [exec_alarmConfig_commit s p a v 2 hr hk hgrp ha, ← hg, g.ipCommitted_hop _ hm]
  case dst =>
    obtain ⟨hr, hk, hgrp⟩ := Hw.alarmKeys a.toNat (by rw [hd]; decide)
    rw [exec_alarmConfig_commit s p a v 2 hr hk hgrp ha, ← hg, hd]
    rfl
  case mac =>
    rw [exec_alarmConfig_commit s p a v 3 (by rw [hm]; decide) (by rw [hm]; rfl) (by rw [hm]; decide) ha, ← hg, hm]
    rfl
  case ptp =>
    obtain ⟨hann, hsync, hdelay⟩ := exec_ptpMessageInterval s m hr hc
    refine ⟨hann, fun h12 => ?_, fun h12 => ?_, fun h14 => ?_, fun h14 => ?_⟩
    · rw [hsync, if_pos h12]
    · rw [hsync, if_neg (ne_true_of_eq_false h12)]
    · rw [hdelay, if_pos h14]
    · rw [hdelay, if_neg (ne_true_of_eq_false h14)]
  case remote =>
    obtain rfl : slot = Hw.raSlot q := hslot
    refine ⟨fun hoff => done_congr (s.hw.raRequest_off q hl hoff), fun ho hc => ⟨fun hn =>
      done_congr (s.hw.raRequest_astray q hl ho hc ((s.hw.raAstray_eq_true_iff q).2 hn)), fun hserial hlt hopen => ?_⟩⟩
    have hn := s.hw.raAstray_eq_false q hserial hlt hopen
    have authentic (k : List Word) (i : Fin 8) (hi : i.val = Hw.raSlot q) (hk : s.hw.slotKey (Hw.raSlot q) = some k)
        (hicv : q.icv = icvOf k q.body) :=
      s.hw.raRequest_authentic q hl ho hc hn k (s.hw.raKey_eq_some q k hk hicv) i hi
    refine ⟨fun hk => done_congr (s.hw.raRequest_unauthentic q hl ho hc hn ((s.hw.raKey_eq_none_iff q).2 hk)),
      fun k hk hicv hle => done_congr ?replay, fun k rseq ops r i hi hk hicv hrseq hnew hops => ?_⟩
    case replay => rw [authentic k ⟨Hw.raSlot q, hlt⟩ rfl hk hicv, if_pos (by rw [← Hw.rseq_getD]; exact hle)]
    subst hops hrseq
    have hfresh : ¬ Hw.raSeq q ≤ s.hw.net.rseq[i] := by
      rw [← Hw.rseq_getD, hi]
      exact Nat.not_le.2 hnew
    have hrun := (authentic k i hi hk hicv).trans (if_neg hfresh)
    exact ⟨fun hlong => done_congr (hrun.trans (if_pos hlong)), fun hfits hr hv =>
      done_congr (hrun.trans ((if_neg (Nat.not_lt.2 hfits)).trans (s.hw.raCarry_answers q k i r hr hv)))⟩

end Sys2Proof.Machine

/-! ## Proofs: every Etcher instruction is read back from its word (O39) -/

namespace Sys2Proof.Machine

/-! ### The fields of a word -/

/-- A field of the word with number `x` is that field of `x`. -/
theorem ifld_of_num {x hi lo v : Nat} {w : BitVec 32} (hw : BitVec.ofNat 32 x = w)
    (hv : x / 2 ^ lo % 2 ^ (hi + 1 - lo) = v) (hlo : lo ≤ hi ∧ hi < 32 := by decide) : ifld w hi lo = v := by
  have hsplit : 2 ^ 32 = 2 ^ lo * 2 ^ (32 - lo) := by rw [← pow_add]; congr 1; omega
  rw [ifld, ← hw, BitVec.toNat_ofNat, hsplit, Nat.mod_mul_right_div_self,
    Nat.mod_mod_of_dvd _ (pow_dvd_pow 2 (by omega)), hv]

theorem cfld_of_num {x lo : Nat} {c : Fin 4} {w : BitVec 32} (hw : BitVec.ofNat 32 x = w) (hc : x / 2 ^ lo % 4 = c)
    (hlo : lo < 31 := by decide) : cfld w lo = c := by
  have hfld : ifld w (lo + 1) lo = c := ifld_of_num hw (by rw [show lo + 1 + 1 - lo = 2 by omega]; exact hc) (by omega)
  rw [ifld, show lo + 1 + 1 - lo = 2 by omega] at hfld
  exact Fin.ext hfld

theorem bit_of_num {x i : Nat} {b : Bool} {w : BitVec 32} (hw : BitVec.ofNat 32 x = w) (hb : x / 2 ^ i % 2 = bitOf b)
    (hi : i < 32 := by decide) : w[i] = b := by
  rw [← BitVec.getLsbD_eq_getElem, ← hw, BitVec.getLsbD_ofNat, Nat.testBit_eq_decide_div_mod_eq, hb]
  cases b <;> simp [bitOf, hi]

theorem imm_of_num {x : Nat} {imm : Word} {w : BitVec 32} (hw : BitVec.ofNat 32 x = w) (h : x % 2 ^ 16 = imm.toNat) :
    w.setWidth 16 = imm := by
  refine BitVec.eq_of_toNat_eq ?_
  rw [← hw, BitVec.toNat_setWidth, BitVec.toNat_ofNat, Nat.mod_mod_of_dvd _ (by decide), h]

theorem bitOf_lt (b : Bool) : bitOf b < 2 := by cases b <;> decide

/-- The timeout of a WAIT in bits 25:24 (R306). -/
theorem waitTo_of_num {x : Nat} {t : Option Bool} {w : BitVec 32} (hw : BitVec.ofNat 32 x = w)
    (h : x / 2 ^ 24 % 4 * 2 ^ 24 = timeoutBits t) : waitTo w = t := by
  have field (b : Bool) (i : Nat) (hi : i < 32) (hb : x / 2 ^ i % 2 = if b then 1 else 0) : w.getLsbD i = b :=
    bit_of_num hw hb hi
  rcases t with _ | _ | _ <;> rw [timeoutBits] at h
  · rw [waitTo, field false 25 (by decide) (by simp; omega)]
    rfl
  · rw [waitTo, field true 25 (by decide) (by simp; omega), field false 24 (by decide) (by simp; omega)]
    rfl
  · rw [waitTo, field true 25 (by decide) (by simp; omega), field true 24 (by decide) (by simp; omega)]
    rfl

theorem timeoutBits_eq (t : Option Bool) : ∃ k < 4, timeoutBits t = k * 2 ^ 24 := by
  rcases t with _ | _ | _
  · exact ⟨0, by decide, rfl⟩
  · exact ⟨2, by decide, rfl⟩
  · exact ⟨3, by decide, rfl⟩

/-! ### One class of words after another -/

theorem decodeEtch_encodeEtch_halt (clr : Bool) : decodeEtch (encodeEtch (.halt clr)) = some (.halt clr) := by
  obtain ⟨x, hx, hw⟩ : ∃ x, x = bitOf clr ∧ BitVec.ofNat 32 x = encodeEtch (.halt clr) := ⟨_, rfl, rfl⟩
  generalize encodeEtch (.halt clr) = w at hw ⊢
  have hbit := bitOf_lt clr
  have hclass : ifld w 31 29 = 0 := ifld_of_num hw (by omega)
  have hcode : ifld w 28 26 = 0 := ifld_of_num hw (by omega)
  have hclr : w[0] = clr := bit_of_num hw (by omega)
  simp [decodeEtch, hclass, hcode, hclr]

theorem decodeEtch_encodeEtch_wait (c : WaitCond) (t : Option Bool) (hwf : (EtchOp.wait c t).wf) :
    decodeEtch (encodeEtch (.wait c t)) = some (.wait c t) := by
  obtain ⟨x, hx, hw⟩ : ∃ x, x = 1 * 2 ^ 29 + waitBits c + timeoutBits t ∧
      BitVec.ofNat 32 x = encodeEtch (.wait c t) := ⟨_, rfl, rfl⟩
  generalize encodeEtch (.wait c t) = w at hw ⊢
  obtain ⟨k, hk, ht⟩ := timeoutBits_eq t
  cases c with
  | ev a b =>
    simp only [waitBits, EtchOp.wf] at hx hwf
    have hclass : ifld w 31 29 = 1 := ifld_of_num hw (by omega)
    have hcode : ifld w 28 26 = 0 := ifld_of_num hw (by omega)
    have ha : ifld w 5 0 = a := ifld_of_num hw (by omega)
    have hb : ifld w 13 8 = b := ifld_of_num hw (by omega)
    have hto : waitTo w = t := waitTo_of_num hw (by omega)
    simp [decodeEtch, decodeWait, hclass, hcode, ha, hb, hto]
  | state pol st =>
    simp only [waitBits, EtchOp.wf] at hx hwf
    have hbit := bitOf_lt pol
    have hclass : ifld w 31 29 = 1 := ifld_of_num hw (by omega)
    have hcode : ifld w 28 26 = 1 := ifld_of_num hw (by omega)
    have hpol : w[8] = pol := bit_of_num hw (by omega)
    have hst : ifld w 4 0 = st := ifld_of_num hw (by omega)
    have hto : waitTo w = t := waitTo_of_num hw (by omega)
    simp [decodeEtch, decodeWait, hclass, hcode, hpol, hst, hto, Nat.le_of_lt_succ hwf]
  | timer sel =>
    simp only [waitBits, EtchOp.wf] at hx hwf
    have hbit := bitOf_lt sel
    have hclass : ifld w 31 29 = 1 := ifld_of_num hw (by omega)
    have hcode : ifld w 28 26 = 2 := ifld_of_num hw (by omega)
    have hsel : w[0] = sel := bit_of_num hw (by omega)
    simp [decodeEtch, decodeWait, hclass, hcode, hsel, hwf]
  | sample ch less skip imm =>
    simp only [waitBits, EtchOp.wf] at hx hwf
    have hbit := bitOf_lt less
    have hbit' := bitOf_lt skip
    have hlt := imm.isLt
    have hclass : ifld w 31 29 = 1 := ifld_of_num hw (by omega)
    have hcode : ifld w 28 26 = 3 := ifld_of_num hw (by omega)
    have hch : ifld w 23 20 = ch := ifld_of_num hw (by omega)
    have hless : w[19] = less := bit_of_num hw (by omega)
    have hskip : w[18] = skip := bit_of_num hw (by omega)
    have himm : w.setWidth 16 = imm := imm_of_num hw (by omega)
    have hto : waitTo w = t := waitTo_of_num hw (by omega)
    simp [decodeEtch, decodeWait, hclass, hcode, hch, hless, hskip, himm, hto, Nat.le_of_lt_succ hwf]
  | count cn imm =>
    simp only [waitBits, EtchOp.wf] at hx hwf
    have hlt := imm.isLt
    have hclass : ifld w 31 29 = 1 := ifld_of_num hw (by omega)
    have hcode : ifld w 28 26 = 4 := ifld_of_num hw (by omega)
    have hcn : cfld w 16 = cn := cfld_of_num hw (by omega)
    have himm : w.setWidth 16 = imm := imm_of_num hw (by omega)
    have hto : waitTo w = t := waitTo_of_num hw (by omega)
    simp [decodeEtch, decodeWait, hclass, hcode, hcn, himm, hto]

theorem decodeEtch_encodeEtch_sig (op : SigOp) : decodeEtch (encodeEtch (.sig op)) = some (.sig op) := by
  obtain ⟨x, hx, hw⟩ : ∃ x, x = 2 * 2 ^ 29 + op.code ∧
      BitVec.ofNat 32 x = encodeEtch (.sig op) := ⟨_, rfl, rfl⟩
  generalize encodeEtch (.sig op) = w at hw ⊢
  have hlt : op.code < 5 := by cases op <;> decide
  have hclass : ifld w 31 29 = 2 := ifld_of_num hw (by omega)
  have hcode : ifld w 28 26 = 0 := ifld_of_num hw (by omega)
  have hop : ifld w 2 0 = op.code := ifld_of_num hw (by omega)
  cases op <;> simp [decodeEtch, decodeAct, hclass, hcode, hop, SigOp.code]

theorem decodeEtch_encodeEtch_actReg (cn : Fin 4) (a : Nat) (ha : a < 65536) :
    decodeEtch (encodeEtch (.actReg cn a)) = some (.actReg cn a) := by
  obtain ⟨x, hx, hw⟩ : ∃ x, x = 2 * 2 ^ 29 + 1 * 2 ^ 26 + cn.val * 2 ^ 16 + a ∧
      BitVec.ofNat 32 x = encodeEtch (.actReg cn a) := ⟨_, rfl, rfl⟩
  generalize encodeEtch (.actReg cn a) = w at hw ⊢
  have hclass : ifld w 31 29 = 2 := ifld_of_num hw (by omega)
  have hcode : ifld w 28 26 = 1 := ifld_of_num hw (by omega)
  have hcn : cfld w 16 = cn := cfld_of_num hw (by omega)
  have haddr : ifld w 15 0 = a := ifld_of_num hw (by omega)
  simp [decodeEtch, decodeAct, hclass, hcode, hcn, haddr]

theorem decodeEtch_encodeEtch_actMbx (mb len : Nat) (hmb : mb < 8) (hlen : len ≤ 4) :
    decodeEtch (encodeEtch (.actMbx mb len)) = some (.actMbx mb len) := by
  obtain ⟨x, hx, hw⟩ : ∃ x, x = 2 * 2 ^ 29 + 2 * 2 ^ 26 + mb * 2 ^ 16 + len * 2 ^ 8 ∧
      BitVec.ofNat 32 x = encodeEtch (.actMbx mb len) := ⟨_, rfl, rfl⟩
  generalize encodeEtch (.actMbx mb len) = w at hw ⊢
  have hclass : ifld w 31 29 = 2 := ifld_of_num hw (by omega)
  have hcode : ifld w 28 26 = 2 := ifld_of_num hw (by omega)
  have hbox : ifld w 18 16 = mb := ifld_of_num hw (by omega)
  have hwords : ifld w 10 8 = len := ifld_of_num hw (by omega)
  simp [decodeEtch, decodeAct, hclass, hcode, hbox, hwords, hlen]

theorem decodeEtch_encodeEtch_kick (a : BitVec 10) (stop : Bool) (t : Fin 8) :
    decodeEtch (encodeEtch (.kick a stop t)) = some (.kick a stop t) := by
  obtain ⟨x, hx, hw⟩ : ∃ x, x = 2 * 2 ^ 29 + 3 * 2 ^ 26 + a.toNat * 2 ^ 16 + bitOf stop * 2 ^ 4 + t.val ∧
      BitVec.ofNat 32 x = encodeEtch (.kick a stop t) := ⟨_, rfl, rfl⟩
  generalize encodeEtch (.kick a stop t) = w at hw ⊢
  have hbit := bitOf_lt stop
  have hlt := a.isLt
  have hclass : ifld w 31 29 = 2 := ifld_of_num hw (by omega)
  have hcode : ifld w 28 26 = 3 := ifld_of_num hw (by omega)
  have haddr : ifld w 25 16 = a.toNat := ifld_of_num hw (by omega)
  have hstop : w[4] = stop := bit_of_num hw (by omega)
  have htarget : ifld w 2 0 = t.val := ifld_of_num hw (by omega)
  simp [decodeEtch, decodeAct, hclass, hcode, haddr, hstop, htarget]

theorem decodeEtch_encodeEtch_branch (c : BrCond) (t : BitVec 10) (hwf : (EtchOp.branch c t).wf) :
    decodeEtch (encodeEtch (.branch c t)) = some (.branch c t) := by
  obtain ⟨x, hx, hw⟩ : ∃ x, x = 3 * 2 ^ 29 + branchBits c + t.toNat ∧
      BitVec.ofNat 32 x = encodeEtch (.branch c t) := ⟨_, rfl, rfl⟩
  generalize encodeEtch (.branch c t) = w at hw ⊢
  have hlt := t.isLt
  cases c with
  | always =>
    simp only [branchBits] at hx
    have hclass : ifld w 31 29 = 3 := ifld_of_num hw (by omega)
    have hcode : ifld w 28 26 = 0 := ifld_of_num hw (by omega)
    have ht : ifld w 9 0 = t.toNat := ifld_of_num hw (by omega)
    simp [decodeEtch, decodeBranch, hclass, hcode, ht]
  | ev e =>
    simp only [branchBits, EtchOp.wf] at hx hwf
    have hclass : ifld w 31 29 = 3 := ifld_of_num hw (by omega)
    have hcode : ifld w 28 26 = 1 := ifld_of_num hw (by omega)
    have ht : ifld w 9 0 = t.toNat := ifld_of_num hw (by omega)
    have he : ifld w 21 16 = e := ifld_of_num hw (by omega)
    simp [decodeEtch, decodeBranch, hclass, hcode, ht, he]
  | state pol st =>
    simp only [branchBits, EtchOp.wf] at hx hwf
    have hbit := bitOf_lt pol
    have hclass : ifld w 31 29 = 3 := ifld_of_num hw (by omega)
    have hcode : ifld w 28 26 = 2 := ifld_of_num hw (by omega)
    have ht : ifld w 9 0 = t.toNat := ifld_of_num hw (by omega)
    have hpol : w[22] = pol := bit_of_num hw (by omega)
    have hst : ifld w 20 16 = st := ifld_of_num hw (by omega)
    simp [decodeEtch, decodeBranch, hclass, hcode, ht, hpol, hst, Nat.le_of_lt_succ hwf]
  | cnt rel cn cm =>
    simp only [branchBits, EtchOp.wf] at hx hwf
    have hclass : ifld w 31 29 = 3 := ifld_of_num hw (by omega)
    have hcode : ifld w 28 26 = 3 := ifld_of_num hw (by omega)
    have ht : ifld w 9 0 = t.toNat := ifld_of_num hw (by omega)
    have hrel : ifld w 25 24 = rel := ifld_of_num hw (by omega)
    have hcn : cfld w 22 = cn := cfld_of_num hw (by omega)
    have hcm : cfld w 20 = cm := cfld_of_num hw (by omega)
    simp [decodeEtch, decodeBranch, hclass, hcode, ht, hrel, hcn, hcm]
  | timer notExpired sel =>
    simp only [branchBits, EtchOp.wf] at hx hwf
    have hbit := bitOf_lt notExpired
    have hbit' := bitOf_lt sel
    have hclass : ifld w 31 29 = 3 := ifld_of_num hw (by omega)
    have hcode : ifld w 28 26 = 4 := ifld_of_num hw (by omega)
    have ht : ifld w 9 0 = t.toNat := ifld_of_num hw (by omega)
    have hnot : w[17] = notExpired := bit_of_num hw (by omega)
    have hsel : w[16] = sel := bit_of_num hw (by omega)
    simp [decodeEtch, decodeBranch, hclass, hcode, ht, hnot, hsel]
  | sample ch less cn =>
    simp only [branchBits, EtchOp.wf] at hx hwf
    have hbit := bitOf_lt less
    have hclass : ifld w 31 29 = 3 := ifld_of_num hw (by omega)
    have hcode : ifld w 28 26 = 5 := ifld_of_num hw (by omega)
    have ht : ifld w 9 0 = t.toNat := ifld_of_num hw (by omega)
    have hch : ifld w 25 22 = ch := ifld_of_num hw (by omega)
    have hless : w[21] = less := bit_of_num hw (by omega)
    have hcn : cfld w 19 = cn := cfld_of_num hw (by omega)
    simp [decodeEtch, decodeBranch, hclass, hcode, ht, hch, hless, hcn, Nat.le_of_lt_succ hwf]

theorem decodeEtch_encodeEtch_count (op : CntOp) (cn : Fin 4) (hwf : (EtchOp.count op cn).wf) :
    decodeEtch (encodeEtch (.count op cn)) = some (.count op cn) := by
  obtain ⟨x, hx, hw⟩ : ∃ x, x = 4 * 2 ^ 29 + countBits op + cn.val * 2 ^ 16 ∧
      BitVec.ofNat 32 x = encodeEtch (.count op cn) := ⟨_, rfl, rfl⟩
  generalize encodeEtch (.count op cn) = w at hw ⊢
  cases op with
  | inc =>
    simp only [countBits] at hx
    have hclass : ifld w 31 29 = 4 := ifld_of_num hw (by omega)
    have hcode : ifld w 28 26 = 0 := ifld_of_num hw (by omega)
    have hcn : cfld w 16 = cn := cfld_of_num hw (by omega)
    simp [decodeEtch, decodeCount, hclass, hcode, hcn]
  | dec =>
    simp only [countBits] at hx
    have hclass : ifld w 31 29 = 4 := ifld_of_num hw (by omega)
    have hcode : ifld w 28 26 = 1 := ifld_of_num hw (by omega)
    have hcn : cfld w 16 = cn := cfld_of_num hw (by omega)
    simp [decodeEtch, decodeCount, hclass, hcode, hcn]
  | add imm =>
    simp only [countBits, EtchOp.wf] at hx hwf
    have hlt := imm.isLt
    have hclass : ifld w 31 29 = 4 := ifld_of_num hw (by omega)
    have hcode : ifld w 28 26 = 2 := ifld_of_num hw (by omega)
    have hcn : cfld w 16 = cn := cfld_of_num hw (by omega)
    have himm : w.setWidth 16 = imm := imm_of_num hw (by omega)
    simp [decodeEtch, decodeCount, hclass, hcode, hcn, himm]
  | bind ev =>
    simp only [countBits, EtchOp.wf] at hx hwf
    have hclass : ifld w 31 29 = 4 := ifld_of_num hw (by omega)
    have hcode : ifld w 28 26 = 3 := ifld_of_num hw (by omega)
    have hcn : cfld w 16 = cn := cfld_of_num hw (by omega)
    have hev : ifld w 5 0 = ev := ifld_of_num hw (by omega)
    simp [decodeEtch, decodeCount, hclass, hcode, hcn, hev]

theorem decodeEtch_encodeEtch_ldi (cn : Fin 4) (imm : Word) :
    decodeEtch (encodeEtch (.ldi cn imm)) = some (.ldi cn imm) := by
  obtain ⟨x, hx, hw⟩ : ∃ x, x = 5 * 2 ^ 29 + cn.val * 2 ^ 16 + imm.toNat ∧
      BitVec.ofNat 32 x = encodeEtch (.ldi cn imm) := ⟨_, rfl, rfl⟩
  generalize encodeEtch (.ldi cn imm) = w at hw ⊢
  have hlt := imm.isLt
  have hclass : ifld w 31 29 = 5 := ifld_of_num hw (by omega)
  have hcode : ifld w 28 26 = 0 := ifld_of_num hw (by omega)
  have hcn : cfld w 16 = cn := cfld_of_num hw (by omega)
  have himm : w.setWidth 16 = imm := imm_of_num hw (by omega)
  simp [decodeEtch, decodeLoad, hclass, hcode, hcn, himm]

theorem decodeEtch_encodeEtch_ldt (it : Bool) (unit val : Nat) (hunit : unit < 4) (hval : val < 2 ^ 24) :
    decodeEtch (encodeEtch (.ldt it unit val)) = some (.ldt it unit val) := by
  obtain ⟨x, hx, hw⟩ : ∃ x, x = 5 * 2 ^ 29 + (1 + bitOf it) * 2 ^ 26 + unit * 2 ^ 24 + val ∧
      BitVec.ofNat 32 x = encodeEtch (.ldt it unit val) := ⟨_, rfl, rfl⟩
  generalize encodeEtch (.ldt it unit val) = w at hw ⊢
  have hbit := bitOf_lt it
  have hclass : ifld w 31 29 = 5 := ifld_of_num hw (by omega)
  have hcode : ifld w 28 26 = 1 + bitOf it := ifld_of_num hw (by omega)
  have hu : ifld w 25 24 = unit := ifld_of_num hw (by omega)
  have hv : ifld w 23 0 = val := ifld_of_num hw (by omega)
  cases it <;> simp [decodeEtch, decodeLoad, hclass, hcode, hu, hv, bitOf]

theorem decodeEtch_encodeEtch_ldr (cn : Fin 4) (a : Nat) (ha : a < 65536) :
    decodeEtch (encodeEtch (.ldr cn a)) = some (.ldr cn a) := by
  obtain ⟨x, hx, hw⟩ : ∃ x, x = 5 * 2 ^ 29 + 3 * 2 ^ 26 + cn.val * 2 ^ 16 + a ∧
      BitVec.ofNat 32 x = encodeEtch (.ldr cn a) := ⟨_, rfl, rfl⟩
  generalize encodeEtch (.ldr cn a) = w at hw ⊢
  have hclass : ifld w 31 29 = 5 := ifld_of_num hw (by omega)
  have hcode : ifld w 28 26 = 3 := ifld_of_num hw (by omega)
  have hcn : cfld w 16 = cn := cfld_of_num hw (by omega)
  have haddr : ifld w 15 0 = a := ifld_of_num hw (by omega)
  simp [decodeEtch, decodeLoad, hclass, hcode, hcn, haddr]

theorem decodeEtch_encodeEtch_lds (ch : Nat) (cn : Fin 4) (hch : ch < 10) :
    decodeEtch (encodeEtch (.lds ch cn)) = some (.lds ch cn) := by
  obtain ⟨x, hx, hw⟩ : ∃ x, x = 5 * 2 ^ 29 + 4 * 2 ^ 26 + ch * 2 ^ 20 + cn.val * 2 ^ 16 ∧
      BitVec.ofNat 32 x = encodeEtch (.lds ch cn) := ⟨_, rfl, rfl⟩
  generalize encodeEtch (.lds ch cn) = w at hw ⊢
  have hclass : ifld w 31 29 = 5 := ifld_of_num hw (by omega)
  have hcode : ifld w 28 26 = 4 := ifld_of_num hw (by omega)
  have hfield : ifld w 23 20 = ch := ifld_of_num hw (by omega)
  have hcn : cfld w 16 = cn := cfld_of_num hw (by omega)
  simp [decodeEtch, decodeLoad, hclass, hcode, hfield, hcn, Nat.le_of_lt_succ hch]

/-- Settles O39, class by class of R302: each field of the word is read off its number. -/
theorem etcherWordsDecodeBack : Obligations.EtcherWordsDecodeBack := by
  intro op hwf
  cases op with
  | halt clr => exact decodeEtch_encodeEtch_halt clr
  | wait c t => exact decodeEtch_encodeEtch_wait c t hwf
  | sig op => exact decodeEtch_encodeEtch_sig op
  | actReg cn a => exact decodeEtch_encodeEtch_actReg cn a hwf
  | actMbx mb len => exact decodeEtch_encodeEtch_actMbx mb len hwf.1 hwf.2
  | kick a stop t => exact decodeEtch_encodeEtch_kick a stop t
  | branch c t => exact decodeEtch_encodeEtch_branch c t hwf
  | count op cn => exact decodeEtch_encodeEtch_count op cn hwf
  | ldi cn imm => exact decodeEtch_encodeEtch_ldi cn imm
  | ldt it unit val => exact decodeEtch_encodeEtch_ldt it unit val hwf.1 hwf.2
  | ldr cn a => exact decodeEtch_encodeEtch_ldr cn a hwf
  | lds ch cn => exact decodeEtch_encodeEtch_lds ch cn hwf

end Sys2Proof.Machine

/-! ## Proofs: the EPROG window (O45) -/

namespace Sys2Proof.Machine
namespace Hw

/-! ### What the window's operations do, by the party's window -/

theorem eprogAddr_eq (h : Hw) {p : Party} {i : Fin 3} (hp : eprogSlot p = some i) (v : Word) : h.eprogAddr p v =
    { h with eprog := h.eprog.set i { h.eprog[i] with addr := v.setWidth 10, half := .empty } } := by
  rw [eprogAddr, hp]

/-- The first half is held (R319). -/
theorem streamWrite_first (h : Hw) {p : Party} {i : Fin 3} (hp : eprogSlot p = some i) (v : Word)
    (hh : h.eprog[i].half ≠ .highWritten) :
    h.streamWrite p v = { h with eprog := h.eprog.set i { h.eprog[i] with hold := v, half := .highWritten } } := by
  simp only [streamWrite, hp]
  exact if_neg hh

/-- The second half completes a program word, and the address advances (R319, R320). -/
theorem streamWrite_second (h : Hw) {p : Party} {i : Fin 3} (hp : eprogSlot p = some i) (v : Word) {w : EprogWin}
    (hw : h.eprog[i] = w) (hh : w.half = .highWritten) : h.streamWrite p v =
      { h.progWrite w.addr (w.hold ++ v) with
        eprog := (h.progWrite w.addr (w.hold ++ v)).eprog.set i { w with addr := w.addr + 1, half := .empty } } := by
  subst hw
  simp only [streamWrite, hp]
  exact if_pos hh

theorem progWrite_free (h : Hw) (a : BitVec 10) (w : BitVec 32) (hf : h.progHeld a.toNat = false) :
    h.progWrite a w = { h with prog := Cells.put (fun _ => 0) h.prog a.toNat w } := by
  simp [progWrite, hf]

theorem progWrite_held (h : Hw) (a : BitVec 10) (w : BitVec 32) (hf : h.progHeld a.toNat = true) :
    h.progWrite a w = (h.setReg R.EPROG_WREJADDR (a.setWidth 16)).raise 0x17 0 := by
  simp [progWrite, hf]

/-- The first read latches the word (R319). -/
theorem streamRead_first (h : Hw) {p : Party} {i : Fin 3} (hp : eprogSlot p = some i) {w : EprogWin}
    (hw : h.eprog[i] = w) (hh : w.half ≠ .highRead) : h.streamRead p = (((h.progWord w.addr.toNat) >>> 16).setWidth 16,
      { h with eprog := h.eprog.set i { w with latched := h.progWord w.addr.toNat, half := .highRead } }) := by
  subst hw
  simp only [streamRead, hp]
  exact if_neg hh

theorem streamRead_second (h : Hw) {p : Party} {i : Fin 3} (hp : eprogSlot p = some i) {w : EprogWin}
    (hw : h.eprog[i] = w) (hh : w.half = .highRead) : h.streamRead p = (w.latched.setWidth 16,
      { h with eprog := h.eprog.set i { w with addr := w.addr + 1, half := .empty } }) := by
  subst hw
  simp only [streamRead, hp]
  exact if_pos hh

/-- Two halves after an address write put their word there, if no Etcher holds the address (R319, R320). -/
theorem prog_streamWrites (h : Hw) {p : Party} {i : Fin 3} (hp : eprogSlot p = some i) (a hi lo : Word)
    (hf : h.progHeld (a.toNat % 1024) = false) :
    (((h.eprogAddr p a).streamWrite p hi).streamWrite p lo).prog =
      Cells.put (fun _ => 0) h.prog (a.toNat % 1024) (hi ++ lo) := by
  have haddr : (a.setWidth 10).toNat = a.toNat % 1024 := BitVec.toNat_setWidth ..
  rw [h.eprogAddr_eq hp, streamWrite_first _ hp hi (by simp), streamWrite_second _ hp lo rfl (by simp)]
  simp only [Vector.getElem_set_self, Fin.getElem_fin]
  rw [progWrite_free _ _ _ (by rw [haddr]; exact hf), haddr]

/-! ### The commands -/

theorem writeRow_stream (h : Hw) {p : Party} {v : Word} (ha : h.accepts p R.EPROG_STREAM v) :
    h.writeRow p R.EPROG_STREAM v = h.streamWrite p v := writeRow_block _ _ _ _ .eprog (by decide) ha

/-- A party with a window is no Etcher. -/
theorem etchBarred_window {p : Party} {i : Fin 3} (hp : eprogSlot p = some i) (a : Nat) : etchBarred p a = none := by
  cases p with
  | etch n => cases hp
  | _ => rfl

theorem readRow_stream (h : Hw) {p : Party} {i : Fin 3} (hp : eprogSlot p = some i) (hu : h.partyUp p = true)
    (hpg : h.pageUp 0x17 = true) : h.readRow p R.EPROG_STREAM = (h.streamRead p).2 := by
  refine h.readRow_of_readBus _ p _ (h.streamRead p).1 hu (etchBarred_window hp _) ?_
  have hpage : h.pageUp (R.EPROG_STREAM / 256) = true := hpg
  simp [readBus, readErr, hpage, show R.EPROG_STREAM % 256 ≠ 15 by decide, readReg]

end Hw

/-- Settles O45: the writes and reads by the equations of the window, a word written by `prog_streamWrites`. -/
theorem eprogWindowMovesWords : Obligations.EprogWindowMovesWords := by
  refine fun s p i hp => ⟨fun v ha => done_congr ?_, fun v ha hh => done_congr ?_,
    fun v w ha hw hh => ⟨fun hf => done_congr ?_, fun hf => done_congr ?_⟩,
    fun hu hpg w hw => ⟨fun hh => ⟨done_congr ?_, ?_⟩, fun hh => ⟨done_congr ?_, ?_⟩⟩, fun h a hi lo hf => ?_⟩
  · exact (Hw.writeRow_block _ _ _ _ .eprog (by decide) ha).trans (s.hw.eprogAddr_eq hp v)
  · rw [s.hw.writeRow_stream ha, s.hw.streamWrite_first hp v hh]
  · rw [s.hw.writeRow_stream ha, s.hw.streamWrite_second hp v hw hh, s.hw.progWrite_free _ _ hf]
  · rw [s.hw.writeRow_stream ha, s.hw.streamWrite_second hp v hw hh, s.hw.progWrite_held _ _ hf, Hw.raise_eprog,
      Hw.setReg_eprog]
  · rw [s.hw.readRow_stream hp hu hpg, s.hw.streamRead_first hp hw hh]
  · rw [s.hw.streamRead_first hp hw hh]
  · rw [s.hw.readRow_stream hp hu hpg, s.hw.streamRead_second hp hw hh]
  · rw [s.hw.streamRead_second hp hw hh]
  · have hprog := h.prog_streamWrites hp a hi lo hf
    refine ⟨?_, fun b hb => ?_⟩
    · rw [Hw.progWord, hprog, Cells.get_put_same]
    · rw [Hw.progWord, hprog, Cells.get_put_ne _ _ _ _ _ hb, Hw.progWord]

end Sys2Proof.Machine

/-! ## Proofs: HALT, signals and KICK of an Etcher (O40) -/

namespace Sys2Proof.Machine

@[simp] theorem Etcher.paid_paid (e : Etcher) : e.paid.paid = e.paid := Hw.paid_zero e.paid rfl

@[simp] theorem Etcher.idled_paid (e : Etcher) : e.paid.idled = e.idled := by simp only [idled, paid_paid]

namespace Hw

/-! ### Replacing an Etcher, beside the other operations -/

@[simp] theorem setEtcher_etcher (h : Hw) (n : Fin 8) : h.setEtcher n (h.etcher n) = h := by simp [setEtcher, etcher]

theorem setEtcher_comm (h : Hw) {n m : Fin 8} (e e' : Etcher) (hm : m ≠ n) :
    (h.setEtcher n e).setEtcher m e' = (h.setEtcher m e').setEtcher n e := by
  have hne : (n : Nat) ≠ m := fun eq => hm (Fin.ext eq.symm)
  simp only [setEtcher, Hw.mk.injEq, true_and, and_true]
  exact Vector.set_comm _ _ hne

theorem eventDirect_setEtcher (h : Hw) (n : Fin 8) (e : Etcher) (k : Nat) :
    (h.setEtcher n e).eventDirect k = (h.eventDirect k).setEtcher n e := by
  rw [eventDirect, eventDirect, apply_ite (fun g : Hw => g.setEtcher n e)]
  rfl

theorem event_setEtcher (h : Hw) (n : Fin 8) (e : Etcher) (k : Nat) :
    (h.setEtcher n e).event k = (h.event k).setEtcher n e := by
  rw [event, event, apply_ite (fun g : Hw => g.setEtcher n e), apply_ite (fun g : Hw => g.setEtcher n e),
    eventDirect_setEtcher]
  rfl

theorem raise_setEtcher (h : Hw) (n : Fin 8) (e : Etcher) (pg k : Nat) :
    (h.setEtcher n e).raise pg k = (h.raise pg k).setEtcher n e := by
  rw [raise_eq, raise_eq, apply_ite (fun g : Hw => g.setEtcher n e)]
  rfl

/-! ### The end of an instruction's cycle -/

@[simp] theorem etchPaid_setEtcher (h : Hw) (n : Fin 8) (e : Etcher) :
    (h.setEtcher n e).etchPaid n = h.setEtcher n e.paid := by simp [etchPaid]

/-- An Etcher that has entered IDLE is owed nothing more. -/
theorem etchIdle_paid (h : Hw) (n : Fin 8) : (h.etchIdle n).etchPaid n = h.etchIdle n := by
  rw [etchPaid, etchIdle_etcher, Etcher.paid_idled, ← etchIdle_etcher, setEtcher_etcher]

/-- An instruction leaves `e` and sends the PC to `a`. -/
theorem etchGo_paid (h : Hw) (n : Fin 8) (e : Etcher) (a : Nat) :
    ((h.setEtcher n { e with seen := h.fabric, seenSample := h.newSample }).etchGo n a).etchPaid n =
      h.setEtcher n { e.paid with
        pc := BitVec.ofNat 10 a, st := .run, seen := h.fabric, seenSample := h.newSample } := by
  rw [etchGo_set, etchPaid_setEtcher]
  rfl

/-- An instruction leaves `e` and continues at PC + 1. -/
theorem etchNext_paid (h : Hw) (n : Fin 8) (e : Etcher) (hpc : e.pc = (h.etcher n).pc) :
    ((h.setEtcher n { e with seen := h.fabric, seenSample := h.newSample }).etchNext n).etchPaid n = h.moved n e := by
  have hat : (h.setEtcher n { e with seen := h.fabric, seenSample := h.newSample }).etchPc n = h.etchPc n := by
    simp [etchPc, hpc]
  rw [etchNext, hat, etchGo_paid, moved]

/-! ### HALT and the signals -/

theorem doHalt_paid (h : Hw) (n : Fin 8) (clr : Bool) (hst : (h.etcher n).st ≠ .idle) : (h.doHalt n clr).etchPaid n =
    (h.setEtcher n { (h.etcher n).paid with
      st := .idle, level := (h.etcher n).level && !clr, stopping := false, pend := none, access := none
      it := (h.etcher n).it.map fun t => { t with counting := false }, seen := h.fabric, seenSample := h.newSample }).raise
        0x16 n := by
  rw [doHalt, etchIdle_paid, etchIdle_eq]
  cases clr <;> simp [etchSaw, hst, Etcher.idled, Etcher.paid]

/-- An instruction that pulses an event, leaves `e` and continues at PC + 1. -/
theorem event_etchNext_paid (h : Hw) (n : Fin 8) (e : Etcher) (k : Nat) (hpc : e.pc = (h.etcher n).pc) :
    (((h.setEtcher n { e with seen := h.fabric, seenSample := h.newSample }).event k).etchNext n).etchPaid n =
      (h.event k).moved n e := by
  rw [event_setEtcher, ← event_fabric h k, ← event_newSample h k]
  exact etchNext_paid (h.event k) n e (by rw [event_etcher, hpc])

theorem doSig_nop_paid (h : Hw) (n : Fin 8) : (h.doSig n .nop).etchPaid n = h.moved n (h.etcher n) :=
  etchNext_paid h n (h.etcher n) rfl

theorem doSig_pulse_paid (h : Hw) (n : Fin 8) :
    (h.doSig n .pulse).etchPaid n = (h.event (52 + n)).moved n (h.etcher n) :=
  event_etchNext_paid h n (h.etcher n) (52 + n) rfl

theorem doSig_set_paid (h : Hw) (n : Fin 8) :
    (h.doSig n .set).etchPaid n = (h.event (52 + n)).moved n { h.etcher n with level := true } := by
  simp only [doSig, etchSaw, etcher_setEtcher, setEtcher_setEtcher]
  exact event_etchNext_paid h n { h.etcher n with level := true } (52 + n) rfl

theorem doSig_clr_paid (h : Hw) (n : Fin 8) :
    (h.doSig n .clr).etchPaid n = h.moved n { h.etcher n with level := false } := by
  simp only [doSig, etchSaw, etcher_setEtcher, setEtcher_setEtcher]
  exact etchNext_paid h n { h.etcher n with level := false } rfl

/-- TGL acts as CLR or as SET, by the level (R307). -/
theorem doSig_tgl (h : Hw) (n : Fin 8) :
    h.doSig n .tgl = if (h.etcher n).level then h.doSig n .clr else h.doSig n .set := by
  simp only [doSig]
  split <;> rfl

/-! ### Starts and stops -/

theorem etchStop_idle (h : Hw) (n : Fin 8) (hst : (h.etcher n).st = .idle) : h.etchStop n = h := by
  simp only [etchStop, hst]

theorem etchStop_stall (h : Hw) (n : Fin 8) (hst : (h.etcher n).st = .stall) :
    h.etchStop n = h.setEtcher n { h.etcher n with stopping := true, pend := none } := by
  simp only [etchStop, hst]

theorem etchStop_runs (h : Hw) (n : Fin 8) (hst : (h.etcher n).st = .run ∨ (h.etcher n).st = .wait) :
    h.etchStop n = (h.setEtcher n (h.etcher n).idled).raise 0x16 n := by
  have hidle : h.etchStop n = h.etchIdle n := by rcases hst with hst | hst <;> simp only [etchStop, hst]
  rw [hidle, etchIdle_eq, if_neg (by rcases hst with hst | hst <;> simp [hst])]

theorem etchStart_rejected (h : Hw) (n : Fin 8) (a : Nat) (hl : h.live .sense = true) (hr : h.startRejected n a = true) :
    h.etchStart n a = h.setBits R.ETCH_STAT 0x0800 := by simp [etchStart, hl, hr]

theorem etchStart_stall (h : Hw) (n : Fin 8) (a : Nat) (hl : h.live .sense = true) (hr : h.startRejected n a = false)
    (hst : (h.etcher n).st = .stall) :
    h.etchStart n a = h.setEtcher n { h.etcher n with pend := some (BitVec.ofNat 10 a) } := by
  simp [etchStart, hl, hr, hst]

theorem etchStart_begins (h : Hw) (n : Fin 8) (a : Nat) (hl : h.live .sense = true) (hr : h.startRejected n a = false)
    (hst : (h.etcher n).st ≠ .stall) : h.etchStart n a = h.etchBegin n a := by
  simp [etchStart, hl, hr, hst]

/-! ### KICK: what it does to its target does not touch the end of its own cycle -/

/-- A change of Etcher `t` that passes by the owed pulses passes by the end of a cycle of Etcher `n`. -/
theorem etchPaid_change (h : Hw) (n t : Fin 8) (f : Etcher → Etcher) (hf : ∀ e, (f e).paid = f e.paid) :
    (h.setEtcher t (f (h.etcher t))).etchPaid n = (h.etchPaid n).setEtcher t (f ((h.etchPaid n).etcher t)) := by
  by_cases ht : t = n
  · subst ht
    rw [etchPaid_setEtcher, etchPaid_etcher, hf, etchPaid, setEtcher_setEtcher]
  · rw [etchPaid, etcher_setEtcher_ne _ _ _ _ (Ne.symm ht), etchPaid, etcher_setEtcher_ne _ _ _ _ ht,
      setEtcher_comm _ _ _ (Ne.symm ht)]

theorem st_etchPaid (h : Hw) (n t : Fin 8) : ((h.etchPaid n).etcher t).st = (h.etcher t).st := by
  by_cases ht : t = n
  · subst ht
    rw [etchPaid_etcher]
    rfl
  · rw [etchPaid, etcher_setEtcher_ne _ _ _ _ ht]

theorem raise_etchPaid (h : Hw) (n : Fin 8) (pg k : Nat) : (h.raise pg k).etchPaid n = (h.etchPaid n).raise pg k := by
  rw [etchPaid, etcher_of_etch (raise_etch h pg k) n, etchPaid, raise_setEtcher]

theorem etchStop_etchPaid (h : Hw) (n t : Fin 8) : (h.etchStop t).etchPaid n = (h.etchPaid n).etchStop t := by
  have hst := h.st_etchPaid n t
  have runs (hr : (h.etcher t).st = .run ∨ (h.etcher t).st = .wait) :
      (h.etchStop t).etchPaid n = (h.etchPaid n).etchStop t := by
    rw [etchStop_runs _ _ hr, etchStop_runs _ _ (by rwa [hst]), raise_etchPaid,
      etchPaid_change h n t Etcher.idled fun e => by rw [Etcher.paid_idled, Etcher.idled_paid]]
  cases hs : (h.etcher t).st with
  | idle => rw [etchStop_idle _ _ hs, etchStop_idle _ _ (hst.trans hs)]
  | stall =>
    rw [etchStop_stall _ _ hs, etchStop_stall _ _ (hst.trans hs)]
    exact etchPaid_change h n t (fun e => { e with stopping := true, pend := none }) fun _ => rfl
  | run => exact runs (.inl hs)
  | wait => exact runs (.inr hs)

theorem etchStart_etchPaid (h : Hw) (n t : Fin 8) (a : Nat) :
    (h.etchStart t a).etchPaid n = (h.etchPaid n).etchStart t a := by
  have hst := h.st_etchPaid n t
  have hlive : (h.etchPaid n).live .sense = h.live .sense := rfl
  have hrej : (h.etchPaid n).startRejected t a = h.startRejected t a := rfl
  cases hl : h.live .sense with
  | false => simp [etchStart, hlive, hl]
  | true =>
    cases hr : h.startRejected t a with
    | true =>
      rw [etchStart_rejected _ _ _ hl hr, etchStart_rejected _ _ _ (hlive.trans hl) (hrej.trans hr)]
      rfl
    | false =>
      by_cases hs : (h.etcher t).st = .stall
      · rw [etchStart_stall _ _ _ hl hr hs, etchStart_stall _ _ _ (hlive.trans hl) (hrej.trans hr) (hst.trans hs)]
        exact etchPaid_change h n t (fun e => { e with pend := some (BitVec.ofNat 10 a) }) fun _ => rfl
      · rw [etchStart_begins _ _ _ hl hr hs, etchStart_begins _ _ _ (hlive.trans hl) (hrej.trans hr) (by rwa [hst])]
        exact etchPaid_change h n t (fun e => { e with
          pc := BitVec.ofNat 10 a, st := .run, stopping := false, pend := none, access := none
          it := e.it.map fun t => { t with val := 0, expired := true, counting := false, presc := 0 }
          bind := Vector.replicate 4 none, seen := h.fabric, seenSample := h.newSample }) fun _ => rfl

theorem kickLost_iff (n : Fin 8) (page : Bool) (kicks : BitVec 8) :
    kickLost n page kicks = true ↔ page = true ∨ ∃ k : Nat, k < n.val ∧ kicks.getLsbD k = true := by
  simp [kickLost, -BitVec.getLsbD_eq_getElem]

theorem doKick_paid (h : Hw) (n : Fin 8) (a : BitVec 10) (stop : Bool) (t : Fin 8) (page : Bool) (kicks : BitVec 8) :
    (h.doKick n a stop t page kicks).etchPaid n =
      if kickLost n page kicks then (h.moved n (h.etcher n)).setBits R.ETCH_KDROP (2 ^ t.val)
      else if stop then (h.moved n (h.etcher n)).etchStop t else (h.moved n (h.etcher n)).etchStart t a.toNat := by
  rw [← etchNext_paid h n (h.etcher n) rfl, ← etchStop_etchPaid, ← etchStart_etchPaid, doKick]
  split
  · rfl
  · split <;> rfl

end Hw

/-- Settles O40: HALT by `doHalt_paid`, the signals by `etchNext_paid` and `event_etchNext_paid`, KICK by `doKick_paid`. -/
theorem etcherSignalsAndKicks : Obligations.EtcherSignalsAndKicks := by
  refine ⟨fun s n e he => ⟨fun clr hf => done_congr ?_, fun hf => done_congr ?_, fun hf => done_congr ?_,
      fun hf => done_congr ?_, fun hf => done_congr ?_,
      fun hf => ⟨fun hlevel => done_congr ?_, fun hlevel => done_congr ?_⟩⟩,
    fun s n t e a page kicks he lost hlost => ⟨fun hf => ⟨fun hwin => done_congr ?_, fun hlose => done_congr ?_⟩,
      fun hf => ⟨fun hwin => done_congr ?_, fun hlose => done_congr ?_⟩⟩⟩
  all_goals subst he
  · obtain ⟨-, hst, -⟩ := Hw.etchFetch_some hf
    rw [Hw.etchDo_of_fetch hf rfl, Hw.doHalt_paid _ _ _ (by rcases hst with hst | hst <;> simp [hst])]
  · rw [Hw.etchDo_of_fetch hf (if_pos rfl), Hw.doSig_nop_paid]
  · rw [Hw.etchDo_of_fetch hf (if_pos rfl), Hw.doSig_pulse_paid]
  · rw [Hw.etchDo_of_fetch hf (if_pos rfl), Hw.doSig_set_paid]
  · rw [Hw.etchDo_of_fetch hf (if_pos rfl), Hw.doSig_clr_paid]
  · rw [Hw.etchDo_of_fetch hf (if_pos rfl), Hw.doSig_tgl, if_pos hlevel, Hw.doSig_clr_paid]
  · rw [Hw.etchDo_of_fetch hf (if_pos rfl), Hw.doSig_tgl, if_neg (by simp [hlevel]), Hw.doSig_set_paid]
  · rw [Hw.etchDo_of_fetch hf rfl, Hw.doKick_paid, if_neg (by rwa [Hw.kickLost_iff, ← hlost]), if_neg (by decide)]
  · rw [Hw.etchDo_of_fetch hf rfl, Hw.doKick_paid, if_pos (by rwa [Hw.kickLost_iff, ← hlost])]
  · rw [Hw.etchDo_of_fetch hf rfl, Hw.doKick_paid, if_neg (by rwa [Hw.kickLost_iff, ← hlost]), if_pos rfl]
  · rw [Hw.etchDo_of_fetch hf rfl, Hw.doKick_paid, if_pos (by rwa [Hw.kickLost_iff, ← hlost])]

end Sys2Proof.Machine

/-! ## Proofs: WAIT and BRANCH of an Etcher (O41) -/

namespace Sys2Proof.Machine

/-- The command of a WAIT, by its condition. -/
def waitInstr (n : Fin 8) : WaitCond → Instr
  | .ev _ _ => .waitEv n
  | .state _ _ => .waitState n
  | .timer _ => .waitTimer n
  | .sample _ _ _ _ => .waitSample n
  | .count _ _ => .waitCount n

/-- The command of a BRANCH, by its condition. -/
def branchInstr (n : Fin 8) : BrCond → Instr
  | .always => .jmp n
  | .ev _ => .branchEv n
  | .state _ _ => .branchState n
  | .cnt _ _ _ => .branchCnt n
  | .timer _ _ => .branchTimer n
  | .sample _ _ _ => .branchSample n

namespace Hw

/-! ### The commands execute what is fetched -/

theorem exec_waitInstr {s : State} {n : Fin 8} {c : WaitCond} {t : Option Bool}
    (hf : s.hw.etchFetch n = some (.wait c t)) :
    exec (waitInstr n c) s = .next (s.after ((s.hw.doWait n c t).etchPaid n)) := by
  cases c <;> exact done_congr (etchDo_of_fetch hf rfl)

theorem exec_branchInstr {s : State} {n : Fin 8} {c : BrCond} {t : BitVec 10}
    (hf : s.hw.etchFetch n = some (.branch c t)) :
    exec (branchInstr n c) s = .next (s.after ((s.hw.doBranch n c t).etchPaid n)) := by
  cases c <;> exact done_congr (etchDo_of_fetch hf rfl)

theorem etchWait_of_fetch {h : Hw} {n : Fin 8} {c : WaitCond} {t : Option Bool}
    (hf : h.etchFetch n = some (.wait c t)) : h.etchWait n = some (c, t) := by simp only [etchWait, hf]

theorem exec_waitComplete {s : State} {n : Fin 8} {c : WaitCond} {t : Option Bool}
    (hf : s.hw.etchFetch n = some (.wait c t)) (hst : (s.hw.etcher n).st = .wait) (hc : s.hw.waitHolds n c = true) :
    exec (.waitComplete n) s = .next (s.after ((s.hw.doWait n c t).etchPaid n)) :=
  done_congr (by simp [waitComplete, etchWait_of_fetch hf, hst, hc])

theorem exec_waitTimeout {s : State} {n : Fin 8} {c : WaitCond} {x : Bool}
    (hf : s.hw.etchFetch n = some (.wait c (some x))) (hc : s.hw.waitHolds n c = false)
    (hx : (s.hw.itOf n x).expired = true) :
    exec (.waitTimeout n) s = .next (s.after ((s.hw.doWait n c (some x)).etchPaid n)) :=
  done_congr (by simp [waitTimeout, etchWait_of_fetch hf, hc, hx])

/-! ### A cycle of a WAIT -/

theorem doWait_holds_paid (h : Hw) (n : Fin 8) (c : WaitCond) (t : Option Bool) (hc : h.waitHolds n c = true) :
    (h.doWait n c t).etchPaid n = h.moved n (h.etcher n) := by
  have hdo : h.doWait n c t = (h.etchSaw n).etchNext n := by cases t <;> exact if_pos hc
  rw [hdo]
  exact etchNext_paid h n (h.etcher n) rfl

/-- Neither the condition nor a timeout: the Etcher waits (R305). -/
theorem doWait_waits_paid (h : Hw) (n : Fin 8) (c : WaitCond) (t : Option Bool) (hc : h.waitHolds n c = false)
    (ht : t = none ∨ ∃ x, t = some x ∧ (h.itOf n x).expired = false) :
    (h.doWait n c t).etchPaid n = h.setEtcher n { (h.etcher n).paid with
      st := .wait, seen := h.fabric, seenSample := h.newSample } := by
  have hdo : h.doWait n c t = (h.etchSaw n).setEtcher n { (h.etchSaw n).etcher n with st := .wait } := by
    rcases ht with rfl | ⟨x, rfl, hx⟩ <;> simp [doWait, *]
  rw [hdo, etchPaid_setEtcher, etchSaw, setEtcher_setEtcher, etcher_setEtcher]
  rfl

theorem doWait_timeout_paid (h : Hw) (n : Fin 8) (c : WaitCond) (x : Bool) (hc : h.waitHolds n c = false)
    (hx : (h.itOf n x).expired = true) :
    (h.doWait n c (some x)).etchPaid n = h.setEtcher n { (h.etcher n).paid with
      pc := BitVec.ofNat 10 (h.etchPc n + 2), st := .run, seen := h.fabric, seenSample := h.newSample } := by
  have hdo : h.doWait n c (some x) = (h.etchSaw n).etchGo n (h.etchPc n + 2) := by
    simp [doWait, hc, hx, etchPc_etchSaw]
  rw [hdo]
  exact etchGo_paid h n (h.etcher n) _

/-! ### BRANCH -/

theorem doBranch_holds_paid (h : Hw) (n : Fin 8) (c : BrCond) (t : BitVec 10) (hc : h.branchHolds n c = true) :
    (h.doBranch n c t).etchPaid n = h.setEtcher n { (h.etcher n).paid with
      pc := t, st := .run, seen := h.fabric, seenSample := h.newSample } := by
  rw [doBranch, if_pos hc]
  refine (etchGo_paid h n (h.etcher n) t.toNat).trans ?_
  rw [BitVec.ofNat_toNat, BitVec.setWidth_eq]

theorem doBranch_fails_paid (h : Hw) (n : Fin 8) (c : BrCond) (t : BitVec 10) (hc : h.branchHolds n c = false) :
    (h.doBranch n c t).etchPaid n = h.moved n (h.etcher n) := by
  rw [doBranch, if_neg (by simp [hc])]
  exact etchNext_paid h n (h.etcher n) rfl

end Hw

/-- Settles O41: the commands execute `doWait` and `doBranch`, each by its cases. -/
theorem etcherWaitsAndBranches : Obligations.EtcherWaitsAndBranches := by
  refine ⟨fun s n e c t he hf i hi => ⟨fun hc => ⟨?_, fun hst => ?_⟩, fun hc ht => ?_, fun x hc ht hx j hj => ?_⟩,
    fun s n e c t he hf i hi => ⟨fun hc => ?_, fun hc => ?_⟩⟩
  all_goals subst he
  · obtain rfl : i = waitInstr n c := hi.trans (by cases c <;> rfl)
    rw [Hw.exec_waitInstr hf, Hw.doWait_holds_paid _ _ _ _ hc]
  · rw [Hw.exec_waitComplete hf hst hc, Hw.doWait_holds_paid _ _ _ _ hc]
  · obtain rfl : i = waitInstr n c := hi.trans (by cases c <;> rfl)
    rw [Hw.exec_waitInstr hf, Hw.doWait_waits_paid _ _ _ _ hc ht]
  · obtain rfl : i = waitInstr n c := hi.trans (by cases c <;> rfl)
    subst ht
    have hexec : exec j s = .next (s.after ((s.hw.doWait n c (some x)).etchPaid n)) := by
      rcases hj with rfl | rfl
      · exact Hw.exec_waitInstr hf
      · exact Hw.exec_waitTimeout hf hc hx
    rw [hexec, Hw.doWait_timeout_paid _ _ _ _ hc hx]
  · obtain rfl : i = branchInstr n c := hi.trans (by cases c <;> rfl)
    rw [Hw.exec_branchInstr hf, Hw.doBranch_holds_paid _ _ _ _ hc]
  · obtain rfl : i = branchInstr n c := hi.trans (by cases c <;> rfl)
    rw [Hw.exec_branchInstr hf, Hw.doBranch_fails_paid _ _ _ _ hc]

end Sys2Proof.Machine

/-! ## Proofs: COUNT and LOAD of an Etcher (O42) -/

namespace Sys2Proof.Machine

/-- A counter with the pulse that it is owed (R310). -/
theorem Etcher.paid_ctr (e : Etcher) (c : Fin 4) :
    e.paid.c[c] = if e.owed.getLsbD c = true then e.c[c] + 1 else e.c[c] := by
  simp [Etcher.paid]

/-- A fold that marks the counters of a list marks those and no others. -/
theorem getLsbD_foldl_mark (p : Fin 4 → Bool) (c : Fin 4) (l : List (Fin 4)) (m : BitVec 4) :
    (l.foldl (fun m i => if p i then m ||| (1#4 <<< i.val) else m) m).getLsbD c =
      (m.getLsbD c || (decide (c ∈ l) && p c)) := by
  have hbit : ∀ i c : Fin 4, (1#4 <<< i.val).getLsbD c.val = decide (c = i) := by decide
  induction l generalizing m with
  | nil => simp
  | cons i t ih =>
    rw [List.foldl_cons, ih]
    by_cases hi : p i = true
    · rw [if_pos hi, BitVec.getLsbD_or, hbit]
      by_cases hc : c = i <;> simp [hc, hi]
    · rw [if_neg hi]
      by_cases hc : c = i <;> simp [hc, hi]

/-- The bound counters that a cycle hits (R310). -/
theorem Etcher.hits_iff (e : Etcher) (pulses : BitVec 64) (c : Fin 4) :
    (e.hits pulses).getLsbD c = true ↔ ∃ ev, e.bind[c] = some ev ∧ pulses.getLsbD ev = true := by
  rw [Etcher.hits, getLsbD_foldl_mark (fun i => (e.bind[i]).any fun ev => pulses.getLsbD ev)]
  simp [Option.any_eq_true, -BitVec.getLsbD_eq_getElem]

namespace Hw

/-! ### COUNT and the loads -/

/-- An instruction that only writes a counter (R309, R311). -/
theorem setCtr_etchNext_paid (h : Hw) (n : Fin 8) (c : Fin 4) (v : Word) :
    (((h.etchSaw n).setCtr n c v).etchNext n).etchPaid n =
      h.moved n { h.etcher n with c := (h.etcher n).c.set c v } := by
  simp only [setCtr, etchSaw, etcher_setEtcher, setEtcher_setEtcher]
  exact etchNext_paid h n { h.etcher n with c := (h.etcher n).c.set c v } rfl

theorem doCount_bind_paid (h : Hw) (n : Fin 8) (ev : Nat) (c : Fin 4) : (h.doCount n (.bind ev) c).etchPaid n =
    h.moved n { h.etcher n with bind := (h.etcher n).bind.set c (if ev = 63 then none else some ev) } := by
  simp only [doCount, etchSaw, etcher_setEtcher, setEtcher_setEtcher]
  exact etchNext_paid h n { h.etcher n with bind := (h.etcher n).bind.set c (if ev = 63 then none else some ev) } rfl

theorem doLdt_paid (h : Hw) (n : Fin 8) (sel : Bool) (unit val : Nat) (t : IntTimer)
    (ht : t = { val := val, unit := unit, expired := val = 0, counting := val != 0, presc := 0 }) :
    (h.doLdt n sel unit val).etchPaid n =
      h.moved n { h.etcher n with it := if sel then (h.etcher n).it.set 1 t else (h.etcher n).it.set 0 t } := by
  rw [doLdt, ← ht]
  simp only [setIt, etchSaw, etcher_setEtcher, setEtcher_setEtcher]
  exact etchNext_paid h n
    { h.etcher n with it := if sel then (h.etcher n).it.set 1 t else (h.etcher n).it.set 0 t } rfl

/-! ### Bound counters -/

/-- The pulses of a cycle are owed to a running Etcher until its instruction has acted (R310). -/
theorem countBound_running (h : Hw) (pulses : BitVec 64) (m : Fin 8) (hst : (h.etcher m).st = .run)
    (howed : (h.etcher m).owed = 0) :
    (h.countBound pulses).etcher m = { h.etcher m with owed := (h.etcher m).hits pulses } := by
  have hmap : (h.countBound pulses).etcher m =
      if (h.etcher m).st = .run then { (h.etcher m).paid with owed := (h.etcher m).hits pulses }
      else ({ (h.etcher m).paid with owed := (h.etcher m).hits pulses } : Etcher).paid := by
    rw [countBound, etcher, Fin.getElem_fin, Vector.getElem_map]
    rfl
  rw [hmap, if_pos hst, paid_zero _ howed]

/-- A page write of a counter drops the pulse that it is owed (R310). -/
theorem pageCtr_paid (h : Hw) (m : Fin 8) (c : Fin 4) (v : Word) : ((h.pageCtr m c v).etcher m).paid.c[c] = v := by
  have hbit : ∀ c : Fin 4, (1#4 <<< c.val).getLsbD c.val = true := by decide
  rw [Etcher.paid_ctr, pageCtr, etcher_setEtcher]
  simp only [BitVec.getLsbD_and, BitVec.getLsbD_not, hbit]
  simp

end Hw

/-- Settles O42: a counter by `setCtr_etchNext_paid`, a binding by `doCount_bind_paid`, a timer by `doLdt_paid`, the bound
events by `Etcher.hits_iff`. -/
theorem etcherCountsAndLoads : Obligations.EtcherCountsAndLoads := by
  intro s n e he
  subst he
  refine ⟨fun c => ⟨fun hf => done_congr ?_, fun hf => done_congr ?_, fun x hf => done_congr ?_,
      fun x hf => done_congr ?_, fun x hf => done_congr ?_, fun ch hf => done_congr ?_⟩,
    fun u x hf => done_congr ?_, fun u x hf => done_congr ?_, fun sel hl hc hu => done_congr ?_,
    fun x => ⟨rfl, x.paid_ctr⟩, fun h pulses m c v hst howed => ⟨?_, ?_, Hw.pageCtr_paid _ m c v⟩⟩
  · exact (Hw.etchDo_of_fetch hf rfl).trans (s.hw.setCtr_etchNext_paid n c _)
  · exact (Hw.etchDo_of_fetch hf rfl).trans (s.hw.setCtr_etchNext_paid n c _)
  · exact (Hw.etchDo_of_fetch hf rfl).trans (s.hw.setCtr_etchNext_paid n c _)
  · exact (Hw.etchDo_of_fetch hf rfl).trans (s.hw.doCount_bind_paid n x c)
  · exact (Hw.etchDo_of_fetch hf rfl).trans (s.hw.setCtr_etchNext_paid n c _)
  · exact (Hw.etchDo_of_fetch hf rfl).trans (s.hw.setCtr_etchNext_paid n c _)
  · exact (Hw.etchDo_of_fetch hf rfl).trans (s.hw.doLdt_paid n false u x _ rfl)
  · exact (Hw.etchDo_of_fetch hf rfl).trans (s.hw.doLdt_paid n true u x _ rfl)
  · simp [Hw.itExpire, hl, hc, hu]
  · rw [h.countBound_running pulses m hst howed]
  · rw [h.countBound_running pulses m hst howed]
    exact (h.etcher m).hits_iff pulses c

end Sys2Proof.Machine

/-! ## Proofs: starts, stops and errors of Etchers (O44) -/

namespace Sys2Proof.Machine
namespace Hw

/-! ### Errors that halt -/

theorem live_of_etchRuns {h : Hw} {n : Fin 8} (hr : h.etchRuns n = true) : h.live .sense = true := by
  simp only [etchRuns, Bool.and_eq_true] at hr
  exact live_of_up hr.1

theorem ne_idle_of_etchRuns {h : Hw} {n : Fin 8} (hr : h.etchRuns n = true) : (h.etcher n).st ≠ .idle := by
  simp only [etchRuns, Bool.and_eq_true, Bool.or_eq_true, beq_iff_eq] at hr
  rcases hr.2 with hst | hst <;> simp [hst]

/-- Error 2 of an illegal word, error 3 of a fetch outside the region (R323). -/
def haltCode (h : Hw) (n : Fin 8) : Nat := if h.inRegion n (h.etchPc n) = true then 2 else 3

/-- The state in which an error that halts is recorded, before the entry into IDLE. -/
def haltError (h : Hw) (n : Fin 8) : Hw := (h.etchSaw n).etchError n (h.haltCode n) (h.etchPc n)

theorem doIllegal_eq (h : Hw) (n : Fin 8) : h.doIllegal n = (h.haltError n).etchIdle n := by
  rw [doIllegal, haltError, haltCode]
  split <;> rfl

theorem haltError_etcher (h : Hw) (n : Fin 8) : (h.haltError n).etcher n =
    { h.etcher n with seen := h.fabric, seenSample := h.newSample } :=
  (etcher_of_etch (etchError_etch _ _ _ _) n).trans (etcher_setEtcher _ _ _)

theorem haltError_pwr (h : Hw) (n : Fin 8) : (h.haltError n).pwr = h.pwr := raise_pwr _ _ _

/-- The entry into IDLE of an Etcher that was not IDLE sets HALTn (R299). -/
theorem etchIdle_flag (h : Hw) (n : Fin 8) (hl : h.live .sense = true) (hst : (h.etcher n).st ≠ .idle) :
    (h.etchIdle n).b R.ETCH_IFLAG n = true := by
  rw [etchIdle_eq, if_neg hst]
  exact raise_b_same _ 0x16 n (by omega) (pageLive_of_live _ _ .etch rfl hl)

/-- What an error that halts leaves (R323). -/
theorem doIllegal_spec (h : Hw) (n : Fin 8) (hr : h.etchRuns n = true) (g : Hw) (hg : g = (h.doIllegal n).etchPaid n) :
    (g.etcher n).st = .idle ∧ (g.etcher n).pc = (h.etcher n).pc ∧ (g.etcher n).level = (h.etcher n).level ∧
      (g.etcher n).c = (h.etcher n).paid.c ∧ g.b R.ETCH_IFLAG (8 + n) = true ∧ g.b R.ETCH_IFLAG n = true ∧
      g.reg (R.ETCH_R n 5) = wd (h.haltCode n * 4096 + h.etchPc n) := by
  rw [doIllegal_eq, etchIdle_paid] at hg
  subst hg
  have hlive := live_of_etchRuns hr
  have hcause : (h.haltError n).reg (R.ETCH_R n 5) = wd (h.haltCode n * 4096 + h.etchPc n) :=
    etchError_cause _ _ _ _ (h.etchPc_lt n)
  have hflag : (h.haltError n).b R.ETCH_IFLAG (8 + n) = true := etchError_flag _ _ _ _ hlive
  have hst : ((h.haltError n).etcher n).st ≠ .idle := by
    rw [haltError_etcher]
    exact ne_idle_of_etchRuns hr
  rw [etchIdle_etcher, haltError_etcher]
  exact ⟨rfl, rfl, rfl, rfl, etchIdle_b_mono _ _ _ _ hflag,
    etchIdle_flag _ n ((live_of_pwr (h.haltError_pwr n) .sense).trans hlive) hst,
    (etchOnly_etchIdle _ n).cause.trans hcause⟩

/-- A fetch outside the region halts, whatever the command names (R317). -/
theorem etchDo_outside (h : Hw) (n : Fin 8) (pick : EtchOp → Option Hw) (hr : h.etchRuns n = true)
    (hout : h.inRegion n (h.etchPc n) = false) : h.etchDo n pick = (h.doIllegal n).etchPaid n := by
  simp [etchDo, fetchFails, hr, hout]

theorem etchIllegal_eq (h : Hw) (n : Fin 8) (hr : h.etchRuns n = true) (hf : h.etchFetch n = none) :
    h.etchIllegal n = (h.doIllegal n).etchPaid n := by
  simp [etchIllegal, hr, hf]

/-- The commands that execute the instruction at the PC of Etcher `n`. -/
def etchInstrs (n : Fin 8) (page : Bool) (kicks : BitVec 8) : List Instr :=
  [.halt n, .waitEv n, .waitState n, .waitTimer n, .waitSample n, .waitCount n, .nop n, .pulse n, .set n,
    .clr n, .tgl n, .actReg n, .actMbx n, .kickStart n page kicks, .kickStop n page kicks, .jmp n, .branchEv n,
    .branchState n, .branchCnt n, .branchTimer n, .branchSample n, .inc n, .dec n, .add n, .bind n, .ldi n,
    .ldt0 n, .ldt1 n, .ldr n, .lds n]

theorem exec_etchInstrs {s : State} {n : Fin 8} {page : Bool} {kicks : BitVec 8} {i : Instr}
    (hi : i ∈ etchInstrs n page kicks) : ∃ pick, exec i s = done s (s.hw.etchDo n pick) := by
  revert i
  simp only [etchInstrs, List.forall_mem_cons, List.not_mem_nil, false_implies, implies_true, and_true]
  repeat' apply And.intro
  all_goals exact ⟨_, rfl⟩

/-! ### Writes to CMDn and GO -/

theorem blockReg_cmd (n : Fin 8) : blockReg (R.ETCH_R n 3) .etch = true := by revert n; decide

theorem writeRow_go (h : Hw) {p : Party} {v : Word} (ha : h.accepts p R.ETCH_GO v) :
    h.writeRow p R.ETCH_GO v = h.etchControl (v.setWidth 8) ((v >>> 8).setWidth 8) :=
  writeRow_block _ _ _ _ .etch (by decide) ha

theorem blockWrite_cmd (h : Hw) (p : Party) (n : Fin 8) (v : Word) :
    h.blockWrite p .etch (R.ETCH_R n 3) v = h.etchCmd n v := by
  fin_cases n <;> rfl

theorem writeRow_cmd (h : Hw) {p : Party} {n : Fin 8} {v : Word} (ha : h.accepts p (R.ETCH_R n 3) v) :
    h.writeRow p (R.ETCH_R n 3) v = h.etchCmd n v := by
  rw [writeRow_block _ _ _ _ .etch (blockReg_cmd n) ha, blockWrite_cmd]

theorem etchControl_starts (h : Hw) (start : BitVec 8) : h.etchControl start 0 =
    (List.finRange 8).foldl (fun g (n : Fin 8) => if start.getLsbD n then g.etchStart n (g.etchEntry n) else g) h := by
  simp [etchControl]

theorem etchControl_stops (h : Hw) (stop : BitVec 8) : h.etchControl 0 stop =
    (List.finRange 8).foldl (fun g (n : Fin 8) => if stop.getLsbD n then g.etchStop n else g) h := by
  simp [etchControl]

/-- A fold over distinct Etchers that changes something at one of them alone. -/
theorem foldl_at_one (f : Hw → Fin 8 → Hw) (n : Fin 8) (hf : ∀ g k, k ≠ n → f g k = g) (l : List (Fin 8))
    (hl : l.Nodup) (h : Hw) : l.foldl f h = if n ∈ l then f h n else h := by
  induction l generalizing h with
  | nil => rfl
  | cons k t ih =>
    obtain ⟨hk, ht⟩ := List.nodup_cons.1 hl
    rw [List.foldl_cons, ih ht]
    by_cases hn : k = n
    · subst hn
      rw [if_neg hk, if_pos List.mem_cons_self]
    · rw [hf h k hn]
      simp [Ne.symm hn]

/-- A fold over the Etchers whose mask names one acts on that one. -/
theorem foldl_mask_one (act : Hw → Fin 8 → Hw) (n : Fin 8) (h : Hw) :
    (List.finRange 8).foldl (fun g (k : Fin 8) => if (1#8 <<< n.val).getLsbD k then act g k else g) h = act h n := by
  have hbit : ∀ n k : Fin 8, (1#8 <<< n.val).getLsbD k.val = decide (k = n) := by decide
  rw [foldl_at_one _ n (fun g k hk => if_neg (by simp only [hbit, hk, decide_false]; decide)) _ (List.nodup_finRange 8),
    if_pos (List.mem_finRange n), if_pos (by simp only [hbit, decide_true])]

/-- START in CMDn (R297). -/
theorem etchCmd_start (h : Hw) (n : Fin 8) : h.etchCmd n 1 = h.etchStart n (h.etchEntry n) := by
  have hcmd : h.etchCmd n 1 = h.etchControl (1#8 <<< n.val) 0 := rfl
  rw [hcmd, etchControl_starts]
  exact foldl_mask_one (fun g k => g.etchStart k (g.etchEntry k)) n h

/-- STOP in CMDn (R299). -/
theorem etchCmd_stop (h : Hw) (n : Fin 8) : h.etchCmd n 2 = h.etchStop n := by
  have hcmd : h.etchCmd n 2 = h.etchControl 0 (1#8 <<< n.val) := rfl
  rw [hcmd, etchControl_stops]
  exact foldl_mask_one etchStop n h

theorem startRejected_iff (h : Hw) (n : Fin 8) (a : Nat) : h.startRejected n a = true ↔
    h.pwr.draft = true ∨ h.enabled 0x16 = false ∨ h.isStopping 0x16 = true ∨ h.etchHi n < h.etchLo n ∨
      a < h.etchLo n ∨ h.etchHi n < a := by
  simp only [startRejected, inRegion, Bool.or_eq_true, Bool.not_eq_true', Bool.and_eq_false_iff, decide_eq_true_eq,
    decide_eq_false_iff_not, not_le, or_assoc]

end Hw

/-- Settles O44: errors by `doIllegal_spec`, writes to CMDn and GO by `etchCmd_start`, `etchCmd_stop` and `writeRow_go`,
starts and stops by the cases of `etchStart` and `etchStop`. -/
theorem etcherStartsStopsAndErrors : Obligations.EtcherStartsStopsAndErrors := by
  refine ⟨fun s n e page kicks he hr => ⟨fun i hi => ?error, fun a ha hout hf => ?jump⟩,
    fun s p => ⟨fun n ha => done_congr ?_, fun n ha => done_congr ?_, fun m ha => done_congr ?_,
      fun m ha => done_congr ?_, fun hd hl => done_congr ?_,
      fun h n a hl => ⟨h.etchStart_rejected n a hl, h.etchStart_stall n a hl, h.etchStart_begins n a hl,
        h.startRejected_iff n a, h.etchStop_stall n, h.etchStop_runs n⟩⟩⟩
  case error =>
    subst he
    refine ⟨(s.hw.doIllegal n).etchPaid n, ?_, s.hw.doIllegal_spec n hr _ rfl⟩
    rcases hi with ⟨rfl, hf⟩ | ⟨hi, hout⟩
    · exact done_congr (s.hw.etchIllegal_eq n hr hf)
    · obtain ⟨pick, hexec⟩ := Hw.exec_etchInstrs hi
      rw [hexec]
      exact done_congr (s.hw.etchDo_outside n pick hr hout)
  case jump =>
    subst he
    obtain ⟨g, hg⟩ : ∃ g, g = (s.hw.doBranch n .always (BitVec.ofNat 10 a)).etchPaid n := ⟨_, rfl⟩
    have hexec : exec (.jmp n) s = .next (s.after g) := hg ▸ Hw.exec_branchInstr hf
    rw [Hw.doBranch_holds_paid _ _ _ _ rfl] at hg
    have hpc : g.etchPc n = a := by
      rw [hg, Hw.etchPc, Hw.etcher_setEtcher]
      exact Nat.mod_eq_of_lt ha
    obtain ⟨hup, -, -⟩ := Hw.etchFetch_some hf
    refine ⟨g, hexec, ?_, ?_, ?_, ?_⟩
    · rw [hg, Hw.etcher_setEtcher]
    · rw [hg, Hw.etcher_setEtcher]
    · have hgup : g.up .sense = true := hg ▸ hup
      have hgout : g.inRegion n a = false := hg ▸ hout
      have hgst : (g.etcher n).st = .run := by rw [hg, Hw.etcher_setEtcher]
      simp [Hw.fetchFails, Hw.etchRuns, hpc, hgup, hgout, hgst]
    · rw [hg, Hw.setEtcher_regs]
  · rw [Hw.writeRow_cmd _ ha, Hw.etchCmd_start]
  · rw [Hw.writeRow_cmd _ ha, Hw.etchCmd_stop]
  · have hlow : (m.setWidth 16).setWidth 8 = m := by simp
    have hhigh : (m.setWidth 16 >>> 8).setWidth 8 = (0 : BitVec 8) := by ext i hi; simp
    rw [Hw.writeRow_go _ ha, hlow, hhigh, Hw.etchControl_starts]
  · have hlow : (m.setWidth 16 <<< 8).setWidth 8 = (0 : BitVec 8) := by ext i hi; simp
    have hhigh : (m.setWidth 16 <<< 8 >>> 8).setWidth 8 = m := by
      ext i hi
      simp [show 8 + i < 16 by omega, show i < 16 by omega, hi]
    rw [Hw.writeRow_go _ ha, hlow, hhigh, Hw.etchControl_stops]
  · rw [Hw.autorunDue, if_pos (by rw [hd, hl]; rfl)]

end Sys2Proof.Machine

/-! ## Proofs: the sentinel stays settled (O1, O5, O6) -/

namespace Sys2Proof.Machine
namespace Hw

/-! ### No wake request rises in what follows a command (R466) -/

/-- A wake request waits to cross to the gang engine (R466). -/
def wakeWaits (h : Hw) : Bool := h.wakeReq

theorem raise_wakeWaits (h : Hw) (pg bit : Nat) : (h.raise pg bit).wakeWaits = h.wakeWaits := raise_wakeReq h pg bit

theorem setBits_wakeWaits (h : Hw) (a m : Nat) : (h.setBits a m).wakeWaits = h.wakeWaits := rfl

theorem raiseIf_wakeWaits (h : Hw) (c : Bool) (pg bit : Nat) : (h.raiseIf c pg bit).wakeWaits = h.wakeWaits :=
  raiseIf_wakeReq h c pg bit

theorem event_wakeWaits (h : Hw) (e : Nat) : (h.event e).wakeWaits = h.wakeWaits := event_wakeReq h e

theorem diaryAdd_wakeWaits (h : Hw) (src : Nat) (x y : Word) : (h.diaryAdd src x y).wakeWaits = h.wakeWaits :=
  diaryAdd_wakeReq h src x y

theorem bufFlag_wakeWaits (h : Hw) (bit : Nat) : (h.bufFlag bit).wakeWaits = h.wakeWaits := raise_wakeWaits h _ _

theorem snapStep_wakeWaits (h : Hw) : h.snapStep.wakeWaits = h.wakeWaits := by
  unfold snapStep
  refine ite_keeps wakeWaits rfl (ite_keeps wakeWaits ?_ rfl)
  rw [event_wakeWaits, bufFlag_wakeWaits]; rfl

/-- An overrun of a port is counted and flagged. -/
theorem countOverrun_wakeWaits (g : Hw) (n a bit : Nat) :
    (if n = 0 then g else (g.countBy a n).bufFlag bit).wakeWaits = g.wakeWaits := ite_keeps wakeWaits rfl (bufFlag_wakeWaits _ _)

theorem overrunPorts_wakeWaits (h : Hw) : h.overrunPorts.wakeWaits = h.wakeWaits := by
  -- As in `overrunPorts_still`: the overruns are generalized before the kernel could evaluate `wp - bufCap`.
  rw [show overrunPorts = _ by delta overrunPorts; rfl]
  generalize h.overrun h.buf.portA = x
  generalize h.overrun h.buf.portB = y
  obtain ⟨a, pa⟩ := x
  obtain ⟨b, pb⟩ := y
  exact (countOverrun_wakeWaits _ _ _ _).trans
    (countOverrun_wakeWaits { h with buf := { h.buf with portA := pa, portB := pb } } _ _ _)

theorem putRecord_wakeWaits (h : Hw) (d : Draft) : (h.putRecord d).wakeWaits = h.wakeWaits := by
  unfold putRecord
  extract_lets _ _ _ _ _ _ h1
  have e1 : h1.wakeWaits = h.wakeWaits := rfl
  clear_value h1
  exact ite_keeps wakeWaits ((overrunPorts_wakeWaits h1).trans e1) e1

theorem writeRecord_wakeWaits (h : Hw) (d : Draft) : (h.writeRecord d).wakeWaits = h.wakeWaits :=
  ite_keeps wakeWaits rfl (ite_keeps wakeWaits (bufFlag_wakeWaits _ _) ((snapStep_wakeWaits _).trans (putRecord_wakeWaits h d)))

theorem watermarks_wakeWaits (h : Hw) (x y : Nat) : (h.watermarks x y).wakeWaits = h.wakeWaits := by
  unfold watermarks
  extract_lets _ _ _ h1
  have e1 : h1.wakeWaits = h.wakeWaits := (raiseIf_wakeWaits _ _ _ _).trans (raiseIf_wakeWaits _ _ _ _)
  exact ite_keeps wakeWaits ((event_wakeWaits _ _).trans e1) e1

theorem markIn_wakeWaits (h : Hw) (m : Mark) : (h.markIn m).wakeWaits = h.wakeWaits := ite_keeps wakeWaits rfl (bufFlag_wakeWaits _ _)

theorem markOut_wakeWaits (h : Hw) : h.markOut.wakeWaits = h.wakeWaits := by
  unfold markOut
  split
  · rfl
  · extract_lets _ lead _ h1 h2 h3 _ h4 _ h5
    have e2 : h2.wakeWaits = h.wakeWaits := foldl_keeps wakeWaits _ writeRecord_wakeWaits lead h1
    have e4 : h4.wakeWaits = h.wakeWaits := (writeRecord_wakeWaits h2 _).trans e2
    have e5 : h5.wakeWaits = h.wakeWaits := ite_keeps wakeWaits ((snapStep_wakeWaits _).trans e4) e4
    exact (watermarks_wakeWaits _ _ _).trans e5

theorem snapTrigger_wakeWaits (h : Hw) (e : Nat) : (h.snapTrigger e).wakeWaits = h.wakeWaits := by
  unfold snapTrigger
  extract_lets _ _ h1 h2
  have e2 : h2.wakeWaits = h.wakeWaits := markIn_wakeWaits h1 _
  exact ite_keeps wakeWaits rfl (ite_keeps wakeWaits ((snapStep_wakeWaits h2).trans e2) e2)

theorem bufEvents_wakeWaits (h : Hw) (r : BitVec 64) : (h.bufEvents r).wakeWaits = h.wakeWaits := by
  unfold bufEvents
  extract_lets _ h0 _ _ _ h1 h2 _
  have e0 : h0.wakeWaits = h.wakeWaits := ite_keeps wakeWaits rfl rfl
  have e1 : h1.wakeWaits = h0.wakeWaits := foldl_keeps wakeWaits _
    (fun g e => ite_keeps wakeWaits (snapTrigger_wakeWaits g e) (ite_keeps wakeWaits (markIn_wakeWaits _ _) rfl)) _ _
  have e2 : h2.wakeWaits = h.wakeWaits := (markOut_wakeWaits h1).trans (e1.trans e0)
  exact ite_keeps wakeWaits e0 e2

/-- The words that the stream takes change nothing but the buffer. -/
theorem takeB_eq (n : Nat) (h : Hw) : (takeB n h).2 = { h with buf := (takeB n h).2.buf } := by
  induction n generalizing h with
  | zero => rfl
  | succ n ih =>
    unfold takeB
    split
    · rfl
    · exact ih _

theorem strmCollect_wakeWaits (h : Hw) : h.strmCollect.wakeWaits = h.wakeWaits := by
  refine ite_keeps wakeWaits ?_ rfl
  exact (congrArg wakeWaits (takeB_eq _ h) :)

theorem setLatch_wakeWaits (h : Hw) (typ ev t : Nat) : (h.setLatch typ ev t).wakeWaits = h.wakeWaits := by
  unfold setLatch
  split
  · rfl
  · extract_lets _ h1 h2
    have e2 : h2.wakeWaits = h.wakeWaits := diaryAdd_wakeWaits h1 _ _ _
    exact ite_keeps wakeWaits ((event_wakeWaits _ _).trans ((raise_wakeWaits h2 _ _).trans e2)) e2

theorem matrix_wakeWaits (h : Hw) (r : BitVec 64) : (h.matrix r).wakeWaits = h.wakeWaits :=
  ite_keeps wakeWaits rfl (ite_keeps wakeWaits (raise_wakeWaits _ _ _) (setLatch_wakeWaits h _ _ _))

theorem irqEvents_wakeWaits (h : Hw) (r : BitVec 64) : (h.irqEvents r).wakeWaits = h.wakeWaits :=
  ite_keeps wakeWaits rfl ((raise_wakeWaits _ _ _).trans (foldl_keeps wakeWaits _ (fun g _ => setBits_wakeWaits g _ _) _ _))

theorem diaryEvents_wakeWaits (h : Hw) (r : BitVec 64) : (h.diaryEvents r).wakeWaits = h.wakeWaits :=
  ite_keeps wakeWaits rfl (foldl_keeps wakeWaits _ (fun _ _ => diaryAdd_wakeWaits _ _ _ _) _ _)

theorem fabricRun_wakeWaits (n : Nat) (h : Hw) : (fabricRun n h).wakeWaits = h.wakeWaits := by
  induction n generalizing h with
  | zero => rfl
  | succ n ih =>
    refine (ih _).trans ?_
    unfold fabricCycle
    extract_lets r h1
    refine ite_keeps wakeWaits rfl ?_
    rw [bufEvents_wakeWaits, diaryEvents_wakeWaits, irqEvents_wakeWaits, matrix_wakeWaits]
    rfl

/-- A wake request that waits is handed to the gang engine (R466). -/
theorem sendWake_wakeWaits (h : Hw) : h.sendWake.wakeWaits = false := by
  unfold sendWake
  split
  · have send (g : Hw) (typ : Nat) (p : List Byte) : (g.gangSendAll typ g.known p).wakeWaits = g.wakeWaits :=
      foldl_keeps wakeWaits (fun g k => g.gangSend typ k p) (fun _ _ => rfl) _ g
    exact ite_keeps wakeWaits ((raise_wakeWaits _ _ _).trans (send _ _ _))
      (ite_keeps wakeWaits ((raise_wakeWaits _ _ _).trans (send _ _ _)) rfl)
  · rename_i hw
    exact Bool.eq_false_iff.2 hw

/-! ### A proof run raises no wake request (R553 to R557) -/

theorem stAbort_wakeWaits (h : Hw) : h.stAbort.wakeWaits = h.wakeWaits := ite_keeps wakeWaits rfl rfl

theorem stStart_wakeWaits (h : Hw) (v : Word) : (h.stStart v).wakeWaits = h.wakeWaits :=
  ite_keeps wakeWaits rfl (ite_keeps wakeWaits (raise_wakeWaits _ _ _) rfl)

theorem setResult_wakeWaits (h : Hw) (k v : Nat) : (h.setResult k v).wakeWaits = h.wakeWaits := rfl

theorem emptyAll_wakeWaits (h : Hw) : h.emptyAll.wakeWaits = h.wakeWaits := rfl

theorem recInit_wakeWaits (h : Hw) : h.recInit.wakeWaits = h.wakeWaits := rfl

theorem draftEnd_wakeWaits (h : Hw) : h.draftEnd.wakeWaits = h.wakeWaits := by
  unfold draftEnd
  split
  · rfl
  · extract_lets _ h1 h2 _ g _
    have e1 : h1.wakeWaits = h.wakeWaits := raise_wakeWaits _ _ _
    have e2 : h2.wakeWaits = h.wakeWaits := ite_keeps wakeWaits ((diaryAdd_wakeWaits _ _ _ _).trans e1) e1
    have eg : g.wakeWaits = h.wakeWaits := (recInit_wakeWaits _).trans ((emptyAll_wakeWaits _).trans e2)
    clear_value g
    exact ite_keeps wakeWaits eg e2

theorem proofEnd_wakeWaits (h : Hw) : h.proofEnd.wakeWaits = h.wakeWaits := by
  unfold proofEnd
  extract_lets quick h1 h2 _ h3
  have e3 : h3.wakeWaits = h.wakeWaits :=
    (raiseIf_wakeWaits _ _ _ _).trans ((raiseIf_wakeWaits _ _ _ _).trans
      ((raiseIf_wakeWaits _ _ _ _).trans (raise_wakeWaits h _ _)))
  clear_value h3
  exact ite_keeps wakeWaits ((draftEnd_wakeWaits h3).trans e3) e3

theorem proofNext_wakeWaits (n : Nat) (h : Hw) : (proofNext n h).wakeWaits = h.wakeWaits := by
  induction n generalizing h with
  | zero => exact proofEnd_wakeWaits h
  | succ n ih =>
    unfold proofNext
    split
    · exact proofEnd_wakeWaits h
    · extract_lets _ h1 busy h2
      have e1 : h1.wakeWaits = h.wakeWaits := rfl
      have e2 : h2.wakeWaits = h.wakeWaits := (stStart_wakeWaits h1 _).trans e1
      clear_value h1 h2
      have next (g : Hw) (k v : Nat) (e : g.wakeWaits = h.wakeWaits) :
          (proofNext n (g.setResult k v)).wakeWaits = h.wakeWaits := (ih _).trans ((setResult_wakeWaits g k v).trans e)
      exact ite_keeps wakeWaits (next h1 _ _ e1) (ite_keeps wakeWaits (next h1 _ _ e1)
        (ite_keeps wakeWaits (ite_keeps wakeWaits e2 (next h2 _ _ e2)) e1))

theorem sliceStop_wakeWaits (h : Hw) (v : Nat) : (h.sliceStop v).wakeWaits = h.wakeWaits :=
  (proofNext_wakeWaits 9 _).trans ((setResult_wakeWaits _ _ _).trans (ite_keeps wakeWaits (stAbort_wakeWaits h) rfl))

theorem proofCheck_wakeWaits (h : Hw) : h.proofCheck.wakeWaits = h.wakeWaits :=
  ite_keeps wakeWaits rfl (ite_keeps wakeWaits (sliceStop_wakeWaits h 4) (ite_keeps wakeWaits (sliceStop_wakeWaits h 3) rfl))

/-! ### An alarm request is handed to NET (R289) -/

/-- The requests that wait to cross (R289, R466). -/
def requests (h : Hw) : Bool × Option Nat := (h.wakeReq, h.alarmReq)

theorem raise_requests (h : Hw) (pg bit : Nat) : (h.raise pg bit).requests = h.requests :=
  Prod.ext (raise_wakeReq h pg bit) (raise_alarmReq h pg bit)

theorem enqueueAlarm_requests (h : Hw) (n : Fin 2) (f : Frame) : (h.enqueueAlarm n f).requests = h.requests := by
  unfold enqueueAlarm
  extract_lets p q
  exact ite_keeps requests (ite_keeps requests rfl (raise_requests _ _ _)) rfl

theorem alarmRequest_requests (h : Hw) (t : Nat) : (h.alarmRequest t).requests = h.requests := by
  unfold alarmRequest
  extract_lets aseq h1 f
  exact ite_keeps requests (raise_requests _ _ _) (ite_keeps requests
    (foldl_keeps requests _ (fun g n => ite_keeps requests (enqueueAlarm_requests g n f) rfl) _ h1) rfl)

/-- No alarm request waits once they are sent (R289). -/
theorem sendAlarm_requests (h : Hw) : h.sendAlarm.requests = (h.wakeReq, none) := by
  unfold sendAlarm
  split
  · rename_i hnone
    rw [requests, hnone]
  · exact alarmRequest_requests _ _

/-- Of what follows a command, what comes before the pins leaves no request (R289, R466). -/
theorem requests_sent (h : Hw) :
    (fabricRun 24 h.sendWake.proofCheck.strmCollect).sendAlarm.requests = (false, none) := by
  have hw : (fabricRun 24 h.sendWake.proofCheck.strmCollect).wakeWaits = false := by
    rw [fabricRun_wakeWaits, strmCollect_wakeWaits, proofCheck_wakeWaits, sendWake_wakeWaits]
  rw [sendAlarm_requests]
  exact (congrArg (·, (none : Option Nat)) hw :)

/-! ### Flags make no conflict (R523 to R527) -/

/-- What a claim looks at: the power state, the front end and the registers but for the flags of the pages. -/
structure SameClaims (h g : Hw) : Prop where
  pwr : g.pwr = h.pwr
  afe : g.afe = h.afe
  reg : ∀ a, a % 256 ≠ 4 → g.reg a = h.reg a

theorem SameClaims.trans {h g f : Hw} (hg : SameClaims h g) (hf : SameClaims g f) : SameClaims h f :=
  ⟨hf.pwr.trans hg.pwr, hf.afe.trans hg.afe, fun a ha => (hf.reg a ha).trans (hg.reg a ha)⟩

theorem sameClaims_raise (h : Hw) (pg bit : Nat) : SameClaims h (h.raise pg bit) :=
  ⟨raise_pwr h pg bit, raise_afe h pg bit, fun a ha => reg_raise_ne h pg bit a (by omega)⟩

theorem sameClaims_raiseIf (h : Hw) (c : Bool) (pg bit : Nat) : SameClaims h (h.raiseIf c pg bit) := by
  cases c
  · exact ⟨rfl, rfl, fun _ _ => rfl⟩
  · exact sameClaims_raise h pg bit

theorem SameClaims.vigil {h g : Hw} (hg : SameClaims h g) : g.vigil = h.vigil := vigil_of_pwr hg.pwr

theorem up_of_pwr {h g : Hw} (hp : g.pwr = h.pwr) (d : Dom) : g.up d = h.up d := by
  rw [Hw.up, Hw.up, vigil_of_pwr hp, domState_of_pwr hp]

theorem SameClaims.up {h g : Hw} (hg : SameClaims h g) (d : Dom) : g.up d = h.up d := up_of_pwr hg.pwr d

/-- The timer functions of the table name the channels 0 and 1 (R523). -/
theorem pinFns_tm (i n x : Nat) (p : Nat × PinFn) (hp : p ∈ pinFns i) (he : p.2 = .tm n x) : x < 2 := by
  have hall : ∀ q ∈ pinFns i, ∀ n x, q.2 = .tm n x → x < 2 := by
    unfold pinFns
    split <;> simp
  exact hall p hp n x he

theorem SameClaims.f {h g : Hw} (hg : SameClaims h g) (a hi lo : Nat) (ha : a % 256 ≠ 4) : g.f a hi lo = h.f a hi lo :=
  congrArg (fld · hi lo) (hg.reg a ha)

theorem SameClaims.b {h g : Hw} (hg : SameClaims h g) (a i : Nat) (ha : a % 256 ≠ 4) : g.b a i = h.b a i :=
  congrArg (BitVec.getLsbD · i) (hg.reg a ha)

theorem SameClaims.claim {h g : Hw} (hg : SameClaims h g) (fn : PinFn) (hfn : ∀ n x, fn = .tm n x → x < 2) :
    g.claim fn = h.claim fn := by
  unfold Hw.claim
  rw [hg.up, hg.afe]
  cases fn with
  | strmCk => rw [hg.f R.BUF_BCFG _ _ (by decide)]
  | strmD0 => rw [hg.f R.BUF_BCFG _ _ (by decide)]
  | strmD1 => rw [hg.f R.BUF_BCFG _ _ (by decide), hg.b R.STRM_CFG _ (by decide)]
  | xbclk => rfl
  | xbd k => rfl
  | ppsOut => rw [hg.b R.TSU_PPSCFG _ (by decide)]
  | capin k =>
    have hany : ((List.range 8).any fun c => g.b (R.TSU_CCFG c) 15 && g.f (R.TSU_CCFG c) 7 0 == 0x40 + k) =
        (List.range 8).any fun c => h.b (R.TSU_CCFG c) 15 && h.f (R.TSU_CCFG c) 7 0 == 0x40 + k := by
      rw [Bool.eq_iff_iff, List.any_eq_true, List.any_eq_true]
      refine exists_congr fun c => and_congr_right fun hc => ?_
      have := List.mem_range.1 hc
      have ha : R.TSU_CCFG c % 256 ≠ 4 := by rw [R.TSU_CCFG]; omega
      rw [hg.b _ _ ha, hg.f _ _ _ ha]
    simp only [hany]
  | tm n x =>
    have := hfn n x rfl
    have e : g.reg ((0x28 + n) * 256 + 0x1B + x) = h.reg ((0x28 + n) * 256 + 0x1B + x) := hg.reg _ (by omega)
    simp only [e]

theorem SameClaims.claims {h g : Hw} (hg : SameClaims h g) (i : Nat) : g.claims i = h.claims i := by
  have hfixed : ((pinFns i).filterMap fun p => (g.claim p.2).map fun d => (p.1, d)) =
      (pinFns i).filterMap fun p => (h.claim p.2).map fun d => (p.1, d) :=
    List.filterMap_congr fun p hp => by rw [hg.claim p.2 fun n x => pinFns_tm i n x p hp]
  have hes : g.esMapped i = h.esMapped i := by
    unfold esMapped
    rw [hg.up]
    congr 2
    funext n
    have ha : R.PMUX_ESMAP n % 256 ≠ 4 := by rw [R.PMUX_ESMAP]; omega
    rw [hg.b _ _ ha, hg.f _ _ _ ha, hg.f _ _ _ ha]
  have hgpio : g.gpioClaims i = h.gpioClaims i := hg.b _ _ (by rw [R.PORT_DIR]; omega)
  rw [Hw.claims, Hw.claims, hfixed, hes, hgpio]

theorem SameClaims.conflicts {h g : Hw} (hg : SameClaims h g) : g.conflicts = h.conflicts := by
  have hin (i : Nat) : g.inConflict i = h.inConflict i := by rw [inConflict, inConflict, hg.claims]
  simp only [Hw.conflicts, hin]

/-! ### The stages of `settle` that reach the pins and the interrupt lines -/

/-- What the pins in conflict are (R527), what lets XOK be seen (R70), and what waits to cross. -/
structure Crossed (h : Hw) : Prop where
  conf : h.pins.conf = if h.vigil = true then h.conflicts else 0
  xok : h.clk.xok = true → h.oscRuns = true
  requests : h.requests = (false, none)

/-- A change that leaves the claims, the pins, the clocks, the requests and what keeps the oscillator running. -/
theorem Crossed.of_same {h g : Hw} (hh : Crossed h) (hs : SameClaims h g) (hp : g.pins = h.pins) (hc : g.clk = h.clk)
    (hr : g.requests = h.requests) : Crossed g where
  conf := by rw [hp, hh.conf, hs.vigil, hs.conflicts]
  xok := by
    have ho : g.oscRuns = h.oscRuns := by
      rw [oscRuns, oscRuns, hs.pwr, hs.b R.PWR_REQ _ (by decide), hs.b R.CLK_CFG _ (by decide)]
    rw [hc, ho]
    exact hh.xok
  requests := hr.trans hh.requests

theorem settlePins_conf (h : Hw) :
    h.settlePins.pins.conf = if h.settlePins.vigil = true then h.settlePins.conflicts else 0 := by
  have hsame : SameClaims h h.settlePins := by
    unfold settlePins
    extract_lets c
    obtain ⟨hp, ha, hr⟩ := sameClaims_raiseIf h (c &&& ~~~h.pins.conf != 0) 0x43 0
    exact ⟨hp, ha, hr⟩
  rw [hsame.vigil, hsame.conflicts]
  rfl

theorem settlePins_requests (h : Hw) : h.settlePins.requests = h.requests := by
  unfold settlePins
  extract_lets c
  exact Prod.ext (raiseIf_wakeReq h _ _ _) (raiseIf_alarmReq h _ _ _)

/-- The pins and XOK are settled together (R70, R527). -/
theorem crossed_settleXok (h : Hw) (hr : h.requests = (false, none)) : Crossed h.settlePins.settleXok := by
  have hc := settlePins_conf h
  have hr := (settlePins_requests h).trans hr
  generalize h.settlePins = g at hc hr
  unfold settleXok
  split
  · exact ⟨hc, fun hx => Bool.noConfusion hx, hr⟩
  · rename_i hx
    exact ⟨hc, fun hon => by simpa [hon] using hx, hr⟩

/-- The end of a recorded opposite sequence changes nothing that the rest looks at (R54). -/
theorem crossed_settleOpposite {h : Hw} (hh : Crossed h) : Crossed h.settleOpposite := by
  obtain ⟨hc, hx, hr⟩ := hh
  unfold settleOpposite
  split
  · exact ⟨hc, hx, hr⟩
  · exact ⟨hc, hx, hr⟩

theorem crossed_settleWarm {h : Hw} (hh : Crossed h) : Crossed h.settleWarm := by
  unfold settleWarm
  extract_lets w _ g
  have hg : Crossed g := hh.of_same ⟨rfl, rfl, fun _ _ => rfl⟩ rfl rfl rfl
  clear_value g
  split
  · exact hg.of_same (sameClaims_raise g _ _) (raise_pins g _ _) (raise_clk g _ _) (raise_requests g _ _)
  · exact hg

/-- Taking the aggregates changes the interrupt pins alone (R502). -/
theorem settleInt_eq (h : Hw) (k : Nat) : ∃ i j, h.settleInt k = { h with int0 := i, int1 := j } := by
  have hset (g : Hw) (p : IntPin) : ∃ i j, g.setIntPin k p = { g with int0 := i, int1 := j } := by
    unfold setIntPin
    split <;> exact ⟨_, _, rfl⟩
  unfold settleInt
  extract_lets a g
  obtain ⟨i, j, hg⟩ : ∃ i j, g = { h with int0 := i, int1 := j } := by
    unfold g
    split
    · exact hset h _
    · exact ⟨_, _, rfl⟩
  obtain ⟨i', j', e⟩ := hset g { g.intPin k with agg := a }
  exact ⟨i', j', by rw [e, hg]⟩

theorem settleInt_one_int0 (h : Hw) : (h.settleInt 1).int0 = h.int0 := by
  have hset (g : Hw) (p : IntPin) : (g.setIntPin 1 p).int0 = g.int0 := rfl
  unfold settleInt
  extract_lets a g
  rw [hset]
  unfold g
  split
  · exact hset h _
  · rfl

/-- The interrupt pins do not feed back into the aggregates (R502). -/
theorem aggregate_settleInt (h : Hw) (k j : Nat) : (h.settleInt k).aggregate j = h.aggregate j := by
  obtain ⟨i, i', e⟩ := settleInt_eq h k
  rw [e]
  rfl

/-- What follows a command leaves the sentinel settled. -/
theorem settle_settled (h : Hw) : h.settle.Settled := by
  have hsent := crossed_settleWarm (crossed_settleOpposite (crossed_settleXok _ (requests_sent h)))
  unfold settle
  generalize ((((fabricRun 24 h.sendWake.proofCheck.strmCollect).sendAlarm).settlePins).settleXok).settleOpposite.settleWarm = g
    at hsent
  obtain ⟨hc, hx, hr⟩ := hsent
  obtain ⟨hw, ha⟩ := Prod.mk.inj hr
  have h0 : ((g.settleInt 0).settleInt 1).int0.agg = ((g.settleInt 0).settleInt 1).aggregate 0 := by
    rw [settleInt_one_int0, aggregate_settleInt, aggregate_settleInt]
    exact (settleInt_spec g 0).2.1
  have h1 : ((g.settleInt 0).settleInt 1).int1.agg = ((g.settleInt 0).settleInt 1).aggregate 1 := by
    rw [aggregate_settleInt]
    exact (settleInt_spec (g.settleInt 0) 1).2.1
  obtain ⟨i, j, e0⟩ := settleInt_eq g 0
  obtain ⟨i', j', e1⟩ := settleInt_eq (g.settleInt 0) 1
  refine ⟨h0, h1, ?_⟩
  rw [e1, e0]
  exact ⟨hc, hx, hw, ha⟩

/-! ### A V-cycle with nothing commanded -/

/-- The crystal is seen as before: V time, the VCO and the S-loop offset are other fields of the clocks. -/
theorem idle_xok (h : Hw) : h.idle.clk.xok = h.clk.xok := by
  have hvtime (g : Hw) : g.vtimeTick.clk.xok = g.clk.xok := by
    unfold vtimeTick
    dsimp only
    split
    · rfl
    · split <;> rfl
  have hsoffs (g : Hw) : g.soffsStep.clk.xok = g.clk.xok := by
    unfold soffsStep
    dsimp only
    split
    · rfl
    · split <;> rfl
  unfold idle
  extract_lets h1 h2 h3 h4
  have e1 : h1.clk.xok = h.clk.xok := by
    unfold h1
    split
    · exact hvtime h
    · rfl
  have e2 : h2.clk.xok = h1.clk.xok := by
    obtain ⟨alm, cal, e⟩ := almTicks_eq (List.range 4) h1
    exact (congrArg (fun g : Hw => g.clk.xok) e :)
  have e3 : h3.clk.xok = h2.clk.xok := by
    unfold h3
    split
    · exact hsoffs _
    · rfl
  have e4 : h4.clk.xok = h3.clk.xok := by
    unfold h4
    split <;> rfl
  exact e4.trans (e3.trans (e2.trans e1))

/-- Time that passes unsettles nothing: the registers, the power state, the pins and the requests stay. -/
theorem idle_settled {h : Hw} (hh : h.Settled) : h.idle.Settled := by
  have hx := idle_xok h
  obtain ⟨g, ⟨alm, cal, clk, etch, since, rfl⟩, e, -⟩ := idle_spec h
  rw [e] at hx ⊢
  obtain ⟨h0, h1, hc, hosc, hr⟩ := hh
  exact ⟨h0, h1, hc, fun hon => hosc (hx.symm.trans hon), hr⟩

end Hw

/-- Settles O5: the start ends in what follows a command, which settles. -/
theorem resetIsSettled : Obligations.ResetIsSettled := Hw.settle_settled _

/-- Settles O6: on an empty queue by `idle_settled`, otherwise by `settle_settled`, since every command that does not stop
ends in what follows it. -/
theorem everyStepKeepsSettled : Obligations.EveryStepKeepsSettled := by
  intro s t hs hstep
  unfold step at hstep
  split at hstep
  · cases hstep
    exact Hw.idle_settled hs
  · rename_i c rest _
    obtain ⟨g, hg⟩ := exec_eq_done_or_illFormed c { s with pending := rest }
    rw [hg] at hstep
    split at hstep
    · cases hstep
      exact Hw.settle_settled g
    · cases hstep

/-- Settles O1: it is the second equation of `step`. -/
theorem frontCommandRunsWithRestOfQueue : Obligations.FrontCommandRunsWithRestOfQueue := fun _ _ _ => rfl

end Sys2Proof.Machine

/-! ## Proofs: the writer of the sample buffer (O46) -/

namespace Sys2Proof.Machine
namespace Hw

/-! ### CTRL without locked bits -/

/-- A write to CTRL of a page without an RWL bit there, with SRST = 0: EN, then the action bits (R95, R98). -/
theorem ctrlWrite_enWrite (h : Hw) (pg : Nat) (w : Word) (k : Kind) (he : hasEnable k = true) (hafe : k ≠ .afe)
    (hl : rwlMask (pg * 256 + 2) = 0) (h15 : w.getLsbD 15 = false) :
    h.ctrlWrite pg k w = (h.enWrite pg (w.getLsbD 0)).ctrlActions pg k w := by
  have hheld : (h.locked pg && (h.reg (pg * 256 + 2) ^^^ w) &&& rwlMask (pg * 256 + 2) != 0) = false := by simp [hl]
  simp only [ctrlWrite, h15, hheld, he, hafe, Bool.false_and, Bool.false_eq_true, if_false, if_true, decide_false]

theorem ctrlRow_enWrite (h : Hw) (p : Party) (pg : Nat) (v m : Word) (k : Kind) (hk : kindOf pg = some k)
    (he : hasEnable k = true) (hafe : k ≠ .afe) (hl : rwlMask (pg * 256 + 2) = 0)
    (hb : etchForbidden (pg * 256 + 2) = false) (h15 : ((v &&& 0x7FFF) ||| m).getLsbD 15 = false)
    (hp : h.partyUp p = true) (hu : h.pageUp pg = true) :
    h.ctrlRow p pg v m =
      (h.enWrite pg (((v &&& 0x7FFF) ||| m).getLsbD 0)).ctrlActions pg k ((v &&& 0x7FFF) ||| m) := by
  rw [ctrlRow, writeRow_ctrl h p pg _ k hk hp hu (etchBarred_none p _ hb), ctrlWrite_enWrite h pg _ k he hafe hl h15]

/-- CTRL of BUF by its action bits: EN, ARM, TRIG (R341, R345, R346). -/
theorem ctrlRow_buf (h : Hw) (p : Party) (v m : Word) (en arm trig : Bool)
    (h15 : ((v &&& 0x7FFF) ||| m).getLsbD 15 = false) (h0 : ((v &&& 0x7FFF) ||| m).getLsbD 0 = en)
    (h1 : ((v &&& 0x7FFF) ||| m).getLsbD 1 = arm) (h2 : ((v &&& 0x7FFF) ||| m).getLsbD 2 = trig)
    (hp : h.partyUp p = true) (hu : h.pageUp 0x12 = true) :
    h.ctrlRow p 0x12 v m =
      let g := if arm then (h.enWrite 0x12 en).bufArm else h.enWrite 0x12 en
      if trig then (if g.snapWaits then g.snapTrigger 0x3F else g) else g := by
  rw [ctrlRow_enWrite h p 0x12 v m .buf rfl rfl (by decide) (by decide) (by decide) h15 hp hu, h0]
  simp only [ctrlActions, h1, h2]

/-- The bits of a word under a mask of which all are given. -/
theorem getLsbD_of_and {v m w : Word} (e : v &&& m = w) (i : Nat) (hi : m.getLsbD i = true) : v.getLsbD i = w.getLsbD i := by
  have := congrArg (BitVec.getLsbD · i) e
  simpa only [BitVec.getLsbD_and, hi, Bool.and_true] using this

/-- EN = 1 starts a stopped block of the buffer (R341). -/
theorem enWrite_buf_start (h : Hw) (hs : h.isStopping 0x12 = false) (he : h.enabled 0x12 = false) :
    h.enWrite 0x12 true = (h.setBits R.BUF_CTRL 1).bufBegin := by
  show (if h.isStopping 0x12 then _ else if h.enabled 0x12 then _ else _) = _
  rw [hs, he]
  rfl

/-- EN = 1 of a block that runs does nothing (log entry 34). -/
theorem enWrite_buf_runs (h : Hw) (hs : h.isStopping 0x12 = false) (he : h.enabled 0x12 = true) :
    h.enWrite 0x12 true = h := by
  show (if h.isStopping 0x12 then _ else if h.enabled 0x12 then _ else _) = _
  rw [hs, he]
  rfl

/-! ### Enable, arm, trigger (R341, R345, R346) -/

theorem ctrlRow_bufEnable (h : Hw) (p : Party) (v : Word) (hp : h.partyUp p = true) (hu : h.pageUp 0x12 = true)
    (hs : h.isStopping 0x12 = false) (he : h.enabled 0x12 = false) (hv : v &&& 6 = 0) :
    h.ctrlRow p 0x12 v 1 = (h.setBits R.BUF_CTRL 1).bufBegin := by
  have h1 : v.getLsbD 1 = false := getLsbD_of_and hv 1 rfl
  have h2 : v.getLsbD 2 = false := getLsbD_of_and hv 2 rfl
  rw [ctrlRow_buf h p v 1 true false false (by simp) (by simp) (by rw [BitVec.getLsbD_or, BitVec.getLsbD_and, h1]; rfl)
    (by rw [BitVec.getLsbD_or, BitVec.getLsbD_and, h2]; rfl) hp hu, enWrite_buf_start h hs he]
  rfl

theorem ctrlRow_bufArm (h : Hw) (p : Party) (v : Word) (hp : h.partyUp p = true) (hu : h.pageUp 0x12 = true)
    (hs : h.isStopping 0x12 = false) (he : h.enabled 0x12 = true) (hv : v &&& 5 = 1) :
    h.ctrlRow p 0x12 v 2 = h.bufArm := by
  have h0 : v.getLsbD 0 = true := getLsbD_of_and hv 0 rfl
  have h2 : v.getLsbD 2 = false := getLsbD_of_and hv 2 rfl
  rw [ctrlRow_buf h p v 2 true true false (by simp) (by rw [BitVec.getLsbD_or, BitVec.getLsbD_and, h0]; rfl) (by simp)
    (by rw [BitVec.getLsbD_or, BitVec.getLsbD_and, h2]; rfl) hp hu, enWrite_buf_runs h hs he]
  rfl

theorem ctrlRow_bufTrig (h : Hw) (p : Party) (v : Word) (hp : h.partyUp p = true) (hu : h.pageUp 0x12 = true)
    (hs : h.isStopping 0x12 = false) (he : h.enabled 0x12 = true) (hv : v &&& 3 = 1) :
    h.ctrlRow p 0x12 v 4 = if h.snapWaits then h.snapTrigger 0x3F else h := by
  have h0 : v.getLsbD 0 = true := getLsbD_of_and hv 0 rfl
  have h1 : v.getLsbD 1 = false := getLsbD_of_and hv 1 rfl
  rw [ctrlRow_buf h p v 4 true false true (by simp) (by rw [BitVec.getLsbD_or, BitVec.getLsbD_and, h0]; rfl)
    (by rw [BitVec.getLsbD_or, BitVec.getLsbD_and, h1]; rfl) (by simp) hp hu, enWrite_buf_runs h hs he]
  rfl

/-- The buffer when the writer starts (R341, R345). -/
theorem buf_bufBegin (h : Hw) : h.bufBegin = { h with buf := { Buf.init with
    seq := h.buf.seq, lastT := h.buf.lastT, since := h.buf.since
    snap := if h.bufMode = 2 then (if h.f R.BUF_PRE 12 0 = 0 then .armed else .arming) else .none } } := by
  unfold bufBegin
  extract_lets h1
  split <;> rfl

/-- An arm in snapshot mode (R345), and outside it. -/
theorem bufArm_snapshot (h : Hw) (he : h.enabled 0x12 = true) (hm : h.bufMode = 2) :
    h.bufArm = { h with buf := { h.buf with
      recs := [], wp := 0, portA := RdPort.at 0, portB := RdPort.at 0, dropped := 0, fresh := false, short := false
      retained := false, post := 0, trigPos := none
      snap := if h.f R.BUF_PRE 12 0 = 0 then .armed else .arming } } := by
  rw [bufArm, if_pos (by rw [he, hm]; rfl)]
  rfl

theorem bufArm_other (h : Hw) (hm : h.bufMode ≠ 2) : h.bufArm = h := if_neg (by simp [hm])

/-- The snapshot with its trigger in force before the marker is placed (R346). -/
def triggeredBuf (h : Hw) (at' : Option Nat) : Buf :=
  { h.buf with short := h.buf.short || h.buf.snap == Snap.arming || h.buf.fresh, snap := .triggered, post := 0, trigPos := at' }

/-- A trigger whose marker finds room (R336, R346). -/
theorem snapTrigger_room (h : Hw) (e : Nat) (hw : h.snapWaits = true) (hb : h.bufWrites = true)
    (hr : h.buf.marks.length < 16) :
    h.snapTrigger e = { h with buf := { h.triggeredBuf none with marks := h.buf.marks ++ [h.markOf true e] } } := by
  have hn : ¬ 16 ≤ h.buf.marks.length := by omega
  unfold snapTrigger
  rw [hw, hb]
  simp only [Bool.not_true, Bool.or_self, Bool.false_eq_true, if_false, hn, markIn, if_pos hr]
  rfl

/-- A trigger whose marker the full queue drops (R336, log entry 106). -/
theorem snapTrigger_full (h : Hw) (e : Nat) (hw : h.snapWaits = true) (hb : h.bufWrites = true)
    (hf : 16 ≤ h.buf.marks.length) :
    h.snapTrigger e =
      (({ h with buf := h.triggeredBuf (some h.buf.wp) }.count R.BUF_MKLOST).bufFlag 6).snapStep := by
  have hn : ¬ h.buf.marks.length < 16 := by omega
  unfold snapTrigger
  rw [hw, hb]
  simp only [Bool.not_true, Bool.or_self, Bool.false_eq_true, if_false, hf, if_true, markIn, if_neg hn]
  rfl

/-- What a snapshot step can do (R345, R347): ARMING ends, the snapshot is complete, or nothing. -/
theorem snapStep_cases (h : Hw) :
    (h.buf.snap = .arming ∧ h.snapStep = { h with buf := { h.buf with snap := .armed, fresh := true } }) ∨
    (h.buf.snap = .triggered ∧ h.buf.trigPos.isSome = true ∧ h.f R.BUF_POST 12 0 * 64 ≤ h.buf.post ∧
      h.snapStep = (h.snapClose.bufFlag 2).event 51) ∨
    (¬ (h.buf.snap = .triggered ∧ h.buf.trigPos.isSome = true ∧ h.f R.BUF_POST 12 0 * 64 ≤ h.buf.post) ∧ h.snapStep = h) := by
  unfold snapStep
  dsimp only
  split
  · rename_i ha
    simp only [Bool.and_eq_true, decide_eq_true_eq] at ha
    exact .inl ⟨ha.1, rfl⟩
  · split
    · rename_i ht
      simp only [Bool.and_eq_true, decide_eq_true_eq] at ht
      exact .inr (.inl ⟨ht.1.1, ht.1.2, ht.2, rfl⟩)
    · rename_i ht
      exact .inr (.inr ⟨by simpa [and_assoc] using ht, rfl⟩)

/-- A completed snapshot, once flagged and told. -/
theorem snapClosed_buf (h : Hw) : ((h.snapClose.bufFlag 2).event 51).buf = h.snapClose.buf :=
  (event_buf _ _).trans (raise_buf _ _ _)

/-- A step of the snapshot keeps the queue of the markers and SHORT (R345, R347). -/
theorem snapStep_marks (h : Hw) : h.snapStep.buf.marks = h.buf.marks ∧ h.snapStep.buf.short = h.buf.short := by
  obtain ⟨-, e⟩ | ⟨-, -, -, e⟩ | ⟨-, e⟩ := h.snapStep_cases
  · rw [e]; exact ⟨rfl, rfl⟩
  · rw [e, snapClosed_buf]; exact ⟨rfl, rfl⟩
  · rw [e]; exact ⟨rfl, rfl⟩

/-- Flags that are set stay set in a step of the snapshot. -/
theorem snapStep_b_mono (h : Hw) (a i : Nat) (hb : h.b a i = true) : h.snapStep.b a i = true := by
  obtain ⟨-, e⟩ | ⟨-, -, -, e⟩ | ⟨-, e⟩ := h.snapStep_cases
  · rw [e]; exact hb
  · rw [e, b, event_reg]; exact raise_b_mono _ _ _ _ _ hb
  · rw [e]; exact hb

/-- A triggered snapshot with no words behind its trigger is complete when POST is 0 (R347). -/
theorem snapStep_triggered (h : Hw) (hs : h.buf.snap = .triggered) (ht : h.buf.trigPos.isSome = true) (hp : h.buf.post = 0) :
    h.snapStep.buf.snap = if h.f R.BUF_POST 12 0 = 0 then .complete else .triggered := by
  obtain ⟨ha, -⟩ | ⟨-, -, hpost, e⟩ | ⟨hpost, e⟩ := h.snapStep_cases
  · rw [hs] at ha; cases ha
  · rw [e, snapClosed_buf, if_pos (by omega)]; rfl
  · rw [e, if_neg fun h0 => hpost ⟨hs, ht, by omega⟩, hs]

theorem live_of_pageUp_buf {h : Hw} (hu : h.pageUp 0x12 = true) : h.pageLive 0x12 = true := live_of_up (d := .sense) hu

/-- What a trigger through CTRL leaves of the buffer (R336, R346). -/
theorem snapTrigger_spec (h : Hw) (hl : h.pageLive 0x12 = true) (hw : h.snapWaits = true) (hb : h.bufWrites = true) :
    (h.snapTrigger 0x3F).buf.short = (h.buf.short || h.buf.snap == .arming || h.buf.fresh) ∧
    (h.buf.marks.length < 16 → (h.snapTrigger 0x3F).buf.snap = .triggered ∧ (h.snapTrigger 0x3F).buf.trigPos = none ∧
      (h.snapTrigger 0x3F).buf.post = 0 ∧ ∃ m : Mark, (h.snapTrigger 0x3F).buf.marks = h.buf.marks ++ [m] ∧
        m.trig = true ∧ m.ev = 0x3F ∧ m.index = h.buf.ref.getD 0xFFF) ∧
    (16 ≤ h.buf.marks.length → (h.snapTrigger 0x3F).buf.marks = h.buf.marks ∧
      (h.snapTrigger 0x3F).b R.BUF_IFLAG 6 = true ∧
      (h.snapTrigger 0x3F).buf.snap = if h.f R.BUF_POST 12 0 = 0 then .complete else .triggered) := by
  by_cases hr : h.buf.marks.length < 16
  · rw [snapTrigger_room h _ hw hb hr]
    exact ⟨rfl, fun _ => ⟨rfl, rfl, rfl, _, rfl, rfl, rfl, rfl⟩, fun hf => absurd hr (by omega)⟩
  · have hf : 16 ≤ h.buf.marks.length := by omega
    rw [snapTrigger_full h _ hw hb hf]
    have hbuf : (({ h with buf := h.triggeredBuf (some h.buf.wp) }.count R.BUF_MKLOST).bufFlag 6).buf =
        h.triggeredBuf (some h.buf.wp) := raise_buf _ _ _
    have hpost : (({ h with buf := h.triggeredBuf (some h.buf.wp) }.count R.BUF_MKLOST).bufFlag 6).f R.BUF_POST 12 0 =
        h.f R.BUF_POST 12 0 := by
      rw [f, bufFlag, reg_raise_ne _ _ _ _ (by decide), count, countBy, reg_setReg_ne _ _ _ _ (by decide)]
      rfl
    have hflag : (({ h with buf := h.triggeredBuf (some h.buf.wp) }.count R.BUF_MKLOST).bufFlag 6).b R.BUF_IFLAG 6 = true :=
      raise_b_same _ 0x12 6 (by decide) hl
    generalize (({ h with buf := h.triggeredBuf (some h.buf.wp) }.count R.BUF_MKLOST).bufFlag 6) = g at hbuf hpost hflag
    obtain ⟨hmarks, hshort⟩ := snapStep_marks g
    refine ⟨by rw [hshort, hbuf]; rfl, fun hr' => absurd hr' hr, fun _ => ⟨by rw [hmarks, hbuf]; rfl,
      snapStep_b_mono g _ _ hflag, ?_⟩⟩
    rw [snapStep_triggered g (by rw [hbuf]; rfl) (by rw [hbuf]; rfl) (by rw [hbuf]; rfl), hpost]

/-! ### The queue of the markers (R336) -/

/-- The markers that wait, oldest first. -/
def markQueue (h : Hw) : List Mark := h.buf.marks

theorem snapStep_markQueue (h : Hw) : h.snapStep.markQueue = h.markQueue := h.snapStep_marks.1

theorem bufFlag_markQueue (h : Hw) (bit : Nat) : (h.bufFlag bit).markQueue = h.markQueue := congrArg Buf.marks (raise_buf h _ _)

theorem countOverrun_markQueue (g : Hw) (n a bit : Nat) :
    (if n = 0 then g else (g.countBy a n).bufFlag bit).markQueue = g.markQueue := ite_keeps markQueue rfl (bufFlag_markQueue _ _)

theorem overrunPorts_markQueue (h : Hw) : h.overrunPorts.markQueue = h.markQueue := by
  -- As in `overrunPorts_still`: the overruns are generalized before the kernel could evaluate `wp - bufCap`.
  rw [show overrunPorts = _ by delta overrunPorts; rfl]
  generalize h.overrun h.buf.portA = x
  generalize h.overrun h.buf.portB = y
  obtain ⟨a, pa⟩ := x
  obtain ⟨b, pb⟩ := y
  exact (countOverrun_markQueue _ _ _ _).trans
    (countOverrun_markQueue { h with buf := { h.buf with portA := pa, portB := pb } } _ _ _)

theorem putRecord_markQueue (h : Hw) (d : Draft) : (h.putRecord d).markQueue = h.markQueue := by
  unfold putRecord
  extract_lets _ _ _ _ _ _ h1
  have e1 : h1.markQueue = h.markQueue := rfl
  clear_value h1
  exact ite_keeps markQueue ((overrunPorts_markQueue h1).trans e1) e1

theorem writeRecord_markQueue (h : Hw) (d : Draft) : (h.writeRecord d).markQueue = h.markQueue :=
  ite_keeps markQueue rfl (ite_keeps markQueue (bufFlag_markQueue _ _) ((snapStep_markQueue _).trans (putRecord_markQueue h d)))

theorem watermarks_markQueue (h : Hw) (x y : Nat) : (h.watermarks x y).markQueue = h.markQueue := by
  unfold watermarks
  extract_lets _ _ _ h1
  have e1 : h1.markQueue = h.markQueue :=
    (congrArg Buf.marks (raiseIf_buf _ _ _ _)).trans (congrArg Buf.marks (raiseIf_buf _ _ _ _))
  exact ite_keeps markQueue ((congrArg Buf.marks (event_buf _ _)).trans e1) e1

/-- The writer takes the oldest marker of the queue (R336). -/
theorem markOut_markQueue (h : Hw) (m : Mark) (l : List Mark) (hm : h.buf.marks = m :: l) : h.markOut.buf.marks = l := by
  unfold markOut
  split
  · rename_i hnil
    rw [hnil] at hm
    cases hm
  · rename_i m' l' hcons
    obtain ⟨-, rfl⟩ := List.cons.inj (hcons.symm.trans hm)
    extract_lets _ lead _ h1 h2 h3 _ h4 _ h5
    have e2 : h2.markQueue = l' := foldl_keeps markQueue _ writeRecord_markQueue lead h1
    have e4 : h4.markQueue = l' := (writeRecord_markQueue h2 _).trans e2
    have e5 : h5.markQueue = l' := ite_keeps markQueue ((snapStep_markQueue _).trans e4) e4
    exact (watermarks_markQueue _ _ _).trans e5

/-! ### Overwritten words (R344) -/

theorem overrun_none (h : Hw) (q : RdPort) (hq : h.buf.wp - bufCap ≤ q.ptr) : h.overrun q = (0, q) := by
  unfold overrun
  exact if_neg (Nat.not_lt.2 hq)

/-- The oldest record that holds no overwritten word, or the end of the data. -/
def oldestHeld (h : Hw) : Nat := ((h.buf.recs.find? fun r => h.buf.wp - bufCap ≤ r.pos).map (·.pos)).getD h.buf.wp

theorem oldestHeld_ge (h : Hw) : h.buf.wp - bufCap ≤ h.oldestHeld := by
  unfold oldestHeld
  cases hf : h.buf.recs.find? fun r => h.buf.wp - bufCap ≤ r.pos with
  | none => exact Nat.sub_le _ _
  | some r => simpa using List.find?_some hf

theorem overrun_skips (h : Hw) (q : RdPort) (hq : q.ptr < h.buf.wp - bufCap) :
    ∃ kept lost, h.overrun q = (h.oldestHeld - q.ptr,
      { ptr := h.oldestHeld, left := 0, inject := kept ++ portGap h.pwr.draft 5 lost }) := by
  unfold overrun
  rw [if_pos hq]
  exact ⟨_, _, rfl⟩

theorem overrun_spec (h : Hw) (q : RdPort) (hq : q.ptr < h.buf.wp - bufCap) :
    h.buf.wp - bufCap ≤ (h.overrun q).2.ptr ∧ (h.overrun q).2.ptr = q.ptr + (h.overrun q).1 ∧
      ∃ lost, (h.overrun q).2.inject.drop ((h.overrun q).2.inject.length - 3) = portGap h.pwr.draft 5 lost := by
  obtain ⟨kept, lost, e⟩ := overrun_skips h q hq
  have hge := h.oldestHeld_ge
  have hlen : (kept ++ portGap h.pwr.draft 5 lost).length - 3 = kept.length := by simp [portGap]
  rw [e]
  refine ⟨hge, ?_, lost, ?_⟩
  · show h.oldestHeld = q.ptr + (h.oldestHeld - q.ptr)
    omega
  · show (kept ++ portGap h.pwr.draft 5 lost).drop ((kept ++ portGap h.pwr.draft 5 lost).length - 3) = _
    rw [hlen, List.drop_left]

/-! ### A record in FIFO mode (R329, R343) -/

/-- Without room, or with records dropped before, the record is dropped and counted. -/
theorem writeRecord_drops (h : Hw) (d : Draft) (hw : h.bufWrites = true) (hm : h.bufMode = 0)
    (hd : h.buf.dropped ≠ 0 ∨ h.fifoFree < d.body.length + 13) : h.writeRecord d = h.dropRecord := by
  unfold writeRecord
  rw [hw, hm]
  simp [hd]

theorem live_of_bufWrites {h : Hw} (hw : h.bufWrites = true) : h.live .sense = true := by
  simp only [bufWrites, Bool.and_eq_true] at hw
  exact hw.1.1.1.1

theorem dropRecord_spec (h : Hw) (hl : h.live .sense = true) :
    h.dropRecord.buf = { h.buf with dropped := h.buf.dropped + 1 } ∧
    h.dropRecord.reg R.BUF_DROPCNT = wd (min 0xFFFF ((h.reg R.BUF_DROPCNT).toNat + 1)) ∧
    h.dropRecord.b R.BUF_IFLAG 3 = true := by
  refine ⟨raise_buf _ _ _, ?_, raise_b_same _ 0x12 3 (by decide) hl⟩
  rw [dropRecord, bufFlag, reg_raise_ne _ _ _ _ (by decide), count, countBy, reg_setReg_same]
  rfl

/-- With room it is written whole at the end of the data. -/
theorem writeRecord_room (h : Hw) (d : Draft) (hw : h.bufWrites = true) (hm : h.bufMode = 0) (hs : h.buf.snap = .none)
    (hd : h.buf.dropped = 0) (hf : d.body.length + 13 ≤ h.fifoFree) : h.writeRecord d = h.putRecord d := by
  have hp : (h.putRecord d).buf.snap = .none := by
    unfold putRecord
    rw [hm]
    exact hs
  unfold writeRecord
  rw [hw, hm, hd]
  simp [hf, snapStep, hp]

theorem putRecord_fifo (h : Hw) (d : Draft) (hm : h.bufMode = 0) (ha : h.buf.portA.ptr ≤ h.buf.wp) :
    (h.putRecord d).buf.wp = h.buf.wp + (d.body.length + 1) ∧ (h.putRecord d).buf.seq = (h.buf.seq + 1) % 8 ∧
      (h.putRecord d).buf.recs.getLast? = some (Rcd.mk h.buf.wp
        (tagWord d.typ (d.body.length + 1) d.qual h.pwr.draft d.warm d.blend h.buf.seq :: d.body)) ∧
      (h.putRecord d).buf.portA = h.buf.portA ∧ (h.putRecord d).buf.portB = h.buf.portB ∧
      (h.putRecord d).regs = h.regs := by
  unfold putRecord
  extract_lets words wp recs low kept _ h1
  have hlen : words.length = d.body.length + 1 := rfl
  have hlow : low ≤ h.buf.wp := by
    unfold low
    rw [if_pos hm]
    split
    · exact ha
    · exact (Nat.min_le_left _ _).trans ha
  have hkept : kept.getLast? = some ⟨h.buf.wp, words⟩ := by
    have hin : low < h.buf.wp + words.length := by omega
    rw [show kept = (h.buf.recs ++ [Rcd.mk h.buf.wp words]).filter fun r => low < r.pos + r.words.length from rfl,
      List.filter_append, List.filter_cons_of_pos (by simpa using hin)]
    simp
  rw [hm, if_neg (by decide)]
  exact ⟨by rw [← hlen], rfl, hkept, rfl, rfl, rfl⟩

end Hw

/-- Settles O46: the commands by `ctrlRow_bufEnable`, `ctrlRow_bufArm` and `snapTrigger_spec`, the queue by `markOut_markQueue`,
the ports by `overrun_spec`, the records by `dropRecord_spec` and `putRecord_fifo`. -/
theorem bufferWriterFollowsMode : Obligations.BufferWriterFollowsMode := by
  refine ⟨fun s p v hp hu hs => ⟨fun hv he => ?_, fun hv he => ?_, fun hv he => ?_⟩, fun h m l hm => h.markOut_markQueue m l hm,
    fun h q => ⟨h.overrun_none q, h.overrun_spec q⟩, fun h d hw hm hn ha => ⟨fun hd => ?_, fun hd hf => ?_⟩⟩
  · refine ⟨_, done_congr (Hw.ctrlRow_bufEnable s.hw p v hp hu hs he hv), ?_⟩
    rw [Hw.buf_bufBegin]
    have hbit : (s.hw.setBits R.BUF_CTRL 1).enabled 0x12 = true := Hw.b_setBits_same _ _ _ _ (by decide) (by decide)
    have hreg (a : Nat) (ha : a ≠ R.BUF_CTRL) : (s.hw.setBits R.BUF_CTRL 1).reg a = s.hw.reg a :=
      Hw.reg_setBits_ne _ _ _ _ ha
    have hmode : (s.hw.setBits R.BUF_CTRL 1).bufMode = s.hw.bufMode := congrArg (fld · 1 0) (hreg _ (by decide))
    have hpre : (s.hw.setBits R.BUF_CTRL 1).f R.BUF_PRE 12 0 = s.hw.f R.BUF_PRE 12 0 :=
      congrArg (fld · 12 0) (hreg _ (by decide))
    rw [hmode, hpre]
    exact ⟨hbit, rfl, rfl, hreg⟩
  · refine ⟨_, done_congr (Hw.ctrlRow_bufArm s.hw p v hp hu hs he hv), ?_⟩
    by_cases hm : s.hw.bufMode = 2
    · rw [Hw.bufArm_snapshot s.hw he hm]
      exact ⟨fun _ => rfl, fun hn => absurd hm hn, rfl, fun _ _ => rfl⟩
    · rw [Hw.bufArm_other s.hw hm]
      exact ⟨fun h2 => absurd h2 hm, fun _ => rfl, rfl, fun _ _ => rfl⟩
  · refine ⟨_, done_congr (Hw.ctrlRow_bufTrig s.hw p v hp hu hs he hv), fun hno => ?_, fun hw hb => ?_⟩
    · rcases hno with hw | hb
      · rw [hw]; rfl
      · split
        · exact congrArg Hw.buf (if_pos (by rw [hb]; simp))
        · rfl
    · rw [if_pos hw]
      exact s.hw.snapTrigger_spec (Hw.live_of_pageUp_buf hu) hw hb
  · rw [Hw.writeRecord_drops h d hw hm hd]
    exact h.dropRecord_spec (Hw.live_of_bufWrites hw)
  · rw [Hw.writeRecord_room h d hw hm hn hd hf]
    exact h.putRecord_fifo d hm ha

end Sys2Proof.Machine

/-! ## Proofs: read ports, stream frames and datagrams (O47) -/

namespace Sys2Proof.Machine
namespace Hw

/-! ### Port A (R349) -/

theorem readRow_adata (h : Hw) (p : Party) (hp : h.partyUp p = true) (hu : h.pageUp 0x12 = true) :
    h.readRow p R.BUF_ADATA = (h.adataRead p).2 := by
  refine h.readRow_of_readBus _ p _ (h.adataRead p).1 hp (etchBarred_none p _ (by decide)) ?_
  have hpage : h.pageUp (R.BUF_ADATA / 256) = true := hu
  simp [readBus, readErr, hpage, show R.BUF_ADATA % 256 ≠ 15 by decide, readReg]

theorem adataRead_other (h : Hw) (p : Party) (hw : h.f R.BUF_ACFG 1 0 ≠ relWho p) : h.adataRead p = (0, h) :=
  if_pos (by simpa using hw)

theorem adataRead_none (h : Hw) (p : Party) (hw : h.f R.BUF_ACFG 1 0 = relWho p) (hn : h.portNext h.buf.portA = none) :
    h.adataRead p = (0xF000, h) := by
  simp [adataRead, hw, hn]

theorem adataRead_some (h : Hw) (p : Party) (w : Word) (q : RdPort) (hw : h.f R.BUF_ACFG 1 0 = relWho p)
    (hn : h.portNext h.buf.portA = some (w, q)) :
    h.adataRead p = (w, { h with buf := { h.buf with portA := q } }) := by
  simp [adataRead, hw, hn]

theorem portNext_empty (h : Hw) (q : RdPort) (hl : h.portLevel q = 0) (hi : q.inject = []) : h.portNext q = none := by
  simp [portNext, hi, hl]

theorem portLevel_open (h : Hw) (q : RdPort) (ho : h.portsOpen = true) :
    h.portLevel q = min bufCap (q.inject.length + (h.buf.wp - q.ptr)) := if_pos ho

/-- A word that is taken lowers the level by one (R348, R349). -/
theorem portLevel_next (h : Hw) (q q' : RdPort) (w : Word) (hn : h.portNext q = some (w, q')) (ho : h.portsOpen = true)
    (hc : q.inject.length + (h.buf.wp - q.ptr) ≤ bufCap) : h.portLevel q' + 1 = h.portLevel q := by
  unfold portNext at hn
  split at hn
  · rename_i w' t hi
    obtain ⟨-, rfl⟩ := Prod.mk.inj (Option.some.inj hn)
    have hlen : q.inject.length = t.length + 1 := by rw [hi]; rfl
    rw [portLevel_open h q ho, portLevel_open h _ ho, Nat.min_eq_right hc, Nat.min_eq_right (by simp only; omega), hlen]
    simp only
    omega
  · rename_i hi
    split at hn
    · cases hn
    · rename_i hl
      obtain ⟨r, -, hr⟩ := Option.bind_eq_some_iff.1 hn
      obtain ⟨x, -, he⟩ := Option.map_eq_some_iff.1 hr
      obtain ⟨-, rfl⟩ := Prod.mk.inj he
      rw [hi, List.length_nil, Nat.zero_add] at hc
      rw [portLevel_open h q ho, hi, List.length_nil, Nat.zero_add, Nat.min_eq_right hc] at hl ⊢
      rw [portLevel_open h _ ho]
      simp only [List.length_nil, Nat.zero_add]
      rw [Nat.min_eq_right (by omega)]
      omega

/-! ### Configuration of the ports and of the writer (R340, R349, R351) -/

theorem writeRow_acfg (h : Hw) {p : Party} {v : Word} (ha : h.accepts p R.BUF_ACFG v) :
    h.writeRow p R.BUF_ACFG v = h.acfgWrite v := writeRow_block _ _ _ _ .buf (by decide) ha

theorem writeRow_bcfg (h : Hw) {p : Party} {v : Word} (ha : h.accepts p R.BUF_BCFG v) :
    h.writeRow p R.BUF_BCFG v = h.bcfgWrite v := writeRow_block _ _ _ _ .buf (by decide) ha

/-- The owner of port A and the sink of port B stand in a word beside FLUSH. -/
theorem fld_or_flush (v : Word) : fld (v ||| 0x8000) 1 0 = fld v 1 0 := by
  rw [← fld_lowByte _ 1 0 (by decide) (by decide), or_go_and v 0x00FF rfl, fld_lowByte _ 1 0 (by decide) (by decide)]

theorem fld_and_noFlush (v : Word) : fld (v &&& 0x7FFF) 1 0 = fld v 1 0 := by
  have e : (v &&& 0x7FFF) &&& 0x00FF = v &&& 0x00FF := BitVec.and_assoc ..
  rw [← fld_lowByte _ 1 0 (by decide) (by decide), e, fld_lowByte _ 1 0 (by decide) (by decide)]

theorem acfgWrite_reserved (h : Hw) (v : Word) (hv : fld v 1 0 = 3) : h.acfgWrite (v ||| 0x8000) = h.raise 0x12 7 :=
  if_pos ((fld_or_flush v).trans hv)

theorem acfgWrite_flush (h : Hw) (v : Word) (hv : fld v 1 0 ≠ 3) : h.acfgWrite (v ||| 0x8000) =
    { h.setReg R.BUF_ACFG (v &&& 3) with buf := { h.buf with portA := RdPort.at h.buf.wp } } := by
  have hb : (v ||| 0x8000).getLsbD 15 = true := by simp
  rw [acfgWrite, fld_or_flush, if_neg hv, hb, show (v ||| 0x8000) &&& 0x0003 = v &&& 3 from or_go_and v 3 rfl]
  rfl

theorem bcfgWrite_reserved (h : Hw) (v : Word) (hv : fld v 1 0 = 3) : h.bcfgWrite v = h.raise 0x12 7 := if_pos hv

/-- A write that leaves the sink flushes port B when FLUSH says so (R351). -/
theorem bcfgWrite_same (h : Hw) (v : Word) (hv : fld v 1 0 ≠ 3) (hs : fld v 1 0 = h.sink) :
    h.bcfgWrite v = if v.getLsbD 15 then (h.setReg R.BUF_BCFG (v &&& 3)).flushB else h.setReg R.BUF_BCFG (v &&& 3) := by
  unfold bcfgWrite
  rw [if_neg hv]
  simp only [hs, bne_self_eq_false, Bool.or_false, Bool.false_eq_true, if_false]

/-- A new sink is a flush, and drops the words of a datagram (R351, R359). -/
theorem bcfgWrite_change (h : Hw) (v : Word) (hv : fld v 1 0 ≠ 3) (hs : fld v 1 0 ≠ h.sink) :
    h.bcfgWrite v = { h.setReg R.BUF_BCFG (v &&& 3) with
      buf := { h.buf with portB := RdPort.at h.buf.wp }
      strm := { h.strm with dg := [], dgFirst := none, dseq := if fld v 1 0 = 1 then 0 else h.strm.dseq } } := by
  have hne : (h.sink != fld v 1 0) = true := bne_iff_ne.2 hs.symm
  unfold bcfgWrite
  rw [if_neg hv]
  simp only [hne, Bool.or_true, if_true]
  rfl

theorem exec_bufCfg (s : State) (p : Party) {a m : Nat} (v : Word)
    (ham : (a, m) ∈ [(R.BUF_CFG, 0x0033), (R.BUF_SEL, 0x0007), (R.BUF_PRE, 0x1FFF), (R.BUF_POST, 0x1FFF)])
    (ha : s.hw.accepts p a v) :
    exec (.registerWrite (BitVec.ofNat 16 a) [(p, v)] Tie.none) s = .next (s.after (s.hw.bufCfgWrite a m v)) := by
  simp only [List.mem_cons, List.not_mem_nil, or_false, Prod.mk.injEq] at ham
  rcases ham with ⟨rfl, rfl⟩ | ⟨rfl, rfl⟩ | ⟨rfl, rfl⟩ | ⟨rfl, rfl⟩
  all_goals exact exec_registerWrite_block s p _ v .buf (by decide) ha (by decide) (by decide) (by decide)

/-- Why a configuration of the writer is rejected (R340). -/
theorem bufCfgWrite_eq (h : Hw) (a m : Nat) (v : Word) {pre post : Nat}
    (hpre : pre = if a = R.BUF_PRE then fld v 12 0 else h.f R.BUF_PRE 12 0)
    (hpost : post = if a = R.BUF_POST then fld v 12 0 else h.f R.BUF_POST 12 0) :
    h.bufCfgWrite a m v =
      if h.enabled 0x12 = true ∨ h.isStopping 0x12 = true ∨ 8192 < pre + post ∨ (a = R.BUF_CFG ∧ fld v 1 0 = 3) then
        h.raise 0x12 7
      else h.setReg a (v &&& wd m) := by
  rw [hpre, hpost]
  simp only [bufCfgWrite, Bool.or_eq_true, Bool.and_eq_true, decide_eq_true_eq, or_assoc]
  rfl

/-! ### The stream port starts (R357) -/

theorem enWrite_strm_start (h : Hw) (hs : h.isStopping 0x13 = false) (he : h.enabled 0x13 = false) :
    h.enWrite 0x13 true = (h.setBits R.STRM_CTRL 1).strmStart := by
  show (if h.isStopping 0x13 then _ else if h.enabled 0x13 then _ else _) = _
  rw [hs, he]
  rfl

theorem ctrlRow_strmEnable (h : Hw) (p : Party) (v : Word) (hp : h.partyUp p = true) (hu : h.pageUp 0x13 = true)
    (hs : h.isStopping 0x13 = false) (he : h.enabled 0x13 = false) :
    h.ctrlRow p 0x13 v 1 = (h.setBits R.STRM_CTRL 1).strmStart := by
  have h0 : ((v &&& 0x7FFF) ||| 1).getLsbD 0 = true := by simp
  rw [ctrlRow_enWrite h p 0x13 v 1 .strm rfl rfl (by decide) (by decide) (by decide) (by simp) hp hu, h0,
    enWrite_strm_start h hs he]
  rfl

theorem atBoundary_iff (q : RdPort) : atBoundary q = true ↔ (q.inject = [] ∧ q.left = 0) ∨ q.inject.length = 3 := by
  unfold atBoundary
  split
  · rename_i e
    simp [e]
  · rename_i hne
    simp only [decide_eq_true_eq]
    exact ⟨.inr, fun h => h.elim (fun e => absurd e.1 (by simpa using hne)) id⟩

theorem restartB_boundary (h : Hw) (hb : atBoundary h.buf.portB = true) : h.restartB = h := if_pos hb

theorem restartB_inside (h : Hw) (hb : ¬ atBoundary h.buf.portB = true) : h.restartB =
    { h with buf := { h.buf with portB :=
      { ptr := h.buf.portB.ptr + h.buf.portB.left, left := 0
        inject := portGap h.pwr.draft 7 (h.buf.portB.inject.length + h.buf.portB.left) } } }.raise 0x13 0 := if_neg hb

/-- Port B may move to a record's end; the rest of what a start looks at stays. -/
theorem restartB_strm (h : Hw) : h.restartB.strm = h.strm := by
  by_cases hb : atBoundary h.buf.portB = true
  · rw [restartB_boundary h hb]
  · rw [restartB_inside h hb, raise_strm]

theorem strmStart_spec (h : Hw) : h.strmStart.enabled 0x13 = true ∧
    h.strmStart.strm = { h.strm with active := true, fcnt := 0 } ∧ h.strmStart.buf = h.restartB.buf ∧
    h.strmStart.b R.STRM_IFLAG 0 = h.restartB.b R.STRM_IFLAG 0 := by
  refine ⟨b_setBits_same h.restartB R.STRM_CTRL 1 0 (by decide) (by decide), ?_, rfl,
    b_setReg_ne h.restartB R.STRM_CTRL R.STRM_IFLAG 0 _ (by decide)⟩
  show { h.restartB.strm with active := true, fcnt := 0 } = _
  rw [restartB_strm]

/-- Where a start leaves port B (R357): a port inside a record makes a gap record at the next boundary. -/
theorem strmStart_portB (h : Hw) (hl : h.pageLive 0x13 = true) (q : RdPort) (hq : q = h.buf.portB) :
    ((q.inject = [] ∧ q.left = 0) ∨ q.inject.length = 3 → h.strmStart.buf = h.buf) ∧
    (¬ ((q.inject = [] ∧ q.left = 0) ∨ q.inject.length = 3) → h.strmStart.b R.STRM_IFLAG 0 = true ∧
      h.strmStart.buf.portB =
        { ptr := q.ptr + q.left, left := 0, inject := portGap h.pwr.draft 7 (q.inject.length + q.left) }) := by
  subst hq
  obtain ⟨-, -, hbuf, hflag⟩ := h.strmStart_spec
  rw [← atBoundary_iff, hbuf, hflag]
  refine ⟨fun hb => by rw [restartB_boundary h hb], fun hb => ?_⟩
  rw [restartB_inside h hb, raise_buf]
  exact ⟨raise_b_same _ 0x13 0 (by decide) hl, rfl⟩

/-! ### Words taken from port B (R351, R356) -/

theorem length_takeB (n : Nat) (h : Hw) : (takeB n h).1.length ≤ n := by
  induction n generalizing h with
  | zero => exact Nat.le_refl 0
  | succ n ih =>
    unfold takeB
    split
    · exact Nat.zero_le _
    · exact Nat.succ_le_succ (ih _)

/-- The words of port B that a frame takes (R351, R356). -/
def frameTake (h : Hw) : List (Word × Bool) × Hw := if h.sink = 2 then takeB 61 h else ([], h)

theorem strmPayload_take (h : Hw) : h.strmPayload =
    (h.frameTake.1 ++ List.replicate (61 - h.frameTake.1.length) (0xF000, true), h.frameTake.2) := rfl

theorem strmPayload_eq (h : Hw) : h.strmPayload.2 = { h with buf := h.strmPayload.2.buf } := by
  rw [strmPayload_take]
  unfold frameTake
  split
  · exact takeB_eq 61 h
  · rfl

theorem length_strmPayload (h : Hw) : h.strmPayload.1.length = 61 := by
  have hlen : h.frameTake.1.length ≤ 61 := by
    unfold frameTake
    split
    · exact length_takeB 61 h
    · exact Nat.zero_le _
  rw [strmPayload_take, List.length_append, List.length_replicate]
  exact Nat.add_sub_cancel' hlen

theorem strmPayload_other (h : Hw) (hs : h.sink ≠ 2) : h.strmPayload = (List.replicate 61 (0xF000, true), h) := by
  rw [strmPayload_take, frameTake, if_neg hs]
  rfl

/-! ### A frame (R354 to R356) -/

/-- The header and payload of the frame that is due, and the frame. -/
def frameHeader (h : Hw) : Word :=
  let first := h.strmPayload.1.findIdx (·.2)
  wd ((if first < 61 then first else 0x3F) * 1024 + h.strm.fcnt % 1024)

def frameBody (h : Hw) : List Word := h.frameHeader :: h.strmPayload.1.map (·.1)

def frameWords (h : Hw) : List Word := 0x9E37 :: h.frameBody ++ [crc16 h.frameBody]

/-- A frame that is sent, before the port may halt. -/
def frameSent (h : Hw) : Hw :=
  { h.strmPayload.2.setReg R.STRM_FCNT (wd (h.strm.fcnt % 1024)) with
    strm := { h.strm with
      frame := h.frameWords, lanes := h.frameWords.flatMap (laneWord (h.b R.STRM_CFG 4)), fcnt := (h.strm.fcnt + 1) % 1024 } }

theorem strmFrame_eq (h : Hw) (ha : h.strm.active = true) (hl : h.live .sense = true) :
    h.strmFrame = if h.isStopping 0x13 then
        if h.pendEn.contains 0x13 then
          { h.frameSent.strmHalt with pendEn := h.frameSent.strmHalt.pendEn.filter (· != 0x13) }.strmStart
        else h.frameSent.strmHalt
      else h.frameSent := by
  have hs : h.strmPayload.2.strm = h.strm := by rw [strmPayload_eq]
  unfold strmFrame
  rw [if_neg (by simp [ha, hl])]
  simp only [frameSent, frameWords, frameBody, frameHeader, ← hs]
  rfl

theorem length_frameBody (h : Hw) : h.frameBody.length = 62 := by
  rw [frameBody, List.length_cons, List.length_map, length_strmPayload]

/-- A field of ten bits below another. -/
theorem wd_and_tenBits (x y : Nat) (hy : y < 1024) : wd (x * 1024 + y) &&& 0x03FF = wd y := by
  have hm : (wd (x * 1024 + y)).toNat &&& 1023 = (wd (x * 1024 + y)).toNat % 1024 :=
    Nat.and_two_pow_sub_one_eq_mod _ 10
  refine BitVec.eq_of_toNat_eq ?_
  rw [BitVec.toNat_and, show (0x03FF : Word).toNat = 1023 from rfl, hm]
  simp only [wd, BitVec.toNat_ofNat]
  omega

/-- The words of a frame by their places (R355, R356). -/
theorem frameWords_spec (h : Hw) : h.frameWords.length = 64 ∧ wordOf h.frameWords 0 = 0x9E37 ∧
    wordOf h.frameWords 1 &&& 0x03FF = wd (h.strm.fcnt % 1024) ∧
    (h.frameWords.drop 2).take 61 = h.strmPayload.1.map Prod.fst ∧
    wordOf h.frameWords 63 = crc16 ((h.frameWords.drop 1).take 62) := by
  have hlen := h.length_frameBody
  have hpay : (h.strmPayload.1.map Prod.fst).length = 61 := by rw [List.length_map, length_strmPayload]
  refine ⟨by simp [frameWords, hlen], rfl, ?_, ?_, ?_⟩
  · show h.frameHeader &&& 0x03FF = _
    exact wd_and_tenBits _ _ (Nat.mod_lt _ (by decide))
  · show (h.strmPayload.1.map Prod.fst ++ [crc16 h.frameBody]).take 61 = _
    rw [List.take_left' hpay]
  · show (0x9E37 :: h.frameBody ++ [crc16 h.frameBody]).getD 63 0 = crc16 ((h.frameBody ++ [crc16 h.frameBody]).take 62)
    rw [List.take_left' hlen, List.cons_append, List.getD_cons_succ, List.getD_append_right _ _ _ _ (by omega), hlen]
    rfl

/-- What the STRM port shows of a frame (R354, R355). -/
structure FrameShown (h g : Hw) : Prop where
  frame : g.strm.frame = h.frameWords
  lanes : g.strm.lanes = h.frameWords.flatMap (laneWord (h.b R.STRM_CFG 4))
  fcnt : g.reg R.STRM_FCNT = wd (h.strm.fcnt % 1024)

theorem restartB_reg (h : Hw) (a : Nat) (ha : a ≠ R.STRM_IFLAG) : h.restartB.reg a = h.reg a := by
  by_cases hb : atBoundary h.buf.portB = true
  · rw [restartB_boundary h hb]
  · rw [restartB_inside h hb, reg_raise_ne _ _ _ _ ha]
    rfl

/-- Whether the port goes on, halts or starts anew, it has sent the frame (R355, R357). -/
theorem strmFrame_shown (h : Hw) (ha : h.strm.active = true) (hl : h.live .sense = true) : FrameShown h h.strmFrame := by
  have hsent : FrameShown h h.frameSent := ⟨rfl, rfl, reg_setReg_same _ _ _⟩
  rw [strmFrame_eq h ha hl]
  split
  · split
    · generalize hg : { h.frameSent.strmHalt with pendEn := h.frameSent.strmHalt.pendEn.filter (· != 0x13) } = g
      have hshown : FrameShown h g := by
        rw [← hg]
        exact ⟨rfl, rfl, reg_setReg_same _ _ _⟩
      obtain ⟨-, hstrm, -, -⟩ := g.strmStart_spec
      refine ⟨by rw [hstrm]; exact hshown.frame, by rw [hstrm]; exact hshown.lanes, ?_⟩
      have hreg : g.strmStart.reg R.STRM_FCNT = g.restartB.reg R.STRM_FCNT :=
        reg_setBits_ne g.restartB R.STRM_CTRL 1 R.STRM_FCNT (by decide)
      rw [hreg, restartB_reg g _ (by decide)]
      exact hshown.fcnt
    · exact ⟨rfl, rfl, hsent.fcnt⟩
  · exact hsent

/-- A port that does not stop goes on with the next frame (R355). -/
theorem strmFrame_goesOn (h : Hw) (ha : h.strm.active = true) (hl : h.live .sense = true)
    (hs : h.isStopping 0x13 = false) :
    h.strmFrame.strm.active = true ∧ h.strmFrame.strm.fcnt = (h.strm.fcnt + 1) % 1024 := by
  rw [strmFrame_eq h ha hl, hs]
  exact ⟨ha, rfl⟩

/-- A stopping port halts after its frame (R357). -/
theorem strmFrame_halts (h : Hw) (ha : h.strm.active = true) (hl : h.live .sense = true)
    (hs : h.isStopping 0x13 = true) (hp : h.pendEn.contains 0x13 = false) :
    h.strmFrame.strm.active = false ∧ h.strmFrame.isStopping 0x13 = false := by
  rw [strmFrame_eq h ha hl, hs, hp]
  exact ⟨rfl, by simp [isStopping, strmHalt]⟩

/-- The bits of a word on its lanes, MSB first (R354). -/
theorem laneWord_spec (w : Word) (k : Nat) :
    (laneWord false w).length = 16 ∧ (laneWord true w).length = 8 ∧
    (k < 16 → (laneWord false w)[k]? = some (BitVec.ofBool false ++ BitVec.ofBool (w.getLsbD (15 - k)))) ∧
    (k < 8 → (laneWord true w)[k]? =
      some (BitVec.ofBool (w.getLsbD (15 - 2 * k)) ++ BitVec.ofBool (w.getLsbD (14 - 2 * k)))) := by
  refine ⟨by simp [laneWord], by simp [laneWord], fun hk => ?_, fun hk => ?_⟩
  · rw [laneWord, if_neg (by decide), List.getElem?_map, List.getElem?_range hk]
    rfl
  · rw [laneWord, if_pos rfl, List.getElem?_map, List.getElem?_range hk]
    rfl

/-! ### Datagrams (R359) -/

/-- What a datagram leaves to the next: its number in DGSEQ, and the words that the core holds. -/
def datagram (h : Hw) : Word × Strm := (h.reg R.STRM_DGSEQ, h.strm)

theorem enqueueMask_datagram (h : Hw) (m : Nat) (event : Bool) (f : Frame) :
    (h.enqueueMask m event f).datagram = h.datagram := by
  have drop (g : Hw) (n : Fin 2) (k : Nat) : (g.txDrop n k).datagram = g.datagram :=
    congrArg (·, g.strm) (reg_setReg_ne g _ _ _ (by rw [R.STRM_DGSEQ, R.MAC_TXDROP]; omega))
  have one (g : Hw) (n : Fin 2) : (g.enqueue n event f).datagram = g.datagram := by
    unfold enqueue
    extract_lets p
    exact ite_keeps datagram (drop _ _ _) (ite_keeps datagram (ite_keeps datagram (drop _ _ _) rfl)
      (ite_keeps datagram (drop _ _ _) rfl))
  exact foldl_keeps datagram _ (fun g n => ite_keeps datagram (one g n) rfl) _ _

theorem strmSend_datagram (h : Hw) : h.strmSend.datagram =
    (h.strm.dseq, { h.strm with dg := [], dgFirst := none, dseq := h.strm.dseq + 1 }) := by
  unfold strmSend
  extract_lets dst mac body _ f h1
  rw [enqueueMask_datagram]
  exact congrArg (·, { h1.strm with dg := [], dgFirst := none, dseq := h1.strm.dseq + 1 })
    (reg_setReg_same h R.STRM_DGSEQ h.strm.dseq)

theorem strmSend_spec (h : Hw) : h.strmSend.reg R.STRM_DGSEQ = h.strm.dseq ∧ h.strmSend.strm.dg = [] ∧
    h.strmSend.strm.dseq = h.strm.dseq + 1 := by
  obtain ⟨hreg, hstrm⟩ := Prod.mk.inj h.strmSend_datagram
  exact ⟨hreg, by rw [hstrm], by rw [hstrm]⟩

/-- The words that the core takes change neither registers nor power nor the next number (R359). -/
theorem strmCollect_frame (h : Hw) : h.strmCollect.regs = h.regs ∧ h.strmCollect.pwr = h.pwr ∧
    h.strmCollect.strm.dseq = h.strm.dseq := by
  unfold strmCollect
  split
  · extract_lets r
    have e : r.2 = { h with buf := r.2.buf } := takeB_eq _ h
    refine ⟨?_, ?_, ?_⟩
    · show r.2.regs = h.regs
      rw [e]
    · show r.2.pwr = h.pwr
      rw [e]
    · show r.2.strm.dseq = h.strm.dseq
      rw [e]
  · exact ⟨rfl, rfl, rfl⟩

theorem strmCollect_other (h : Hw) (hs : h.sink ≠ 1) : h.strmCollect = h := if_neg (by simp [hs])

/-- What a sent datagram leaves once the core has taken the next words (R359). -/
theorem strmSend_collect (h : Hw) : h.strmSend.strmCollect.reg R.STRM_DGSEQ = h.strm.dseq ∧
    h.strmSend.strmCollect.strm.dseq = h.strm.dseq + 1 := by
  obtain ⟨hregs, -, hseq⟩ := h.strmSend.strmCollect_frame
  obtain ⟨hsent, -, hnext⟩ := h.strmSend_spec
  exact ⟨by rw [reg, hregs]; exact hsent, hseq.trans hnext⟩

/-- The core carries datagrams (R359): port B feeds it, and CORE and NET are up. -/
theorem strmTimeout_words (h : Hw) (hs : h.sink = 1) (hc : h.up .core = true) (hn : h.up .net = true)
    (hd : h.strm.dg ≠ []) : h.strmTimeout = h.strmSend.strmCollect := if_pos (by simp [hs, hc, hn, hd])

theorem strmTimeout_none (h : Hw) (hd : h.sink ≠ 1 ∨ h.strm.dg = []) : h.strmTimeout = h := by
  refine if_neg fun hall => ?_
  simp only [Bool.and_eq_true, decide_eq_true_eq] at hall
  obtain ⟨⟨⟨hs, -⟩, -⟩, hne⟩ := hall
  exact hd.elim (fun hn => hn hs) hne

theorem strmDatagram_full (h : Hw) (hs : h.sink = 1) (hc : h.up .core = true) (hn : h.up .net = true)
    (hd : h.strmCollect.strm.dg ≠ []) (hw : (h.reg R.STRM_DGWORDS).toNat ≤ h.strmCollect.strm.dg.length) :
    h.strmDatagram = h.strmCollect.strmSend.strmCollect := by
  obtain ⟨hregs, hpwr, -⟩ := h.strmCollect_frame
  have hsink : h.strmCollect.sink = 1 := by rw [sink, f, reg, hregs]; exact hs
  have hup := up_of_pwr hpwr
  have hwords : h.strmCollect.reg R.STRM_DGWORDS = h.reg R.STRM_DGWORDS := by rw [reg, hregs]; rfl
  exact if_pos (by simp [hsink, hup, hc, hn, hd, hwords, hw])

theorem strmDatagram_short (h : Hw) (hw : h.strmCollect.strm.dg.length < (h.reg R.STRM_DGWORDS).toNat) :
    h.strmDatagram = h.strmCollect := by
  obtain ⟨hregs, -, -⟩ := h.strmCollect_frame
  have hwords : h.strmCollect.reg R.STRM_DGWORDS = h.reg R.STRM_DGWORDS := by rw [reg, hregs]; rfl
  exact if_neg (by simp [hwords, hw])

theorem strmDatagram_other (h : Hw) (hs : h.sink ≠ 1) : h.strmDatagram = h := by
  unfold strmDatagram
  rw [strmCollect_other h hs]
  exact if_neg (by simp [hs])

end Hw

theorem exec_dgwords (s : State) (p : Party) (v : Word) (ha : s.hw.accepts p R.STRM_DGWORDS v) :
    exec (.registerWrite (BitVec.ofNat 16 R.STRM_DGWORDS) [(p, v)] Tie.none) s = .next (s.after (s.hw.dgwordsWrite v)) :=
  Hw.exec_registerWrite_block s p _ v .strm (by decide) ha (by decide) (by decide) (by decide)

/-- Settles O47: the ports by the equations of ACFG, BCFG and ADATA, a frame by `frameWords_spec` and `strmFrame_shown`,
the datagrams by `strmSend_collect`. -/
theorem bufferPortsAndStream : Obligations.BufferPortsAndStream := by
  refine ⟨⟨fun s p hp hu => ⟨done_congr (s.hw.readRow_adata p hp hu), fun v ha => ?_, fun v ha => ?_, fun v ha => ?_⟩,
    fun h p => ⟨h.adataRead_other p, fun hw hl hi => ?_, fun hw w q hn => ⟨?_, fun ho hc => ?_⟩⟩,
    fun s p a m v ham ha pre post hpre hpost => ⟨fun hr => ?_, fun hr => ?_⟩⟩, fun s => ⟨fun p v hp hu hs he => ?_,
    fun ha hl => ?_, fun hs hc hn => ⟨fun hd => ?_, fun hd => ?_, fun hd hw => ?_, fun hw => ?_⟩, fun hs => ?_,
    fun p v ha => ?_⟩, fun w k => Hw.laneWord_spec w k, fun h => ⟨h.length_strmPayload, h.strmPayload_other, h.strmSend_spec⟩⟩
  · have hw := s.hw.writeRow_acfg ha
    exact ⟨fun h3 => done_congr (hw.trans (s.hw.acfgWrite_reserved v h3)),
      fun h3 => done_congr (hw.trans (s.hw.acfgWrite_flush v h3))⟩
  · have hw := s.hw.writeRow_bcfg ha
    have hf := Hw.fld_or_flush v
    have hb : (v ||| 0x8000).getLsbD 15 = true := by simp
    have hm : (v ||| 0x8000) &&& 3 = v &&& 3 := or_go_and v 3 rfl
    refine ⟨fun h3 => done_congr (hw.trans (s.hw.bcfgWrite_reserved _ (hf.trans h3))), fun hs h3 => done_congr (hw.trans ?_)⟩
    rw [Hw.bcfgWrite_same _ _ (hf ▸ h3) (hf.trans hs), hb, hm]
    rfl
  · have hw := s.hw.writeRow_bcfg ha
    have hf := Hw.fld_and_noFlush v
    have hb : (v &&& 0x7FFF).getLsbD 15 = false := by simp
    have hm : (v &&& 0x7FFF) &&& 3 = v &&& 3 := BitVec.and_assoc ..
    refine ⟨fun h3 => done_congr (hw.trans (s.hw.bcfgWrite_reserved _ (hf.trans h3))), fun hs h3 => done_congr (hw.trans ?_),
      fun hs h3 => done_congr (hw.trans ?_)⟩
    · rw [Hw.bcfgWrite_same _ _ (hf ▸ h3) (hf.trans hs), hb, hm]
      rfl
    · rw [Hw.bcfgWrite_change _ _ (hf ▸ h3) (hf ▸ hs), hf, hm]
  · exact h.adataRead_none p hw (h.portNext_empty _ hl hi)
  · exact h.adataRead_some p w q hw hn
  · exact h.portLevel_next _ q w hn ho hc
  · exact (Hw.exec_bufCfg s p v ham ha).trans (done_congr ((s.hw.bufCfgWrite_eq a m v hpre hpost).trans (if_pos hr)))
  · exact (Hw.exec_bufCfg s p v ham ha).trans (done_congr ((s.hw.bufCfgWrite_eq a m v hpre hpost).trans (if_neg hr)))
  · obtain ⟨hon, hstrm, -, -⟩ := (s.hw.setBits R.STRM_CTRL 1).strmStart_spec
    exact ⟨_, done_congr (s.hw.ctrlRow_strmEnable p v hp hu hs he), hon, hstrm,
      (s.hw.setBits R.STRM_CTRL 1).strmStart_portB (Hw.live_of_up (d := .sense) hu)⟩
  · obtain ⟨hframe, hlanes, hfcnt⟩ := s.hw.strmFrame_shown ha hl
    obtain ⟨hlen, hsync, hhead, hpay, hcrc⟩ := s.hw.frameWords_spec
    refine ⟨_, rfl, ?_⟩
    rw [hlanes, hframe]
    exact ⟨hlen, hsync, hhead, rfl, hpay, hcrc, hfcnt, s.hw.strmFrame_goesOn ha hl, s.hw.strmFrame_halts ha hl⟩
  · exact ⟨_, done_congr (s.hw.strmTimeout_words hs hc hn hd), rfl, s.hw.strmSend_collect⟩
  · exact done_congr (s.hw.strmTimeout_none (.inr hd))
  · obtain ⟨hreg, hseq⟩ := s.hw.strmCollect.strmSend_collect
    obtain ⟨-, -, hsame⟩ := s.hw.strmCollect_frame
    rw [hsame] at hreg hseq
    exact ⟨_, done_congr (s.hw.strmDatagram_full hs hc hn hd hw), rfl, hreg, hseq⟩
  · exact done_congr (s.hw.strmDatagram_short hw)
  · exact ⟨done_congr (s.hw.strmTimeout_none (.inl hs)), done_congr (s.hw.strmDatagram_other hs)⟩
  · have hexec := exec_dgwords s p v ha
    exact ⟨fun hbad => hexec.trans (done_congr (if_pos (by simpa using hbad))),
      fun hlo hhi => hexec.trans (done_congr (if_neg (by simp; omega)))⟩

end Sys2Proof.Machine

/-! ## Proofs: a commit of CNT on a counted edge (O49) -/

namespace Sys2Proof.Machine
namespace Hw

/-- TIME is powered, and timer 0 runs on T edges with the count 0x0000FFFF. -/
def aboutToCarry : Hw :=
  let h := Hw.start Nvs.shipped .v33 34000 0 0
  { h with
    pwr := { h.pwr with vigilUp := true, time := .on }
    tim := h.tim.set 0 { Timer.init with cnt := 0xFFFF, running := true } }

end Hw

/-- What follows a command leaves the timers (O7). -/
theorem settle_timOf (h : Hw) (n : Nat) : h.settle.timOf n = h.timOf n := by
  obtain ⟨g, hg, e⟩ := h.settle_follows
  exact Hw.timOf_of_tim ((congrArg Hw.tim e).trans (congrArg Hw.Bystanders.tim hg.rest)) n

theorem exec_cntCommit (p : Party) (n : Fin 6) (v : Word) (slaves : BitVec 6) (tick : Bool) (s : State) :
    exec (.cntCommit p n v slaves tick) s = done s (s.hw.cntCommit p n v slaves tick) := rfl

/-- Refutes O49: a commit of CNT_L alone on a counted edge takes for CNT_H the live value after that edge (R105, R370). When
the edge carries into the high word, that is not the value that the word had before the command: 0x0000FFFF moves to
0x00010000, and the commit of 0 leaves 0x00010000, not 0. -/
theorem not_timersStartCaptureAndCommit : ¬ Obligations.TimersStartCaptureAndCommit := by
  intro h
  obtain ⟨-, hchannel⟩ := h
  obtain ⟨-, -, hcommit, -⟩ := hchannel { State.reset with hw := Hw.aboutToCarry } .spi 0 0 0
  have ha : Hw.aboutToCarry.acceptsKey .spi (R.TM_CNT_L 0) 0 := by unfold Hw.acceptsKey; decide +kernel
  have hlive : Hw.word (Hw.aboutToCarry.groupWords .spi (R.TM_CNT_L 0) 0) 1 = 0 := by decide +kernel
  have hran : ((Hw.aboutToCarry.cntCommit .spi 0 0 0 true).timOf 0).cnt = 0x10000 := by decide +kernel
  obtain ⟨g, hexec, hcnt, -⟩ := hcommit ha 0 true
  have hsame : (Hw.aboutToCarry.cntCommit .spi 0 0 0 true).settle = (g.groupDone .spi (R.TM_CNT_L 0)).settle :=
    settle_of_done (exec_cntCommit .spi 0 0 0 true _ ▸ hexec)
  have htim : (Hw.aboutToCarry.cntCommit .spi 0 0 0 true).timOf 0 = g.timOf 0 := by
    rw [← settle_timOf, hsame, settle_timOf]
    rfl
  have hzero : (g.timOf 0).cnt = 0 := hcnt.trans <| by
    show (0 : Word).toNat + 65536 * Hw.word (Hw.aboutToCarry.groupWords .spi (R.TM_CNT_L 0) 0) 1 = 0
    rw [hlive]
    rfl
  rw [htim, hzero] at hran
  exact absurd hran (by decide)

end Sys2Proof.Machine

/-! ## Proofs: two-wire buses and the transfer engine (O25) -/

namespace Sys2Proof.Machine
namespace Hw

theorem twiCount_twi (h : Hw) (k : Fin 2) : (h.twiCount k).twi = h.twi := rfl

theorem twiBus_of_twi {h g : Hw} (e : g.twi = h.twi) (k : Fin 2) : g.twiBus k = h.twiBus k := by rw [twiBus, e, twiBus]

theorem twiBus_setTwi_same (h : Hw) (k : Fin 2) (b : TwiBus) : (h.setTwi k b).twiBus k = b :=
  Vector.getElem_set_self k.isLt

/-! ### The end of a transfer (R440) -/

/-- A transfer of the engine has ended with this word in XSTAT. -/
def XferEnded (g : Hw) (w : Word) : Prop :=
  g.xfer.busy = false ∧ g.xfer.ctlr ≠ .engine ∧ g.reg R.TWI1_XSTAT = w ∧ g.b R.TWI1_IFLAG 2 = true

theorem xferEnd_ended (h : Hw) (result bytes : Nat) (hv : h.vigil = true) :
    (h.xferEnd result bytes).XferEnded (wd (result * 4096 + bytes % 64)) := by
  refine ⟨congrArg Xfer.busy (raise_xfer _ _ _), ?_, ?_, raise_b_same _ 0x39 2 (by decide) (pageLive_of_vigil _ 0x39 .twi1 rfl rfl hv)⟩
  · rw [show (h.xferEnd result bytes).xfer = _ from raise_xfer _ _ _]
    by_cases he : h.xfer.ctlr = .engine <;> simp [he]
  · exact (reg_raise_ne _ 0x39 2 _ (by decide)).trans (reg_setReg_same _ _ _)

theorem xferEnd_twi (h : Hw) (result bytes : Nat) : (h.xferEnd result bytes).twi = h.twi := raise_twi _ _ _

theorem xferEnd_idle (h : Hw) (result bytes : Nat) (he : h.xfer.ctlr = .engine) : (h.xferEnd result bytes).xfer.ctlr = .idle := by
  rw [show (h.xferEnd result bytes).xfer = _ from raise_xfer _ _ _]
  exact if_pos he

theorem XferEnded.raise {g : Hw} {w : Word} (h : g.XferEnded w) (bit : Nat) : (g.raise 0x39 bit).XferEnded w := by
  obtain ⟨hbusy, hctlr, hstat, hflag⟩ := h
  refine ⟨?_, ?_, (reg_raise_ne _ _ _ _ (by decide)).trans hstat, raise_b_mono _ _ _ _ _ hflag⟩ <;> rwa [raise_xfer]

theorem XferEnded.setTwi {g : Hw} {w : Word} (h : g.XferEnded w) (b : TwiBus) : (g.setTwi 1 b).XferEnded w := h

/-! ### Bus state (R427, R432) -/

theorem busFree_alone (h : Hw) (k : Fin 2) (e : GangEnd) (hv : h.vigil = true) (hc : h.gang.cur = none) :
    h.busFree k e = h.setTwi k { busy := false, scl := true, sda := true, cfg := h.reg (twiPage k * 256 + 0x10) } := by
  simp only [busFree, hv, Bool.not_true, Bool.false_eq_true, if_false]
  split
  · rw [gangMsgEnd, show (setTwi h k _).gang.cur = none from hc]
  · rfl

/-- The bus after an SCL-low timeout, before what TWI1 abandons. -/
def sclTimedOut (h : Hw) (k : Fin 2) : Hw :=
  ((h.setTwi k { h.twiBus k with busy := true, scl := false }).twiCount k).raise (twiPage k) 0

/-- The bus after an SDA-low timeout, before what TWI1 abandons. -/
def sdaTimedOut (h : Hw) (k : Fin 2) : Hw :=
  ((h.setTwi k { h.twiBus k with busy := true, scl := true, sda := false }).twiCount k).raise (twiPage k) 1

theorem sclTimeout_eq (h : Hw) (k : Fin 2) (n : Nat) (hv : h.vigil = true) (ht : h.twiTout k false ≠ 0) :
    h.sclTimeout k n = if k = 1 then (h.sclTimedOut k).twi1Abandon 4 n else h.sclTimedOut k := by
  simp only [sclTimeout, hv, Bool.not_true, Bool.false_or, decide_eq_true_eq, if_neg ht]
  rfl

theorem sclTimeout_plain (h : Hw) (k : Fin 2) (n : Nat) (hv : h.vigil = true) (ht : h.twiTout k false ≠ 0)
    (hk : h.xfer.ctlr = .idle ∨ k = 0) : h.sclTimeout k n = h.sclTimedOut k := by
  rw [sclTimeout_eq h k n hv ht]
  by_cases h1 : k = 1
  · subst h1
    have hi : (h.sclTimedOut 1).xfer.ctlr = .idle := by
      rw [show (h.sclTimedOut 1).xfer = h.xfer from raise_xfer _ _ _]
      exact hk.resolve_right (by decide)
    rw [if_pos rfl, twi1Abandon, hi]
  · rw [if_neg h1]

theorem sdaTimeout_first (h : Hw) (n : Nat) (x : Bool) (hv : h.vigil = true) (ht : h.twiTout 0 true ≠ 0) :
    h.sdaTimeout 0 n x = h.sdaTimedOut 0 := by
  simp only [sdaTimeout, hv, Bool.not_true, Bool.false_or, decide_eq_true_eq, if_neg ht]
  rfl

theorem sdaTimeout_second (h : Hw) (n : Nat) (x : Bool) (hv : h.vigil = true) (ht : h.twiTout 1 true ≠ 0) :
    h.sdaTimeout 1 n x =
      let g := (h.sdaTimedOut 1).twi1Abandon 5 n
      if g.b R.TWI1_CFG 4 && x then (g.setTwi 1 { g.twiBus 1 with sda := true }).raise 0x39 4 else g := by
  simp only [sdaTimeout, hv, Bool.not_true, Bool.false_or, decide_eq_true_eq, if_neg ht]
  rfl

/-- The engine's transfer on TWI1 is abandoned, the bus busy (R432). -/
def Abandoned (g : Hw) (w : Word) : Prop := g.XferEnded w ∧ g.xfer.ctlr = .idle ∧ (g.twiBus 1).busy = true

theorem twi1Abandon_engine (h : Hw) (result n : Nat) (hv : h.vigil = true) (he : h.xfer.ctlr = .engine)
    (hb : (h.twiBus 1).busy = true) : (h.twi1Abandon result n).Abandoned (wd (result * 4096 + n % 64)) := by
  have e : h.twi1Abandon result n = h.xferEnd result n := by rw [twi1Abandon, he]
  rw [e]
  exact ⟨xferEnd_ended h _ _ hv, xferEnd_idle h _ _ he, (congrArg TwiBus.busy (twiBus_of_twi (xferEnd_twi h result n) 1)).trans hb⟩

theorem sclTimeout_engine (h : Hw) (n : Nat) (hv : h.vigil = true) (ht : h.twiTout 1 false ≠ 0) (he : h.xfer.ctlr = .engine) :
    (h.sclTimeout 1 n).Abandoned (wd (4 * 4096 + n % 64)) := by
  rw [sclTimeout_eq h 1 n hv ht, if_pos rfl]
  refine twi1Abandon_engine _ 4 n ((vigil_of_pwr (raise_pwr _ _ _)).trans hv) ((congrArg Xfer.ctlr (raise_xfer _ _ _)).trans he) ?_
  rw [sclTimedOut, twiBus_of_twi (raise_twi _ _ _), twiBus_of_twi (twiCount_twi _ _), twiBus_setTwi_same]

theorem Abandoned.recover {g : Hw} {w : Word} (h : g.Abandoned w) :
    ((g.setTwi 1 { g.twiBus 1 with sda := true }).raise 0x39 4).Abandoned w := by
  obtain ⟨hended, hidle, hbusy⟩ := h
  refine ⟨(hended.setTwi _).raise 4, (congrArg Xfer.ctlr (raise_xfer _ _ _)).trans hidle, ?_⟩
  rw [twiBus_of_twi (raise_twi _ _ _), twiBus_setTwi_same]
  exact hbusy

theorem sdaTimeout_engine (h : Hw) (n : Nat) (x : Bool) (hv : h.vigil = true) (ht : h.twiTout 1 true ≠ 0)
    (he : h.xfer.ctlr = .engine) : (h.sdaTimeout 1 n x).Abandoned (wd (5 * 4096 + n % 64)) := by
  rw [sdaTimeout_second h n x hv ht]
  have ha : ((h.sdaTimedOut 1).twi1Abandon 5 n).Abandoned (wd (5 * 4096 + n % 64)) := by
    refine twi1Abandon_engine _ 5 n ((vigil_of_pwr (raise_pwr _ _ _)).trans hv) ((congrArg Xfer.ctlr (raise_xfer _ _ _)).trans he) ?_
    rw [sdaTimedOut, twiBus_of_twi (raise_twi _ _ _), twiBus_of_twi (twiCount_twi _ _), twiBus_setTwi_same]
  dsimp only
  split
  · exact ha.recover
  · exact ha

/-! ### The transfer engine (R434, R436 to R440) -/

theorem writeRow_xcmd (h : Hw) (p : Party) (v : Word) (ha : h.accepts p R.TWI1_XCMD (v ||| 0x8000)) :
    h.writeRow p R.TWI1_XCMD (v ||| 0x8000) = h.xcmdWrite (v ||| 0x8000) :=
  writeRow_block h p _ _ .twi1 (by decide) ha

theorem xcmdWrite_bad (h : Hw) (v : Word) (hb : h.xferBad (v ||| 0x8000) = true) : h.xcmdWrite (v ||| 0x8000) = h.raise 0x39 5 := by
  rw [xcmdWrite, if_pos (by simp), if_pos hb]
  rfl

theorem fld_below15 (v : Word) (hi lo : Nat) (hh : hi < 15) (hlo : lo ≤ hi) : fld (v &&& 0x7FFF) hi lo = fld v hi lo := by
  have hv : (v &&& 0x7FFF).toNat = v.toNat % 2 ^ 15 := by
    rw [BitVec.toNat_and]
    exact Nat.and_two_pow_sub_one_eq_mod v.toNat 15
  have hpow : 2 ^ 15 = 2 ^ lo * 2 ^ (15 - lo) := by rw [← Nat.pow_add, Nat.add_sub_cancel' (by omega)]
  rw [fld, fld, hv, hpow, Nat.mod_mul_right_div_self, Nat.mod_mod_of_dvd _ (Nat.pow_dvd_pow 2 (by omega))]

theorem fld_or_go (v : Word) (hi lo : Nat) (hh : hi < 15) (hlo : lo ≤ hi) : fld (v ||| 0x8000) hi lo = fld v hi lo := by
  rw [← fld_below15 _ hi lo hh hlo, or_go_and v 0x7FFF rfl, fld_below15 v hi lo hh hlo]

theorem xcmdWrite_good (h : Hw) (v : Word) (hb : h.xferBad (v ||| 0x8000) = false) :
    h.xcmdWrite (v ||| 0x8000) = { h.setReg R.TWI1_XCMD (v &&& 0x7F3F) with
      xfer := { h.xfer with busy := true, nw := fld v 13 8, nr := fld v 5 0, tries := 0 } } := by
  rw [xcmdWrite, if_pos (by simp), hb, or_go_and v 0x7F3F rfl, fld_or_go v 13 8 (by decide) (by decide),
    fld_or_go v 5 0 (by decide) (by decide)]
  rfl

theorem controllerStart_gang (h : Hw) (m : GangMsg) (t : List GangMsg) (hb : (h.twiBus 1).busy = false)
    (hi : h.xfer.ctlr = .idle) (hp : h.padsOn = true) (hq : h.gangQueue = m :: t) :
    h.controllerStart = { h.setTwi 1 { h.twiBus 1 with busy := true } with
      gang := { h.gang with outbox := t, cur := some m }, xfer := { h.xfer with ctlr := .gang } } := by
  simp [controllerStart, hb, hi, hp, hq]

theorem controllerStart_engine (h : Hw) (hb : (h.twiBus 1).busy = false) (hi : h.xfer.ctlr = .idle) (hp : h.padsOn = true)
    (hq : h.gangQueue = []) (hx : h.xfer.busy = true) :
    h.controllerStart = { h.setTwi 1 { h.twiBus 1 with busy := true } with xfer := { h.xfer with ctlr := .engine } } := by
  simp [controllerStart, hb, hi, hp, hq, hx]

theorem arbLost_again (h : Hw) (n : Nat) (he : h.xfer.ctlr = .engine) (ht : h.xfer.tries < h.f R.TWI1_XCFG 3 0) :
    h.arbLost n = { ((h.count R.TWI1_ARBCNT).raise 0x39 3) with
      xfer := { h.xfer with ctlr := .idle, tries := h.xfer.tries + 1 } } := by
  rw [arbLost, he]
  dsimp only
  rw [if_neg (Nat.not_le_of_lt ht), twiFlag, raise_xfer]
  rfl

theorem arbLost_last (h : Hw) (n : Nat) (hv : h.vigil = true) (he : h.xfer.ctlr = .engine)
    (ht : h.f R.TWI1_XCFG 3 0 ≤ h.xfer.tries) : (h.arbLost n).XferEnded (wd (3 * 4096 + n % 64)) := by
  rw [arbLost, he]
  dsimp only
  rw [if_pos ht]
  exact xferEnd_ended _ 3 n ((vigil_of_pwr (raise_pwr _ _ _)).trans hv)

/-- What XSTAT reports at the end of a transfer of `nw` written and `nr` read bytes (R440). -/
def xstatOf (nw nr : Nat) : XEnd → Word
  | .done _ => wd ((nw + nr) % 64)
  | .addrNack second => wd (4096 + (if second = true ∧ 0 < nr then nw else 0) % 64)
  | .byteNack k => wd (8192 + min k (nw - 1) % 64)

theorem xbufPut_xfer (h : Hw) (i : Nat) (v : Byte) : (h.xbufPut i v).xfer = h.xfer := by unfold xbufPut; split <;> rfl
theorem xbufPut_pwr (h : Hw) (i : Nat) (v : Byte) : (h.xbufPut i v).pwr = h.pwr := by unfold xbufPut; split <;> rfl

theorem xferDone_engine (h : Hw) (e : XEnd) (hv : h.vigil = true) (he : h.xfer.ctlr = .engine) :
    (h.xferDone e).XferEnded (xstatOf h.xfer.nw h.xfer.nr e) ∧ (h.xferDone e).xfer.ctlr = .idle := by
  rw [xferDone, if_neg (not_not_intro he)]
  cases e with
  | done data =>
    dsimp only
    have hx := foldl_keeps Hw.xfer (fun g i => g.xbufPut i (data.getD i 0xFF)) (fun g i => g.xbufPut_xfer i _) (List.range h.xfer.nr) h
    have hp := foldl_keeps Hw.pwr (fun g i => g.xbufPut i (data.getD i 0xFF)) (fun g i => g.xbufPut_pwr i _) (List.range h.xfer.nr) h
    have hended := xferEnd_ended _ 0 (h.xfer.nw + h.xfer.nr) ((vigil_of_pwr hp).trans hv)
    rw [Nat.zero_mul, Nat.zero_add] at hended
    exact ⟨hended, xferEnd_idle _ _ _ ((congrArg Xfer.ctlr hx).trans he)⟩
  | addrNack second =>
    refine ⟨?_, xferEnd_idle _ _ _ he⟩
    have hended := xferEnd_ended h 1 (if second && 0 < h.xfer.nr then h.xfer.nw else 0) hv
    simpa only [xstatOf, Nat.one_mul, Bool.and_eq_true, decide_eq_true_eq] using hended
  | byteNack k => exact ⟨xferEnd_ended h 2 _ hv, xferEnd_idle _ _ _ he⟩

end Hw

open Hw in
/-- Settles O25: the timeouts and the ends of a transfer all come from `xferEnd_ended`; the rest is each operation's own case. -/
theorem twoWireBusesAndTransferEngine : Obligations.TwoWireBusesAndTransferEngine := by
  refine ⟨fun s k n hv => ⟨fun hc e => ?_, fun ht hk => ?_, fun ht hk x => ?_, fun ht he hk => ?_, fun ht he hk x => ?_⟩,
    fun s hv => ⟨fun p v ha hb => ?_, fun p v ha hb => ?_, fun hb hi hp => ⟨fun m t hq => ?_, fun hq hx => ?_⟩,
      fun he => ⟨fun n ht => ?_, fun n ht => ?_, fun e => ?_⟩⟩⟩
  · exact done_congr (s.hw.busFree_alone k e hv hc)
  · exact done_congr (s.hw.sclTimeout_plain k n hv ht hk)
  · subst hk
    exact done_congr (s.hw.sdaTimeout_first n x hv ht)
  · subst hk
    obtain ⟨⟨hbusy, -, hstat, hflag⟩, hidle, hbus⟩ := s.hw.sclTimeout_engine n hv ht he
    exact ⟨_, done_congr rfl, hbusy, hidle, hstat, hflag, hbus⟩
  · subst hk
    obtain ⟨⟨hbusy, -, hstat, hflag⟩, hidle, hbus⟩ := s.hw.sdaTimeout_engine n x hv ht he
    exact ⟨_, done_congr rfl, hbusy, hidle, hstat, hflag, hbus⟩
  · exact done_congr ((s.hw.writeRow_xcmd p v ha).trans (s.hw.xcmdWrite_bad v hb))
  · exact done_congr ((s.hw.writeRow_xcmd p v ha).trans (s.hw.xcmdWrite_good v hb))
  · exact done_congr (s.hw.controllerStart_gang m t hb hi hp hq)
  · exact done_congr (s.hw.controllerStart_engine hb hi hp hq hx)
  · exact done_congr (s.hw.arbLost_again n he ht)
  · obtain ⟨hbusy, -, hstat, hflag⟩ := s.hw.arbLost_last n hv he ht
    exact ⟨_, done_congr rfl, hbusy, hstat, hflag⟩
  · obtain ⟨⟨hbusy, -, hstat, hflag⟩, hidle⟩ := s.hw.xferDone_engine e hv he
    exact ⟨_, done_congr rfl, hbusy, hidle, hflag, hstat⟩

end Sys2Proof.Machine

/-! ## Proofs: election and state of the gang (O52) -/

namespace Sys2Proof.Machine

/-- The engine apart from what it sends and from a solstice. -/
def Gang.quiet (g : Gang) : Gang := { g with outbox := [], solst := 0 }

/-- The engine apart from what it sends, from a solstice and from its state. -/
def Gang.elected (g : Gang) : Gang := { g with outbox := [], solst := 0, st := .alone, cdiss := false }

/-- The engine apart from all that and from its leader. -/
def Gang.apartLeader (g : Gang) : Gang := { g.elected with leader := none, leaderHello := false, leaderMiss := 0 }

theorem Gang.elected_of_quiet {g g' : Gang} {st : GangSt} {cdiss : Bool}
    (e : g'.quiet = { g.quiet with st := st, cdiss := cdiss }) : g'.elected = g.elected :=
  (congrArg Gang.elected e :)

namespace Hw

/-! ### What an operation of the engine leaves as it was -/

theorem gangSendAll_quiet (h : Hw) (typ : Nat) (dsts : List Nat) (p : List Byte) :
    (h.gangSendAll typ dsts p).gang.quiet = h.gang.quiet :=
  foldl_keeps (·.gang.quiet) (fun g k => g.gangSend typ k p) (fun _ _ => rfl) dsts h

theorem helloSend_quiet (h : Hw) (acks : BitVec 16) : (h.helloSend acks).gang.quiet = h.gang.quiet :=
  foldl_keeps (·.gang.quiet) (fun g k => g.gangSend 1 k (g.helloPayload k)) (fun _ _ => rfl) _ h

theorem veto_quiet (h : Hw) (cause : Nat) : (h.veto cause).gang.quiet = h.gang.quiet := by
  rw [veto, solCancel, gangFlag, raise_gang]
  exact congrArg (fun g : Gang => { g with solst := 0 }) (h.gangSendAll_quiet 4 _ _)

theorem vetoIf_quiet (h : Hw) (cause : Nat) : (h.vetoIf cause).gang.quiet = h.gang.quiet :=
  ite_keeps (·.gang.quiet) (h.veto_quiet cause) rfl

theorem solLeave_quiet (h : Hw) : h.solLeave.gang.quiet = h.gang.quiet := by
  rw [solLeave, gangFlag, raise_gang]
  rfl

theorem gangWakeMsg_gang (h : Hw) : h.gangWakeMsg.gang = h.gang := by
  show (h.wake 3 0 h.wakeProfile).gang = _
  exact (diaryAdd_gang _ _ _ _).trans ((raise_gang _ _ _).trans rfl)

theorem helloWake_quiet (h : Hw) (m : Hello) : (h.helloWake m).gang.quiet = h.gang.quiet :=
  ite_keeps (·.gang.quiet) ((solLeave_quiet _).trans (congrArg Gang.quiet h.gangWakeMsg_gang)) rfl

/-! ### The state (R457) -/

/-- The steps of a change of state: its flag, its GANG entry, and what the entry to DISSENT adds. -/
theorem gangState_change (h : Hw) (s : GangSt) (hs : h.gang.st ≠ s) (φ : Hw → Prop)
    (h0 : φ ({ h with gang := { h.gang with st := s } }.gangFlag 0))
    (hd : ∀ g src x y, φ g → φ (g.diaryAdd src x y)) (he : ∀ g, φ g → φ ((g.event 60).gangFlag 15))
    (hv : ∀ g c, φ g → φ (g.vetoIf c)) : φ (h.gangState s) := by
  unfold gangState
  rw [if_neg hs]
  extract_lets src h1 h2
  have h2φ : φ h2 := by
    dsimp only [h2]
    split
    · exact hd _ _ _ _ h0
    · exact h0
  split
  · exact hv _ _ (he _ h2φ)
  · exact h2φ

theorem gangState_quiet (h : Hw) (s : GangSt) : (h.gangState s).gang.quiet = { h.gang.quiet with st := s } := by
  by_cases hs : h.gang.st = s
  · rw [gangState, if_pos hs, ← hs]
    rfl
  · refine h.gangState_change s hs (fun g => g.gang.quiet = { h.gang.quiet with st := s }) ?_ (fun g src x y e => ?_)
      (fun g e => ?_) (fun g c e => (g.vetoIf_quiet c).trans e)
    · rw [gangFlag, raise_gang]
      rfl
    · rw [diaryAdd_gang, e]
    · rw [gangFlag, raise_gang, event_gang, e]

theorem gangEval_quiet (h : Hw) :
    h.gangEval.gang.quiet = { h.gang.quiet with st := h.gangNext.1, cdiss := h.gangNext.2 } := gangState_quiet _ _

theorem gangEval_elected (h : Hw) : h.gangEval.gang.elected = h.gang.elected := Gang.elected_of_quiet h.gangEval_quiet

theorem gangEval_st (h : Hw) : h.gangEval.gang.st = h.gangNext.1 := (congrArg Gang.st h.gangEval_quiet :)

theorem vetoIf_b_mono (h : Hw) (cause a i : Nat) (hb : h.b a i = true) : (h.vetoIf cause).b a i = true := by
  unfold vetoIf
  split
  · have hreg : (h.gangSendAll 4 h.known (bytesBE h.solId 1 ++ bytesBE cause 1)).regs = h.regs :=
      foldl_keeps Hw.regs (fun g k => g.gangSend 4 k _) (fun _ _ => rfl) _ h
    refine raise_b_mono _ 0x3A 6 a i ?_
    show (Cells.get resetOf (Hw.regs _) a).getLsbD i = true
    rw [hreg]
    exact hb
  · exact hb

theorem gangState_flag (h : Hw) (s : GangSt) (hv : h.vigil = true) (hs : h.gang.st ≠ s) :
    (h.gangState s).b R.GANG_IFLAG 0 = true := by
  refine h.gangState_change s hs (fun g => g.b R.GANG_IFLAG 0 = true)
    (raise_b_same _ 0x3A 0 (by decide) (pageLive_of_vigil _ 0x3A .gang rfl rfl hv)) (fun g src x y e => ?_)
    (fun g e => raise_b_mono _ 0x3A 15 _ 0 ?_) (fun g c e => g.vetoIf_b_mono c _ 0 e)
  · rw [b, reg_diaryAdd_ne _ _ _ _ _ (by decide) (by decide)]
    exact e
  · rw [b, event_reg]
    exact e

theorem gangEval_flag (h : Hw) (hv : h.vigil = true) (hs : h.gangEval.gang.st ≠ h.gang.st) :
    h.gangEval.b R.GANG_IFLAG 0 = true :=
  gangState_flag _ _ hv fun e => hs (h.gangEval_st.trans e.symm)

/-! ### The leader (R453) -/

theorem setLeader_elected (h : Hw) (l : Option Nat) (hl : h.gang.leader ≠ l) :
    (h.setLeader l).gang.elected = { h.gang.elected with leader := l, leaderHello := false, leaderMiss := 0 } := by
  unfold setLeader
  rw [if_neg hl]
  extract_lets src h1 h2
  have h1e : h1.gang.elected = { h.gang.elected with leader := l, leaderHello := false, leaderMiss := 0 } := by
    dsimp only [h1]
    rw [gangFlag, raise_gang]
    rfl
  have h2e : h2.gang.elected = h1.gang.elected :=
    ite_keeps (·.gang.elected) rfl (Gang.elected_of_quiet (gangState_quiet _ _))
  exact (Gang.elected_of_quiet (vetoIf_quiet h2 6)).trans (h2e.trans h1e)

theorem setLeader_leader (h : Hw) (l : Option Nat) : (h.setLeader l).gang.leader = l := by
  by_cases hl : h.gang.leader = l
  · rw [setLeader, if_pos hl, hl]
  · exact (congrArg Gang.leader (h.setLeader_elected l hl) :)

theorem setLeader_apartLeader (h : Hw) (l : Option Nat) : (h.setLeader l).gang.apartLeader = h.gang.apartLeader := by
  by_cases hl : h.gang.leader = l
  · unfold setLeader
    rw [if_pos hl]
  · have e := congrArg (fun g : Gang => { g with leader := none, leaderHello := false, leaderMiss := 0 }) (h.setLeader_elected l hl)
    exact e

/-! ### Probes and periods (R451 to R453) -/

theorem probe_apartLeader (h : Hw) (acks : BitVec 16) : (h.probe acks).gang.apartLeader = h.gang.apartLeader := by
  unfold probe
  extract_lets lim
  cases (List.range lim).find? fun k => acks.getLsbD k && (h.peer k).excl == 0 with
  | some k => exact h.setLeader_apartLeader (some k)
  | none => exact ite_keeps (·.gang.apartLeader) (h.setLeader_apartLeader _) rfl

/-- The lowest GID below the own one and the leader's that answers becomes the leader (R452). -/
theorem probe_lower (h : Hw) (acks : BitVec 16) (k : Nat) (hk : k < min h.gid (h.gang.leader.getD 16))
    (ha : acks.getLsbD k = true) (he : (h.peer k).excl = 0)
    (hlow : ∀ j, j < k → ¬ (acks.getLsbD j = true ∧ (h.peer j).excl = 0)) : h.probe acks = h.setLeader (some k) := by
  have hfind : ((List.range (min h.gid (h.gang.leader.getD 16))).find? fun k => acks.getLsbD k && (h.peer k).excl == 0) = some k := by
    refine List.find?_range_eq_some.2 ⟨by simp [ha, he], List.mem_range.2 hk, fun j hj => ?_⟩
    simpa [Classical.or_iff_not_imp_left] using hlow j hj
  simp only [probe, hfind]

theorem leader_ne_of_lower {h : Hw} {k : Nat} (hk : k < min h.gid (h.gang.leader.getD 16)) : h.gang.leader ≠ some k := by
  intro e
  rw [e] at hk
  exact absurd hk (by simp)

/-- No lower GID answers: a member without leader and DUPGID leads (R452). -/
theorem probe_none (h : Hw) (acks : BitVec 16) (hno : ∀ k, k < h.gid → ¬ (acks.getLsbD k = true ∧ (h.peer k).excl = 0))
    (hl : h.gang.leader = none) (hd : h.gang.dup = false) : h.probe acks = h.setLeader (some h.gid) := by
  have hfind : ((List.range (min h.gid (h.gang.leader.getD 16))).find? fun k => acks.getLsbD k && (h.peer k).excl == 0) = none := by
    refine List.find?_range_eq_none.2 fun j hj => ?_
    simpa [Classical.or_iff_not_imp_left] using hno j (by omega)
  unfold probe
  dsimp only
  rw [hfind]
  simp only [hl, hd, Option.isNone_none, Bool.not_false, Bool.and_self, if_true]

theorem gangAge_leader (h : Hw) (hm : h.gang.leaderMiss = 0) : h.gangAge.gang.leader = h.gang.leader := by
  unfold gangAge
  rw [hm]
  rfl

theorem gangAge_backoff (h : Hw) : h.gangAge.gang.backoff = h.gang.backoff := by
  unfold gangAge
  extract_lets m src h1
  split
  · exact (congrArg Gang.backoff (h1.setLeader_apartLeader none) :)
  · rfl

/-- What a round of probes and HELLO leaves when the probes named a new leader. -/
theorem round_leader (h : Hw) (acks : BitVec 16) (l : Option Nat) (hp : h.probe acks = h.setLeader l) (hl : h.gang.leader ≠ l) :
    ((h.probe acks).helloSend acks).gang.leader = l ∧ ((h.probe acks).helloSend acks).gangAge.gang.leader = l := by
  have hsend := (h.probe acks).helloSend_quiet acks
  have hset := h.setLeader_elected l hl
  rw [← hp] at hset
  have hleader : ((h.probe acks).helloSend acks).gang.leader = l :=
    (congrArg Gang.leader hsend :).trans (congrArg Gang.leader hset :)
  have hmiss : ((h.probe acks).helloSend acks).gang.leaderMiss = 0 :=
    (congrArg Gang.leaderMiss hsend :).trans (congrArg Gang.leaderMiss hset :)
  exact ⟨hleader, (gangAge_leader _ hmiss).trans hleader⟩

/-- The engine at the end of its backoff (R451). -/
def backedOff (h : Hw) : Hw := { h with gang := { h.gang with backoff := false } }

theorem round_backoff (h : Hw) (acks : BitVec 16) : ((h.probe acks).helloSend acks).gang.backoff = h.gang.backoff :=
  (congrArg Gang.backoff ((h.probe acks).helloSend_quiet acks) :).trans (congrArg Gang.backoff (h.probe_apartLeader acks) :)

theorem gangEval_leader (h : Hw) : h.gangEval.gang.leader = h.gang.leader := (congrArg Gang.leader h.gangEval_elected :)
theorem gangEval_backoff (h : Hw) : h.gangEval.gang.backoff = h.gang.backoff := (congrArg Gang.backoff h.gangEval_elected :)
theorem gangEval_dup (h : Hw) : h.gangEval.gang.dup = h.gang.dup := (congrArg Gang.dup h.gangEval_elected :)

/-! ### A HELLO (R448, R453, R454) -/

theorem vigil_of_gangOn {h : Hw} (ho : h.gangOn = true) : h.vigil = true := by
  simp only [gangOn, Bool.and_eq_true] at ho
  exact ho.1.1

theorem gangReceive_off (h : Hw) (rx : RxMsg) (act : Hw → Hw) (hv : h.vigil = true) (ho : h.gangOn = false) :
    h.gangReceive rx act = h.raise 0x3A 14 := by
  simp [gangReceive, hv, ho, rxDiscard, gangFlag]

theorem gangReceive_faulty (h : Hw) (rx : RxMsg) (act : Hw → Hw) (ho : h.gangOn = true) (hr : rx ≠ .whole) :
    h.gangReceive rx act = (h.count R.GANG_RXERRCNT).raise 0x3A 14 := by
  simp [gangReceive, vigil_of_gangOn ho, ho, hr, rxDiscard, gangFlag]

theorem gangReceive_whole (h : Hw) (act : Hw → Hw) (ho : h.gangOn = true) : h.gangReceive .whole act = act h := by
  simp [gangReceive, vigil_of_gangOn ho, ho]

/-- A member with DUPGID never leads (R454). -/
theorem setDup_spec (h : Hw) : h.setDup.gang.dup = true ∧ h.setDup.gang.leader ≠ some h.gid := by
  unfold setDup
  extract_lets src h1
  have h1e : h1.gang = { h.gang with dup := true } := by
    dsimp only [h1]
    split
    next hd =>
      rw [← hd]
    next =>
      rw [gangFlag, raise_gang]
  have hgid : h1.gid = h.gid := (congrArg (fun g : Gang => g.gid.toNat) h1e :)
  split
  · exact ⟨(congrArg Gang.dup (h1.setLeader_apartLeader none) :).trans (congrArg Gang.dup h1e), by simp [setLeader_leader]⟩
  next hlead =>
    refine ⟨congrArg Gang.dup h1e, fun e => hlead ?_⟩
    rw [leads, e, hgid]
    exact beq_self_eq_true _

/-- What a HELLO of another member records about it (R453). -/
def heardPeer (h : Hw) (m : Hello) : Peer :=
  { serial := m.serial.setWidth 32, heard := some 0, excl := (h.peer m.snd.val).excl, dissent := m.st = 3 }

theorem helloReceive_leader (h : Hw) (m : Hello) (hs : m.snd.val ≠ h.gid) (hd : m.dup = false) (hz : m.dser = 0)
    (hl : h.gang.leader = some m.snd.val) :
    h.helloReceive m = (((h.setPeer m.snd.val (h.heardPeer m)).helloLeader m).helloWake m).gangEval := by
  have hpeer : h.helloPeer m = h.setPeer m.snd.val (h.heardPeer m) := by
    simp only [helloPeer, hd, Bool.false_and, Bool.false_eq_true, if_false]
    rfl
  have hsame : (h.setPeer m.snd.val (h.heardPeer m)).gang.leader = some m.snd.val := hl
  simp [helloReceive, hs, hz, hpeer, hsame]

theorem helloLeader_gang (h : Hw) (m : Hello) (hl : h.gang.leader = some m.snd.val) :
    (h.helloLeader m).gang = { h.gang with
      leaderHello := true, leaderMiss := 0, leaderFrozen := m.frozen, lcword := m.cword, heardRoster := m.roster } := by
  unfold helloLeader
  rw [if_pos hl]

/-- The engine after a HELLO of its leader, apart from its state and what it sends. -/
theorem helloReceive_elected (h : Hw) (m : Hello) (hs : m.snd.val ≠ h.gid) (hd : m.dup = false) (hz : m.dser = 0)
    (hl : h.gang.leader = some m.snd.val) :
    (h.helloReceive m).gang.elected = { (h.setPeer m.snd.val (h.heardPeer m)).gang.elected with
      leaderHello := true, leaderMiss := 0, leaderFrozen := m.frozen, lcword := m.cword, heardRoster := m.roster } := by
  rw [h.helloReceive_leader m hs hd hz hl, gangEval_elected, Gang.elected_of_quiet (helloWake_quiet _ m),
    helloLeader_gang (h.setPeer m.snd.val (h.heardPeer m)) m hl]
  rfl

theorem peer_setPeer_same (h : Hw) (k : Nat) (p : Peer) : (h.setPeer k p).peer k = p :=
  Vector.getElem_set_self (Nat.mod_lt k (by decide))

theorem helloReceive_peer (h : Hw) (m : Hello) (hs : m.snd.val ≠ h.gid) (hd : m.dup = false) (hz : m.dser = 0)
    (hl : h.gang.leader = some m.snd.val) : (h.helloReceive m).peer m.snd.val = h.heardPeer m :=
  (congrArg (fun g : Gang => g.peers[m.snd.val % 16]'(Nat.mod_lt _ (by decide))) (h.helloReceive_elected m hs hd hz hl) :).trans
    (h.peer_setPeer_same _ _)

/-! ### The rows of R457 -/

theorem gangNext_alone (h : Hw) (hl : h.gang.leader = none) : h.gangNext = (.alone, false) := by simp [gangNext, hl]

theorem gangNext_dup (h : Hw) (hl : h.gang.leader ≠ none) (hn : h.leads = false) (hd : h.gang.dup = true) :
    h.gangNext = (.dissent, false) := by
  simp [gangNext, hl, hn, hd]

/-- A member that heard its leader compares the consistency words (R457, R458). -/
theorem gangNext_words (h : Hw) (hl : h.gang.leader ≠ none) (hn : h.leads = false) (hd : h.gang.dup = false)
    (ht : h.gang.tdiss = false) (hh : h.gang.leaderHello = true) (hf : h.frozen = false) (hz : h.gang.leaderFrozen = false) :
    h.gangNext = if h.gang.cword = h.gang.lcword then (.concord, false)
      else if h.pwr.draft = true then (.joining, false) else (.dissent, true) := by
  simp [gangNext, hl, hn, hd, ht, hh, hf, hz]

end Hw

open Hw in
/-- Settles O52: a round of probes and HELLO by what it leaves of the leader (`round_leader`), a HELLO by what it leaves of the
engine apart from its state, and the state by the rows of `gangNext`. -/
theorem gangElectsAndEvaluatesState : Obligations.GangElectsAndEvaluatesState := by
  refine ⟨fun s acks => ⟨fun b h ho hb he => ?_, fun ho => ?_, fun m hv => ⟨fun ho rx => ?_, fun ho => ⟨fun rx hr => ?_,
    fun hs => ?_, fun hs hd hz hl => ?_⟩⟩, fun hv hf => ?_, fun hf => ?_⟩, fun h => ⟨h.gangEval_st, h.gangEval_flag,
    h.gangNext_alone, fun hl hn hd => congrArg Prod.fst (h.gangNext_dup hl hn hd), fun hl hn hd ht hh hf hz => ?_⟩⟩
  · cases b with
    | true =>
      simp only [if_true] at he
      subst he
      refine ⟨_, done_congr (by rw [backoffEnd, ho, hb]; rfl), rfl, ?_, fun k hk ha hx hlow => ?_, fun hno hl hd => ?_⟩
      · rw [gangEval_backoff, round_backoff]
      · rw [gangEval_leader]
        exact (round_leader s.hw.backedOff acks _ (probe_lower _ acks k hk ha hx hlow) (leader_ne_of_lower hk)).1
      · rw [gangEval_leader]
        exact (round_leader s.hw.backedOff acks _ (probe_none _ acks hno hl hd) (by simp [backedOff, hl])).1
    | false =>
      simp only [Bool.false_eq_true, if_false] at he
      subst he
      refine ⟨_, done_congr (by rw [helloPeriod, ho, hb]; rfl), rfl, ?_, fun k hk ha hx hlow => ?_, fun hno hl hd => ?_⟩
      · rw [gangEval_backoff, gangAge_backoff, round_backoff, hb]
      · rw [gangEval_leader]
        exact (round_leader _ acks _ (probe_lower _ acks k hk ha hx hlow) (leader_ne_of_lower hk)).2
      · rw [gangEval_leader]
        exact (round_leader _ acks _ (probe_none _ acks hno hl hd) (by simp [hl])).2
  · exact ⟨done_congr (by simp [backoffEnd, ho]), done_congr (by simp [helloPeriod, ho])⟩
  · exact done_congr (s.hw.gangReceive_off rx _ hv ho)
  · exact done_congr (s.hw.gangReceive_faulty rx _ ho hr)
  · have hrun : s.hw.gangReceive .whole (fun g => g.helloReceive m) = s.hw.setDup.gangEval := by
      rw [gangReceive_whole _ _ ho, helloReceive, if_pos hs]
    refine ⟨_, done_congr hrun, ?_, ?_⟩
    · rw [gangEval_dup]
      exact s.hw.setDup_spec.1
    · rw [gangEval_leader]
      exact s.hw.setDup_spec.2
  · have e := s.hw.helloReceive_elected m hs hd hz hl
    exact ⟨_, done_congr (gangReceive_whole _ _ ho), (congrArg Gang.leader e :).trans hl, (congrArg Gang.leaderMiss e :),
      (congrArg Gang.lcword e :), (congrArg Gang.heardRoster e :), (congrArg Gang.leaderFrozen e :),
      congrArg Peer.heard (s.hw.helloReceive_peer m hs hd hz hl)⟩
  · exact done_congr (by simp [cwordRecompute, hv, hf])
  · exact done_congr (by simp [cwordRecompute, hf])
  · have e := h.gangNext_words hl hn hd ht hh hf hz
    exact ⟨fun hc => by rw [e, if_pos hc], fun hc hp => by rw [e, if_neg hc, if_pos hp],
      fun hc hp => by rw [e, if_neg hc, hp]; rfl⟩

end Sys2Proof.Machine

/-! ## Proofs: mailboxes hold one message (O54) -/

namespace Sys2Proof.Machine
namespace Hw

/-! ### A commit (R479 to R483, R486) -/

/-- What a write to MSGn does: the key of a group on the powered page MBX, barred to no party. -/
theorem msgReg_key (n : Fin 8) : kindOf (R.MBX_MSG n / 256) = some .mbx ∧ R.MBX_MSG n / 256 = 6 ∧
    R.MBX_MSG n % 256 / 16 - 2 = n.val ∧ 16 ≤ R.MBX_MSG n % 256 ∧ etchForbidden (R.MBX_MSG n) = false ∧
    portMaskedReg (R.MBX_MSG n) = false ∧ portSetReg (R.MBX_MSG n) = false ∧ orReg (R.MBX_MSG n) = false ∧
    groupAt (R.MBX_MSG n) = some (R.MBX_MSG n, 9, false) ∧ R.MBX_MSG n ≠ R.MBX_REL := by
  revert n; decide

theorem captureReg_msg (h : Hw) (n : Fin 8) : h.captureReg (R.MBX_MSG n) = false := by
  obtain ⟨hk, -⟩ := msgReg_key n
  simp [captureReg, hk]

/-- The message that a commit of `v` by `p` delivers (R480, R105). -/
def msgData (h : Hw) (p : Party) (n : Fin 8) (v : Word) : List Word := (h.commitWords p (R.MBX_MSG n) 9 v).drop 1

theorem writeReg_msg (h : Hw) (p : Party) (n : Fin 8) (v : Word) (hv : h.vigil = true) :
    h.writeReg p (R.MBX_MSG n) v =
      let r := h.boxCommit (senderId p) n (fld v 7 4) (h.msgData p n v)
      if r.2 then (h, true) else (r.1.unstage p (R.MBX_MSG n) 9, false) := by
  obtain ⟨hk, hpg, hn, h16, hb, hm, hs, -, hg, -⟩ := msgReg_key n
  have hu : h.pageUp (R.MBX_MSG n / 256) = true := by simp [pageUp, hk, up, hv, Kind.dom, domState]
  have hk6 : kindOf 6 = some .mbx := rfl
  unfold writeReg
  rw [hpg] at hu ⊢
  rw [etchBarred_none p _ hb, hk6]
  simp only [hu, hm, hs, hg, captureReg_msg, commit, hpg, hn]
  simp [pselAccess, show R.MBX_MSG n % 256 ≠ 15 by omega, show ¬ R.MBX_MSG n % 256 < 2 by omega,
    show R.MBX_MSG n % 256 ≠ 2 by omega, show ¬ R.MBX_MSG n % 256 < 16 by omega, msgData]

/-- The commit that leads at the arbiter: what it leaves, and whether it is a bus error (R480). -/
theorem arbitrate_msg (h : Hw) (p : Party) (n : Fin 8) (v : Word) (hv : h.vigil = true) (hp : h.partyUp p = true) :
    h.arbitrate (R.MBX_MSG n) [(p, v)] =
      let r := h.writeReg p (R.MBX_MSG n) v
      if r.2 then r.1.busErrTo (R.MBX_MSG n) p else r.1 := by
  obtain ⟨hk, hpg, hn, h16, hb, hm, hs, ho, hg, hrel⟩ := msgReg_key n
  have hu : h.pageUp (R.MBX_MSG n / 256) = true := by simp [pageUp, hk, up, hv, Kind.dom, domState]
  have ha : aside (R.MBX_MSG n) p = false := aside_of_etchBarred p _ (by omega) (etchBarred_none p _ hb)
  rw [hpg] at hu
  unfold arbitrate
  simp [hp, ha, ranked, insertRank, asideWrites, hpg, show kindOf 6 ≠ none by decide, readErr, hu, hrel, hm, hs, ho]

theorem arbitrate_msg_two (h : Hw) (p q : Party) (n : Fin 8) (v w : Word) (hv : h.vigil = true) (hpq : slot p < slot q)
    (hp : h.partyUp p = true) (hq : h.partyUp q = true) (hr : (h.writeReg p (R.MBX_MSG n) v).2 = false) :
    h.arbitrate (R.MBX_MSG n) [(q, w), (p, v)] = (h.writeReg p (R.MBX_MSG n) v).1.busErrTo (R.MBX_MSG n) q := by
  obtain ⟨hk, hpg, hn, h16, hb, hm, hs, ho, hg, hrel⟩ := msgReg_key n
  have hu : h.pageUp (R.MBX_MSG n / 256) = true := by simp [pageUp, hk, up, hv, Kind.dom, domState]
  have ha : ∀ r, aside (R.MBX_MSG n) r = false := fun r => aside_of_etchBarred r _ (by omega) (etchBarred_none r _ hb)
  rw [hpg] at hu
  unfold arbitrate
  simp [hp, hq, ha, ranked, insertRank, Nat.not_le.2 hpq, asideWrites, hpg, show kindOf 6 ≠ none by decide, readErr, hu, hrel, hm,
    hs, ho, hg, hr]

theorem boxCommit_busErr (h : Hw) (snd n len : Nat) (data : List Word) (hb : h.boxFull n = true ∨ h.boxClosed n = true) :
    h.boxCommit snd n len data = (h, true) :=
  if_pos (by simpa using hb)

theorem boxCommit_long (h : Hw) (snd n len : Nat) (data : List Word) (hf : h.boxFull n = false) (hc : h.boxClosed n = false)
    (hl : 8 < len) : h.boxCommit snd n len data = (h.setBits R.MBX_STAT 0x0800, false) := by
  simp [boxCommit, hf, hc, hl]

theorem boxCommit_accept (h : Hw) (snd n len : Nat) (data : List Word) (hf : h.boxFull n = false) (hc : h.boxClosed n = false)
    (hl : len ≤ 8) : h.boxCommit snd n len data = (h.boxAccept snd n len data, false) := by
  simp [boxCommit, hf, hc, Nat.not_lt.2 hl]

/-- A commit into an empty open box, LEN within the box (R480, R482). -/
theorem writeReg_msg_accept (h : Hw) (p : Party) (n : Fin 8) (v : Word) (hv : h.vigil = true) (hf : h.boxFull n = false)
    (hc : h.boxClosed n = false) (hl : fld v 7 4 ≤ 8) : h.writeReg p (R.MBX_MSG n) v =
      ((h.boxAccept (senderId p) n (fld v 7 4) (h.msgData p n v)).unstage p (R.MBX_MSG n) 9, false) := by
  rw [writeReg_msg h p n v hv, boxCommit_accept h _ _ _ _ hf hc hl]
  rfl

theorem writeReg_msg_long (h : Hw) (p : Party) (n : Fin 8) (v : Word) (hv : h.vigil = true) (hf : h.boxFull n = false)
    (hc : h.boxClosed n = false) (hl : 8 < fld v 7 4) :
    h.writeReg p (R.MBX_MSG n) v = ((h.setBits R.MBX_STAT 0x0800).unstage p (R.MBX_MSG n) 9, false) := by
  rw [writeReg_msg h p n v hv, boxCommit_long h _ _ _ _ hf hc hl]
  rfl

theorem writeReg_msg_busErr (h : Hw) (p : Party) (n : Fin 8) (v : Word) (hv : h.vigil = true)
    (hb : h.boxFull n = true ∨ h.boxClosed n = true) : h.writeReg p (R.MBX_MSG n) v = (h, true) := by
  rw [writeReg_msg h p n v hv, boxCommit_busErr h _ _ _ _ hb]
  rfl

/-! ### An accepted message (R46, R479, R482) -/

/-- What the box holds after an accepted commit. -/
def boxOf (h : Hw) (snd n len : Nat) (data : List Word) : Box :=
  { msg := some (wd (snd * 256 + len * 16 + ((h.box n).count + 1).toNat), (List.range len).map fun i => data.getD i 0)
    lastSnd := snd, count := (h.box n).count + 1 }

theorem boxAccept_eq (h : Hw) (snd n len : Nat) (data : List Word) :
    h.boxAccept snd n len data =
      if h.b R.PWR_WAKEEN 10 && h.receiver n = 1 && !h.b R.PWR_REQ 3 then
        ((h.setBox n (h.boxOf snd n len data)).raise 6 (n % 8)).wake 4 (n % 8) 8
      else (h.setBox n (h.boxOf snd n len data)).raise 6 (n % 8) := rfl

theorem wake_mbx (h : Hw) (src line bits : Nat) : (h.wake src line bits).mbx = h.mbx :=
  (diaryAdd_mbx _ _ _ _).trans ((raise_mbx _ _ _).trans rfl)

theorem boxAccept_mbx (h : Hw) (snd n len : Nat) (data : List Word) :
    (h.boxAccept snd n len data).mbx = (h.setBox n (h.boxOf snd n len data)).mbx := by
  rw [boxAccept_eq]
  split
  · exact (wake_mbx _ _ _ _).trans (raise_mbx _ _ _)
  · exact raise_mbx _ _ _

theorem box_of_mbx {h g : Hw} (e : g.mbx = h.mbx) (n : Nat) : g.box n = h.box n := by rw [box, e, box]

theorem boxAccept_box_same (h : Hw) (snd : Nat) (n : Nat) (len : Nat) (data : List Word) :
    (h.boxAccept snd n len data).box n = h.boxOf snd n len data :=
  (box_of_mbx (boxAccept_mbx h snd n len data) n).trans (Vector.getElem_set_self _)

theorem boxAccept_box_ne (h : Hw) (snd : Nat) (n m : Fin 8) (len : Nat) (data : List Word) (hm : m ≠ n) :
    (h.boxAccept snd n len data).box m = h.box m := by
  refine (box_of_mbx (boxAccept_mbx h snd n len data) m).trans (Vector.getElem_set_ne (Nat.mod_lt _ (by decide)) _ ?_)
  rw [Nat.mod_eq_of_lt n.isLt, Nat.mod_eq_of_lt m.isLt]
  exact fun e => hm (Fin.ext e.symm)

/-- A wake leaves a bit outside the diary set. -/
theorem wake_b_mono (h : Hw) (src line bits a i : Nat) (h1 : a ≠ R.DIARY_IFLAG) (h2 : a ≠ R.DIARY_LOST)
    (hb : h.b a i = true) : (h.wake src line bits).b a i = true := by
  show ((((h.setBits R.PWR_REQ (bits % 16)).raise 1 10).diaryAdd 3 (wd src) (wd line)).reg a).getLsbD i = true
  rw [reg_diaryAdd_ne _ _ _ _ _ h1 h2]
  exact raise_b_mono _ _ _ _ _ (b_setBits_mono _ _ _ _ _ hb)

theorem wake_b_req (h : Hw) (src line : Nat) : (h.wake src line 8).b R.PWR_REQ 3 = true := by
  show ((((h.setBits R.PWR_REQ (8 % 16)).raise 1 10).diaryAdd 3 (wd src) (wd line)).reg R.PWR_REQ).getLsbD 3 = true
  rw [reg_diaryAdd_ne _ _ _ _ _ (by decide) (by decide)]
  exact raise_b_mono _ _ _ _ _ (b_setBits_same _ _ _ _ (by decide) (by decide))

theorem wake_reg_identStat (h : Hw) (src line bits : Nat) : (h.wake src line bits).reg R.IDENT_STAT = h.reg R.IDENT_STAT := by
  show (((h.setBits R.PWR_REQ (bits % 16)).raise 1 10).diaryAdd 3 (wd src) (wd line)).reg R.IDENT_STAT = _
  rw [reg_diaryAdd_ne _ _ _ _ _ (by decide) (by decide), reg_raise_ne _ _ _ _ (by decide)]
  exact reg_setReg_ne _ _ _ _ (by decide)

theorem boxAccept_identStat (h : Hw) (snd n len : Nat) (data : List Word) :
    (h.boxAccept snd n len data).reg R.IDENT_STAT = h.reg R.IDENT_STAT := by
  have hr : ((h.setBox n (h.boxOf snd n len data)).raise 6 (n % 8)).reg R.IDENT_STAT = h.reg R.IDENT_STAT :=
    reg_raise_ne _ _ _ _ (by decide)
  rw [boxAccept_eq]
  split
  · exact (wake_reg_identStat _ _ _ _).trans hr
  · exact hr

theorem boxAccept_arrive (h : Hw) (snd : Nat) (n : Fin 8) (len : Nat) (data : List Word) (hv : h.vigil = true) :
    (h.boxAccept snd n len data).b R.MBX_IFLAG n = true := by
  have hr : ((h.setBox n (h.boxOf snd n len data)).raise 6 (n % 8)).b R.MBX_IFLAG n = true := by
    rw [Nat.mod_eq_of_lt n.isLt]
    exact raise_b_same _ 6 n (by omega) (pageLive_of_vigil _ 6 .mbx rfl rfl hv)
  rw [boxAccept_eq]
  split
  · exact wake_b_mono _ _ _ _ _ _ (by decide) (by decide) hr
  · exact hr

/-- A message for the core asks for its power (R46). -/
theorem boxAccept_wakes (h : Hw) (snd n len : Nat) (data : List Word) (hw : h.b R.PWR_WAKEEN 10 = true)
    (hr : h.receiver n = 1) : (h.boxAccept snd n len data).b R.PWR_REQ 3 = true := by
  rw [boxAccept_eq]
  split
  · exact wake_b_req _ _ _
  next hc =>
    refine raise_b_mono _ _ _ _ _ ?_
    show h.b R.PWR_REQ 3 = true
    simpa [hw, hr] using hc

theorem boxAccept_regs (h : Hw) (snd : Nat) (n : Fin 8) (len : Nat) (data : List Word) (hw : h.b R.PWR_WAKEEN 10 = false) :
    (h.boxAccept snd n len data).regs = (h.raise 6 n).regs := by
  rw [boxAccept_eq, hw, Nat.mod_eq_of_lt n.isLt, raise_eq, raise_eq]
  show Hw.regs (if h.pageLive 6 = true then _ else _) = Hw.regs (if h.pageLive 6 = true then _ else _)
  split <;> rfl

/-- The fields of a header (R482). -/
theorem header_fields (snd len c : Nat) (hs : snd < 256) (hl : len ≤ 8) (hc : c < 16) :
    fld (wd (snd * 256 + len * 16 + c)) 15 8 = snd ∧ fld (wd (snd * 256 + len * 16 + c)) 7 4 = len ∧
      fld (wd (snd * 256 + len * 16 + c)) 3 0 = c := by
  have e : (wd (snd * 256 + len * 16 + c)).toNat = snd * 256 + len * 16 + c := by
    rw [wd, BitVec.toNat_ofNat, Nat.mod_eq_of_lt (by omega)]
  simp only [fld, e]
  omega

theorem map_getD_range (data : List Word) (len : Nat) (hl : len ≤ data.length) :
    ((List.range len).map fun i => data.getD i 0) = data.take len := by
  refine List.ext_getElem (by simp [hl]) fun i h1 h2 => ?_
  have hi : i < data.length := by simp at h1; omega
  simp [List.getD_eq_getElem?_getD, hi]

/-! ### Receivers and releases (R477, R484) -/

theorem rcvWrite_reserved (h : Hw) (v : Word) (hr : ∃ k, k < 8 ∧ fld v (2 * k + 1) (2 * k) = 3) :
    h.rcvWrite v = h.setBits R.MBX_STAT 0x0800 :=
  if_pos (by simpa using hr)

theorem rcvWrite_stored (h : Hw) (v : Word) (hr : ∀ k, k < 8 → fld v (2 * k + 1) (2 * k) ≠ 3) :
    h.rcvWrite v = h.setReg R.MBX_RCV v :=
  if_neg (by simpa using hr)

theorem arbitrate_rel (h : Hw) (p : Party) (v : Word) (hv : h.vigil = true) (hp : h.partyUp p = true) :
    h.arbitrate R.MBX_REL [(p, v)] = h.boxRelease [(p, v)] := by
  have hu : h.pageUp 6 = true := by simp [pageUp, show kindOf 6 = some .mbx from rfl, up, hv, Kind.dom, domState]
  have ha : aside R.MBX_REL p = false := aside_of_etchBarred p _ (by decide) (etchBarred_none p _ (by decide))
  unfold arbitrate
  simp [hp, ha, ranked, insertRank, asideWrites, show R.MBX_REL / 256 = 6 from rfl, show kindOf 6 ≠ none by decide, readErr, hu]

/-- Box `m` under a write to REL by one party (R484). -/
def releaseBox (h : Hw) (p : Party) (v : Word) (g : Hw) (m : Nat) : Hw :=
  if v.getLsbD m && h.boxFull m then
    if relClass p = h.receiver m then g.boxEmpty m else g.setBits R.MBX_STAT 0x0400
  else g

theorem boxRelease_eq (h : Hw) (p : Party) (v : Word) :
    h.boxRelease [(p, v)] = (List.range 8).foldl (h.releaseBox p v) h := by
  refine List.foldl_ext _ _ _ fun g m _ => ?_
  by_cases hv : v.getLsbD m = true <;> by_cases hf : h.boxFull m = true <;> by_cases hr : relClass p = h.receiver m <;>
    simp [releaseBox, hv, hf, hr]

/-- A write with one bit of REL concerns one box alone. -/
theorem boxRelease_one (h : Hw) (p : Party) (n : Fin 8) (hf : h.boxFull n = true) :
    h.boxRelease [(p, BitVec.ofNat 16 (2 ^ n.val))] =
      if relClass p = h.receiver n then h.boxEmpty n else h.setBits R.MBX_STAT 0x0400 := by
  have hbit : ∀ k : Fin 8, ∀ m, m ∈ List.range 8 → (BitVec.ofNat 16 (2 ^ k.val)).getLsbD m = (m == k.val) := by decide
  have hstep : ∀ g m, m ∈ List.range 8 → h.releaseBox p (BitVec.ofNat 16 (2 ^ n.val)) g m =
      if (m == n.val) = true then (if relClass p = h.receiver n then g.boxEmpty n else g.setBits R.MBX_STAT 0x0400) else g := by
    intro g m hm
    rw [releaseBox, hbit n m hm]
    by_cases e : m = n.val
    · simp [e, hf]
    · simp [e]
  have hone : ∀ k : Fin 8, (List.range 8).filter (fun m => m == k.val) = [k.val] := by decide
  rw [boxRelease_eq, List.foldl_ext _ _ _ hstep, ← List.foldl_filter, hone n]
  rfl

end Hw

open Hw in
/-- Settles O54: the arbiter hands a commit to `boxCommit` by way of the group's key, and a release to `boxRelease`. -/
theorem mailboxesHoldOneMessage : Obligations.MailboxesHoldOneMessage := by
  refine ⟨fun s p n v hp hv => ⟨fun hf hc => ⟨fun hl => ?_, fun hl => ?_⟩, fun hb => ?_, fun q w hpq hq hf hc hl => ?_,
    fun ha hr => ?_, fun ha hr => ?_, fun hf => ⟨fun hr => ?_, fun hr => ?_⟩⟩, fun h snd len n data hl hd hs g hg => ?_⟩
  · refine done_congr ((s.hw.arbitrate_msg p n v hv hp).trans ?_)
    rw [writeReg_msg_accept _ p n v hv hf hc hl]
    rfl
  · refine done_congr ((s.hw.arbitrate_msg p n v hv hp).trans ?_)
    rw [writeReg_msg_long _ p n v hv hf hc hl]
    rfl
  · refine done_congr ((s.hw.arbitrate_msg p n v hv hp).trans ?_)
    rw [writeReg_msg_busErr _ p n v hv hb]
    rfl
  · have hw := s.hw.writeReg_msg_accept p n v hv hf hc hl
    refine ⟨(s.hw.writeReg p (R.MBX_MSG n) v).1, ?_, ?_, ?_⟩
    · show execMbxCommit n _ s = _
      rw [execMbxCommit, if_pos (wellSent_two p q v w hpq)]
      exact done_congr (arbitrate_msg_two _ p q n v w hv hpq hp hq (congrArg Prod.snd hw))
    · rw [hw]
      exact congrArg Box.lastSnd (boxAccept_box_same _ _ n _ _)
    · rw [hw]
      exact congrArg (·.getLsbD 11) (boxAccept_identStat _ _ _ _ _)
  · exact done_congr ((s.hw.writeRow_block p _ v .mbx (by decide) ha).trans (s.hw.rcvWrite_reserved v hr))
  · exact done_congr ((s.hw.writeRow_block p _ v .mbx (by decide) ha).trans (s.hw.rcvWrite_stored v hr))
  · refine done_congr ((s.hw.arbitrate_rel p _ hv hp).trans ((s.hw.boxRelease_one p n hf).trans ((if_pos hr).trans ?_)))
    rw [boxEmpty, Nat.mod_eq_of_lt n.isLt]
  · exact done_congr ((s.hw.arbitrate_rel p _ hv hp).trans ((s.hw.boxRelease_one p n hf).trans (if_neg hr)))
  · subst hg
    have hbox := h.boxAccept_box_same snd n len data
    obtain ⟨hsnd, hlen, hcount⟩ := header_fields snd len ((h.box n).count + 1).toNat hs hl (BitVec.isLt _)
    refine ⟨⟨_, (congrArg Box.msg hbox).trans ?_, hsnd, hlen, hcount⟩, congrArg Box.lastSnd hbox, congrArg Box.count hbox,
      fun m hm => h.boxAccept_box_ne snd n m len data hm, h.boxAccept_arrive snd n len data,
      h.boxAccept_wakes snd n len data, h.boxAccept_regs snd n len data⟩
    rw [boxOf, map_getD_range data len hd]

end Sys2Proof.Machine

/-! ## Proofs: keys and the key region of the store (O58) -/

namespace Sys2Proof.Machine
namespace Hw

/-! ### KCMD (R548) -/

/-- What R548 asks of a key write: no gate, no lock of the slot, a store that is free, VIN above its warning. -/
def KeyBarred (h : Hw) : Prop :=
  h.b R.KEYS_STAT 11 = true ∨ h.keys.zeroizing = true ∨ h.b R.KEYS_KLOCK (h.f R.KEYS_KSEL 2 0) = true ∨ h.storeBusy = true ∨
    h.pwr.vinWarn = true

theorem kcmdBad_iff (h : Hw) (p : Party) (i : Fin 3) (c : Nat) (hi : kdataSlot p = some i) (hc : c = 1 ∨ c = 2) :
    h.kcmdBad p c = true ↔ h.KeyBarred := by
  simp [kcmdBad, hi, hc, keysGated, KeyBarred, or_assoc]

theorem kdataClear_eq (h : Hw) (p : Party) (i : Fin 3) (hi : kdataSlot p = some i) :
    h.kdataClear p = { h with keys := { h.keys with kdata := h.keys.kdata.set i [] } } := by
  rw [kdataClear, hi]

/-- The slots as a WRITE (1) or an ERASE (2) by a party asks for them. -/
def keyAsked (h : Hw) (p : Party) (c : Word) : KeySlots :=
  h.keys.slots.set (h.f R.KEYS_KSEL 2 0) (if c = 1 then some (h.f R.KEYS_KID 7 0, h.kdataWords p) else none)

/-- The store is given these slots to write (R548). -/
def keyJob (h : Hw) (ks : KeySlots) : Hw := { h with nvs := { h.nvs with job := some (.key ks) } }

theorem kcmdWrite_bad (h : Hw) (p : Party) (i : Fin 3) (c : Word) (hi : kdataSlot p = some i) (hc : c = 1 ∨ c = 2)
    (hb : h.KeyBarred) :
    h.kcmdWrite p c = { h.raise 8 2 with keys := { h.keys with kdata := h.keys.kdata.set i [] } } := by
  have hbad : h.kcmdBad p (fld c 1 0) = true :=
    (h.kcmdBad_iff p i _ hi (by rcases hc with rfl | rfl <;> simp [fld])).2 hb
  have h0 : fld c 1 0 ≠ 0 := by rcases hc with rfl | rfl <;> decide
  rw [kcmdWrite, if_neg h0, if_pos hbad, kdataClear_eq _ p i hi, keysFlag, raise_keys]

theorem kcmdWrite_job (h : Hw) (p : Party) (i : Fin 3) (c : Word) (hi : kdataSlot p = some i) (hc : c = 1 ∨ c = 2)
    (hb : ¬h.KeyBarred) :
    h.kcmdWrite p c = { h.setReg R.KEYS_STAT (h.reg R.KEYS_STAT &&& ~~~0x0200) with
      nvs := { h.nvs with job := some (.key (h.keyAsked p c)) }
      keys := { h.keys with kdata := h.keys.kdata.set i [] } } := by
  have hgood : ¬h.kcmdBad p (fld c 1 0) = true := fun e =>
    hb ((h.kcmdBad_iff p i _ hi (by rcases hc with rfl | rfl <;> simp [fld])).1 e)
  rcases hc with rfl | rfl
  · rw [kcmdWrite, if_neg (by decide), if_neg hgood]
    exact kdataClear_eq ((h.keyJob (h.keyAsked p 1)).clrBits R.KEYS_STAT 0x0200) p i hi
  · rw [kcmdWrite, if_neg (by decide), if_neg hgood]
    exact kdataClear_eq ((h.keyJob (h.keyAsked p 2)).clrBits R.KEYS_STAT 0x0200) p i hi

/-- Zeroizing starts while no key write runs (R551). -/
theorem zeroizeStart_idle (h : Hw) (hk : h.keyBusy = false) :
    h.zeroizeStart = { h with keys := { h.keys with slots := noKeys, zeroizing := true } } := by
  cases hj : h.nvs.job with
  | none => simp only [zeroizeStart, hj]
  | some j =>
    cases j with
    | key ks =>
      rw [keyBusy, hj] at hk
      cases hk
    | save q b body => simp only [zeroizeStart, hj]
    | confirm => simp only [zeroizeStart, hj]
    | erase => simp only [zeroizeStart, hj]

theorem kcmdWrite_zeroize (h : Hw) (p : Party) (i : Fin 3) (hi : kdataSlot p = some i) (hk : h.keyBusy = false) :
    h.kcmdWrite p 3 =
      { h with keys := { h.keys with slots := noKeys, zeroizing := true, kdata := h.keys.kdata.set i [] } } := by
  have hgood : h.kcmdBad p 3 = false := by simp [kcmdBad, hi]
  rw [kcmdWrite, show fld (3 : Word) 1 0 = 3 from rfl, hgood]
  simp only [if_false, show ¬(3 : Nat) = 0 by decide, show ¬(3 : Nat) = 1 by decide, show ¬(3 : Nat) = 2 by decide,
    Bool.false_eq_true]
  rw [kdataClear_eq _ p i hi, zeroizeStart_idle h hk]

/-! ### The end of a key write (R546, R548) -/

/-- The copy that a key write leaves in both places. -/
def keyCopy (h : Hw) (ks : KeySlots) : Copy KeySlots := { st := .good, seq := h.keySeq, data := ks }

/-- The place of the copy written first (0) and second (1). -/
def keyPlace (h : Hw) (k : Fin 2) : Fin 2 := if k = 0 then h.firstCopy .keys else 1 - h.firstCopy .keys

/-- Both copies of the key region as a completed key write leaves them. -/
def keyPair (h : Hw) (ks : KeySlots) : Vector (Copy KeySlots) 2 :=
  (h.nvs.keys.set (h.firstCopy .keys) (h.keyCopy ks)).set (1 - h.firstCopy .keys : Fin 2) (h.keyCopy ks)

theorem jobUpTo_key_all (h : Hw) (ks : KeySlots) : h.jobUpTo (.key ks) 2 false = { h.nvs with keys := h.keyPair ks } := rfl

theorem jobUpTo_key_broken (h : Hw) (ks : KeySlots) (k : Fin 2) :
    (h.jobUpTo (.key ks) k true).keys[h.keyPlace k].st = .broken := by
  match k with
  | 0 =>
    show ((breakCopy h.nvs (.keys, h.firstCopy .keys)).keys[h.firstCopy .keys]).st = _
    exact congrArg Copy.st (Vector.getElem_set_self _)
  | 1 =>
    show ((breakCopy _ (.keys, 1 - h.firstCopy .keys)).keys[1 - h.firstCopy .keys]).st = _
    exact congrArg Copy.st (Vector.getElem_set_self _)

theorem set_both {α : Type} (v : Vector α 2) (c i : Fin 2) (x : α) : ((v.set c x).set (1 - c : Fin 2) x)[i] = x := by
  match c, i with
  | 0, 0 => simp
  | 0, 1 => simp
  | 1, 0 => simp
  | 1, 1 => simp

theorem keyDone_of_job (h : Hw) (fail : Option Nat) (ks : KeySlots) (hj : h.nvs.job = some (.key ks)) :
    h.keyDone fail = h.storeDone fail := by
  have hk : h.keyBusy = true := by rw [keyBusy, hj]
  rw [keyDone, if_pos hk]

/-- The sentinel when both copies of a key write are checked, before it is put in force. -/
def keyWritten (h : Hw) (ks : KeySlots) : Hw := { h with nvs := { h.jobUpTo (.key ks) 2 false with job := none } }

theorem keyDone_good (h : Hw) (ks : KeySlots) (hj : h.nvs.job = some (.key ks)) :
    h.keyDone none = ((h.keyWritten ks).jobInForce (.key ks)).raise 9 1 := by
  rw [h.keyDone_of_job none ks hj, storeDone, hj]
  rfl

theorem keyDone_failed (h : Hw) (ks : KeySlots) (k : Fin 2) (hj : h.nvs.job = some (.key ks)) :
    h.keyDone (some k) =
      (((({ h with nvs := { h.jobUpTo (.key ks) k true with job := none } }).raise 9 2).setBits R.KEYS_STAT 0x0200).raise 8 1) := by
  have hk : (some k.val).filter (fun x => decide (x < (h.jobSteps (.key ks)).length)) = some k.val :=
    (Option.filter_eq_some_iff).2 ⟨rfl, decide_eq_true k.isLt⟩
  rw [h.keyDone_of_job _ ks hj, storeDone, hj]
  dsimp only
  rw [hk]
  rfl

theorem jobInForce_key_keys (h : Hw) (ks : KeySlots) : (h.jobInForce (.key ks)).keys = { h.keys with slots := ks } :=
  (raise_keys _ _ _).trans rfl

theorem jobInForce_key_nvs (h : Hw) (ks : KeySlots) : (h.jobInForce (.key ks)).nvs = h.nvs := (raise_nvs _ _ _).trans rfl

theorem jobInForce_key_pwr (h : Hw) (ks : KeySlots) : (h.jobInForce (.key ks)).pwr = h.pwr := (raise_pwr _ _ _).trans rfl

theorem jobInForce_key_flag (h : Hw) (ks : KeySlots) (hv : h.vigil = true) :
    (h.jobInForce (.key ks)).b R.KEYS_IFLAG 1 = true :=
  raise_b_same _ 8 1 (by decide) (pageLive_of_vigil _ 8 .keys rfl rfl hv)

/-! ### Zeroizing (R551) -/

/-- The bits that zeroizing leaves before its flag. -/
def zeroized (h : Hw) : Hw :=
  { h with keys := { h.keys with zeroizing := false }, tap := { h.tap with pads := h.tap.ir = TapIr.extest } }.setBits
    R.KEYS_STAT 0x0800

theorem zeroizeDone_eq (h : Hw) (hz : h.keys.zeroizing = true) : h.zeroizeDone = h.zeroized.raise 8 0 := by
  rw [zeroizeDone, hz]
  rfl

theorem zeroized_stat (h : Hw) : (h.zeroized.raise 8 0).b R.KEYS_STAT 11 = true :=
  raise_b_mono _ _ _ _ _ (b_setBits_same _ _ _ _ (by decide) (by decide))

theorem jobSteps_confirm_gated (h : Hw) (hg : h.keysGated = true) : ∀ x ∈ h.jobSteps .confirm, x.1 ≠ .keys := by
  intro x hx
  obtain ⟨r, hr, hxr⟩ := List.mem_flatMap.1 hx
  have hne : r ≠ .keys := by
    intro e
    subst e
    simp [hg] at hr
  have hx1 : x.1 = r := by
    rcases List.mem_pair.1 hxr with rfl | rfl <;> rfl
  exact hx1 ▸ hne

end Hw

/-! ### The choice of copies (R543) -/

theorem pickCopy_first (v : Vector (Copy KeySlots) 2) (h0 : v[0].st = .good) (h1 : v[1].st ≠ .good ∨ v[1].seq ≤ v[0].seq) :
    pickCopy v = some v[0] := by
  have hcode : pickCode v = 1 := by
    rw [pickCode, if_pos h0, if_neg]
    rw [Bool.and_eq_true, decide_eq_true_eq, decide_eq_true_eq]
    rintro ⟨hg, hlt⟩
    exact Nat.not_le_of_lt hlt (h1.resolve_left (not_not_intro hg))
  simp only [pickCopy, hcode]

theorem pickCopy_second (v : Vector (Copy KeySlots) 2) (h1 : v[1].st = .good) (h0 : v[0].st ≠ .good ∨ v[0].seq < v[1].seq) :
    pickCopy v = some v[1] := by
  have hcode : pickCode v = 2 := by
    by_cases hg : v[0].st = .good
    · have hlt := h0.resolve_left (not_not_intro hg)
      simp [pickCode, hg, h1, hlt]
    · simp [pickCode, hg, h1]
  simp only [pickCopy, hcode]

theorem pick_erased (v : Vector (Copy KeySlots) 2) (h0 : v[0].st = .erased) (h1 : v[1].st = .erased) :
    pickCopy v = none ∧ pickFail v = 0 := by
  have hi : identical v = false := by simp [identical, h0]
  have hcode : pickCode v = 0 := by simp [pickCode, h0, h1, hi]
  exact ⟨by simp only [pickCopy, hcode], by simp [pickFail, hi, h0, h1]⟩

open Hw in
/-- Settles O58: KCMD by its cases, the end of a key write by the copies that it leaves in both places, zeroizing by ZEROED. -/
theorem keysAreWrittenOrZeroized : Obligations.KeysAreWrittenOrZeroized := by
  refine ⟨fun s p i hp hv hi => ⟨fun c ha x hx => ?_, fun ha hk => ?_⟩, fun s fail ks hj hv => ⟨fun hf => ?_, fun k hf => ?_⟩,
    fun s hz hv => ?_, fun h hg => h.jobSteps_confirm_gated ?_,
    fun v => ⟨pickCopy_first v, pickCopy_second v, pick_erased v⟩⟩
  · have hw := s.hw.writeRow_block p _ c .keys (by decide) ha
    have hc : c = 1 ∧ x = .keyWrite p ∨ c = 2 ∧ x = .keyErase p := by simpa using hx
    have hexec : exec x s = done s (s.hw.kcmdWrite p c) := by
      rcases hc with ⟨rfl, rfl⟩ | ⟨rfl, rfl⟩
      · exact congrArg (done s) hw
      · exact congrArg (done s) hw
    have hc' : c = 1 ∨ c = 2 := hc.imp And.left And.left
    exact ⟨fun hb => hexec.trans (done_congr (s.hw.kcmdWrite_bad p i c hi hc' hb)),
      fun hb => hexec.trans (done_congr (s.hw.kcmdWrite_job p i c hi hc' hb))⟩
  · exact done_congr ((s.hw.writeRow_block p _ 3 .keys (by decide) ha).trans (s.hw.kcmdWrite_zeroize p i hi hk))
  · subst hf
    have hkeys := jobInForce_key_keys (s.hw.keyWritten ks) ks
    have hnvs := jobInForce_key_nvs (s.hw.keyWritten ks) ks
    have hboth : ∀ i : Fin 2, (s.hw.keyWritten ks).nvs.keys[i] = s.hw.keyCopy ks := fun i =>
      (congrArg (fun n : Nvs => n.keys[i]) (s.hw.jobUpTo_key_all ks)).trans (set_both _ _ i _)
    refine ⟨_, done_congr (s.hw.keyDone_good ks hj), ?_, ?_, fun i => ?_, ?_, ?_, ?_, ?_, ?_⟩
    · rw [raise_keys, hkeys]
    · rw [raise_nvs, hnvs]
      rfl
    · rw [raise_nvs, hnvs, hboth i]
      exact ⟨rfl, rfl⟩
    · rw [raise_nvs, hnvs]
      exact congrArg Copy.seq ((hboth 0).trans (hboth 1).symm)
    · exact raise_b_mono _ _ _ _ _ (jobInForce_key_flag _ ks hv)
    · exact raise_b_same _ 9 1 (by decide) (pageLive_of_vigil _ 9 .nvs rfl rfl
        ((vigil_of_pwr (jobInForce_key_pwr _ ks)).trans hv))
    · rw [raise_nvs, hnvs]
      rfl
    · rw [raise_nvs, hnvs]
      rfl
  · subst hf
    have hv1 : (({ s.hw with nvs := { s.hw.jobUpTo (.key ks) k true with job := none } } : Hw).raise 9 2).vigil = true :=
      (vigil_of_pwr (raise_pwr _ _ _)).trans hv
    refine ⟨_, done_congr (s.hw.keyDone_failed ks k hj), ?_, ?_, ?_, ?_, ?_, ?_⟩
    · rw [raise_keys]
      exact congrArg KeyStore.slots (raise_keys _ _ _)
    · rw [raise_nvs]
      exact congrArg Nvs.job (raise_nvs _ _ _)
    · exact raise_b_mono _ _ _ _ _ (b_setBits_same _ _ _ _ (by decide) (by decide))
    · exact raise_b_same _ 8 1 (by decide) (pageLive_of_vigil _ 8 .keys rfl rfl hv1)
    · exact raise_b_mono _ _ _ _ _ (b_setBits_mono _ _ _ _ _
        (raise_b_same _ 9 2 (by decide) (pageLive_of_vigil _ 9 .nvs rfl rfl hv)))
    · rw [raise_nvs]
      exact (congrArg (fun n : Nvs => n.keys[s.hw.keyPlace k].st) (raise_nvs _ _ _)).trans (s.hw.jobUpTo_key_broken ks k)
  · refine ⟨_, done_congr (s.hw.zeroizeDone_eq hz), ?_, s.hw.zeroized_stat, ?_, ?_, fun k => if_pos s.hw.zeroized_stat⟩
    · rw [raise_keys]
      rfl
    · exact raise_b_same _ 8 0 (by decide) (pageLive_of_vigil _ 8 .keys rfl rfl hv)
    · rw [raise_tap]
      rfl
  · rw [keysGated, Bool.or_eq_true]
    exact hg

end Sys2Proof.Machine

/-! ## Proofs: the test port selects instructions (O60) -/

namespace Sys2Proof.Machine
namespace Hw

/-! ### Loss of power of every domain (R60, R563) -/

theorem domainGone_keys (h : Hw) (d : Dom) : (h.domainGone d).keys = h.keys := by cases d <;> rfl
theorem domainGone_tap (h : Hw) (d : Dom) : (h.domainGone d).tap = h.tap := by cases d <;> rfl
theorem replyDrop_keys (h : Hw) : h.replyDrop.keys = h.keys := ite_keeps Hw.keys rfl rfl
theorem replyDrop_tap (h : Hw) : h.replyDrop.tap = h.tap := ite_keeps Hw.tap rfl rfl

/-- A domain that drops without held outputs is off or gone, after the reply that CORE owed. -/
theorem domainDrop_keeps {α : Type} (φ : Hw → α) (hgone : ∀ g d, φ (domainGone g d) = φ g) (hreply : ∀ g, φ (replyDrop g) = φ g)
    (hbuf : ∀ (g : Hw) b, φ { g with buf := b } = φ g) (h : Hw) (d : Dom) : φ (h.domainDrop false d) = φ h := by
  unfold domainDrop
  refine ite_keeps φ rfl ?_
  extract_lets h1 h2
  have h2φ : φ h2 = φ h := ite_keeps φ (hreply h) rfl
  exact ite_keeps φ ((hgone _ d).trans ((hbuf h2 _).trans h2φ)) ((hgone _ d).trans h2φ)

/-- The sentinel after the four domains dropped, before what the power controller forgets. -/
def dropped (h : Hw) : Hw := [Dom.core, .net, .sense, .time].foldl (fun g d => g.domainDrop false d) h

theorem dropped_keys (h : Hw) : h.dropped.keys = h.keys := by
  unfold dropped
  exact foldl_keeps Hw.keys (fun g d => g.domainDrop false d)
    (fun g d => domainDrop_keeps Hw.keys domainGone_keys replyDrop_keys (fun _ _ => rfl) g d) _ h

theorem dropped_tap (h : Hw) : h.dropped.tap = h.tap := by
  unfold dropped
  exact foldl_keeps Hw.tap (fun g d => g.domainDrop false d)
    (fun g d => domainDrop_keeps Hw.tap domainGone_tap replyDrop_tap (fun _ _ => rfl) g d) _ h

/-- What the power controller forgets when the domains drop (R60). -/
def forgetful (g : Hw) : Hw := g.setPwr { g.pwr with opposite := none, buckGrid := false, forced := false }

theorem forgetful_keys (g : Hw) : g.forgetful.keys = g.keys := rfl
theorem forgetful_tap (g : Hw) : g.forgetful.tap = g.tap := rfl

theorem dropAll_eq (h : Hw) : h.dropAll false = h.dropped.forgetful := by rw [dropAll, dropped, forgetful]

theorem dropAll_keys (h : Hw) : (h.dropAll false).keys = h.keys := by rw [dropAll_eq, forgetful_keys, dropped_keys]
theorem dropAll_tap (h : Hw) : (h.dropAll false).tap = h.tap := by rw [dropAll_eq, forgetful_tap, dropped_tap]

theorem setDom_of_domState {h : Hw} {d : Dom} {st : DomState} (hs : h.domState d = st) : (h.setDom d st).pwr = h.pwr := by
  subst hs
  cases d <;> rfl

theorem setDom_pwr_congr {h g : Hw} (e : g.pwr = h.pwr) (d : Dom) (st : DomState) : (g.setDom d st).pwr = (h.setDom d st).pwr := by
  unfold setDom setPwr
  rw [e]

theorem domainGone_pwr_of {h g : Hw} (e : g.pwr = h.pwr) (d : Dom) : (g.domainGone d).pwr = (h.setDom d .off).pwr :=
  (g.domainGone_pwr d).trans (setDom_pwr_congr ((g.clearDomain_pwr d).trans e) d .off)

theorem domainDrop_pwr (h : Hw) (d : Dom) : (h.domainDrop false d).pwr = (h.setDom d .off).pwr := by
  unfold domainDrop
  split
  next hoff => exact (setDom_of_domState hoff).symm
  next =>
    extract_lets h1 h2
    have h2e : h2.pwr = h.pwr := ite_keeps Hw.pwr (replyDrop_pwr h) rfl
    split
    · refine domainGone_pwr_of ?_ d
      exact h2e
    · exact domainGone_pwr_of h2e d

theorem domState_setDom_off (h : Hw) (d e : Dom) (he : e ≠ .vigil) :
    (h.setDom d .off).domState e = if d = e then .off else h.domState e := by
  cases e with
  | vigil => exact absurd rfl he
  | time => cases d <;> rfl
  | sense => cases d <;> rfl
  | net => cases d <;> rfl
  | core => cases d <;> rfl

theorem domainDrop_domState (h : Hw) (d e : Dom) (he : e ≠ .vigil) :
    (h.domainDrop false d).domState e = if d = e then .off else h.domState e :=
  (domState_of_pwr (h.domainDrop_pwr d) e).trans (h.domState_setDom_off d e he)

theorem domState_setPwr (g : Hw) (p : Pwr) (d : Dom) (hd : d ≠ .vigil) (htime : p.time = g.pwr.time)
    (hsense : p.sense = g.pwr.sense) (hnet : p.net = g.pwr.net) (hcore : p.core = g.pwr.core) :
    (g.setPwr p).domState d = g.domState d := by
  cases d with
  | vigil => exact absurd rfl hd
  | time => exact htime
  | sense => exact hsense
  | net => exact hnet
  | core => exact hcore

theorem forgetful_domState (g : Hw) (d : Dom) (hd : d ≠ .vigil) : g.forgetful.domState d = g.domState d :=
  g.domState_setPwr _ d hd rfl rfl rfl rfl

theorem dropped_off (h : Hw) (d : Dom) (hd : d ≠ .vigil) : h.dropped.domState d = .off := by
  simp only [dropped, List.foldl_cons, List.foldl_nil, domainDrop_domState _ _ d hd]
  cases d with
  | vigil => exact absurd rfl hd
  | time | sense | net | core => simp

theorem dropAll_off (h : Hw) (d : Dom) (hd : d ≠ .vigil) : (h.dropAll false).domState d = .off := by
  rw [dropAll_eq, forgetful_domState _ d hd, dropped_off _ d hd]

/-- The power controller holds VIGIL in reset. -/
def heldReset (g : Hw) : Hw := g.setPwr { g.pwr with held := true }

theorem heldReset_keys (g : Hw) : g.heldReset.keys = g.keys := rfl
theorem heldReset_tap (g : Hw) : g.heldReset.tap = g.tap := rfl

theorem heldReset_domState (g : Hw) (d : Dom) (hd : d ≠ .vigil) : g.heldReset.domState d = g.domState d :=
  g.domState_setPwr _ d hd rfl rfl rfl rfl

theorem heldReset_vigil (g : Hw) : g.heldReset.vigil = false := by simp [vigil, heldReset, setPwr]

/-- What an instruction of the manufacturer does as it becomes current (R563). -/
def privStart (h : Hw) : Hw := (h.zeroizeStart.dropAll false).heldReset

theorem privStart_tap (h : Hw) (hk : h.keyBusy = false) : h.privStart.tap = h.tap := by
  rw [privStart, heldReset_tap, dropAll_tap, zeroizeStart_idle h hk]

theorem privStart_keys (h : Hw) (hk : h.keyBusy = false) :
    h.privStart.keys = { h.keys with slots := noKeys, zeroizing := true } := by
  rw [privStart, heldReset_keys, dropAll_keys, zeroizeStart_idle h hk]

theorem privStart_off (h : Hw) (d : Dom) (hd : d ≠ .vigil) : h.privStart.domState d = .off := by
  rw [privStart, heldReset_domState _ d hd, dropAll_off _ d hd]

/-! ### An instruction becomes current (R559, R562, R563) -/

/-- The test port runs: VIN is there, and VIGIL is up or held in reset. -/
def TapRuns (h : Hw) : Prop := h.pwr.running = true ∧ (h.pwr.vigilUp = true ∨ h.pwr.held = true)

/-- The instruction register and the pads when `ir` becomes current. -/
def tapAt (h : Hw) (ir : TapIr) : Hw := h.setTap { h.tap with ir := ir, pads := false }

/-- The sentinel as the instruction that was current ends (R563). -/
def tapEnd (h : Hw) (x : TapIr) : Hw := if h.tap.ir = .priv then (h.tapAt x).warmReset 3 else h.tapAt x

/-- What an instruction does as it becomes current (R562, R563). -/
def tapBegin (h : Hw) : TapIr → Hw
  | .extest => h.zeroizeStart
  | .priv => h.privStart
  | .bypass => h
  | .idcode => h
  | .sample => h

theorem tapSelect_change (h : Hw) (x : TapIr) (ht : h.TapRuns) (hl : h.tapLocked x = x) (hx : h.tap.ir ≠ x) :
    h.tapSelect x = (h.tapEnd x).tapBegin x := by
  obtain ⟨hrun, hup⟩ := ht
  have hon : (!h.pwr.running || !(h.pwr.vigilUp || h.pwr.held)) = false := by
    rcases hup with hup | hup <;> simp [hrun, hup]
  unfold tapSelect
  rw [hon, hl]
  simp only [Bool.false_eq_true, if_false, if_neg hx, tapEnd, tapAt]
  cases x with
  | priv => simp only [tapBegin, privStart, heldReset]
  | extest | bypass | idcode | sample => rfl

theorem tapSelect_same (h : Hw) (x : TapIr) (hx : h.tap.ir = h.tapLocked x) : h.tapSelect x = h := by
  unfold tapSelect
  simp only [if_pos hx]
  exact ite_self _

theorem tapLocked_plain (h : Hw) (x : TapIr) (h1 : x ≠ .extest) (h2 : x ≠ .priv) : h.tapLocked x = x := by
  simp [tapLocked, h1, h2]

theorem tapLocked_open (h : Hw) (x : TapIr) (hs : h.b R.KEYS_SCANLOCK 0 = false) : h.tapLocked x = x := by
  simp [tapLocked, hs]

theorem tapLocked_shut (h : Hw) (x : TapIr) (hs : h.b R.KEYS_SCANLOCK 0 = true) (hx : x = .extest ∨ x = .priv) :
    h.tapLocked x = .bypass := by
  rcases hx with rfl | rfl <;> simp [tapLocked, hs]

theorem tapEnd_of_ne (h : Hw) (x : TapIr) (hp : h.tap.ir ≠ .priv) : h.tapEnd x = h.tapAt x := if_neg hp

/-- IDCODE and BYPASS, SAMPLE/PRELOAD too, when no instruction of the manufacturer ends. -/
theorem tapSelect_plain (h : Hw) (x : TapIr) (ht : h.TapRuns) (h1 : x ≠ .extest) (h2 : x ≠ .priv) (hp : h.tap.ir ≠ .priv)
    (hx : h.tap.ir ≠ x) : h.tapSelect x = h.tapAt x := by
  rw [tapSelect_change h x ht (h.tapLocked_plain x h1 h2) hx, tapEnd_of_ne h x hp]
  cases x with
  | extest => exact absurd rfl h1
  | priv => exact absurd rfl h2
  | idcode | bypass | sample => rfl

theorem tapSelect_afterPriv (h : Hw) (ht : h.TapRuns) (hp : h.tap.ir = .priv) :
    h.tapSelect .idcode = (h.tapAt .idcode).warmReset 3 := by
  rw [tapSelect_change h .idcode ht (h.tapLocked_plain _ (by decide) (by decide)) (by rw [hp]; decide)]
  exact if_pos hp

theorem tapSelect_extest (h : Hw) (ht : h.TapRuns) (hs : h.b R.KEYS_SCANLOCK 0 = false) (hp : h.tap.ir ≠ .priv)
    (hx : h.tap.ir ≠ .extest) (hk : h.keyBusy = false) :
    h.tapSelect .extest =
      { h with
        tap := { h.tap with ir := .extest, pads := false }
        keys := { h.keys with slots := noKeys, zeroizing := true } } := by
  rw [tapSelect_change h .extest ht (h.tapLocked_open _ hs) hx, tapEnd_of_ne h _ hp]
  exact zeroizeStart_idle (h.tapAt .extest) hk

theorem tapSelect_priv (h : Hw) (ht : h.TapRuns) (hs : h.b R.KEYS_SCANLOCK 0 = false) (hp : h.tap.ir ≠ .priv) :
    h.tapSelect .priv = (h.tapAt .priv).privStart := by
  rw [tapSelect_change h .priv ht (h.tapLocked_open _ hs) hp, tapEnd_of_ne h _ hp]
  rfl

theorem stopLow_of_ir (h : Hw) (hi : h.tap.ir = .extest ∨ h.tap.ir = .priv) : h.stopLow = true := by
  rcases hi with hi | hi <;> simp [stopLow, hi]

/-- SAMPLE/PRELOAD loads the boundary values (R559). -/
theorem tapPreload_current (h : Hw) (v : BitVec 174) (g : Hw) (hg : h.tapSelect .sample = g) (hi : g.tap.ir = .sample)
    (ht : g.TapRuns) : h.tapPreload v = g.setTap { g.tap with boundary := v } := by
  obtain ⟨hrun, hup⟩ := ht
  subst hg
  unfold tapPreload
  rcases hup with hup | hup <;> simp [hi, hrun, hup]

end Hw

open Hw in
/-- Settles O60: each instruction by what `tapSelect` does on the change to it, the loss of power by `dropAll_off`. -/
theorem testPortSelectsInstructions : Obligations.TestPortSelectsInstructions := by
  intro s hrun hup
  have ht : s.hw.TapRuns := ⟨hrun, hup⟩
  refine ⟨fun x hx hp hne i hi => ?_, fun v hp => ?_, fun hs hb => ⟨?_, ?_⟩, fun hs hp hx hk => ⟨?_, ?_⟩, fun hp => ?_,
    fun v => ⟨fun hx => ?_, fun hx => ?_⟩, fun hx => s.hw.stopLow_of_ir (.inl hx), rfl, rfl, rfl, rfl⟩
  · have hsel : s.hw.tapSelect x = s.hw.tapAt x := by
      rcases hx with rfl | rfl
      · exact s.hw.tapSelect_plain _ ht (by decide) (by decide) hp hne
      · exact s.hw.tapSelect_plain _ ht (by decide) (by decide) hp hne
    have hi' : i = .idcode ∧ x = .idcode ∨ i = .tapReset ∧ x = .idcode ∨ i = .bypass ∧ x = .bypass := by simpa using hi
    rcases hi' with ⟨rfl, rfl⟩ | ⟨rfl, rfl⟩ | ⟨rfl, rfl⟩
    · exact done_congr hsel
    · exact done_congr hsel
    · exact done_congr hsel
  · by_cases hx : s.hw.tap.ir = .sample
    · refine ⟨_, done_congr (s.hw.tapPreload_current v _ (s.hw.tapSelect_same _ ?_) hx ht), hx, rfl, fun hn => absurd hx hn, rfl⟩
      rw [hx, s.hw.tapLocked_plain _ (by decide) (by decide)]
    · exact ⟨_, done_congr (s.hw.tapPreload_current v _ (s.hw.tapSelect_plain .sample ht (by decide) (by decide) hp hx) rfl ht),
        rfl, rfl, fun _ => rfl, rfl⟩
  · exact done_congr (s.hw.tapSelect_same _ (hb.trans (s.hw.tapLocked_shut _ hs (.inl rfl)).symm))
  · exact done_congr (s.hw.tapSelect_same _ (hb.trans (s.hw.tapLocked_shut _ hs (.inr rfl)).symm))
  · exact done_congr (s.hw.tapSelect_extest ht hs hp hx hk)
  · have htap := (s.hw.tapAt .priv).privStart_tap hk
    have hkeys := (s.hw.tapAt .priv).privStart_keys hk
    have hir := congrArg Tap.ir htap
    exact ⟨_, done_congr (s.hw.tapSelect_priv ht hs hp), hir, congrArg Tap.pads htap, congrArg KeyStore.zeroizing hkeys,
      congrArg KeyStore.slots hkeys, heldReset_vigil _, stopLow_of_ir _ (.inr hir), privStart_off _⟩
  · exact done_congr (s.hw.tapSelect_afterPriv ht hp)
  · exact done_congr (if_pos hx)
  · exact done_congr (if_neg hx)

end Sys2Proof.Machine

/-! ## Proofs: proof runs run their slices in order (O59) -/

namespace Sys2Proof.Machine
namespace Hw

/-! ### The results (R553, R564) -/

/-- Nibble `j` of a word after nibble `i` is set: each pair of the four nibbles is linear arithmetic over the word. -/
theorem fld_setFld_nibble (w : Word) (i j : Fin 4) (v : Nat) (hv : v < 16) :
    fld (setFld w (4 * i + 3) (4 * i) v) (4 * j + 3) (4 * j) = if j = i then v else fld w (4 * j + 3) (4 * j) := by
  have hw := w.isLt
  fin_cases i <;> fin_cases j <;> simp [fld, setFld] <;> omega

/-- The register and the nibble of a slice. -/
def resultReg (k : Nat) : Nat := if (k - 1) % 8 < 4 then R.PROOF_RESA else R.PROOF_RESB
def resultNibble (k : Nat) : Fin 4 := ⟨(k - 1) % 8 % 4, Nat.mod_lt _ (by decide)⟩

theorem setResult_eq (h : Hw) (k v : Nat) :
    h.setResult k v = h.setReg (resultReg k) (setFld (h.reg (resultReg k)) (4 * resultNibble k + 3) (4 * resultNibble k) v) := rfl

theorem result_eq (h : Hw) (k : Nat) :
    h.result k = fld (h.reg (resultReg k)) (4 * resultNibble k + 3) (4 * resultNibble k) := rfl

theorem setResult_same (h : Hw) (k v : Nat) (hv : v < 16) : (h.setResult k v).result k = v := by
  rw [result_eq, setResult_eq, reg_setReg_same, fld_setFld_nibble _ _ _ v hv, if_pos rfl]

theorem resultReg_eq_iff (j k : Nat) : resultReg j = resultReg k ↔ ((j - 1) % 8 < 4 ↔ (k - 1) % 8 < 4) := by
  by_cases hj : (j - 1) % 8 < 4 <;> by_cases hk : (k - 1) % 8 < 4 <;> simp [resultReg, hj, hk]

theorem resultNibble_ne {j k : Nat} (hj : 1 ≤ j ∧ j ≤ 8) (hk : 1 ≤ k ∧ k ≤ 8) (hne : j ≠ k)
    (hreg : resultReg j = resultReg k) : resultNibble j ≠ resultNibble k := by
  intro e
  have hmod : (j - 1) % 8 % 4 = (k - 1) % 8 % 4 := congrArg Fin.val e
  have hhalf := (resultReg_eq_iff j k).1 hreg
  omega

theorem setResult_other (h : Hw) (k j v : Nat) (hv : v < 16) (hk : 1 ≤ k ∧ k ≤ 8) (hj : 1 ≤ j ∧ j ≤ 8) (hne : j ≠ k) :
    (h.setResult k v).result j = h.result j := by
  rw [result_eq, result_eq, setResult_eq, reg_setReg]
  split
  next hreg => rw [← hreg, fld_setFld_nibble _ _ _ v hv, if_neg (resultNibble_ne hj hk hne hreg)]
  next => rfl

/-! ### The end of a run (R556, R557) -/

theorem raiseIf_b_mono (h : Hw) (c : Bool) (pg k a i : Nat) (hb : h.b a i = true) : (h.raiseIf c pg k).b a i = true := by
  cases c with
  | false => exact hb
  | true => exact raise_b_mono _ _ _ _ _ hb

/-- The flags that the end of a run sets. -/
def runFlags (h : Hw) : Hw :=
  (((h.raise 7 0).raiseIf (h.runHas [2]) 7 1).raiseIf (h.runHas [3, 4, 6, 7]) 7 2).raiseIf (h.runHas [5]) 7 3

/-- The run over, before draft ends. -/
def runOver (h : Hw) : Hw :=
  { h.runFlags with proof := { h.runFlags.proof with active := false, quick := false, cur := 0, todo := 0 } }

theorem proofEnd_eq (h : Hw) : h.proofEnd = if h.proof.quick = true then h.runOver.draftEnd else h.runOver := rfl

theorem runOver_pwr (h : Hw) : h.runOver.pwr = h.pwr :=
  (raiseIf_pwr _ _ _ _).trans ((raiseIf_pwr _ _ _ _).trans ((raiseIf_pwr _ _ _ _).trans (raise_pwr _ _ _)))

theorem runOver_done (h : Hw) (hv : h.vigil = true) : h.runOver.b R.PROOF_IFLAG 0 = true :=
  raiseIf_b_mono _ _ _ _ _ _ (raiseIf_b_mono _ _ _ _ _ _ (raiseIf_b_mono _ _ _ _ _ _
    (raise_b_same _ 7 0 (by decide) (pageLive_of_vigil _ 7 .proof rfl rfl hv))))

theorem draftEnd_keeps {α : Type} (φ : Hw → α)
    (hdraft : ∀ g : Hw, φ ({ g with pwr := { g.pwr with draft := false } }.raise 1 9) = φ g)
    (hentry : ∀ g, φ (diaryAdd g 11 0 0) = φ g) (hdec : ∀ (g : Hw) d, φ { g with dec := d } = φ g)
    (hempty : ∀ g, φ (emptyAll g) = φ g) (hrec : ∀ g, φ (recInit g) = φ g)
    (hbuf : ∀ (g : Hw) b, φ { g with buf := b, autoDue := true } = φ g) (h : Hw) : φ h.draftEnd = φ h := by
  unfold draftEnd
  refine ite_keeps φ rfl ?_
  extract_lets _ h1 h2 _ g _
  have e1 : φ h1 = φ h := hdraft h
  have e2 : φ h2 = φ h := (ite_keeps φ (hentry h1) rfl).trans e1
  have eg : φ g = φ h := (hrec _).trans ((hempty _).trans ((hdec _ _).trans e2))
  clear_value g
  exact ite_keeps φ ((hbuf g _).trans eg) e2

theorem warmStart_proof (h : Hw) (gs : BitVec 4) (empty : Bool) : (h.warmStart gs empty).proof = h.proof := by
  unfold warmStart
  rfl

theorem emptyAll_proof (h : Hw) : h.emptyAll.proof = h.proof := by
  rw [← warmStart_proof h 0xF#4 true, emptyAll]
  generalize h.warmStart 0xF#4 true = g
  rfl

theorem warmStart_regs (h : Hw) (gs : BitVec 4) (empty : Bool) : (h.warmStart gs empty).regs = h.regs := by
  unfold warmStart
  rfl

theorem emptyAll_proofFlags (h : Hw) : h.emptyAll.reg R.PROOF_IFLAG = h.reg R.PROOF_IFLAG := by
  rw [reg, reg, ← warmStart_regs h 0xF#4 true, emptyAll]
  generalize h.warmStart 0xF#4 true = g
  rfl

theorem draftEnd_proof (h : Hw) : h.draftEnd.proof = h.proof :=
  draftEnd_keeps Hw.proof (fun _ => raise_proof _ _ _) (fun _ => diaryAdd_proof _ _ _ _) (fun _ _ => rfl) emptyAll_proof
    (fun _ => rfl) (fun _ _ => rfl) h

theorem draftEnd_proofFlags (h : Hw) : h.draftEnd.reg R.PROOF_IFLAG = h.reg R.PROOF_IFLAG :=
  draftEnd_keeps (·.reg R.PROOF_IFLAG) (fun _ => reg_raise_ne _ _ _ _ (by decide))
    (fun _ => reg_diaryAdd_ne _ _ _ _ _ (by decide) (by decide)) (fun _ _ => rfl) emptyAll_proofFlags (fun _ => rfl)
    (fun _ _ => rfl) h

theorem draftEnd_draft (h : Hw) : h.draftEnd.pwr.draft = false := by
  have e := congrArg (fun v : StillView => v.pwr.draft) h.draftEnd_still
  exact e

theorem proofEnd_active (h : Hw) : h.proofEnd.proof.active = false := by
  rw [proofEnd_eq]
  split
  · rw [draftEnd_proof]
    rfl
  · rfl

theorem proofEnd_done (h : Hw) (hv : h.vigil = true) : h.proofEnd.b R.PROOF_IFLAG 0 = true := by
  rw [proofEnd_eq]
  split
  · rw [b, draftEnd_proofFlags]
    exact h.runOver_done hv
  · exact h.runOver_done hv

theorem proofEnd_quick_draft (h : Hw) (hq : h.proof.quick = true) : h.proofEnd.pwr.draft = false := by
  rw [proofEnd_eq, if_pos hq, draftEnd_draft]

theorem proofEnd_full_pwr (h : Hw) (hq : h.proof.quick = false) : h.proofEnd.pwr = h.pwr := by
  rw [proofEnd_eq, if_neg (by simp [hq]), runOver_pwr]

/-! ### The next slice (R553 to R555) -/

theorem proofNext_none (h : Hw) (f : Nat) (ht : h.proof.todo = 0) : proofNext (f + 1) h = h.proofEnd := by
  have hfind : (List.range 9).find? h.proof.todo.testBit = none := by simp [ht]
  simp only [proofNext, hfind]

/-- The lowest slice of the run that is powered and whose conditions hold starts. -/
theorem proofNext_starts (h : Hw) (f k : Nat) (hk : k < 8) (hlow : ∀ j, j < k → h.proof.todo.testBit j = false)
    (hbit : h.proof.todo.testBit k = true) (hu : h.sliceUp k = true) (hc : h.sliceCond k = true) :
    proofNext (f + 1) h = { h with proof := { h.proof with todo := h.proof.todo - 2 ^ k, cur := k } } := by
  have hfind : (List.range 9).find? h.proof.todo.testBit = some k :=
    List.find?_range_eq_some.2 ⟨hbit, List.mem_range.2 (by omega), fun j hj => by simp [hlow j hj]⟩
  have hu' : sliceUp { h with proof := { h.proof with todo := h.proof.todo - 2 ^ k, cur := 0 } } k = true := hu
  have hc' : sliceCond { h with proof := { h.proof with todo := h.proof.todo - 2 ^ k, cur := 0 } } k = true := hc
  simp only [proofNext, hfind, hu', hc', Bool.not_true, Bool.false_eq_true, if_false, if_neg (show ¬k = 8 by omega)]

/-! ### The end of a slice (R554, R555) -/

theorem sliceStop_result (h : Hw) (v : Nat) (hv : h.proof.cur = 8 → v = 1 ∨ v = 2 ∨ v = 6) :
    h.sliceStop v = proofNext 9 (h.setResult h.proof.cur v) := by
  have hno : ¬((h.proof.cur = 8 && v ≠ 1 && v ≠ 2 && v ≠ 6) = true) := by
    simp only [Bool.and_eq_true, decide_eq_true_eq]
    rintro ⟨⟨⟨h8, h1⟩, h2⟩, h6⟩
    rcases hv h8 with e | e | e
    · exact h1 e
    · exact h2 e
    · exact h6 e
  simp only [sliceStop, if_neg hno]

/-- The first failure of a run stands in DETAIL (R553). -/
def firstFailure (h : Hw) (code : Nat) : Hw :=
  { h.setReg R.PROOF_DETAIL (wd (h.proof.cur * 4096 + code % 4096)) with proof := { h.proof with failed := true } }

theorem sliceFail_first (h : Hw) (code : Nat) (hf : h.proof.failed = false) :
    h.sliceFail code = proofNext 9 ((h.firstFailure code).setResult h.proof.cur 2) := by
  rw [sliceFail, hf]
  exact sliceStop_result (h.firstFailure code) 2 fun _ => .inr (.inl rfl)

theorem sliceFail_again (h : Hw) (code : Nat) (hf : h.proof.failed = true) :
    h.sliceFail code = proofNext 9 (h.setResult h.proof.cur 2) := by
  rw [sliceFail, hf]
  exact sliceStop_result h 2 fun _ => .inr (.inl rfl)

theorem sliceEnd_idle (h : Hw) (r : SliceResult) (ha : h.proof.active = false) : h.sliceEnd r = h := by simp [sliceEnd, ha]

/-- A slice other than the self-test ends with its own result. -/
theorem sliceEnd_own (h : Hw) (r : SliceResult) (ha : h.proof.active = true) (h0 : h.proof.cur ≠ 0) (h8 : h.proof.cur ≠ 8) :
    h.sliceEnd r = SliceResult.rec (h.sliceStop 1) (fun c => h.sliceFail c.toNat) r := by
  cases r <;> simp [sliceEnd, ha, h0, h8]

/-- Slice 8 ends as its self-test run did. -/
theorem sliceEnd_selfTest (h : Hw) (r : SliceResult) (ha : h.proof.active = true) (h8 : h.proof.cur = 8)
    (hs : h.stBusy = false) :
    h.sliceEnd r = if h.b R.AFE_STSTAT 15 = true then h.sliceStop 1 else if h.b R.AFE_STSTAT 13 = true then h.sliceStop 6
      else h.sliceFail (h.f R.AFE_STSTAT 8 0) := by
  simp [sliceEnd, ha, h8, hs]

theorem sliceOverrun_active (h : Hw) (ha : h.proof.active = true) (h0 : h.proof.cur ≠ 0) : h.sliceOverrun = h.sliceStop 5 := by
  simp [sliceOverrun, ha, h0]

theorem sliceOverrun_idle (h : Hw) (ha : h.proof.active = false) : h.sliceOverrun = h := by simp [sliceOverrun, ha]

theorem quickEnd_idle (h : Hw) (ha : h.proof.active = false) : h.quickEnd = h := by simp [quickEnd, ha]

/-! ### The quick run reaches 28 ms (R556) -/

/-- The slices not started are given up. -/
def noMore (h : Hw) : Hw := { h with proof := { h.proof with todo := 0 } }

/-- The slice in progress records OVERRUN, a self-test run is aborted. -/
def overrunCut (h : Hw) : Hw := (if h.proof.cur = 8 then h.stAbort else h).setResult h.proof.cur 5

theorem stAbort_proof (h : Hw) : h.stAbort.proof = h.proof := ite_keeps Hw.proof rfl rfl

theorem overrunCut_proof (h : Hw) : h.overrunCut.proof = h.proof :=
  (setResult_proof _ _ _).trans (ite_keeps Hw.proof h.stAbort_proof rfl)

theorem overrunCut_pwr (h : Hw) : h.overrunCut.pwr = h.pwr :=
  (setReg_pwr _ _ _).trans (ite_keeps Hw.pwr h.stAbort_pwr rfl)

theorem sliceStop_overrun (h : Hw) : h.sliceStop 5 = proofNext 9 h.overrunCut := by
  simp [sliceStop, overrunCut]

/-- The quick run ends, whether a slice is in progress or not. -/
theorem quickEnd_ends (h : Hw) (ha : h.proof.active = true) (hq : h.proof.quick = true) :
    ∃ g : Hw, h.quickEnd = g.proofEnd ∧ g.pwr = h.pwr ∧ g.proof.quick = true := by
  have e : h.quickEnd = if h.proof.cur = 0 then h.noMore.proofEnd else h.noMore.sliceStop 5 := if_neg (by simp [ha, hq])
  rw [e]
  split
  · exact ⟨h.noMore, rfl, rfl, hq⟩
  · have hproof := h.noMore.overrunCut_proof
    refine ⟨h.noMore.overrunCut, ?_, h.noMore.overrunCut_pwr, (congrArg ProofRun.quick hproof).trans hq⟩
    rw [sliceStop_overrun]
    exact proofNext_none _ 8 (congrArg ProofRun.todo hproof)

/-! ### GO and the measurements (R554, R557) -/

/-- CTRL of the PROOF page has action bits alone. -/
theorem ctrlWrite_proof (h : Hw) (v : Word) (hv : v.getLsbD 15 = false) : h.ctrlWrite 7 .proof v = h.ctrlActions 7 .proof v := by
  have hm : rwlMask (7 * 256 + 2) = 0 := by decide
  unfold ctrlWrite
  rw [hv]
  simp [hm, hasEnable]

theorem ctrlRow_proofGo (h : Hw) (p : Party) (v : Word) (hp : h.partyUp p = true) (hv : h.vigil = true) :
    h.ctrlRow p 7 v 2 = h.proofGo := by
  have hup : h.pageUp 7 = true := by simp [pageUp, kindOf, Kind.dom, up, domState, hv]
  have hgo : ((v &&& 0x7FFF) ||| 2).getLsbD 1 = true := by simp
  rw [ctrlRow, writeRow_ctrl h p 7 _ .proof rfl hp hup (etchBarred_none p _ (by decide)), ctrlWrite_proof h _ (by simp)]
  exact if_pos hgo

theorem proofGo_rejected (h : Hw) (hr : h.pwr.draft = true ∨ h.proof.active = true ∨ h.reg R.PROOF_RUN = 0) :
    h.proofGo = h.raise 7 4 :=
  if_pos (by simpa [or_assoc] using hr)

theorem proofGo_starts (h : Hw) (hd : h.pwr.draft = false) (ha : h.proof.active = false) (hr : h.reg R.PROOF_RUN ≠ 0) :
    h.proofGo = h.proofStart (h.reg R.PROOF_RUN).toNat false :=
  if_neg (by rw [hd, ha]; simpa using hr)

/-- VDDC as measured, and the T error while TIME is powered (R554). -/
theorem proofMeasure_spec (h : Hw) (mv : Word) (ppm : Int) :
    (h.proofMeasure mv ppm).reg R.PROOF_VDDC = mv ∧
    (h.proofMeasure mv ppm).proof.vddcOk = decide (1050 ≤ mv.toNat ∧ mv.toNat ≤ 1200) ∧
    (h.up .time = true → (h.proofMeasure mv ppm).reg R.PROOF_TPPM = wdI (clampI (-32768) 32767 ppm) ∧
      (h.proofMeasure mv ppm).proof.tOk = decide (ppm.natAbs ≤ 500)) ∧
    (h.up .time = false → (h.proofMeasure mv ppm).reg R.PROOF_TPPM = h.reg R.PROOF_TPPM ∧
      (h.proofMeasure mv ppm).proof.tOk = h.proof.tOk) := by
  have hreg : ∀ a, (h.proofMeasure mv ppm).reg a =
      (if h.up .time = true then (h.setReg R.PROOF_VDDC mv).setReg R.PROOF_TPPM (wdI (clampI (-32768) 32767 ppm))
        else h.setReg R.PROOF_VDDC mv).reg a := fun a => rfl
  refine ⟨?_, (Bool.decide_and _ _).symm, fun hu => ⟨?_, if_pos hu⟩, fun hu => ⟨?_, if_neg (by simp [hu])⟩⟩
  · rw [hreg]
    split
    · rw [reg_setReg_ne _ _ _ _ (by decide), reg_setReg_same]
    · rw [reg_setReg_same]
  · rw [hreg, if_pos hu, reg_setReg_same]
  · rw [hreg, if_neg (by simp [hu]), reg_setReg_ne _ _ _ _ (by decide)]

end Hw

open Hw in
/-- Settles O59: a slice ends through `sliceStop` and `sliceFail`, the next one starts by `proofNext_starts`, and a run ends with
`proofEnd`. -/
theorem proofRunsSlicesInOrder : Obligations.ProofRunsSlicesInOrder := by
  refine ⟨fun s hv => ⟨fun p v hp => ⟨fun hr => ?_, fun hd ha hr => ?_⟩, fun ha k hcur h1 h7 => ?_, fun ha h8 hs r => ?_,
    fun ha => ⟨fun r => ?_, ?_, ?_⟩, fun ha hq => ?_, fun mv ppm => ⟨_, done_congr (if_pos hv), s.hw.proofMeasure_spec mv ppm⟩⟩,
    fun h hv => ⟨fun ht f => proofNext_none h f ht, h.proofEnd_active, h.proofEnd_done hv, h.proofEnd_quick_draft,
      h.proofEnd_full_pwr, fun i hlow hbit h7 hu hc f => proofNext_starts h f _ (by omega) hlow hbit hu hc,
      fun k v hk hk8 hvv => ⟨h.setResult_same k v hvv, fun j hj hj8 hne => h.setResult_other k j v hvv ⟨hk, hk8⟩ ⟨hj, hj8⟩ hne⟩⟩⟩
  · exact done_congr ((s.hw.ctrlRow_proofGo p v hp hv).trans (s.hw.proofGo_rejected hr))
  · exact done_congr ((s.hw.ctrlRow_proofGo p v hp hv).trans (s.hw.proofGo_starts hd ha hr))
  · subst hcur
    have h0 : s.hw.proof.cur ≠ 0 := by omega
    have h8 : s.hw.proof.cur ≠ 8 := by omega
    refine ⟨done_congr ((s.hw.sliceEnd_own _ ha h0 h8).trans (s.hw.sliceStop_result 1 fun _ => .inl rfl)), fun c hf => ?_,
      fun c hf => done_congr ((s.hw.sliceEnd_own _ ha h0 h8).trans (s.hw.sliceFail_again _ hf)),
      done_congr ((s.hw.sliceOverrun_active ha h0).trans (s.hw.sliceStop_result 5 fun e => absurd e h8))⟩
    refine done_congr ((s.hw.sliceEnd_own _ ha h0 h8).trans ((s.hw.sliceFail_first _ hf).trans ?_))
    rw [firstFailure, Nat.mod_eq_of_lt c.isLt]
  · have hend := s.hw.sliceEnd_selfTest r ha h8 hs
    have hfail : s.hw.f R.AFE_STSTAT 8 0 < 4096 := Nat.lt_trans (Nat.mod_lt _ (by decide)) (by decide : 2 ^ (8 + 1 - 0) < 4096)
    refine ⟨fun h15 => done_congr ?_, fun h15 h13 => done_congr ?_, fun h15 h13 hf => done_congr ?_⟩
    · rw [hend, if_pos h15, s.hw.sliceStop_result 1 fun _ => .inl rfl, h8]
    · rw [hend, if_neg (by simp [h15]), if_pos h13, s.hw.sliceStop_result 6 fun _ => .inr (.inr rfl), h8]
    · rw [hend, if_neg (by simp [h15]), if_neg (by simp [h13]), s.hw.sliceFail_first _ hf, firstFailure, h8,
        Nat.mod_eq_of_lt hfail]
  · exact done_congr (s.hw.sliceEnd_idle r ha)
  · exact done_congr (s.hw.sliceOverrun_idle ha)
  · exact done_congr (s.hw.quickEnd_idle ha)
  · obtain ⟨g, hend, hpwr, hquick⟩ := s.hw.quickEnd_ends ha hq
    exact ⟨_, done_congr hend, g.proofEnd_active, g.proofEnd_quick_draft hquick, g.proofEnd_done ((vigil_of_pwr hpwr).trans hv)⟩

end Sys2Proof.Machine
